-- ==== Sys2Proof/Word.lean ====
section
/-!
DEFINITION. The plainest words of the model: bytes, counters of a stated width that wrap or saturate, and the
three-valued status codes' carrier. Everything that reads or writes a field of a word stands under Machine/, where a
later repair may mend it.
-/

namespace Sys2Proof

/-- A byte, the smallest addressable unit of every memory of the part. -/
abbrev Byte := BitVec 8

/-- A 16-bit status or completion code (R10). -/
abbrev Code := Nat

/-- Two to the power `w`. -/
def pow2 (w : Nat) : Nat := 2 ^ w

/-- A counter of `w` bits that wraps. -/
def wrapTo (w n : Nat) : Nat := n % 2 ^ w

/-- A counter of `w` bits that saturates at its largest value. -/
def satTo (w n : Nat) : Nat := min n (2 ^ w - 1)

end Sys2Proof
end

