-- ==== Sys2Proof/Machine/Types.lean ====
section
/-!
DEFINITION. The plain kinds of thing the spec names, which commands carry as operands and the state holds: requesters,
islands, regions, rings, functions, and what the world outside answers at a Trailhead step.
-/

namespace Sys2Proof.Machine

/-- The requesters of Table 2-4. -/
inductive Requester where
  | lookoutA | lookoutB | fn0 | fn1 | fn2
  | node (n : Fin 8)
deriving DecidableEq, Repr

/-- The two safety islands. -/
inductive Island where
  | A | B
deriving DecidableEq, Repr

/-- The two I/O dies. -/
inductive IoDie where
  | A | B
deriving DecidableEq, Repr

/-- The regions that can be restarted (R23, R100): compute A to D, the world region, the port regions. -/
inductive Region where
  | A | B | C | D | world | portA | portB
deriving DecidableEq, Repr

/-- The STREAM entries, each a DMA ring. -/
inductive RingId where
  | programUpload | capture | replay | fusionOut | trajOut | latticeUpload | jobIn | jobOut | ckpt
deriving DecidableEq, Repr

/-- The functions that follow Table 2-13. -/
inductive FnId where
  | run | fieldNet | hamper | scrub
  | slot (n : Fin 64)
  | fusion | planning | job
  | link (p : Fin 4)
  | guest
  | ring (r : RingId)
deriving DecidableEq, Repr

/-- Function states (Table 2-13), in the order of RING_STATE's values. -/
inductive FnState where
  | off | starting | on | draining | fault
deriving DecidableEq, Repr

/-- The four personalities, in the order of PERSONALITY in Table 2-15. -/
inductive Personality where
  | drive | overnight | service | bivouac
deriving DecidableEq, Repr

/-- The values of TRANSITION (0x2002:01). -/
inductive Transition where
  | none | enterOvernight | yielding | enterService | leaveService | warmRestart | regionRestart
deriving DecidableEq, Repr

/-- A compute region, A to D. -/
abbrev RegionNo := Fin 4
/-- A core, numbered 16 r + n (R3). -/
abbrev CoreNo := Fin 64
/-- A semaphore of one core. -/
abbrev SemNo := Fin 256
/-- A barrier of one core. -/
abbrev BarNo := Fin 8
/-- A bundle address (R104). -/
abbrev BundleAddr := Fin 16384
/-- A 32-byte granule of a core's 4 MiB local memory. -/
abbrev Granule := Fin 131072
/-- A scalar register s0 to s31. -/
abbrev SReg := Fin 32
/-- A predicate p0 to p15. -/
abbrev PredNo := Fin 16
/-- A chip-link port. -/
abbrev PortNo := Fin 4

/-- A ring descriptor (Table 2-11). -/
structure Descriptor where
  addr : BitVec 64
  len : BitVec 32
  tag : BitVec 32
  flags : BitVec 16
  /-- Bytes 18 to 31, interpreted by the owning function. -/
  owner : List Byte
deriving DecidableEq, Repr

end Sys2Proof.Machine
end

