-- ==== Sys2Proof/Machine/Inputs.lean ====
section
/-!
DEFINITION. What the world outside brings to the larger commands: causes of a chip warm restart, the readings of one
management iteration, and the like.
-/

namespace Sys2Proof.Machine

/-- Why a chip warm restart begins (Table 1-4). -/
inductive ChipCause where
  /-- A demand that stands in the state: an escalated region fault, a Lookout's demand, a failed region restart. -/
  | demand
  /-- An uncorrectable error in the floor network. -/
  | floorNetwork
  /-- Failure of the DRAM channel `channel` of stack `stack`. -/
  | dramController (stack : Fin 8) (channel : Fin 24)
  /-- Failure of a floor-cache slice that held writes to stack `stack` (R234). -/
  | cacheSlice (stack : Fin 8)
deriving DecidableEq, Repr

/-- A fault that an access to one 64-byte line meets (R228, R240, R241). -/
inductive MemFault where
  | fcCorrected
  | fcUncorrectable
  | dramCorrected (symbol : Fin 64)
  | dramUncorrectable
  | caRetried
  /-- `close`: less than 1 ms has passed since the failures of the last management period (R241). -/
  | caFailed (close : Bool)
deriving DecidableEq, Repr

/-- What the memory system itself brings to an access: faults by line counted from the access's first, the latency in
CLK_FABRIC cycles, how many of them it waited at arbitration points (R252), whether it activated its DRAM row, and the
port's buffer level in sixteenths. -/
structure MemEnv where
  faults : List (Nat × MemFault) := []
  activates : Bool := false
  latency : Nat := 0
  waited : Nat := 0
  level : Option (Fin 17) := none
deriving DecidableEq, Repr

/-- An atomic operation's width, 8 bytes or 4, and what its access meets. -/
structure AtomicAccess where
  wide : Bool
  env : MemEnv := {}
deriving DecidableEq, Repr

/-- A channel of a core's DE, and what the accesses of the command meet. -/
structure ChanAccess where
  chan : Fin 16
  env : MemEnv := {}
deriving DecidableEq, Repr

/-- The channel that a DE issues a transaction of inside its core, or none for a grant of its port, and the ECC events that
the read of local payload meets (R134): granule, and whether it is uncorrectable. -/
structure DeGrant where
  chan : Option (Fin 16)
  ecc : List (Granule × Bool) := []
deriving DecidableEq, Repr

/-- The granule that a SEND reads, and the ECC event that the read meets, uncorrectable or not (R134). -/
structure SentGranule where
  granule : Granule
  ecc : Option Bool := none
deriving DecidableEq, Repr

/-- The bytes of an upload, and what the writes of an image that they complete meet. -/
structure UploadData where
  bytes : List Byte
  env : MemEnv := {}
deriving DecidableEq, Repr

/-- A region that has an error of its own, if that is what restarts it, and its cores that fail the injection test. -/
structure RegionCause where
  own : Option Region
  failing : List CoreNo := []
deriving DecidableEq, Repr

/-- The cause of a chip warm restart, and the lines whose accepted writes a failed controller or slice held (R234). -/
structure WarmCause where
  cause : ChipCause
  lost : List (BitVec 32) := []
deriving DecidableEq, Repr

/-- The atomic operations with one operand value (R227). -/
inductive AtomicOp where
  | add | and | or | min | max | swap
deriving DecidableEq, Repr

/-- An element that the replay comparator checks (R360). -/
inductive ReplayElement where
  /-- Element i * 64 + j of an accumulator set. -/
  | acc (set : Fin 2) (i : Fin 8192)
  /-- The running maximum of a row. -/
  | m (r : Fin 128)
  /-- The running sum of a row. -/
  | l (r : Fin 128)
deriving DecidableEq, Repr

/-- What the receiver's ECC says of a CSI-2 packet header (R277). -/
inductive HeaderEcc where
  | ok | corrected | bad
deriving DecidableEq, Repr

/-- What a safety application demands (R354). -/
inductive AppDemand where
  | regionRestart (r : Region)
  | chipRestart
  | faultPin (low : Bool)
  /-- A stage shed for the next frame. -/
  | shed (stage : Fin 16) (env retry : MemEnv)
  /-- No demand: it writes its word APP_STATUS (Table 12-12). -/
  | status (v : BitVec 32)
deriving DecidableEq, Repr

/-- A chip-link packet as it arrives (Table 14-4): its header's fields at their full widths, its payload, and whether its
CRC holds. TYPE is the command's own, unless `undefinedType`. -/
structure LinkArrival where
  undefinedType : Bool := false
  flags : BitVec 8 := 0
  poison : BitVec 8 := 0
  hopsEpoch : BitVec 8 := 0
  srcDev : BitVec 8 := 0
  dstDev : BitVec 8 := 0
  len : BitVec 16 := 0
  addr : BitVec 64 := 0
  channel : BitVec 8 := 0
  srcCore : BitVec 8 := 0
  srcChan : BitVec 8 := 0
  byte19 : BitVec 8 := 0
  tag : BitVec 16 := 0
  status : BitVec 16 := 0
  seq : BitVec 16 := 0
  bytes26 : BitVec 16 := 0
  payload : List Byte := []
  crcOk : Bool := true
deriving DecidableEq, Repr

/-- A guest packet as it arrives (Table 14-9). `reserved` says that a reserved byte of the header flit is not 0. -/
structure GuestArrival where
  undefinedType : Bool := false
  flags : BitVec 8 := 0
  poison : BitVec 8 := 0
  epoch : BitVec 8 := 0
  tag : BitVec 16 := 0
  len : BitVec 16 := 0
  addr : BitVec 64 := 0
  channel : BitVec 8 := 0
  status : BitVec 16 := 0
  index : BitVec 16 := 0
  subindex : BitVec 8 := 0
  value : BitVec 32 := 0
  seq : BitVec 16 := 0
  reserved : Bool := false
  data : List Byte := []
  crcOk : Bool := true
deriving DecidableEq, Repr

/-- How an attempt to train the guest site ends (R441). -/
structure GuestTraining where
  /-- Modules that trained; 0 where no die answered. -/
  modules : Fin 5
  /-- The rate settled: 1 for 16 GT/s, 2 for 32 GT/s, 0 for any other. -/
  rate : Fin 3
  /-- The streaming protocol is in raw format. -/
  raw : Bool
  /-- GUEST_ID, when its message came within 10 ms. -/
  guestId : Option (BitVec 32)
  hdrCredit : BitVec 16
  dataCredit : BitVec 16
deriving DecidableEq, Repr

/-- How a PMBus read of a rail's current went (R458): at once, at the retry, or not at all. -/
inductive RailRead where
  | ok (mA : BitVec 32)
  | retried (mA : BitVec 32)
  | failed
deriving DecidableEq, Repr

/-- What the arbitration of a core's banks adds to STARVE_GRANTS and to BANK_WAIT_CYCLES. -/
structure BankWait where
  core : CoreNo
  grants : BitVec 32
  cycles : BitVec 64
deriving DecidableEq, Repr

/-- What the world outside brings to one management iteration. -/
structure MgmtInput where
  /-- Periods skipped because the iteration was late (R38). -/
  skipped : BitVec 16 := 0
  /-- The junction sensors 0 to 27 and the stack sensors 0 to 7, in °C; a sensor that is not listed reads as before. -/
  temps : List Int := []
  stackTemps : List Int := []
  /-- READ_IOUT of rails 0 to 10; a rail that is not listed draws what it drew before. -/
  currents : List RailRead := []
  /-- VR_ALERT_N is low: segments, each with its rails whose STATUS_WORD reports a fault. -/
  alerts : List (Fin 2 × List (Fin 11)) := []
  /-- OC_ALERT_CMP_x_N reads low, a bit per region. -/
  ocLow : BitVec 4 := 0
  /-- Ring oscillators of regions A to D, where the iteration measures them (R476). -/
  ringOsc : List (BitVec 32) := []
  /-- JOB_OUT and CKPT have room (R414). -/
  outRoom : Bool := true
  ckptRoom : Bool := true
  /-- What the Warden's reads of the Hamper's tables meet (R244). -/
  env : MemEnv := {}
  /-- What bank arbitration has made the cores' engines wait since the last iteration (R19). -/
  waits : List BankWait := []
  /-- Ports 64 to 78 whose read allowance is full as the iteration takes its snapshot (R20, R254). -/
  full : List (Fin 79) := []
  /-- Ports that have, at the snapshot, a request outstanding whose deadline field waiting has lowered to 0 (R252, R254). -/
  due : List (Fin 79) := []
deriving DecidableEq, Repr

/-- What the world outside brings to a Trailhead step that completes (Table 3-2). -/
inductive StepResult where
  /-- Step 1 on one island. -/
  | romSelfTest (i : Island)
  /-- Step 2: the identity that the PUF yields. -/
  | puf (uniqueId : BitVec 64) (pubkey : List Byte)
  /-- Step 3. -/
  | pllLock
  /-- Step 4: what the junction sensors and the stack sensors read. -/
  | floorInit (temps sensed : List Int)
  /-- Step 5: every module of both I/O dies trained. -/
  | ucie
  /-- The flash configuration window: the bytes read from flash offset 0 (R82). -/
  | flashRecord (bytes : List Byte)
  /-- Step 6: what the stack sensors read; the stacks with a channel that a usable record did not restore; the training
  result's opaque channel blocks. -/
  | dram (sensed : List Int) (failed : List (Fin 8)) (channels : List Byte)
  /-- Step 7: the cores that fail the injection test, and the ring oscillators of regions A to D (R476). -/
  | comparators (failing : List CoreNo) (ringOsc : List (BitVec 32))
  /-- Step 8. -/
  | lanes
  /-- Step 9 from flash: the image bytes at IMAGE_OFFSET (host-supplied segments come through the upload ring). -/
  | flashImage (bytes : List Byte)
  /-- Step 9 ends: every byte has come through the upload ring. -/
  | hostImage
  /-- Step 10: the verdicts of Lookout B's two signature checks (R124), which need the vendor root key. -/
  | verify (certOk sigOk : Bool) (env : MemEnv)
  /-- Step 11. -/
  | variant
  /-- Step 12: the version words that the two safety firmwares report, and the rails that did not answer VOUT_MODE
  (R457). -/
  | entry (fwA fwB : BitVec 32) (silent : List (Fin 11))
deriving DecidableEq, Repr

end Sys2Proof.Machine
end

