-- ==== Sys2Proof/Syntax.lean ====
section
/-!
DEFINITION. The commands of the DX64, one constructor per row of spec/opcode_table.json, in the table's order. A
command is one indivisible happening: an access by a requester, an event on a pin or bus, the completion of something
under way, or one slot action of the bundle stream. Its operands are what the world outside brings to it; everything
else it needs stands in the state.
-/

namespace Sys2Proof

open Machine

/-- The commands (spec/opcode_table.json). -/
inductive Instr where
  /-- ISL_RESET_RELEASE (R76). Release of ISL_RESET_A_N or ISL_RESET_B_N starts that Lookout's Trailhead step 1. -/
  | islResetRelease (isl : Island)
  /-- ISL_RESET_ASSERT (R76). Assertion of an island reset stops that Lookout without resetting the main chip. -/
  | islResetAssert (isl : Island)
  /-- RESET_N_ASSERT (R78). RESET_N low resets everything except the Lookouts, with Lookout B streaming the fallback if in Drive. -/
  | resetNAssert
  /-- RESET_N_RELEASE (R76). RESET_N release samples BOOT_SRC and starts a cold Trailhead on the floor. -/
  | resetNRelease (bootSrc : Fin 4)
  /-- PWR_GOOD_FLOOR_FALL (R76). PWR_GOOD_FLOOR falling is treated as an assertion of RESET_N. -/
  | pwrGoodFloorFall
  /-- PWR_GOOD_CMP_FALL (R76). A compute power-good falling raises a region fault. -/
  | pwrGoodCmpFall (r : RegionNo)
  /-- PWR_GOOD_CMP_RISE (R77). A compute power-good rising lets a waiting region restart proceed. -/
  | pwrGoodCmpRise (r : RegionNo)
  /-- TRAILHEAD_STEP_COMPLETE (R79). Completion of a Trailhead step starts the next step in table order. -/
  | trailheadStepComplete (us : BitVec 32) (res : StepResult)
  /-- TRAILHEAD_STEP_TIMEOUT (R80). A Trailhead step exceeding its bound produces its failure code and the action of Table 3-7. -/
  | trailheadStepTimeout (step : Fin 13) (detail : BitVec 32)
  /-- CFG_GO (R81). A P1 write of 1 to CFG_GO closes the start-up or fallback configuration window. -/
  | cfgGo (req : Requester) (value : BitVec 32)
  /-- TH_CFG_TIMEOUT (R81). No CFG_GO within 10,000 ms closes the window with 0x0207 and stops Trailhead. -/
  | thCfgTimeout
  /-- RUN_RETRY (R85). A P1 write of 1 performs a chip warm restart out of a RUN FAULT with the snapshot retaken. -/
  | runRetry (req : Requester) (value : BitVec 32)
  /-- ENTER_OVERNIGHT (R96). PERSONALITY_REQ OVERNIGHT by P1 lets the cycle finish and drains RUN and Drive functions. -/
  | enterOvernight (req : Requester)
  /-- YIELD (R417). PERSONALITY_REQ DRIVE from Overnight runs the yield sequence back to Drive. -/
  | yield (req : Requester)
  /-- ENTER_SERVICE (R96). PERSONALITY_REQ SERVICE by P1 drains RUN and enters Service. -/
  | enterService (req : Requester)
  /-- LEAVE_SERVICE (R94). PERSONALITY_REQ DRIVE from Service retakes the snapshot and performs a chip warm restart. -/
  | leaveService (req : Requester)
  /-- TRANSITION_DONE (R94). The end of a transition's drain completes the edge with its keeping, sealing and zeroisation. -/
  | transitionDone (us : BitVec 32) (bad : Option (Fin 256)) (silent : List (Fin 11))
  /-- REGION_RESTART (R100). A fault record stops a region, clears its state, tests and reloads its cores. -/
  | regionRestart (cause : RegionCause)
  /-- REGION_RESTART_RESUME (R121). The network plane and loop state are cleared and the stream resumes at the restart entry. -/
  | regionRestartResume (us : BitVec 32)
  /-- RS_REGION_TIMEOUT (R100). A region restart exceeding 120 ms logs 0x0216 and becomes a chip warm restart. -/
  | rsRegionTimeout
  /-- WARM_RESTART (R101). A chip-level error enters Bivouac and runs the chip warm restart sequence. -/
  | warmRestart (cause : WarmCause)
  /-- WARM_RESTART_COMPLETE (R101). RUN reaches ON at the last row of the warm restart and the personality resumes. -/
  | warmRestartComplete (us : BitVec 32) (failing : List CoreNo) (bad : Option (Fin 256)) (silent : List (Fin 11))
  /-- RS_WARM_FAIL (R101). A failed warm-restart step or 600 ms passing leaves the device in Bivouac awaiting RESET_N. -/
  | rsWarmFail (detail : BitVec 32)
  /-- PLL_LOCK_LOSS (R21). Root PLL loss of lock is a chip-level error leading to a warm restart. -/
  | pllLockLoss
  /-- ISL_PERIPH_WINDOW (R34). At the end of each 10 us window a Lookout compares its CLK_PERIPH count with the limits. -/
  | islPeriphWindow (isl : Island) (count : BitVec 16)
  /-- MGMT_ITERATION (R38). The Warden's 1 ms management loop runs power, thermal, regulation, Hamper and admission work. -/
  | mgmtIteration (m : MgmtInput)
  /-- DIVISOR_CHANGE (R29). A region's CLK_ARITH divisor changes at a bundle boundary with 8 CLK_FABRIC cycles of no new arithmetic. -/
  | divisorChange (r : RegionNo)
  /-- REGISTER_WRITE (R47). A dictionary write to an entry without its own row is checked in order and applied or staged. -/
  | registerWrite (req : Requester) (index : BitVec 16) (sub : BitVec 8) (value : BitVec 32) (bytes : BitVec 4)
  /-- CROSS_DOMAIN_READ (R56). A mapped read of a cross-domain entry holds its completion until the value crosses back. -/
  | crossDomainRead (req : Requester) (index : BitVec 16) (sub : BitVec 8) (crosses : Bool)
  /-- CROSS_DOMAIN_WRITE (R57). A mapped write to a cross-domain entry enters the crossing buffer or is dropped. -/
  | crossDomainWrite (req : Requester) (index : BitVec 16) (sub : BitVec 8) (value : BitVec 32) (enters : Bool)
  /-- DICT_CROSS_TIMEOUT (R56). A cross-domain access not completed within 4 us is aborted and logged with 0x010E. -/
  | dictCrossTimeout (req : Requester)
  /-- MBX_SNAPSHOT (R60). MBX_CTL OP 1 captures the target entry's whole value into the mailbox buffer. -/
  | mbxSnapshot (req : Requester) (index : BitVec 16) (sub : BitVec 8)
  /-- MBX_COMMIT (R62). MBX_CTL OP 2 evaluates MBX_LEN bytes of the buffer and applies them to the entry in one step. -/
  | mbxCommit (req : Requester) (index : BitVec 16) (sub : BitVec 8)
  /-- MBX_RELEASE (R61). MBX_CTL OP 3 releases the mailbox buffer and clears VALID. -/
  | mbxRelease (req : Requester)
  /-- MBX_OPERATION_DONE (R60). A mailbox operation ends: MBX_LEN and MBX_GEN set, BUSY cleared and VALID set. -/
  | mbxOperationDone (req : Requester) (crossed : Bool)
  /-- MBX_DATA_WRITE (R61). A write of an MBX_DATA word fills the buffer at MBX_OFFSET and clears VALID. -/
  | mbxDataWrite (req : Requester) (word : Fin 240) (value : BitVec 32)
  /-- MBX_LEN_WRITE (R62). A write of MBX_LEN sets the commit length and clears VALID. -/
  | mbxLenWrite (req : Requester) (value : BitVec 32)
  /-- READ (R64). A field-network READ frame is answered with READ_RESP, segmented from a snapshot if long. -/
  | read (bus : Fin 4) (ident : BitVec 48) (frame : List Byte)
  /-- WRITE (R64). A field-network WRITE frame or its last segment applies the value under R47. -/
  | write (bus : Fin 4) (ident : BitVec 48) (frame : List Byte)
  /-- DICT_SESSION_TIMEOUT (R65). A gap beyond SESSION_TIMEOUT_MS closes the segment session with 0x010D. -/
  | dictSessionTimeout (node : Fin 8)
  /-- FN_ENABLE (R72). Writing the field-network service enable starts it or drains it with a 10 ms limit. -/
  | fnEnable (req : Requester) (value : BitVec 32)
  /-- DOORBELL (R68). A BAR2 doorbell write advances a ring's tail if valid. -/
  | doorbell (req : Requester) (ring : RingId) (value : BitVec 32)
  /-- RING_DESCRIPTOR (R69). The device takes the next ring descriptor, moves its data and writes its completion record. -/
  | ringDescriptor (ring : RingId) (desc : Descriptor) (addrOk : Bool) (payload : List Byte) (full certOk sigOk : Bool) (silent : List (Fin 11)) (env : MemEnv)
  /-- RING_ENABLE (R486). Writing a ring's enable starts it with HEAD and TAIL 0 or drains it. -/
  | ringEnable (req : Requester) (ring : RingId) (value : BitVec 32)
  /-- DRAIN_LIMIT_EXPIRED (R70). At a function's drain limit every outstanding item is cancelled. -/
  | drainLimitExpired (fn : FnId) (tags : List (BitVec 32)) (full room : Bool) (env : MemEnv)
  /-- RING_CPL_DISCARDED (R70). Completions still undeliverable a further drain limit later are discarded and the function reads OFF. -/
  | ringCplDiscarded (ring : RingId)
  /-- LOG_CTL (R75). Writing LOG_CTL snapshots up to 16 records from the requested SEQ into the log window. -/
  | logCtl (req : Requester) (value : BitVec 32)
  /-- LOG_SNAPSHOT_DONE (R75). The log snapshot completes and LOG_STAT BUSY clears. -/
  | logSnapshotDone (req : Requester)
  /-- LOG_RECORD_STORE (R74). A record reaching the Warden is merged or stored under the next SEQ. -/
  | logRecordStore (which : Nat)
  /-- USB4_LINK_RECOVERY (R73). A USB4 peer violating flow control triggers link-level recovery and is counted. -/
  | usb4LinkRecovery
  /-- BAR4_ACCESS (R220). A BAR4 aperture access maps to APERTURE_BASE plus offset as a host port request. -/
  | bar4Access (req : Requester) (offset : Fin 1073741824) (write : Option (List Byte)) (len : Fin 4097) (env : MemEnv)
  /-- BUNDLE_ISSUE (R110). A dispatched bundle issues in every core at once when no hold condition holds. -/
  | bundleIssue
  /-- PG_HOLD_TIMEOUT (R113). A hold longer than HOLD_LIMIT_US faults every core asserting HOLD. -/
  | pgHoldTimeout
  /-- PG_APPLY_LATE (R108). 8,000,000 bundles without an apply mark while a write is staged logs 0x031A. -/
  | pgApplyLate
  /-- PG_COUNTER_WARN (R115). The bundle counter reaching 2^47 sets COUNTER_WARN and logs 0x0316. -/
  | pgCounterWarn
  /-- PG_COUNTER_SATURATED (R115). The bundle counter saturating logs 0x0317 once. -/
  | pgCounterSaturated
  /-- BR_TRUE (R117). The chip slot branches to BR_TARGET when the predicate is 1, clearing the loops. -/
  | brTrue (addr : BundleAddr) (pred : PredNo) (target : BundleAddr)
  /-- BR_FALSE (R117). The chip slot branches to BR_TARGET when the predicate is 0, clearing the loops. -/
  | brFalse (addr : BundleAddr) (pred : PredNo) (target : BundleAddr)
  /-- JUMP (R117). The chip slot branches unconditionally to BR_TARGET. -/
  | jump (target : BundleAddr)
  /-- RD_AND (R116). A reduction writes 1 to the predicate if every sampled core bit is 1. -/
  | rdAnd (reg : SReg) (bit : Fin 32) (pred : PredNo)
  /-- RD_OR (R116). A reduction writes 1 to the predicate if any sampled core bit is 1. -/
  | rdOr (reg : SReg) (bit : Fin 32) (pred : PredNo)
  /-- RD_SELECT (R116). A reduction writes the bit of core RD_CORE to the predicate. -/
  | rdSelect (reg : SReg) (bit : Fin 32) (core : CoreNo) (pred : PredNo)
  /-- LP_START (R117). A loop start pushes a loop level with its end and count. -/
  | lpStart (addr : BundleAddr) (count : BitVec 16) (last : BundleAddr)
  /-- APPLY_MARK (R37). An apply mark makes every completed staged write take effect. -/
  | applyMark
  /-- HALT (R109). HALT stops the stream after its bundle and drains RUN to OFF with 0x0315. -/
  | halt
  /-- WATCHDOG_KICK (R107). A chip-slot kick reaches stage watchdog WD_STAGE in the next CLK_PERIPH cycle. -/
  | watchdogKick (stage : Fin 16) (intervalUs : BitVec 32)
  /-- TEST_WINDOW_GRANT (R122). A grant opens a self-test window of TW_LEN x 4,096 bundles for core TW_CORE. -/
  | testWindowGrant (core : CoreNo) (len : Fin 256)
  /-- WAIT_GE (R110). A SYNC WAIT_GE holds issue until the semaphore is at least N. -/
  | waitGe (core : CoreNo) (sem : SemNo) (n : BitVec 16)
  /-- ADD (R146). A SYNC ADD adds N to a semaphore in the issuing cycle. -/
  | add (core : CoreNo) (sem : SemNo) (n : BitVec 16)
  /-- SUB (R147). A SYNC SUB subtracts N from a semaphore in the issuing cycle. -/
  | sub (core : CoreNo) (sem : SemNo) (n : BitVec 16)
  /-- BAR_ARRIVE (R148). A barrier arrival adds 1 to semaphore 248 + b. -/
  | barArrive (core : CoreNo) (bar : BarNo)
  /-- BAR_WAIT (R148). BAR_WAIT holds issue until P_b arrivals and then subtracts P_b. -/
  | barWait (core : CoreNo) (bar : BarNo)
  /-- SEND (R119). A NOC SEND puts a 32-byte flit into the network plane towards its peer. -/
  | send (core : CoreNo) (peer : CoreNo) (granule : SentGranule)
  /-- RECV (R119). A NOC RECV writes the arriving flit into local memory. -/
  | recv (core : CoreNo) (peer : CoreNo) (granule : Granule)
  /-- SEND_AND_RECV (R119). A NOC slot both sends a flit and receives one in the same bundle. -/
  | sendAndRecv (core : CoreNo) (sendPeer : CoreNo) (recvPeer : CoreNo) (sendGranule : SentGranule) (recvGranule : Granule)
  /-- PROGRAM_UPLOAD (R126). An upload ring descriptor delivers image bytes at the expected offset to the loader. -/
  | programUpload (desc : Descriptor) (addrOk : Bool) (payload : UploadData) (full certOk sigOk : Bool) (silent : List (Fin 11))
  /-- WORLD_JOB_DISPATCH (R106). The world engine takes the next job from its handoff queue when it has room. -/
  | worldJobDispatch
  /-- MATMUL_TILE (R136). A TE matrix tile operation is queued to accumulate A x B into an accumulator set. -/
  | matmulTile (core : CoreNo) (sr : Bool) (done : Option SemNo) (operands : BitVec 80)
  /-- CONV_TILE (R136). A TE convolution tile operation is queued using an im2col record. -/
  | convTile (core : CoreNo) (sr : Bool) (done : Option SemNo) (operands : BitVec 80)
  /-- DRAIN (R137). A TE drain writes an accumulator set out in FMT_OUT. -/
  | drain (core : CoreNo) (sr : Bool) (done : Option SemNo) (operands : BitVec 80)
  /-- ATTN_STEP (R200). An attention STEP updates running softmax and weighted values for one frame. -/
  | attnStep (core : CoreNo) (sr : Bool) (done : Option SemNo) (operands : BitVec 78)
  /-- INIT_STEP (R200). An INIT_STEP clears row state and then performs a step. -/
  | initStep (core : CoreNo) (sr : Bool) (done : Option SemNo) (operands : BitVec 78)
  /-- FINISH (R203). FINISH normalises rows, NaN-fills incomplete nodes and writes row statistics. -/
  | finish (core : CoreNo) (sr : Bool) (done : Option SemNo) (operands : BitVec 78)
  /-- ACCEPT (R205). ACCEPT computes the longest accepted candidate path and writes it and the result word. -/
  | accept (core : CoreNo) (sr : Bool) (done : Option SemNo) (operands : BitVec 78)
  /-- TE_OPERATION_START (R130). A TE operation starts at its queue head when the engine is free and reads its operands. -/
  | teOperationStart (core : CoreNo) (ecc : List (Granule × Bool))
  /-- TE_OPERATION_COMPLETE (R149). A TE operation completes its last result write and raises DONE_SEM. -/
  | teOperationComplete (core : CoreNo) (which : Fin 2) (replay : List (ReplayElement × BitVec 32)) (disagree : Bool)
  /-- VE_ADD (R138). Vector add of a and b per lane. -/
  | veAdd (core : CoreNo) (done : Option SemNo) (operands : BitVec 111) (imm : BitVec 32)
  /-- VE_SUB (R138). Vector subtract of b from a per lane. -/
  | veSub (core : CoreNo) (done : Option SemNo) (operands : BitVec 111) (imm : BitVec 32)
  /-- MUL (R138). Vector multiply of a and b per lane. -/
  | mul (core : CoreNo) (done : Option SemNo) (operands : BitVec 111) (imm : BitVec 32)
  /-- FMA (R138). Vector fused multiply-add with the addend read from DST. -/
  | fma (core : CoreNo) (done : Option SemNo) (operands : BitVec 111) (imm : BitVec 32)
  /-- MAX (R138). Vector larger of a and b per lane. -/
  | max (core : CoreNo) (done : Option SemNo) (operands : BitVec 111) (imm : BitVec 32)
  /-- MIN (R138). Vector smaller of a and b per lane. -/
  | min (core : CoreNo) (done : Option SemNo) (operands : BitVec 111) (imm : BitVec 32)
  /-- CMP_GT (R138). Vector comparison writing 1.0 where a > b. -/
  | cmpGt (core : CoreNo) (done : Option SemNo) (operands : BitVec 111) (imm : BitVec 32)
  /-- EXP (R138). Vector exponential per lane. -/
  | exp (core : CoreNo) (done : Option SemNo) (operands : BitVec 111) (imm : BitVec 32)
  /-- RECIP (R138). Vector reciprocal per lane. -/
  | recip (core : CoreNo) (done : Option SemNo) (operands : BitVec 111) (imm : BitVec 32)
  /-- RSQRT (R138). Vector reciprocal square root per lane. -/
  | rsqrt (core : CoreNo) (done : Option SemNo) (operands : BitVec 111) (imm : BitVec 32)
  /-- RSUM (R170). Vector pairwise-tree sum of 256 lanes into lane 0. -/
  | rsum (core : CoreNo) (done : Option SemNo) (operands : BitVec 111) (imm : BitVec 32)
  /-- RMAX (R138). Vector maximum of 256 lanes into lane 0. -/
  | rmax (core : CoreNo) (done : Option SemNo) (operands : BitVec 111) (imm : BitVec 32)
  /-- CONVERT (R171). Vector format conversion from FMT_IN to FMT_OUT. -/
  | convert (core : CoreNo) (done : Option SemNo) (operands : BitVec 111) (imm : BitVec 32)
  /-- VE_OPERATION_START (R130). A VE operation starts at its queue head when the engine is free. -/
  | veOperationStart (core : CoreNo) (ecc : List (Granule × Bool))
  /-- VE_OPERATION_COMPLETE (R149). A VE operation completes its last write and raises DONE_SEM. -/
  | veOperationComplete (core : CoreNo)
  /-- SE_ADD (R139). Scalar add modulo 2^32. -/
  | seAdd (core : CoreNo) (rd ra rb : SReg) (immSel : Bool) (imm : BitVec 32)
  /-- SE_SUB (R139). Scalar subtract modulo 2^32. -/
  | seSub (core : CoreNo) (rd ra rb : SReg) (immSel : Bool) (imm : BitVec 32)
  /-- SE_AND (R139). Scalar bitwise AND. -/
  | seAnd (core : CoreNo) (rd ra rb : SReg) (immSel : Bool) (imm : BitVec 32)
  /-- SE_OR (R139). Scalar bitwise OR. -/
  | seOr (core : CoreNo) (rd ra rb : SReg) (immSel : Bool) (imm : BitVec 32)
  /-- XOR (R139). Scalar bitwise XOR. -/
  | xor (core : CoreNo) (rd ra rb : SReg) (immSel : Bool) (imm : BitVec 32)
  /-- SHL (R139). Scalar logical shift left. -/
  | shl (core : CoreNo) (rd ra rb : SReg) (immSel : Bool) (imm : BitVec 32)
  /-- SHR (R139). Scalar logical shift right. -/
  | shr (core : CoreNo) (rd ra rb : SReg) (immSel : Bool) (imm : BitVec 32)
  /-- SLTU (R139). Scalar unsigned less-than. -/
  | sltu (core : CoreNo) (rd ra rb : SReg) (immSel : Bool) (imm : BitVec 32)
  /-- SEQ (R139). Scalar equality test. -/
  | seq (core : CoreNo) (rd ra rb : SReg) (immSel : Bool) (imm : BitVec 32)
  /-- MOV (R139). Scalar move of b into RD. -/
  | mov (core : CoreNo) (rd rb : SReg) (immSel : Bool) (imm : BitVec 32)
  /-- LD32 (R139). Scalar load of a local-memory word into RD. -/
  | ld32 (core : CoreNo) (rd ra rb : SReg) (immSel : Bool) (imm : BitVec 32)
  /-- ST32 (R139). Scalar store of RD to a local-memory word. -/
  | st32 (core : CoreNo) (rd ra rb : SReg) (immSel : Bool) (imm : BitVec 32)
  /-- BARCFG (R148). Sets the participant count of a barrier. -/
  | barcfg (core : CoreNo) (bar : BarNo) (rb : SReg) (immSel : Bool) (imm : BitVec 32)
  /-- SEMRD (R139). Reads a semaphore into RD after every update of the cycle. -/
  | semrd (core : CoreNo) (rd rb : SReg) (immSel : Bool) (imm : BitVec 32)
  /-- SE_LOAD_COMPLETE (R139). An LD32 or ST32 bank access completes and LD32 writes RD. -/
  | seLoadComplete (core : CoreNo) (ecc : List (Granule × Bool))
  /-- XFER (R140). A DE transfer moves data as its 64-byte descriptor states. -/
  | xfer (core : CoreNo) (chan : Fin 16) (done : Option SemNo) (descLine : BitVec 16)
  /-- PREFETCH (R141). A DE prefetch reads a source range into the floor cache only. -/
  | prefetch (core : CoreNo) (chan : Fin 16) (done : Option SemNo) (descLine : BitVec 16)
  /-- FENCE (R487). A DE fence completes when every earlier operation of its channel has completed. -/
  | fence (core : CoreNo) (chan : Fin 16) (done : Option SemNo)
  /-- READ_WALK (R191). A READ page walk copies a sequence's pages into frames with a consistent GEN. -/
  | readWalk (core : CoreNo) (chan : ChanAccess)
  /-- APPEND (R193). An APPEND walk writes tokens at LAYER_LENGTH, popping slots as pages are crossed. -/
  | append (core : CoreNo) (chan : ChanAccess)
  /-- REFILL (R193). A REFILL walk rewrites missing pages below LAYER_LENGTH. -/
  | refill (core : CoreNo) (chan : ChanAccess)
  /-- DE_OPERATION_START (R140). A DE operation starts on its channel and judges its descriptor. -/
  | deOperationStart (core : CoreNo) (chan : Fin 16) (ecc : List (Granule × Bool))
  /-- DE_TRANSACTION_ISSUE (R141). A DE channel issues its next transaction once its read or write allowance and a port grant permit. -/
  | deTransactionIssue (core : CoreNo) (chan : DeGrant)
  /-- DE_READ_RETURN (R143). A read transaction's data returns and is written at the destination. -/
  | deReadReturn (core : CoreNo) (chan : Fin 16) (which : Fin 192) (ecc : List (Granule × Bool)) (env : MemEnv)
  /-- DE_WRITE_ACK (R149). A write acknowledgement arrives and frees the channel's write count. -/
  | deWriteAck (core : CoreNo) (chan : Fin 16) (which : Fin 64) (env : MemEnv)
  /-- DE_ACK_TIMEOUT (R144). A write unacknowledged within ACK_TIMEOUT_US faults the core with 0x0407. -/
  | deAckTimeout (core : CoreNo) (chan : Fin 16)
  /-- DE_OPERATION_COMPLETE (R487). A DE operation completes once all reads are written and writes acknowledged, raising DONE_SEM. -/
  | deOperationComplete (core : CoreNo) (chan : ChanAccess) (which : Fin 4)
  /-- WALK_RETRY (R191). After 512 CLK_FABRIC cycles a walk makes its next attempt at a consistent read. -/
  | walkRetry (core : CoreNo) (chan : ChanAccess)
  /-- APPEND_PUBLISH (R193). Once the append's writes are acknowledged its entries, LAYER_LENGTH and GEN are published. -/
  | appendPublish (core : CoreNo) (chan : ChanAccess)
  /-- INBOUND_TRANSFER (R151). An inbound transfer writes into an endpoint window and raises its semaphore after the last write. -/
  | inboundTransfer (core : CoreNo) (ep : Fin 4) (offset : BitVec 22) (data : List Byte) (poison : Bool) (last : Bool) (sem : SemNo)
  /-- HAMPER_ENABLE (R215). Enabling the Hamper checks geometry, zeroes tables and fills the free ring. -/
  | hamperEnable (req : Requester) (value : BitVec 32)
  /-- FLOOR_CACHE_ACCESS (R221). A memory request is served by its home slice and, if needed, its DRAM controller. -/
  | floorCacheAccess (port : Fin 79) (addr : BitVec 64) (len : Fin 4097) (write : Option (List Byte)) (poison alloc : Bool) (env : MemEnv)
  /-- ATOMIC_READ (R227). Atomic read of an aligned word at the home slice. -/
  | atomicRead (port : Fin 79) (addr : BitVec 64) (acc : AtomicAccess)
  /-- ATOMIC_ADD (R227). Atomic add returning the old value. -/
  | atomicAdd (port : Fin 79) (addr : BitVec 64) (acc : AtomicAccess) (value : BitVec 64)
  /-- ATOMIC_AND (R227). Atomic AND returning the old value. -/
  | atomicAnd (port : Fin 79) (addr : BitVec 64) (acc : AtomicAccess) (value : BitVec 64)
  /-- ATOMIC_OR (R227). Atomic OR returning the old value. -/
  | atomicOr (port : Fin 79) (addr : BitVec 64) (acc : AtomicAccess) (value : BitVec 64)
  /-- ATOMIC_MIN (R227). Atomic unsigned minimum returning the old value. -/
  | atomicMin (port : Fin 79) (addr : BitVec 64) (acc : AtomicAccess) (value : BitVec 64)
  /-- ATOMIC_MAX (R227). Atomic unsigned maximum returning the old value. -/
  | atomicMax (port : Fin 79) (addr : BitVec 64) (acc : AtomicAccess) (value : BitVec 64)
  /-- ATOMIC_SWAP (R227). Atomic swap returning the old value. -/
  | atomicSwap (port : Fin 79) (addr : BitVec 64) (acc : AtomicAccess) (value : BitVec 64)
  /-- ATOMIC_COMPARE_AND_SWAP (R227). Atomic compare-and-swap returning the old value. -/
  | atomicCompareAndSwap (port : Fin 79) (addr : BitVec 64) (acc : AtomicAccess) (expected value : BitVec 64)
  /-- REFRESH (R235). A per-bank refresh falls due within the temperature-dependent window and blocks its bank. -/
  | refresh (stack : Fin 8) (channel : Fin 24) (bank : Fin 64) (row : Fin 8192)
  /-- RETRAINING_COMPLETE (R237). A channel retraining ends, keeping the old settings if it failed. -/
  | retrainingComplete (stack : Fin 8) (channel : Fin 24) (ok : Bool)
  /-- DRAM_ROW_DISTURB (R238). A row's activation count reaching the threshold refreshes its neighbours and throttles the port. -/
  | dramRowDisturb
  /-- ROW_THROTTLE_END (R239). ROW_THROTTLE_US after the crossing the port's activation spacing ends. -/
  | rowThrottleEnd (port : Fin 79) (stack : Fin 8)
  /-- SCRUB_ENABLE (R243). Writing the scrubber's enable starts it or drains it with a 1 ms limit. -/
  | scrubEnable (req : Requester) (value : BitVec 32)
  /-- PATROL_SCRUB (R243). The scrubber reads the next line, writing back corrections and storing poison. -/
  | patrolScrub (fault : Option MemFault)
  /-- ZEROISE_COMPLETE (R233). Zeroisation of a range completes and waiting requests proceed. -/
  | zeroiseComplete
  /-- REG_WINDOW_END (R249). A port's regulation window ends and its budget is renewed. -/
  | regWindowEnd (port : Fin 79)
  /-- SLOT_ENABLE (R259). Writing a stream slot's enable checks its binding and starts it, or drains it. -/
  | slotEnable (req : Requester) (slot : Fin 64) (value : BitVec 32)
  /-- FRAME_START (R272). A CSI-2 Frame Start opens a sample, closing any open frame as TRUNCATED. -/
  | frameStart (rx : Fin 16) (vc : Fin 32) (frame : BitVec 16) (hdr : HeaderEcc) (env : MemEnv)
  /-- LONG_PACKET (R270). A CSI-2 long packet is stored, taken as stamp or checked as pattern. -/
  | longPacket (rx : Fin 16) (vc : Fin 32) (dt : BitVec 6) (payload : List Byte) (crcOk : Bool) (hdr : HeaderEcc) (room : Option (Fin 65536)) (env : MemEnv)
  /-- FRAME_END (R271). A CSI-2 Frame End closes the frame and inserts the self-check block. -/
  | frameEnd (rx : Fin 16) (vc : Fin 32) (hdr : HeaderEcc)
  /-- ETH_FRAME (R258). A received Ethernet frame is routed to its slot as part of a sample. -/
  | ethFrame (port : Fin 10) (frame : List Byte) (fcsOk : Bool) (room : Option (Fin 65536)) (env : MemEnv)
  /-- CAN_FRAME (R258). A received CAN frame not matching a dictionary node becomes a one-frame sample. -/
  | canFrame (bus : Fin 2) (ident : BitVec 11) (data : List Byte) (room : Option (Fin 65536)) (env : MemEnv)
  /-- SPI_DRDY (R277). A rising SPI_DRDY edge starts a frame read on the SPI port. -/
  | spiDrdy (port : Fin 2) (data : List Byte) (room : Option (Fin 65536)) (env : MemEnv)
  /-- REPLAY (R276). A replay ring descriptor group forms one sample for a REPLAY slot. -/
  | replay (desc : Descriptor) (addrOk : Bool) (payload : List Byte) (env : MemEnv) (full : Bool)
  /-- SAMPLE_COMPLETE (R267). After acknowledgement and self-check read-back the sample record is written DONE with its mapped time. -/
  | sampleComplete (slot : Fin 64) (corrupt room : Bool) (env : MemEnv)
  /-- DROPOUT (R273). A slot watchdog window passing with no sample writes a dropout record. -/
  | dropout (slot : Fin 64) (env : MemEnv)
  /-- FUSION_ENABLE (R279). Writing fusion's enable checks its configuration and starts it, or drains it. -/
  | fusionEnable (req : Requester) (value : BitVec 32)
  /-- IMU_SAMPLE (R286). Fusion integrates a usable IMU sample into the ego history. -/
  | imuSample (slot idx : Fin 64) (env : MemEnv)
  /-- WHEEL_SAMPLE (R287). A usable wheel sample corrects forward velocity and reintegrates later entries. -/
  | wheelSample (slot idx : Fin 64) (env : MemEnv)
  /-- LIDAR_PACKET (R300). Lidar points update the occupancy grid at their packet times. -/
  | lidarPacket (slot idx : Fin 64) (offset : BitVec 32) (env : MemEnv)
  /-- DETECTIONS (R296). A DETECTIONS job copies a detection list into fusion for association. -/
  | detections (env : MemEnv)
  /-- AWAIT_INSTANT (R295). An AWAIT_INSTANT job completes when the named instant's output is DONE. -/
  | awaitInstant
  /-- INSTANT_GUARD_CLOSED (R292). The guard expiring closes the instant with GUARD_CLOSED. -/
  | instantGuardClosed (env : MemEnv)
  /-- INSTANT_OUTPUT_DONE (R309). The instant's output buffer is written DONE after its writes are acknowledged. -/
  | instantOutputDone (room planRoom : Bool) (env : MemEnv)
  /-- PLAN_ENABLE (R315). Writing planning's enable checks configuration and lattice and starts it, or drains it. -/
  | planEnable (req : Requester) (value : BitVec 32)
  /-- LATTICE_UPLOAD (R329). A lattice ring descriptor writes bytes at LATTICE_BASE plus its offset. -/
  | latticeUpload (desc : Descriptor) (addrOk : Bool) (payload : List Byte) (env : MemEnv) (full : Bool)
  /-- BUILD (R320). A BUILD job hands an occupancy input to the SDF builder. -/
  | build (env : MemEnv)
  /-- BUILD_START (R323). A build starts once the previous build has ended and its buffer is free. -/
  | buildStart (env : MemEnv)
  /-- EPOCH_COMPLETE (R322). A build's cells are acknowledged and its epoch header is written COMPLETE. -/
  | epochComplete (env : MemEnv)
  /-- EXPAND (R335). EXPAND binds the newest epoch, checks the bin's primitives and writes survivors. -/
  | expand (env : MemEnv)
  /-- EXPAND_DONE (R335). EXPAND completes its queries and its survivor buffer is written DONE. -/
  | expandDone (env : MemEnv)
  /-- SELECT (R337). SELECT orders survivors by score, rechecks against the newest epoch and picks the trajectory. -/
  | select (env : MemEnv)
  /-- PLAN_DEADLINE (R339). The cycle deadline expiring makes the planner select or apply the no-path rule itself. -/
  | planDeadline (env : MemEnv)
  /-- TRAJECTORY_RECORD_DONE (R340). The trajectory record is written DONE, passed to Lookout B and queued on the outputs. -/
  | trajectoryRecordDone (room intact : Bool) (env : MemEnv)
  /-- OUT_FRAME_DROPPED (R341). A frame not on the wire within OUT_TX_TIMEOUT_US is dropped. -/
  | outFrameDropped (output : Fin 2)
  /-- OUTPUT_SUBSTITUTED (R380). A second error reading a DONE record makes Lookout B send its copy as a SUBSTITUTE frame. -/
  | outputSubstituted (ageMs : BitVec 32)
  /-- LOOKOUT_A_EVENT (R353). An event reaching Lookout A is acted on by the vendor firmware within 50 us. -/
  | lookoutAEvent
  /-- SLICE_START (R366). A granted core starts a 300 us test slice once its queues are empty. -/
  | sliceStart (core : CoreNo) (inTime : Bool)
  /-- SLICE_COMPLETE (R368). A test slice ends and resolves pending mismatches as transients or quarantine. -/
  | sliceComplete (core : CoreNo) (passed : Bool)
  /-- STAGE_SHED (R372). A deadline nearer than SHED_LEAD_US makes Lookout A write a shed request. -/
  | stageShed (due : List CoreNo) (env retry : MemEnv)
  /-- TEST_OVERDUE (R373). A passed test deadline demands a region restart of the core's region. -/
  | testOverdue (core : CoreNo)
  /-- WD_LATE (R374). An armed watchdog reaching MAX_US without a kick raises a late fault. -/
  | wdLate (stage : Fin 16)
  /-- PEER_STATUS_SEND (R351). Every 1 ms each Lookout sends the other a status message. -/
  | peerStatusSend (isl : Island)
  /-- PEER_STATUS_MESSAGE (R351). A Lookout receives the other's status message with a new count. -/
  | peerStatusMessage (isl : Island)
  /-- PEER_LOST (R351). 3 ms without a new message declares the peer lost, and Lookout B may start streaming. -/
  | peerLost (isl : Island)
  /-- FALLBACK_FRAME (R378). Every 10 ms while streaming Lookout B sends a fallback frame on CAN XL 1. -/
  | fallbackFrame (ageMs : BitVec 32)
  /-- APP_DEMAND (R354). The safety application demands a restart, the FAULT pin or a stage shed. -/
  | appDemand (isl : Island) (demand : AppDemand)
  /-- ISLAND_SELF_FAULT (R350). A Lookout lockstep compare failure halts its firmware and drives its FAULT pin. -/
  | islandSelfFault (isl : Island)
  /-- ATTEST_NONCE (R401). Committing a nonce makes Lookout B build and sign an attestation report. -/
  | attestNonce (req : Requester) (nonce : List Byte)
  /-- ATTEST_REPORT_READY (R401). The signed report is ready and ATTEST_STATE returns to IDLE. -/
  | attestReportReady (signature : List Byte)
  /-- JOB_ENABLE (R402). Writing the job enable checks its areas and starts it, or closes it. -/
  | jobEnable (req : Requester) (value : BitVec 32)
  /-- ADMIT (R406). A JOB_IN ADMIT descriptor moves a prompt in and requests admission of a sequence. -/
  | admitRequest (desc : Descriptor) (addrOk : Bool) (payload : List Byte) (full : Bool) (env : MemEnv)
  /-- RELEASE (R406). A JOB_IN RELEASE descriptor clears a sequence and reports FINISHED. -/
  | release (desc : Descriptor) (addrOk : Bool) (full : Bool)
  /-- CKPT_ACK (R415). The host acknowledges a checkpoint and the Warden copies it to the control block. -/
  | ckptAck (req : Requester) (value : BitVec 32)
  /-- YIELD_FORCED (R417). YIELD_GRACE_MS passing without HALT makes the device halt the stream itself. -/
  | yieldForced
  /-- CKPT_FINAL_LOST (R417). The FINAL checkpoint not written within 800 ms is logged and the edge continues. -/
  | ckptFinalLost
  /-- LINK_ENABLE (R425). Writing a chip-link port enable starts training or drains the port. -/
  | linkEnable (req : Requester) (port : PortNo) (value : BitVec 32)
  /-- LINK_MGMT (R425). A management packet gives the peer's SYSTEM_ID, DEVICE_ID, port and stepping. -/
  | linkMgmt (port : PortNo) (systemId : BitVec 32) (deviceId : BitVec 6)
  /-- LINK_TRAIN_TIMEOUT (R425). A port not ON within LINK_TRAIN_MS moves to FAULT. -/
  | linkTrainTimeout (port : PortNo)
  /-- MEM_WRITE (R428). An arriving MEM_WRITE packet is forwarded or written inside the link window and answered. -/
  | memWrite (port : PortNo) (x : LinkArrival) (env : MemEnv)
  /-- CHAN_XFER (R437). An arriving CHAN_XFER packet is checked for restart, binding and epoch and written to its endpoint. -/
  | chanXfer (port : PortNo) (x : LinkArrival) (env : MemEnv)
  /-- ANSWER (R429). An arriving answer packet is treated by the sending DE as acknowledgement or error. -/
  | answer (port : PortNo) (x : LinkArrival)
  /-- CREDIT (R432). An arriving CREDIT packet returns link credits to the sender. -/
  | credit (port : PortNo) (x : LinkArrival) (lane : Fin 2)
  /-- THROTTLE (R440). An arriving THROTTLE packet pauses the port's requests for the stated time. -/
  | throttle (port : PortNo) (x : LinkArrival)
  /-- LINK_NEGATIVE_ACK (R433). A link negative acknowledgement makes the sender resend from its replay buffer. -/
  | linkNegativeAck (port : PortNo) (seq : BitVec 12)
  /-- FAST_RETRAIN (R434). 16 failed resends or 10 us without acknowledgement start a fast retrain of the port. -/
  | fastRetrain (port : PortNo)
  /-- LINK_RETRAINED (R434). A retrain ends; success resends the replay buffer, repeated failure escalates. -/
  | linkRetrained (port : PortNo) (ok : Bool)
  /-- TRANSFER_ABANDONED (R438). An open transfer with no packet for 10 ms is abandoned without its semaphore. -/
  | transferAbandoned (core : CoreNo) (ep : Fin 4) (which : Fin 16)
  /-- EPOCH_RELEASE (R439). A host write frees a retired epoch for a channel at once. -/
  | epochRelease (req : Requester) (value : BitVec 32)
  /-- EPOCH_DRAIN_EXPIRY (R439). EPOCH_DRAIN_US after retirement a retired epoch becomes free again. -/
  | epochDrainExpiry (guest : Bool) (channel : BitVec 8) (epoch : BitVec 4)
  /-- GUEST_TRAINING_ATTEMPT (R441). The guest site trains its modules and awaits the GUEST_ID sideband message. -/
  | guestTrainingAttempt (t : GuestTraining)
  /-- GUEST_ENABLE (R442). Writing the guest enable starts it or drains it with a 10 ms limit. -/
  | guestEnable (req : Requester) (value : BitVec 32)
  /-- RD_REQ (R443). A guest read request inside the guest window is served through port 76. -/
  | rdReq (x : GuestArrival) (env : MemEnv)
  /-- WR_REQ (R443). A guest write request inside the guest window is written and answered. -/
  | wrReq (x : GuestArrival) (env : MemEnv)
  /-- CH_XFER (R443). A guest channel transfer is checked like CHAN_XFER and written to its endpoint. -/
  | chXfer (x : GuestArrival) (env : MemEnv)
  /-- DICT_RSP (R445). A guest dictionary response completes the forwarded entry access. -/
  | dictRsp (x : GuestArrival)
  /-- GUEST_CREDIT (R443). A CREDIT packet from the guest returns credits to the device. -/
  | guestCredit (x : GuestArrival) (pool : Fin 2)
  /-- NACK (R444). A NACK from the guest makes the device resend from the named SEQ. -/
  | nack (x : GuestArrival)
  /-- GUEST_SIDEBAND_VIOLATION (R447). A bad UCIe sideband message retrains the modules and counts a failure. -/
  | guestSidebandViolation
  /-- GUEST_RETRAINING_COMPLETE (R448). A guest retraining ends, replaying unanswered packets or counting a failure. -/
  | guestRetrainingComplete (ok : Bool)
  /-- VR_SETTLE (R461). VR_SETTLE_US after a voltage raise READ_VOUT is checked before the divisor speeds up. -/
  | vrSettle (r : RegionNo) (readMv : BitVec 16)
  /-- LOADHINT_LEAD (R462). LOADHINT_LEAD_NS after the hint level includes it, a waiting TE may start. -/
  | loadhintLead (core : CoreNo)
  /-- LOADHINT_HOLD (R462). LOADHINT_HOLD_NS after its last completion a TE stops counting as busy. -/
  | loadhintHold (core : CoreNo)
  /-- OC_ALERT (R463). OC_ALERT_CMP_x_N falling holds region x at /4 by hardware throttle. -/
  | ocAlert (r : RegionNo)
  /-- THERMAL_HW (R470). A sensor at the hardware threshold holds its region at /4 within 20 us. -/
  | thermalHw (sensor : Fin 36) (t : BitVec 16)
  /-- THERMAL_HW_RELEASE (R470). 10 ms with every sensor 5 C below the threshold releases the hardware throttle. -/
  | thermalHwRelease (r : RegionNo)
  /-- THERMAL_TRIP (R471). A sensor at the trip threshold asserts THERM_TRIP_N and resets all but the Lookouts. -/
  | thermalTrip (sensor : Fin 36) (t : BitVec 16)
  /-- COOLANT_REPORT (R467). A coolant report write refreshes the thermal allowance and confirmation. -/
  | coolantReport (req : Requester) (value : BitVec 32)
  /-- COOLANT_STALE (R467). A report older than COOLANT_REFRESH_MS falls back to the worst-case allowance. -/
  | coolantStale
  /-- PWR_GOOD_FLOOR_RISE (R76). PWR_GOOD_FLOOR rising after RESET_N has been released lets Trailhead step 3 begin. -/
  | pwrGoodFloorRise
  /-- FUSION_START_TIMEOUT (R280). Fusion still in STARTING 1 s after its enable moves to FAULT with 0x0902 and DETAIL0 0xFFFF. -/
  | fusionStartTimeout
  /-- LINK_THROTTLE_END (R440). The pause set by a THROTTLE packet ends after its stated time, and the port may send requests again. -/
  | linkThrottleEnd (port : PortNo)
  /-- RX_LINK_STATE (R274). A CSI-2 receiver gains or loses lane synchronisation, moving RX_LINK among DOWN, SYNC and UP. -/
  | rxLinkState (rx : Fin 16) (st : Fin 3)
  /-- ETH_LINK_STATE (R274). A 25GBASE-KR port's link comes up or goes down, changing ETH_LINK_UP. -/
  | ethLinkState (port : Fin 8) (up : Bool)
  /-- HOST_ROUTER_ENUMERATION (R86). A USB4 host router enumerates the device on one of its two ports, which becomes the boot host attachment. -/
  | hostRouterEnumeration (port : Fin 2)
  /-- HEARTBEAT_TOGGLE (R349). Each Lookout toggles its HEARTBEAT pin every 250 us in ROM or every 500 us under firmware, timed from its island clock. -/
  | heartbeatToggle (isl : Island)
  /-- ISL_SUPPLY_OR_CRYSTAL_LOSS (R18). Loss of a Lookout's VDD_ISL supply or its crystal stops that Lookout, its heartbeat stops, and the other island later declares it lost. -/
  | islSupplyOrCrystalLoss (isl : Island)
deriving DecidableEq, Repr

end Sys2Proof
end

