-- ==== Sys2Proof/Decode.lean ====
section
/-!
DEFINITION. The commands that a word of the opcode table spells. The table gives no row any bits: commands are
happenings on pins, buses and inside the part, not words, so no word spells one.
-/

namespace Sys2Proof

/-- The command that the table's bits of a word spell: none, since no row has bits. -/
def decodeTableWord (_nbits _w : Nat) : Option Instr := none

end Sys2Proof
end

