-- ==== Sys2Proof/Config.lean ====
section
/-!
DEFINITION. What an implementation fixes and the spec leaves open, as constants without a body: nothing can be proved
of their values, so a statement that holds here holds whatever they are.
-/

namespace Sys2Proof

/-- A number of the world engine. -/
abbrev Number := Rat

end Sys2Proof

namespace Sys2Proof.Config

/-- The value of the n-th free draw, in w bits (a random source, an unspecified draw order: R95, R175). -/
opaque draw : (w n : Nat) → BitVec w

/-- The r of rounding number i that an operation draws from a core's generator in the given state: R175 leaves open the
generator's polynomial and the order in which draws go to elements. -/
opaque generatorDraw : (state i : Nat) → BitVec 16

/-- The generator's state after an operation has drawn n times. -/
opaque generatorAfter : (state n : Nat) → BitVec 32

/-- What Table 6-6 leaves open of EXP of the FP32 operand: which of the values within its bound it is, and the value itself
where no bound holds. -/
opaque expF32 : BitVec 32 → BitVec 32

/-- Which of the FP32 values that Table 6-6 allows for RECIP of the operand the engine gives: 0, 1 or 2. -/
opaque recipPick : BitVec 32 → Fin 3

/-- Which of the FP32 values that Table 6-6 allows for RSQRT of the operand the engine gives. -/
opaque rsqrtPick : BitVec 32 → Fin 3

/-- RSQRT of −0, which Table 6-6 does not state. -/
opaque rsqrtMinusZero : BitVec 32

/-- The FP32 bits of an NK tile scale 2^t below the FP32 range (R173 states no result there). -/
opaque tinyTileScale : Int → BitVec 32

/-- The floor-cache slice that is home to a line, by the part's fixed hash (R221 and the text before it). -/
opaque homeSlice : (line : Nat) → Fin 32

/-- The set of a line within its slice, which the spec does not state. -/
opaque homeSet : (line : Nat) → Fin 8192

/-! Fusion and planning state their arithmetic over real numbers and not how the engine holds or rounds them (chapters 10
and 11). A number that the engine holds is a rational; the result it holds of an operation is free. -/

/-- Sum, difference, product and quotient of two numbers, as the engine rounds them. -/
opaque nAdd : Number → Number → Number
opaque nSub : Number → Number → Number
opaque nMul : Number → Number → Number
opaque nDiv : Number → Number → Number

/-- Square root, sine, cosine and the two-argument arctangent. -/
opaque nSqrt : Number → Number
opaque nSin : Number → Number
opaque nCos : Number → Number
opaque nAtan2 : Number → Number → Number

/-- What the engine makes of binary32 and binary64 bits that are no finite number. -/
opaque nOdd32 : Nat → Number
opaque nOdd64 : Nat → Number

/-- A number that binary32, or binary64, does not hold is rounded away from zero rather than towards it. -/
opaque roundsUp32 : Number → Bool
opaque roundsUp64 : Number → Bool

/-- The undistorted image coordinates x ÷ z and y ÷ z that a PINHOLE camera with distortion finds for distorted ones, given
its intrinsics BLOB: R297 gives the distortion and not how it is inverted. -/
opaque undistort : List (BitVec 8) → Number → Number → Number × Number

/-! What R301 leaves open of a track's filter. -/

/-- What white acceleration noise of a sigma adds over a time: the variance of position, the covariance of position and
velocity, the variance of velocity, per axis. -/
opaque accelNoise : (time sigma : Number) → List Number

/-- The covariance xx, xy, yy of a measured velocity, given the measurement. -/
opaque velNoise : List Number → List Number

/-- A new track's variances of velocity, given the measurement that bears it, and the yaw of an IMAGE_BOX, which gives none. -/
opaque birthVelVar : List Number → List Number
opaque birthYaw : List Number → Number

/-- The yaw rate after an update, given the filter state before and after it. -/
opaque yawRate : (old new : List Number) → Number

/-- A dimension, and the height z, after a measurement of it. -/
opaque sizeBlend : (old measured : Number) → Number
opaque heightBlend : (old measured : Number) → Number

end Sys2Proof.Config
end

