-- ==== Sys2Proof/Machine/Bytes.lean ====
section
/-!
DEFINITION. Byte order, bit fields and the two standard byte functions the spec names: CRC-32 of IEEE 802.3 (Table
3-3) and SHA-384 (R124, R127). Multi-byte values are little-endian (R44).
-/

namespace Sys2Proof.Machine

/-- Bits hi down to lo of a number, as a number. -/
def field (v hi lo : Nat) : Nat := v / 2 ^ lo % 2 ^ (hi + 1 - lo)

/-- Bit `i` of a number. -/
def bitAt (v i : Nat) : Bool := v / 2 ^ i % 2 == 1

/-- `v` with bit `i` set to `b`. -/
def setBit (v i : Nat) (b : Bool) : Nat :=
  if bitAt v i == b then v else if b then v + 2 ^ i else v - 2 ^ i

/-- The number of set bits among the lowest `n`. -/
def popCount (v : Nat) : Nat → Nat
  | 0 => 0
  | n + 1 => popCount v n + (if bitAt v n then 1 else 0)

/-- The positions of the set bits among the lowest `n`, rising. -/
def bitList (v : Nat) : Nat → List Nat
  | 0 => []
  | n + 1 => bitList v n ++ (if bitAt v n then [n] else [])

/-- A Bool as a bit. -/
def bit1 (b : Bool) : Nat := if b then 1 else 0

/-- A list of bytes as a number, the first byte lowest (R44). -/
def leNat : List Byte → Nat
  | [] => 0
  | b :: t => b.toNat + 256 * leNat t

/-- A number as `n` bytes, lowest first (R44). -/
def leBytes (v : Nat) : Nat → List Byte
  | 0 => []
  | n + 1 => BitVec.ofNat 8 v :: leBytes (v / 256) n

/-- A list of bytes as a number, the first byte highest (the order of SHA-384 words). -/
def beNat (l : List Byte) : Nat := l.foldl (fun a b => a * 256 + b.toNat) 0

/-- A number as `n` bytes, highest first. -/
def beBytes (v n : Nat) : List Byte := (leBytes v n).reverse

/-- `n` bytes from offset `o`, little-endian, bytes past the end reading 0. -/
def leAt (l : List Byte) (o n : Nat) : Nat := leNat ((l.drop o).take n)

/-- `n` bytes from offset `o`. -/
def slice (l : List Byte) (o n : Nat) : List Byte := (l.drop o).take n

/-- Every byte of the range is zero. -/
def zeroAt (l : List Byte) (o n : Nat) : Bool := (slice l o n).all (· == 0)

/-- A list of `n` zero bytes. -/
def zeros (n : Nat) : List Byte := List.replicate n 0

/-- The list cut or padded with zero bytes to `n`. -/
def padTo (l : List Byte) (n : Nat) : List Byte := l.take n ++ zeros (n - l.length)

/-- A signed number in `w` bits of two's complement. -/
def signExt (w v : Nat) : Int := if v % 2 ^ w < 2 ^ (w - 1) then (v % 2 ^ w : Nat) else (v % 2 ^ w : Nat) - (2 ^ w : Nat)

/-- An integer as a `w`-bit two's complement number. -/
def ofInt (w : Nat) (i : Int) : Nat := (i % (2 ^ w : Nat)).toNat

/-- One bit step of the reflected CRC-32 of IEEE 802.3. -/
def crcStep (c : Nat) : Nat := if c % 2 = 1 then Nat.xor (c / 2) 0xEDB88320 else c / 2

/-- CRC-32 over a list of bytes, from the running register. -/
def crcFold (c : Nat) : List Byte → Nat
  | [] => c
  | b :: t =>
    crcFold (crcStep (crcStep (crcStep (crcStep (crcStep (crcStep (crcStep (crcStep (Nat.xor c b.toNat))))))))) t

/-- CRC-32 with the IEEE 802.3 polynomial (Table 3-3). -/
def crc32 (l : List Byte) : Nat := Nat.xor (crcFold 0xFFFFFFFF l) 0xFFFFFFFF

/-! ### SHA-384 (the hash of R124 and R127) -/

/-- Rotate a 64-bit word right. -/
def ror64 (n : Nat) (x : BitVec 64) : BitVec 64 := x.rotateRight n

/-- The largest `r` below `2 ^ b` with `r ^ p ≤ n`, found bit by bit. -/
def rootBits (p n : Nat) : Nat → Nat → Nat
  | 0, acc => acc
  | b + 1, acc => rootBits p n b (if (acc + 2 ^ b) ^ p ≤ n then acc + 2 ^ b else acc)

/-- The first eighty primes. -/
def primes80 : List Nat :=
  [2, 3, 5, 7, 11, 13, 17, 19, 23, 29, 31, 37, 41, 43, 47, 53, 59, 61, 67, 71, 73, 79, 83, 89, 97, 101, 103, 107, 109, 113] ++
  [127, 131, 137, 139, 149, 151, 157, 163, 167, 173, 179, 181, 191, 193, 197, 199, 211, 223, 227, 229, 233, 239, 241, 251] ++
  [257, 263, 269, 271, 277, 281, 283, 293, 307, 311, 313, 317, 331, 337, 347, 349, 353, 359, 367, 373, 379, 383, 389, 397, 401, 409]

/-- The round constants: the first 64 fraction bits of the cube roots of the first eighty primes. -/
def shaK : List (BitVec 64) := primes80.map (fun p => BitVec.ofNat 64 (rootBits 3 (p * 2 ^ 192) 68 0))

/-- The initial state of SHA-384: the first 64 fraction bits of the square roots of the 9th to 16th primes. -/
def shaInit : List (BitVec 64) :=
  ((primes80.drop 8).take 8).map (fun p => BitVec.ofNat 64 (rootBits 2 (p * 2 ^ 128) 68 0))

/-- The message schedule: the next word from the sixteen before it, newest first. -/
def shaNext (w : List (BitVec 64)) : BitVec 64 :=
  let a := w.getD 1 0
  let b := w.getD 14 0
  let s1 := ror64 19 a ^^^ ror64 61 a ^^^ (a >>> 6)
  let s0 := ror64 1 b ^^^ ror64 8 b ^^^ (b >>> 7)
  s1 + w.getD 6 0 + s0 + w.getD 15 0

/-- Extend the schedule, held newest first, by `n` words. -/
def shaExtend (w : List (BitVec 64)) : Nat → List (BitVec 64)
  | 0 => w
  | n + 1 => shaExtend (shaNext w :: w) n

/-- One round over the state a to h. -/
def shaRound (st : List (BitVec 64)) (kw : BitVec 64) : List (BitVec 64) :=
  let a := st.getD 0 0
  let b := st.getD 1 0
  let c := st.getD 2 0
  let e := st.getD 4 0
  let f := st.getD 5 0
  let g := st.getD 6 0
  let t1 := st.getD 7 0 + (ror64 14 e ^^^ ror64 18 e ^^^ ror64 41 e) + ((e &&& f) ^^^ ((~~~e) &&& g)) + kw
  let t2 := (ror64 28 a ^^^ ror64 34 a ^^^ ror64 39 a) + ((a &&& b) ^^^ (a &&& c) ^^^ (b &&& c))
  [t1 + t2, a, b, c, st.getD 3 0 + t1, e, f, g]

/-- Eight bytes at a time, as 64-bit words. -/
def words64 (l : List Byte) : Nat → List (BitVec 64)
  | 0 => []
  | n + 1 => BitVec.ofNat 64 (beNat (l.take 8)) :: words64 (l.drop 8) n

/-- The compression of one 128-byte block. -/
def shaBlock (st : List (BitVec 64)) (block : List Byte) : List (BitVec 64) :=
  let w := (shaExtend (words64 block 16).reverse 64).reverse
  let out := (List.zipWith (· + ·) shaK w).foldl shaRound st
  List.zipWith (· + ·) st out

/-- Compression over `n` blocks. -/
def shaBlocks (st : List (BitVec 64)) (l : List Byte) : Nat → List (BitVec 64)
  | 0 => st
  | n + 1 => shaBlocks (shaBlock st (l.take 128)) (l.drop 128) n

/-- The message with its padding: 0x80, zeros, and the length in bits as sixteen bytes. -/
def shaPad (l : List Byte) : List Byte :=
  let z := (111 + 128 - l.length % 128) % 128
  l ++ [0x80] ++ zeros z ++ beBytes (8 * l.length) 16

/-- SHA-384, 48 bytes. -/
def sha384 (l : List Byte) : List Byte :=
  let p := shaPad l
  (((shaBlocks shaInit p (p.length / 128)).take 6).map (fun w => beBytes w.toNat 8)).flatten

end Sys2Proof.Machine
end

