-- ==== Sys2Proof/Machine/Codes.lean ====
section
/-!
DEFINITION. The status and completion codes of the part (R10 to R12 and the code table of each chapter), each
under the manual's name.
-/

namespace Sys2Proof.Machine.St

/-- OK: operation completed. -/
def OK : Code := 0x0000

/-- FN_CANCELLED: item still outstanding when its function's drain limit expired. -/
def FN_CANCELLED : Code := 0x0101

/-- DICT_BAD_COMMAND: field-network command not defined. -/
def DICT_BAD_COMMAND : Code := 0x0102

/-- DICT_MALFORMED: frame too short, wrong version, LENGTH not matching the frame; partial-word mapped write. -/
def DICT_MALFORMED : Code := 0x0103

/-- DICT_NO_ENTRY: no entry at index:subindex (R7). -/
def DICT_NO_ENTRY : Code := 0x0104

/-- DICT_READ_ONLY: write to CONST or RO. -/
def DICT_READ_ONLY : Code := 0x0105

/-- DICT_WRITE_ONLY: read of WO. -/
def DICT_WRITE_ONLY : Code := 0x0106

/-- DICT_RANGE: value outside type or stated range. -/
def DICT_RANGE : Code := 0x0107

/-- DICT_RESERVED_BITS: reserved bit set. -/
def DICT_RESERVED_BITS : Code := 0x0108

/-- DICT_NOT_SERVICE: RWS written outside Service. -/
def DICT_NOT_SERVICE : Code := 0x0109

/-- DICT_FN_NOT_OFF: RWB written while function not OFF; enable written 1 during DRAINING. -/
def DICT_FN_NOT_OFF : Code := 0x010A

/-- DICT_EXPERT_LOCKED: Expert write while EXPERT_ENABLE is 0. -/
def DICT_EXPERT_LOCKED : Code := 0x010B

/-- DICT_SEGMENT: segment offset not the next expected. -/
def DICT_SEGMENT : Code := 0x010C

/-- DICT_SESSION_TIMEOUT: no segment within SESSION_TIMEOUT_MS. -/
def DICT_SESSION_TIMEOUT : Code := 0x010D

/-- DICT_CROSS_TIMEOUT: cross-domain access not completed within 4 µs. -/
def DICT_CROSS_TIMEOUT : Code := 0x010E

/-- DICT_BUSY: requester already has a transaction open; MBX_CTL, MBX_OFFSET, MBX_LEN or an MBX_DATA word written while MBX_STAT.BUSY is 1 (R63); LOG_CTL written while LOG_STAT.BUSY is 1 (R75). -/
def DICT_BUSY : Code := 0x010F

/-- DICT_NEEDS_MAILBOX: U64 or BLOB accessed as a mapped word. -/
def DICT_NEEDS_MAILBOX : Code := 0x0110

/-- DICT_OWNER_REFUSED: owning function refused the value. -/
def DICT_OWNER_REFUSED : Code := 0x0111

/-- DICT_PRIV_DROP: privilege refusal (R46). -/
def DICT_PRIV_DROP : Code := 0x0112

/-- RING_BAD_DOORBELL: doorbell value not valid for the ring. -/
def RING_BAD_DOORBELL : Code := 0x0113

/-- RING_DESC_FAULT: descriptor unusable. -/
def RING_DESC_FAULT : Code := 0x0114

/-- MGMT_PERIOD_SKIPPED: management period skipped (R38). -/
def MGMT_PERIOD_SKIPPED : Code := 0x0115

/-- LOG_OVERWRITTEN: oldest log record overwritten. -/
def LOG_OVERWRITTEN : Code := 0x0116

/-- DICT_RESTARTING: access during chip warm restart. -/
def DICT_RESTARTING : Code := 0x0117

/-- RING_CPL_DISCARDED: completion undeliverable after drain. -/
def RING_CPL_DISCARDED : Code := 0x0118

/-- RING_CONFIG_INVALID: ring enabled while RING_ENTRIES is 0 (R486). -/
def RING_CONFIG_INVALID : Code := 0x0119

/-- TH_LOOKOUT_ROM_FAIL: step 1 failed on a Lookout; detail A or B. -/
def TH_LOOKOUT_ROM_FAIL : Code := 0x0201

/-- TH_PUF_FAIL: no stable identity. -/
def TH_PUF_FAIL : Code := 0x0202

/-- TH_PLL_NO_LOCK: root PLL did not lock. -/
def TH_PLL_NO_LOCK : Code := 0x0203

/-- TH_FLOOR_INIT_FAIL: floor SRAM or cache clear failed. -/
def TH_FLOOR_INIT_FAIL : Code := 0x0204

/-- TH_IOD_TRAIN_FAIL: an I/O-die module failed training (R15); detail die and module. -/
def TH_IOD_TRAIN_FAIL : Code := 0x0205

/-- TH_GUEST_TRAIN_FAIL: a guest training attempt failed and was the third guest failure (R441, R449); earlier failed attempts are counted and retried. -/
def TH_GUEST_TRAIN_FAIL : Code := 0x0206

/-- TH_CFG_TIMEOUT: no CFG_GO within 10,000 ms. -/
def TH_CFG_TIMEOUT : Code := 0x0207

/-- TH_CFG_RECORD_REFUSED: flash record invalid or a write refused; detail the entry index. -/
def TH_CFG_RECORD_REFUSED : Code := 0x0208

/-- TH_TRAIN_RECORD_UNUSED: written record not usable. -/
def TH_TRAIN_RECORD_UNUSED : Code := 0x0209

/-- TH_DRAM_TRAIN_FAIL: a channel failed full training; detail stack and channel. -/
def TH_DRAM_TRAIN_FAIL : Code := 0x020A

/-- TH_COMPARATOR_FAIL: a core failed injection; detail core number. -/
def TH_COMPARATOR_FAIL : Code := 0x020B

/-- TH_LANE_ROLE_FAIL: a group's role disagrees with declared wiring; detail the links code. -/
def TH_LANE_ROLE_FAIL : Code := 0x020C

/-- TH_FETCH_FAIL: image not delivered within its bound. -/
def TH_FETCH_FAIL : Code := 0x020D

/-- TH_SIGNATURE_FAIL: signature chain or a segment digest failed. -/
def TH_SIGNATURE_FAIL : Code := 0x020E

/-- TH_IMAGE_MISMATCH: contract version outside 0x1000:04, or wrong stepping. -/
def TH_IMAGE_MISMATCH : Code := 0x020F

/-- TH_NO_VARIANT: no variant fits the available mask. -/
def TH_NO_VARIANT : Code := 0x0210

/-- TH_CFG_CLOSED: RUN-owned entry written after the window (R84). -/
def TH_CFG_CLOSED : Code := 0x0211

/-- TR_REFUSED: personality request not allowed from this personality or privilege. -/
def TR_REFUSED : Code := 0x0212

/-- TR_BUSY: request during a transition it cannot join (R97). -/
def TR_BUSY : Code := 0x0213

/-- TR_CAP_NOT_CONFIRMED: Overnight entered without coolant confirmation. -/
def TR_CAP_NOT_CONFIRMED : Code := 0x0214

/-- TR_UNSEAL_FAIL: Drive partition check failed at yield. -/
def TR_UNSEAL_FAIL : Code := 0x0215

/-- RS_REGION_TIMEOUT: region restart exceeded 120 ms. -/
def RS_REGION_TIMEOUT : Code := 0x0216

/-- RS_WARM_FAIL: a warm-restart step failed, or 600 ms passed. -/
def RS_WARM_FAIL : Code := 0x0217

/-- TH_BOOT_SRC_RESERVED: BOOT_SRC[1:0] = 0b11. -/
def TH_BOOT_SRC_RESERVED : Code := 0x0218

/-- TH_ENTRY_FAIL: step 12 failed; detail 1 Lookout A safety firmware did not start, 2 Lookout B safety firmware did not start, 3 lane expansion or LOCAL_INIT write failed, 4 the 80 ms bound passed. -/
def TH_ENTRY_FAIL : Code := 0x0219

/-- LD_BAD_MAGIC: MAGIC or HDR_VERSION wrong. -/
def LD_BAD_MAGIC : Code := 0x0301

/-- LD_BAD_HEADER: a header field outside its range or undefined: a count, KIND above 2, a SCHED_DIV byte outside 2 to 4, IMAGE_LENGTH below 8,192, a segment TYPE not listed, HOST_SUPPLIED on a segment other than DRAM_DATA; or a reserved byte of the header, a variant entry or a segment entry nonzero (R124). -/
def LD_BAD_HEADER : Code := 0x0302

/-- LD_KIND_REFUSED: KIND not allowed by USAGE or personality, or LOOKOUT_A_FW and LOOKOUT_B_FW segments not as R124 requires for the KIND. -/
def LD_KIND_REFUSED : Code := 0x0303

/-- LD_CERT_FAIL: certificate unusable: CERT_VERSION not 0x0001, a reserved field nonzero, or VENDOR_SIG failing against the root key. -/
def LD_CERT_FAIL : Code := 0x0304

/-- LD_SIG_FAIL: SIGNATURE fails against PUBKEY. -/
def LD_SIG_FAIL : Code := 0x0305

/-- LD_DIGEST_FAIL: segment digest differs, DETAIL the segment index; or, at a chip warm restart or an unseal, the kept header no longer matches the header digest recorded at step 10, DETAIL segment 0xFF (R127). -/
def LD_DIGEST_FAIL : Code := 0x0306

/-- LD_SEGMENT_BOUNDS: segment outside IMAGE_LENGTH, overlapping, or loading outside its partition. -/
def LD_SEGMENT_BOUNDS : Code := 0x0307

/-- LD_LANE_ENCODING: bad record, or stream not expanding to STREAM_LENGTH; DETAIL core. -/
def LD_LANE_ENCODING : Code := 0x0308

/-- LD_ILLEGAL_FIELD: R105 or R125 field check failed; DETAIL core and address. -/
def LD_ILLEGAL_FIELD : Code := 0x0309

/-- LD_TARGET_RANGE: branch, loop end, entry or restart entry out of range. -/
def LD_TARGET_RANGE : Code := 0x030A

/-- LD_UNUSED_LANE: nonzero directory length for a core outside CORE_MASK (R125). -/
def LD_UNUSED_LANE : Code := 0x030B

/-- LD_UPLOAD_ORDER: descriptor IMAGE_OFFSET not the expected offset, or running into bytes not awaited from the host (R126). -/
def LD_UPLOAD_ORDER : Code := 0x030C

/-- LD_VARIANT_TABLE: empty mask, a segment index not of the right TYPE, or a FUNCTIONS bit set for an undeclared function (R128). -/
def LD_VARIANT_TABLE : Code := 0x030D

/-- LD_TARGET_MISMATCH: contract version or stepping (R103). -/
def LD_TARGET_MISMATCH : Code := 0x030E

/-- PG_NOC_MISMATCH: R120. -/
def PG_NOC_MISMATCH : Code := 0x0310

/-- PG_NOC_COLLISION: two flits at one core in one bundle. -/
def PG_NOC_COLLISION : Code := 0x0311

/-- PG_TEST_WINDOW_CONFLICT: nonempty lane word in a test window. -/
def PG_TEST_WINDOW_CONFLICT : Code := 0x0312

/-- PG_LOOP_FAULT: fifth loop level, or inner end beyond outer end. -/
def PG_LOOP_FAULT : Code := 0x0313

/-- PG_END_OF_STREAM: dispatch past the last address. -/
def PG_END_OF_STREAM : Code := 0x0314

/-- PG_HALT: HALT issued. -/
def PG_HALT : Code := 0x0315

/-- PG_COUNTER_WARN: counter reached 2^47. -/
def PG_COUNTER_WARN : Code := 0x0316

/-- PG_COUNTER_SATURATED: counter saturated. -/
def PG_COUNTER_SATURATED : Code := 0x0317

/-- PG_FN_NOT_PLACED: function absent from the chosen variant. -/
def PG_FN_NOT_PLACED : Code := 0x0318

/-- PG_HOLD_TIMEOUT: hold beyond HOLD_LIMIT_US. -/
def PG_HOLD_TIMEOUT : Code := 0x0319

/-- PG_APPLY_LATE: 8,000,000 bundles without an apply mark while a write is staged. -/
def PG_APPLY_LATE : Code := 0x031A

/-- SEM_UNDERFLOW: a SUB would take a semaphore below zero. -/
def SEM_UNDERFLOW : Code := 0x0401

/-- SEM_OVERFLOW: an ADD would take a semaphore past 65,535. -/
def SEM_OVERFLOW : Code := 0x0402

/-- SEM_BARRIER_UNSET: BAR_ARRIVE or BAR_WAIT with P_b 0. -/
def SEM_BARRIER_UNSET : Code := 0x0403

/-- POISON_CONSUMED: TE, VE or SE read a poisoned granule, or the DE read a poisoned descriptor (R22). -/
def POISON_CONSUMED : Code := 0x0404

/-- DE_READ_ERROR: read transaction returned an error response. -/
def DE_READ_ERROR : Code := 0x0405

/-- DE_WRITE_ERROR: write transaction returned an error response. -/
def DE_WRITE_ERROR : Code := 0x0406

/-- DE_ACK_TIMEOUT: write not acknowledged within ACK_TIMEOUT_US. -/
def DE_ACK_TIMEOUT : Code := 0x0407

/-- OPERAND_INVALID: operand out of range at run time: odd TE granule, K_STEPS 0, K not matching the im2col record, an im2col record breaking Table 5-5, an operand record breaking Table 6-5 (R160), range past local memory, unaligned LD32 or ST32. -/
def OPERAND_INVALID : Code := 0x0408

/-- LM_ECC_CORRECTED: correctable local-memory error. -/
def LM_ECC_CORRECTED : Code := 0x0409

/-- LM_ECC_POISONED: uncorrectable local-memory word. -/
def LM_ECC_POISONED : Code := 0x040A

/-- DESC_INVALID: R140. -/
def DESC_INVALID : Code := 0x040B

/-- INBOUND_DROP: R152. -/
def INBOUND_DROP : Code := 0x040C

/-- SPARSE_META_INVALID: 2:4 nibble with first position not below second (R163). -/
def SPARSE_META_INVALID : Code := 0x0501

/-- ARITH_NAN: NaN written to an accumulator, a VE result or a block scale. -/
def ARITH_NAN : Code := 0x0502

/-- ARITH_INF: infinity written to an accumulator or VE result, or to an MX or NK block scale from an infinite input. -/
def ARITH_INF : Code := 0x0503

/-- ARITH_SATURATED: conversion saturated an element (Table 6-7). -/
def ARITH_SATURATED : Code := 0x0504

/-- ARITH_SCALE_INVALID: input block, channel or tile scale unusable (R166). -/
def ARITH_SCALE_INVALID : Code := 0x0505

/-- WALK_DESC_INVALID: walk descriptor breaks R190. -/
def WALK_DESC_INVALID : Code := 0x0601

/-- ATTN_RECORD_INVALID: R197. -/
def ATTN_RECORD_INVALID : Code := 0x0602

/-- TREE_INVALID: parent vector or ACCEPT record invalid. -/
def TREE_INVALID : Code := 0x0603

/-- PAGE_MISSING: a READ walk delivered a RECOMPUTE frame. -/
def PAGE_MISSING : Code := 0x0604

/-- WALK_RETRIED: a READ walk saw GEN odd or changed. -/
def WALK_RETRIED : Code := 0x0605

/-- WALK_CONFLICT: nine attempts without a consistent read. -/
def WALK_CONFLICT : Code := 0x0606

/-- HAMPER_NO_SLOT: free ring empty at a pop. -/
def HAMPER_NO_SLOT : Code := 0x0607

/-- APPEND_REFUSED: position, busy, format or sequence state check failed. -/
def APPEND_REFUSED : Code := 0x0608

/-- KV_DATA_INVALID: NaN or signed block scale, or a tile scale not a positive power of two, in a run. -/
def KV_DATA_INVALID : Code := 0x0609

/-- KV_RESCALE_INEXACT: R194 division inexact. -/
def KV_RESCALE_INEXACT : Code := 0x060A

/-- CONTEXT_INCOMPLETE: FINISH wrote NaN rows. -/
def CONTEXT_INCOMPLETE : Code := 0x060B

/-- SEQ_PREEMPTED: R211. -/
def SEQ_PREEMPTED : Code := 0x060C

/-- HAMPER_CONFIG_INVALID: geometry or placement breaks R179 to R184 or R214. -/
def HAMPER_CONFIG_INVALID : Code := 0x060D

/-- REFILL_SKIPPED: REFILL met a usable page. -/
def REFILL_SKIPPED : Code := 0x060E

/-- HAMPER_NOT_ON: walk while the Hamper is OFF or STARTING. -/
def HAMPER_NOT_ON : Code := 0x060F

/-- DRAM_ECC_CORRECTED: symbol corrected on read. -/
def DRAM_ECC_CORRECTED : Code := 0x0701

/-- DRAM_ECC_UNCORRECTABLE: uncorrectable line, or partial write to a poisoned line. -/
def DRAM_ECC_UNCORRECTABLE : Code := 0x0702

/-- DRAM_CA_RETRIED: parity error, retry succeeded. -/
def DRAM_CA_RETRIED : Code := 0x0703

/-- DRAM_CA_FAILED: retry failed. -/
def DRAM_CA_FAILED : Code := 0x0704

/-- MEM_UNMAPPED: R218. -/
def MEM_UNMAPPED : Code := 0x0705

/-- MEM_SEALED: access to the sealed Drive partition. -/
def MEM_SEALED : Code := 0x0706

/-- MEM_LOCKED_UNBACKED: locked-window offset not backed (R225). -/
def MEM_LOCKED_UNBACKED : Code := 0x0707

/-- DRAM_ROW_DISTURB: threshold reached (R238). -/
def DRAM_ROW_DISTURB : Code := 0x0708

/-- FC_ECC_CORRECTED: floor-cache word corrected. -/
def FC_ECC_CORRECTED : Code := 0x0709

/-- FC_ECC_REFETCHED: uncorrectable CACHED line. -/
def FC_ECC_REFETCHED : Code := 0x070A

/-- FC_LOCKED_UNCORRECTABLE: uncorrectable word in a locked way. -/
def FC_LOCKED_UNCORRECTABLE : Code := 0x070B

/-- MEM_POISON_READ: read of a line holding stored poison. -/
def MEM_POISON_READ : Code := 0x070C

/-- MEM_DEADLINE_MISS: RT request served after its deadline. -/
def MEM_DEADLINE_MISS : Code := 0x070D

/-- MEM_CONFIG_INVALID: R223 or R247 check failed; DETAIL0 the check and the port or partition (R247). -/
def MEM_CONFIG_INVALID : Code := 0x070E

/-- DRAM_MAP_SINGULAR: masks not independent (R231). -/
def DRAM_MAP_SINGULAR : Code := 0x070F

/-- DRAM_RETRAIN_FAIL: periodic retraining failed. -/
def DRAM_RETRAIN_FAIL : Code := 0x0710

/-- DRAM_CHANNEL_FAIL: R237, R241 or lost writes (R234). -/
def DRAM_CHANNEL_FAIL : Code := 0x0711

/-- MEM_ATOMIC_INVALID: R227. -/
def MEM_ATOMIC_INVALID : Code := 0x0712

/-- DROPOUT: watchdog window passed (R273). -/
def DROPOUT : Code := 0x0801

/-- STREAM_LOST: DROPOUT_LIMIT reached (R274). -/
def STREAM_LOST : Code := 0x0802

/-- PATTERN_FAIL: R270. -/
def PATTERN_FAIL : Code := 0x0803

/-- SELF_CHECK_FAIL: R271. -/
def SELF_CHECK_FAIL : Code := 0x0804

/-- SAMPLE_TRUNCATED: R269, R272. -/
def SAMPLE_TRUNCATED : Code := 0x0805

/-- PAYLOAD_CRC: R272. -/
def PAYLOAD_CRC : Code := 0x0806

/-- SHAPE_ERROR: R272. -/
def SHAPE_ERROR : Code := 0x0807

/-- STAMP_MISSING: R261. -/
def STAMP_MISSING : Code := 0x0808

/-- STAMP_UNMAPPED: no bank valid (R263). -/
def STAMP_UNMAPPED : Code := 0x0809

/-- STAMP_REGRESS: R265. -/
def STAMP_REGRESS : Code := 0x080A

/-- SOURCE_GAP: R265. -/
def SOURCE_GAP : Code := 0x080B

/-- HDR_ECC_DROP: uncorrectable CSI-2 header. -/
def HDR_ECC_DROP : Code := 0x080C

/-- UNBOUND_DATA: R258. -/
def UNBOUND_DATA : Code := 0x080D

/-- SLOT_CONFIG_INVALID: R259. -/
def SLOT_CONFIG_INVALID : Code := 0x080E

/-- SLOT_NOT_IN_DRIVE: enable written in Overnight. -/
def SLOT_NOT_IN_DRIVE : Code := 0x080F

/-- CAPTURE_SKIPPED: R276. -/
def CAPTURE_SKIPPED : Code := 0x0810

/-- FRAME_DROPPED: Ethernet or CAN frame unusable. -/
def FRAME_DROPPED : Code := 0x0811

/-- SPI_DRDY_OVERRUN: R277. -/
def SPI_DRDY_OVERRUN : Code := 0x0812

/-- CALIB_INVALID: R284. -/
def CALIB_INVALID : Code := 0x0901

/-- FUSION_CONFIG_INVALID: R280. -/
def FUSION_CONFIG_INVALID : Code := 0x0902

/-- DETLIST_INVALID: R296. -/
def DETLIST_INVALID : Code := 0x0903

/-- LATE_FOLDED: late input folded (R305). -/
def LATE_FOLDED : Code := 0x0904

/-- LATE_DROPPED: beyond the window, or log full. -/
def LATE_DROPPED : Code := 0x0905

/-- LATE_NO_TRACK: R306. -/
def LATE_NO_TRACK : Code := 0x0906

/-- EGO_GAP: extrapolation beyond EGO_EXTRAP_MAX_NS. -/
def EGO_GAP : Code := 0x0907

/-- EGO_HISTORY_EXPIRED: τ older than the ego history, or IMU not above E. -/
def EGO_HISTORY_EXPIRED : Code := 0x0908

/-- WHEEL_DISCARDED: R287. -/
def WHEEL_DISCARDED : Code := 0x0909

/-- TRACK_STORE_FULL: R304. -/
def TRACK_STORE_FULL : Code := 0x090A

/-- TRACK_DISPUTED: R307. -/
def TRACK_DISPUTED : Code := 0x090B

/-- INSTANT_GUARD_CLOSED: R292. -/
def INSTANT_GUARD_CLOSED : Code := 0x090C

/-- EGO_LOST: R292. -/
def EGO_LOST : Code := 0x090D

/-- INPUT_INVALID_COASTED: list with INVALID. -/
def INPUT_INVALID_COASTED : Code := 0x090E

/-- PROJECTION_DROPPED: R298. -/
def PROJECTION_DROPPED : Code := 0x090F

/-- FUSION_NOT_ON: job while OFF or STARTING. -/
def FUSION_NOT_ON : Code := 0x0910

/-- INSTANT_EXPIRED: R295. -/
def INSTANT_EXPIRED : Code := 0x0911

/-- FUSION_NOT_IN_DRIVE: enable written in Overnight. -/
def FUSION_NOT_IN_DRIVE : Code := 0x0912

/-- OUT_RING_SKIPPED: R310. -/
def OUT_RING_SKIPPED : Code := 0x0913

/-- PLAN_NO_PATH: no lattice candidate is clear. -/
def PLAN_NO_PATH : Code := 0x0A01

/-- PLAN_TIMEOUT: no clear candidate found within the planning cycle. -/
def PLAN_TIMEOUT : Code := 0x0A02

/-- PLAN_STALE_REJECT: a candidate failed the final check against the newest completed SDF epoch. -/
def PLAN_STALE_REJECT : Code := 0x0A03

/-- PLAN_CONFIG_INVALID: R316. -/
def PLAN_CONFIG_INVALID : Code := 0x0A04

/-- LATTICE_INVALID: R330. -/
def LATTICE_INVALID : Code := 0x0A05

/-- OCC_INPUT_INVALID: R320. -/
def OCC_INPUT_INVALID : Code := 0x0A06

/-- BUILD_STALE: R324. -/
def BUILD_STALE : Code := 0x0A07

/-- PLAN_CYCLE_MISMATCH: R335, R336, R339. -/
def PLAN_CYCLE_MISMATCH : Code := 0x0A08

/-- SCORES_IGNORED: R336. -/
def SCORES_IGNORED : Code := 0x0A09

/-- PLAN_NO_EPOCH: R335, R338. -/
def PLAN_NO_EPOCH : Code := 0x0A0A

/-- PLAN_SDF_STALE: R335. -/
def PLAN_SDF_STALE : Code := 0x0A0B

/-- PLAN_NOT_ON: R344. -/
def PLAN_NOT_ON : Code := 0x0A0C

/-- PLAN_NOT_IN_DRIVE: R315. -/
def PLAN_NOT_IN_DRIVE : Code := 0x0A0D

/-- OUT_FRAME_DROPPED: R341. -/
def OUT_FRAME_DROPPED : Code := 0x0A0E

/-- PLAN_OUT_RING_SKIPPED: R341. -/
def PLAN_OUT_RING_SKIPPED : Code := 0x0A0F

/-- LATTICE_UPLOAD_ORDER: R329. -/
def LATTICE_UPLOAD_ORDER : Code := 0x0A10

/-- PLAN_CYCLE_PREEMPTED: R332. -/
def PLAN_CYCLE_PREEMPTED : Code := 0x0A11

/-- REPLAY_MISMATCH: R360. -/
def REPLAY_MISMATCH : Code := 0x0B01

/-- REPLAY_TRANSIENT: slice A passed after a mismatch. -/
def REPLAY_TRANSIENT : Code := 0x0B02

/-- CORE_QUARANTINED: R369 or R368. -/
def CORE_QUARANTINED : Code := 0x0B03

/-- SELFTEST_FAIL: a slice failed; DETAIL0 slice. -/
def SELFTEST_FAIL : Code := 0x0B04

/-- COMPARATOR_DISAGREE: R364. -/
def COMPARATOR_DISAGREE : Code := 0x0B05

/-- SLICE_DEFERRED: R366. -/
def SLICE_DEFERRED : Code := 0x0B06

/-- STAGE_SHED: R372. -/
def STAGE_SHED : Code := 0x0B07

/-- TEST_OVERDUE: R373. -/
def TEST_OVERDUE : Code := 0x0B08

/-- WD_EARLY: R374. -/
def WD_EARLY : Code := 0x0B09

/-- WD_LATE: R374. -/
def WD_LATE : Code := 0x0B0A

/-- PEER_LOST: R351. -/
def PEER_LOST : Code := 0x0B0B

/-- ISLAND_SELF_FAULT: lockstep compare failed. -/
def ISLAND_SELF_FAULT : Code := 0x0B0C

/-- SAFETY_FN_DOWN: R353. -/
def SAFETY_FN_DOWN : Code := 0x0B0D

/-- FALLBACK_STREAM: streaming began; DETAIL0 REASON. -/
def FALLBACK_STREAM : Code := 0x0B0E

/-- FALLBACK_HORIZON_EXPIRED: R379. -/
def FALLBACK_HORIZON_EXPIRED : Code := 0x0B0F

/-- FALLBACK_RECORD_INVALID: R377. -/
def FALLBACK_RECORD_INVALID : Code := 0x0B10

/-- SAFETY_CONFIG_INVALID: a safety entry check failed when RUN entered STARTING; DETAIL0 the entry. -/
def SAFETY_CONFIG_INVALID : Code := 0x0B11

/-- OUTPUT_SUBSTITUTED: R380. -/
def OUTPUT_SUBSTITUTED : Code := 0x0B12

/-- LOOKOUT_MEM_ERROR: R355. -/
def LOOKOUT_MEM_ERROR : Code := 0x0B13

/-- APP_DEMAND: R354. -/
def APP_DEMAND : Code := 0x0B14

/-- SENSOR_ALARM: ingest or fusion alarm; DETAIL0 its code. -/
def SENSOR_ALARM : Code := 0x0B15

/-- JOB_CONFIG_INVALID: R402 check failed; DETAIL0 the entry. -/
def JOB_CONFIG_INVALID : Code := 0x0C01

/-- ADMIT_REFUSED_POLICY: disposition 3. -/
def ADMIT_REFUSED_POLICY : Code := 0x0C02

/-- ADMIT_REFUSED_CAPACITY: disposition 2. -/
def ADMIT_REFUSED_CAPACITY : Code := 0x0C03

/-- STEP_RECORD_INVALID: R405. -/
def STEP_RECORD_INVALID : Code := 0x0C04

/-- OUT_OR_CKPT_NO_ROOM: R411, R414. -/
def OUT_OR_CKPT_NO_ROOM : Code := 0x0C05

/-- STEP_GAP: R414. -/
def STEP_GAP : Code := 0x0C06

/-- CKPT_ACK_LATE: R415. -/
def CKPT_ACK_LATE : Code := 0x0C07

/-- SPOT_UNATTRIBUTED: R410. -/
def SPOT_UNATTRIBUTED : Code := 0x0C08

/-- YIELD_FORCED: R417 row 2. -/
def YIELD_FORCED : Code := 0x0C09

/-- CKPT_FINAL_LOST: R416, R417 row 4. -/
def CKPT_FINAL_LOST : Code := 0x0C0A

/-- JOB_NOT_IN_OVERNIGHT: R402. -/
def JOB_NOT_IN_OVERNIGHT : Code := 0x0C0B

/-- UPLOAD_WHILE_RUNNING: R399. -/
def UPLOAD_WHILE_RUNNING : Code := 0x0C0C

/-- ATTEST_BUSY: R401. -/
def ATTEST_BUSY : Code := 0x0C0D

/-- LINK_TRAIN_TIMEOUT: port not ON within LINK_TRAIN_MS. -/
def LINK_TRAIN_TIMEOUT : Code := 0x0D01

/-- LINK_PEER_MISMATCH: R425. -/
def LINK_PEER_MISMATCH : Code := 0x0D02

/-- LINK_CRC_RETRY: R433. -/
def LINK_CRC_RETRY : Code := 0x0D03

/-- LINK_RETRAINED: R434. -/
def LINK_RETRAINED : Code := 0x0D04

/-- LINK_FAILED: full retrain failed. -/
def LINK_FAILED : Code := 0x0D05

/-- LINK_CREDIT_OVERRUN: Table 14-8. -/
def LINK_CREDIT_OVERRUN : Code := 0x0D06

/-- LINK_UNREACHABLE: R430. -/
def LINK_UNREACHABLE : Code := 0x0D07

/-- EPOCH_STALE: R437. -/
def EPOCH_STALE : Code := 0x0D08

/-- CHAN_REFUSED: R437. -/
def CHAN_REFUSED : Code := 0x0D09

/-- EPOCH_REUSE_REFUSED: R439. -/
def EPOCH_REUSE_REFUSED : Code := 0x0D0A

/-- LINK_CONFIG_INVALID: R436. -/
def LINK_CONFIG_INVALID : Code := 0x0D0B

/-- LANE_WIRING_MISMATCH: R422. -/
def LANE_WIRING_MISMATCH : Code := 0x0D0C

/-- LANE_STRUCTURE: R422. -/
def LANE_STRUCTURE : Code := 0x0D0D

/-- GUEST_SIDEBAND_VIOLATION: Table 14-10. -/
def GUEST_SIDEBAND_VIOLATION : Code := 0x0D0E

/-- GUEST_FENCED: R449. -/
def GUEST_FENCED : Code := 0x0D0F

/-- GUEST_MALFORMED: Table 14-10. -/
def GUEST_MALFORMED : Code := 0x0D10

/-- GUEST_CREDIT_OVERRUN: Table 14-10. -/
def GUEST_CREDIT_OVERRUN : Code := 0x0D11

/-- INBOUND_WINDOW_REFUSED: R428, R443. -/
def INBOUND_WINDOW_REFUSED : Code := 0x0D12

/-- GUEST_CRC_RETRY: R444. -/
def GUEST_CRC_RETRY : Code := 0x0D13

/-- GUEST_PARAM_REFUSED: R441. -/
def GUEST_PARAM_REFUSED : Code := 0x0D14

/-- LINK_MALFORMED: Table 14-8. -/
def LINK_MALFORMED : Code := 0x0D15

/-- GUEST_NOT_IN_DRIVE: R442. -/
def GUEST_NOT_IN_DRIVE : Code := 0x0D16

/-- RECEIVER_RESTARTING: R437. -/
def RECEIVER_RESTARTING : Code := 0x0D17

/-- TRANSFER_ABANDONED: R438. -/
def TRANSFER_ABANDONED : Code := 0x0D18

/-- GUEST_UNFENCE_REFUSED: R449. -/
def GUEST_UNFENCE_REFUSED : Code := 0x0D19

/-- GUEST_ABSENT: enable written 1 on an empty guest site (R442). -/
def GUEST_ABSENT : Code := 0x0D1A

/-- CAP_STEP_DOWN: R465 step. -/
def CAP_STEP_DOWN : Code := 0x0E01

/-- CAP_UNREACHABLE: R466. -/
def CAP_UNREACHABLE : Code := 0x0E02

/-- THERMAL_SOFT: soft step (Table 15-7). -/
def THERMAL_SOFT : Code := 0x0E03

/-- THERMAL_HW: hardware throttle. -/
def THERMAL_HW : Code := 0x0E04

/-- THERMAL_TRIP: trip. -/
def THERMAL_TRIP : Code := 0x0E05

/-- OC_ALERT: R463. -/
def OC_ALERT : Code := 0x0E06

/-- VR_NO_RESPONSE: Table 15-17. -/
def VR_NO_RESPONSE : Code := 0x0E07

/-- VR_FAULT: Table 15-17. -/
def VR_FAULT : Code := 0x0E08

/-- COOLANT_STALE: R467. -/
def COOLANT_STALE : Code := 0x0E09

/-- COOLANT_NOT_CONFIRMED: R468. -/
def COOLANT_NOT_CONFIRMED : Code := 0x0E0A

/-- AGE_GUARDBAND: R476. -/
def AGE_GUARDBAND : Code := 0x0E0B

/-- AGE_DIV2_WITHDRAWN: R476. -/
def AGE_DIV2_WITHDRAWN : Code := 0x0E0C

/-- PT_CONFIG_INVALID: R457. -/
def PT_CONFIG_INVALID : Code := 0x0E0D

/-- AGE_RECORD_UNUSED: R477. -/
def AGE_RECORD_UNUSED : Code := 0x0E0E

/-- TEMP_SENSOR_FAULT: R469. -/
def TEMP_SENSOR_FAULT : Code := 0x0E0F

end Sys2Proof.Machine.St
end

