-- ==== Sys2Proof/Machine/Regs.lean ====
section
/-!
DEFINITION. The names of the dictionary's entries: each is the key under which the dictionary map holds the entry's
value. The key of index:subindex is index * 256 + subindex, and the names are the manual's (where two tables share a
name, the table's unit is put before it: CORE_, STACK_, PORT_, SLOT_, CLASS_, CAL_, LINK_, LANE_, FUNC_).
-/

namespace Sys2Proof.Machine

/-- The dictionary map's key of index:subindex (R41). -/
def key (index subindex : Nat) : Nat := index * 256 + subindex

namespace Reg

/-- DEVICE_TYPE (0x1000:00). -/
def DEVICE_TYPE : Nat := key 0x1000 0x00

/-- STEPPING (0x1000:01). -/
def STEPPING : Nat := key 0x1000 0x01

/-- ORDERING_CODE (0x1000:02). -/
def ORDERING_CODE : Nat := key 0x1000 0x02

/-- VENDOR_NAME (0x1000:03). -/
def VENDOR_NAME : Nat := key 0x1000 0x03

/-- CONTRACT_RANGE (0x1000:04). -/
def CONTRACT_RANGE : Nat := key 0x1000 0x04

/-- UNIQUE_ID (0x1001:00). -/
def UNIQUE_ID : Nat := key 0x1001 0x00

/-- IDENTITY_PUBKEY (0x1001:01). -/
def IDENTITY_PUBKEY : Nat := key 0x1001 0x01

/-- WARDEN_ROM_VERSION (0x1002:00). -/
def WARDEN_ROM_VERSION : Nat := key 0x1002 0x00

/-- LOOKOUT_A_FW_VERSION (0x1002:01). -/
def LOOKOUT_A_FW_VERSION : Nat := key 0x1002 0x01

/-- LOOKOUT_B_FW_VERSION (0x1002:02). -/
def LOOKOUT_B_FW_VERSION : Nat := key 0x1002 0x02

/-- LOOKOUT_B_ROM_VERSION (0x1002:03). -/
def LOOKOUT_B_ROM_VERSION : Nat := key 0x1002 0x03

/-- DICT_LAYOUT (0x1003:00). -/
def DICT_LAYOUT : Nat := key 0x1003 0x00

/-- FN_ENABLE (0x1100:00). -/
def FN_ENABLE : Nat := key 0x1100 0x00

/-- FN_STATE (0x1100:01). -/
def FN_STATE : Nat := key 0x1100 0x01

/-- SESSION_TIMEOUT_MS (0x1100:02). -/
def SESSION_TIMEOUT_MS : Nat := key 0x1100 0x02

/-- ETHERTYPE (0x1100:03). -/
def ETHERTYPE : Nat := key 0x1100 0x03

/-- CANXL_SDT (0x1100:04). -/
def CANXL_SDT : Nat := key 0x1100 0x04

/-- CAN_MODE (0x1101:00, 0x1102:00). -/
def CAN_MODE (n : Nat) : Nat := key (0x1101 + n) 0x00

/-- NOMINAL_KBPS (0x1101:01, 0x1102:01). -/
def NOMINAL_KBPS (n : Nat) : Nat := key (0x1101 + n) 0x01

/-- DATA_KBPS (0x1101:02, 0x1102:02). -/
def DATA_KBPS (n : Nat) : Nat := key (0x1101 + n) 0x02

/-- PLCA_NODE_ID (0x1103:00, 0x1104:00). -/
def PLCA_NODE_ID (n : Nat) : Nat := key (0x1103 + n) 0x00

/-- PLCA_NODE_COUNT (0x1103:01, 0x1104:01). -/
def PLCA_NODE_COUNT (n : Nat) : Nat := key (0x1103 + n) 0x01

/-- MAC_ADDRESS (0x1103:02, 0x1104:02). -/
def MAC_ADDRESS (n : Nat) : Nat := key (0x1103 + n) 0x02

/-- NODE_CFG (0x1108:4n+0), for node n. -/
def NODE_CFG (n : Nat) : Nat := key 0x1108 (4 * n + 0)

/-- NODE_RESP_ID (0x1108:4n+1), for node n. -/
def NODE_RESP_ID (n : Nat) : Nat := key 0x1108 (4 * n + 1)

/-- NODE_PEER_MAC (0x1108:4n+2), for node n. -/
def NODE_PEER_MAC (n : Nat) : Nat := key 0x1108 (4 * n + 2)

/-- MBX_CTL (0x1110:00). -/
def MBX_CTL : Nat := key 0x1110 0x00

/-- MBX_OFFSET (0x1110:01). -/
def MBX_OFFSET : Nat := key 0x1110 0x01

/-- MBX_STAT (0x1110:02). -/
def MBX_STAT : Nat := key 0x1110 0x02

/-- MBX_LEN (0x1110:03). -/
def MBX_LEN : Nat := key 0x1110 0x03

/-- MBX_GEN (0x1110:04). -/
def MBX_GEN : Nat := key 0x1110 0x04

/-- MBX_DATA (0x1110:10–0x1110:FF). -/
def MBX_DATA (i : Nat) : Nat := key 0x1110 (0x10 + i)

/-- EXPERT_ENABLE (0x1F00:01). -/
def EXPERT_ENABLE : Nat := key 0x1F00 0x01

/-- PERSONALITY_NOW (0x1F00:02). -/
def PERSONALITY_NOW : Nat := key 0x1F00 0x02

/-- MY_LEVEL (0x1F00:03). -/
def MY_LEVEL : Nat := key 0x1F00 0x03

/-- LAST_ACCESS_STATUS (0x1F00:04). -/
def LAST_ACCESS_STATUS : Nat := key 0x1F00 0x04

/-- MGMT_PERIODS (0xF000:00). -/
def MGMT_PERIODS : Nat := key 0xF000 0x00

/-- MGMT_SKIPPED (0xF000:01). -/
def MGMT_SKIPPED : Nat := key 0xF000 0x01

/-- PRIV_DROPS (0xF000:02). -/
def PRIV_DROPS : Nat := key 0xF000 0x02

/-- ABORTS_SENT (0xF000:03). -/
def ABORTS_SENT : Nat := key 0xF000 0x03

/-- MALFORMED_FRAMES (0xF000:04). -/
def MALFORMED_FRAMES : Nat := key 0xF000 0x04

/-- CROSS_TIMEOUTS (0xF000:05). -/
def CROSS_TIMEOUTS : Nat := key 0xF000 0x05

/-- UNKNOWN_NODE_FRAMES (0xF000:06). -/
def UNKNOWN_NODE_FRAMES : Nat := key 0xF000 0x06

/-- CPL_DISCARDED (0xF000:07). -/
def CPL_DISCARDED : Nat := key 0xF000 0x07

/-- DOORBELL_REJECTS (0xF000:08). -/
def DOORBELL_REJECTS : Nat := key 0xF000 0x08

/-- LOG_LOST (0xF000:09). -/
def LOG_LOST : Nat := key 0xF000 0x09

/-- USB4_RECOVERIES (0xF000:0A). -/
def USB4_RECOVERIES : Nat := key 0xF000 0x0A

/-- LOG_CTL (0xF100:00). -/
def LOG_CTL : Nat := key 0xF100 0x00

/-- LOG_STAT (0xF100:01). -/
def LOG_STAT : Nat := key 0xF100 0x01

/-- LOG_OLDEST (0xF100:02). -/
def LOG_OLDEST : Nat := key 0xF100 0x02

/-- LOG_NEWEST (0xF100:03). -/
def LOG_NEWEST : Nat := key 0xF100 0x03

/-- LOG_WINDOW (0xF100:10–0xF100:8F). -/
def LOG_WINDOW (i : Nat) : Nat := key 0xF100 (0x10 + i)

/-- TRAILHEAD_STEP (0x2000:00). -/
def TRAILHEAD_STEP : Nat := key 0x2000 0x00

/-- TRAILHEAD_STATUS (0x2000:01). -/
def TRAILHEAD_STATUS : Nat := key 0x2000 0x01

/-- TRAILHEAD_KIND (0x2000:02). -/
def TRAILHEAD_KIND : Nat := key 0x2000 0x02

/-- BOOT_SRC_SAMPLED (0x2000:03). -/
def BOOT_SRC_SAMPLED : Nat := key 0x2000 0x03

/-- BOOT_SRC_USED (0x2000:04). -/
def BOOT_SRC_USED : Nat := key 0x2000 0x04

/-- CFG_GO (0x2000:05). -/
def CFG_GO : Nat := key 0x2000 0x05

/-- STEP_TIMES (0x2000:06). -/
def STEP_TIMES : Nat := key 0x2000 0x06

/-- RESTART_EPOCH (0x2000:07). -/
def RESTART_EPOCH : Nat := key 0x2000 0x07

/-- WARM_RESTARTS (0x2000:08). -/
def WARM_RESTARTS : Nat := key 0x2000 0x08

/-- REGION_RESTARTS_A–D (0x2000:09–0x2000:0C). -/
def REGION_RESTARTS (i : Nat) : Nat := key 0x2000 (0x09 + i)

/-- RUN_STATE (0x2001:00). -/
def RUN_STATE : Nat := key 0x2001 0x00

/-- RUN_DRAIN_LIMIT_US (0x2001:01). -/
def RUN_DRAIN_LIMIT_US : Nat := key 0x2001 0x01

/-- RUN_RETRY (0x2001:02). -/
def RUN_RETRY : Nat := key 0x2001 0x02

/-- PERSONALITY_REQ (0x2002:00). -/
def PERSONALITY_REQ : Nat := key 0x2002 0x00

/-- TRANSITION (0x2002:01). -/
def TRANSITION : Nat := key 0x2002 0x01

/-- BOOT_PERSONALITY (0x2002:02). -/
def BOOT_PERSONALITY : Nat := key 0x2002 0x02

/-- LAST_TRANSITION_US (0x2002:03). -/
def LAST_TRANSITION_US : Nat := key 0x2002 0x03

/-- LAST_TRANSITION_STATUS (0x2002:04). -/
def LAST_TRANSITION_STATUS : Nat := key 0x2002 0x04

/-- REGION_MODE_A–D (0x2003:00–0x2003:03). -/
def REGION_MODE (i : Nat) : Nat := key 0x2003 (0x00 + i)

/-- REGION_MODE_ACTIVE (0x2003:04). -/
def REGION_MODE_ACTIVE : Nat := key 0x2003 0x04

/-- AVAIL_CORE_MASK (0x2004:00). -/
def AVAIL_CORE_MASK : Nat := key 0x2004 0x00

/-- VARIANT_IN_USE (0x2004:01). -/
def VARIANT_IN_USE : Nat := key 0x2004 0x01

/-- TRAIN_RECORD (0x2005:00). -/
def TRAIN_RECORD : Nat := key 0x2005 0x00

/-- TRAIN_RECORD_USE (0x2005:01). -/
def TRAIN_RECORD_USE : Nat := key 0x2005 0x01

/-- CFG_WINDOW_MS (0x2006:00). -/
def CFG_WINDOW_MS : Nat := key 0x2006 0x00

/-- SNAPSHOT_GEN (0x2006:01). -/
def SNAPSHOT_GEN : Nat := key 0x2006 0x01

/-- ROOT_PLL_LOCKED (0x2100:00). -/
def ROOT_PLL_LOCKED : Nat := key 0x2100 0x00

/-- PLL_LOCK_LOSSES (0x2100:01). -/
def PLL_LOCK_LOSSES : Nat := key 0x2100 0x01

/-- ARITH_DIV_DRIVE_A–D (0x2101:00–0x2101:03). -/
def ARITH_DIV_DRIVE (i : Nat) : Nat := key 0x2101 (0x00 + i)

/-- ARITH_DIV_OVERNIGHT_A–D (0x2101:04–0x2101:07). -/
def ARITH_DIV_OVERNIGHT (i : Nat) : Nat := key 0x2101 (0x04 + i)

/-- ARITH_DIV_NOW_A–D (0x2102:00–0x2102:03). -/
def ARITH_DIV_NOW (i : Nat) : Nat := key 0x2102 (0x00 + i)

/-- ISL_PERIPH_COUNT_A, _B (0x2103:00, 0x2103:01). -/
def ISL_PERIPH_COUNT (i : Nat) : Nat := key 0x2103 (0x00 + i)

/-- ISL_CLOCK_FAULTS_A, _B (0x2103:02, 0x2103:03). -/
def ISL_CLOCK_FAULTS (i : Nat) : Nat := key 0x2103 (0x02 + i)

/-- LOADER_STATUS (0x3001:00). -/
def LOADER_STATUS : Nat := key 0x3001 0x00

/-- LOADER_DETAIL (0x3001:01). -/
def LOADER_DETAIL : Nat := key 0x3001 0x01

/-- IMAGE_KIND (0x3001:02). -/
def IMAGE_KIND : Nat := key 0x3001 0x02

/-- IMAGE_HEADER_DIGEST (0x3001:03). -/
def IMAGE_HEADER_DIGEST : Nat := key 0x3001 0x03

/-- IMAGE_CONTRACT (0x3001:04). -/
def IMAGE_CONTRACT : Nat := key 0x3001 0x04

/-- STREAM_LENGTH_LOADED (0x3001:05). -/
def STREAM_LENGTH_LOADED : Nat := key 0x3001 0x05

/-- SCHED_DIV_LOADED (0x3001:06). -/
def SCHED_DIV_LOADED : Nat := key 0x3001 0x06

/-- CERT_SERIAL (0x3001:07). -/
def CERT_SERIAL : Nat := key 0x3001 0x07

/-- CUSTOMER_ID (0x3001:08). -/
def CUSTOMER_ID : Nat := key 0x3001 0x08

/-- IMAGE_BYTES_RECEIVED (0x3001:09). -/
def IMAGE_BYTES_RECEIVED : Nat := key 0x3001 0x09

/-- BUNDLE_COUNT (0x3002:00). -/
def BUNDLE_COUNT : Nat := key 0x3002 0x00

/-- BUNDLE_COUNT_LO (0x3002:01). -/
def BUNDLE_COUNT_LO : Nat := key 0x3002 0x01

/-- ISSUE_ADDR (0x3002:02). -/
def ISSUE_ADDR : Nat := key 0x3002 0x02

/-- HOLD_CYCLES (0x3002:03). -/
def HOLD_CYCLES : Nat := key 0x3002 0x03

/-- HOLD_EVENTS (0x3002:04). -/
def HOLD_EVENTS : Nat := key 0x3002 0x04

/-- HOLD_CAUSES (0x3002:05). -/
def HOLD_CAUSES : Nat := key 0x3002 0x05

/-- HOLD_CORES (0x3002:06). -/
def HOLD_CORES : Nat := key 0x3002 0x06

/-- HOLD_LIMIT_US (0x3002:07). -/
def HOLD_LIMIT_US : Nat := key 0x3002 0x07

/-- LONGEST_HOLD_CYCLES (0x3002:08). -/
def LONGEST_HOLD_CYCLES : Nat := key 0x3002 0x08

/-- COUNTER_WARN (0x3002:09). -/
def COUNTER_WARN : Nat := key 0x3002 0x09

/-- APPLY_MARKS (0x3002:0A). -/
def APPLY_MARKS : Nat := key 0x3002 0x0A

/-- PREDICATES (0x3003:00). -/
def PREDICATES : Nat := key 0x3003 0x00

/-- BRANCHES_TAKEN (0x3003:01). -/
def BRANCHES_TAKEN : Nat := key 0x3003 0x01

/-- LOOP_DEPTH (0x3003:02). -/
def LOOP_DEPTH : Nat := key 0x3003 0x02

/-- NOC_FAULTS (0x3004:00). -/
def NOC_FAULTS : Nat := key 0x3004 0x00

/-- FLITS_DISCARDED (0x3004:01). -/
def FLITS_DISCARDED : Nat := key 0x3004 0x01

/-- HANDOFF_OCCUPANCY (0x3005:00). -/
def HANDOFF_OCCUPANCY : Nat := key 0x3005 0x00

/-- FN_NAME (0x3010:00–0x302F:00). -/
def FUNC_NAME (n : Nat) : Nat := key (0x3010 + n) 0x00

/-- FN_PLACED (0x3010:01–0x302F:01). -/
def FUNC_PLACED (n : Nat) : Nat := key (0x3010 + n) 0x01

/-- FN_STATE (0x3010:02–0x302F:02). -/
def FUNC_STATE (n : Nat) : Nat := key (0x3010 + n) 0x02

/-- FN_STATUS (0x3010:03–0x302F:03). -/
def FUNC_STATUS (n : Nat) : Nat := key (0x3010 + n) 0x03

/-- CORE_STATE (0x3400+n:00). -/
def CORE_STATE (n : Nat) : Nat := key (0x3400 + n) 0x00

/-- FAULT_CODE (0x3400+n:01). -/
def CORE_FAULT_CODE (n : Nat) : Nat := key (0x3400 + n) 0x01

/-- FAULT_BUNDLE (0x3400+n:02). -/
def CORE_FAULT_BUNDLE (n : Nat) : Nat := key (0x3400 + n) 0x02

/-- FAULT_ADDR (0x3400+n:03). -/
def CORE_FAULT_ADDR (n : Nat) : Nat := key (0x3400 + n) 0x03

/-- FAULT_DETAIL (0x3400+n:04). -/
def CORE_FAULT_DETAIL (n : Nat) : Nat := key (0x3400 + n) 0x04

/-- FAULTS (0x3400+n:05). -/
def CORE_FAULTS (n : Nat) : Nat := key (0x3400 + n) 0x05

/-- ECC_CORRECTED (0x3400+n:06). -/
def CORE_ECC_CORRECTED (n : Nat) : Nat := key (0x3400 + n) 0x06

/-- ECC_POISONED (0x3400+n:07). -/
def CORE_ECC_POISONED (n : Nat) : Nat := key (0x3400 + n) 0x07

/-- STARVE_GRANTS (0x3400+n:08). -/
def CORE_STARVE_GRANTS (n : Nat) : Nat := key (0x3400 + n) 0x08

/-- BANK_WAIT_CYCLES (0x3400+n:09). -/
def CORE_BANK_WAIT_CYCLES (n : Nat) : Nat := key (0x3400 + n) 0x09

/-- QUEUE_HOLDS (0x3400+n:0A). -/
def CORE_QUEUE_HOLDS (n : Nat) : Nat := key (0x3400 + n) 0x0A

/-- CHAN_WEIGHT_0–15 (0x3400+n:10–:1F): index offset n, subindex offset i. -/
def CHAN_WEIGHT (n i : Nat) : Nat := key (0x3400 + n) (0x10 + i)

/-- READS_OUTSTANDING (0x3400+n:20). -/
def CORE_READS_OUTSTANDING (n : Nat) : Nat := key (0x3400 + n) 0x20

/-- READS_PEAK (0x3400+n:21). -/
def CORE_READS_PEAK (n : Nat) : Nat := key (0x3400 + n) 0x21

/-- DE_READ_ERRORS (0x3400+n:22). -/
def CORE_DE_READ_ERRORS (n : Nat) : Nat := key (0x3400 + n) 0x22

/-- ACK_TIMEOUT_US (0x3400+n:23). -/
def CORE_ACK_TIMEOUT_US (n : Nat) : Nat := key (0x3400 + n) 0x23

/-- SEM_SNAPSHOT (0x3400+n:24). -/
def CORE_SEM_SNAPSHOT (n : Nat) : Nat := key (0x3400 + n) 0x24

/-- BARRIER_COUNTS (0x3400+n:25). -/
def CORE_BARRIER_COUNTS (n : Nat) : Nat := key (0x3400 + n) 0x25

/-- EP_BIND_0–2 (0x3400+n:28–:2A): index offset n, subindex offset i. -/
def EP_BIND (n i : Nat) : Nat := key (0x3400 + n) (0x28 + i)

/-- EP_WORLD_WINDOW (0x3400+n:2B). -/
def EP_WORLD_WINDOW (n : Nat) : Nat := key (0x3400 + n) 0x2B

/-- EP_WINDOW_0–2 (0x3400+n:30–:32): index offset n, subindex offset i. -/
def EP_WINDOW (n i : Nat) : Nat := key (0x3400 + n) (0x30 + i)

/-- INBOUND_DROPS (0x3400+n:2C). -/
def CORE_INBOUND_DROPS (n : Nat) : Nat := key (0x3400 + n) 0x2C

/-- FMT_TE_INPUT (0x3800:00). -/
def FMT_TE_INPUT : Nat := key 0x3800 0x00

/-- FMT_DRAIN_OUTPUT (0x3800:01). -/
def FMT_DRAIN_OUTPUT : Nat := key 0x3800 0x01

/-- FMT_VE (0x3800:02). -/
def FMT_VE : Nat := key 0x3800 0x02

/-- STOCHASTIC_ALLOWED (0x3800:03). -/
def STOCHASTIC_ALLOWED : Nat := key 0x3800 0x03

/-- SEED_SOURCE (0x3800:04). -/
def SEED_SOURCE : Nat := key 0x3800 0x04

/-- SEED_GEN (0x3800:05). -/
def SEED_GEN : Nat := key 0x3800 0x05

/-- LFSR_SEED_0–63 (0x3801:00–0x3801:3F). -/
def LFSR_SEED (i : Nat) : Nat := key 0x3801 (0x00 + i)

/-- NAN_RESULTS_0–63 (0x3802:00–0x3802:3F). -/
def NAN_RESULTS (i : Nat) : Nat := key 0x3802 (0x00 + i)

/-- INF_RESULTS_0–63 (0x3803:00–0x3803:3F). -/
def INF_RESULTS (i : Nat) : Nat := key 0x3803 (0x00 + i)

/-- SATURATIONS_0–63 (0x3804:00–0x3804:3F). -/
def SATURATIONS (i : Nat) : Nat := key 0x3804 (0x00 + i)

/-- SCALE_INVALID_0–63 (0x3805:00–0x3805:3F). -/
def SCALE_INVALID (i : Nat) : Nat := key 0x3805 (0x00 + i)

/-- SPARSE_META_FAULTS (0x3806:00). -/
def SPARSE_META_FAULTS : Nat := key 0x3806 0x00

/-- HAMPER_STATE (0x3900:00). -/
def HAMPER_STATE : Nat := key 0x3900 0x00

/-- HAMPER_ENABLE (0x3900:01). -/
def HAMPER_ENABLE : Nat := key 0x3900 0x01

/-- HAMPER_DRAIN_LIMIT_US (0x3900:02). -/
def HAMPER_DRAIN_LIMIT_US : Nat := key 0x3900 0x02

/-- HAMPER_BASE (0x3901:00). -/
def HAMPER_BASE : Nat := key 0x3901 0x00

/-- SLOT_BYTES (0x3901:01). -/
def SLOT_BYTES : Nat := key 0x3901 0x01

/-- SLOT_COUNT (0x3901:02). -/
def SLOT_COUNT : Nat := key 0x3901 0x02

/-- KV_HEADS (0x3901:03). -/
def KV_HEADS : Nat := key 0x3901 0x03

/-- HEAD_DIM (0x3901:04). -/
def HEAD_DIM : Nat := key 0x3901 0x04

/-- LAYERS (0x3901:05). -/
def LAYERS : Nat := key 0x3901 0x05

/-- FORMATS_ALLOWED (0x3901:06). -/
def FORMATS_ALLOWED : Nat := key 0x3901 0x06

/-- MAX_PAGES (0x3901:07). -/
def MAX_PAGES : Nat := key 0x3901 0x07

/-- SEQ_MAX (0x3901:08). -/
def SEQ_MAX : Nat := key 0x3901 0x08

/-- SEQ_TABLE_BASE (0x3901:09). -/
def SEQ_TABLE_BASE : Nat := key 0x3901 0x09

/-- LIST_BASE (0x3901:0A). -/
def LIST_BASE : Nat := key 0x3901 0x0A

/-- FREE_RING_BASE (0x3901:0B). -/
def FREE_RING_BASE : Nat := key 0x3901 0x0B

/-- FREE_RING_ENTRIES (0x3901:0C). -/
def FREE_RING_ENTRIES : Nat := key 0x3901 0x0C

/-- POP_JOURNAL_BASE (0x3901:0D). -/
def POP_JOURNAL_BASE : Nat := key 0x3901 0x0D

/-- FREE_COUNT (0x3902:00). -/
def FREE_COUNT : Nat := key 0x3902 0x00

/-- FREE_LOW_WATER (0x3902:01). -/
def FREE_LOW_WATER : Nat := key 0x3902 0x01

/-- EVICT_PER_PERIOD (0x3902:02). -/
def EVICT_PER_PERIOD : Nat := key 0x3902 0x02

/-- EDIT_BOUND_NS (0x3902:03). -/
def EDIT_BOUND_NS : Nat := key 0x3902 0x03

/-- WALK_ATTEMPTS (0x3902:04). -/
def WALK_ATTEMPTS : Nat := key 0x3902 0x04

/-- WALK_RETRY_CYCLES (0x3902:05). -/
def WALK_RETRY_CYCLES : Nat := key 0x3902 0x05

/-- COLUMNS_EVICTED (0x3903:00). -/
def COLUMNS_EVICTED : Nat := key 0x3903 0x00

/-- SLOTS_EVICTED (0x3903:01). -/
def SLOTS_EVICTED : Nat := key 0x3903 0x01

/-- HAMPER_EVENTS (0x3903:02–0x3903:0B). -/
def HAMPER_EVENTS (i : Nat) : Nat := key 0x3903 (0x02 + i)

/-- AUDIT_SLOTS_RETURNED (0x3903:0C). -/
def AUDIT_SLOTS_RETURNED : Nat := key 0x3903 0x0C

/-- SEQ_SELECT (0x3904:00). -/
def SEQ_SELECT : Nat := key 0x3904 0x00

/-- SEQ_FLAGS (0x3904:01). -/
def SEQ_FLAGS : Nat := key 0x3904 0x01

/-- SEQ_LENGTH (0x3904:02). -/
def SEQ_LENGTH : Nat := key 0x3904 0x02

/-- SEQ_RECOMPUTE_FROM (0x3904:03). -/
def SEQ_RECOMPUTE_FROM : Nat := key 0x3904 0x03

/-- SEQ_SLOTS_HELD (0x3904:04). -/
def SEQ_SLOTS_HELD : Nat := key 0x3904 0x04

/-- ATTN_HEAD_DIMS (0x3905:00). -/
def ATTN_HEAD_DIMS : Nat := key 0x3905 0x00

/-- ATTN_MAX_NODES (0x3905:01). -/
def ATTN_MAX_NODES : Nat := key 0x3905 0x01

/-- FC_MODE (0x4000:00). -/
def FC_MODE : Nat := key 0x4000 0x00

/-- PART_0–7 (0x4001:00–0x4001:07). -/
def PART (i : Nat) : Nat := key 0x4001 (0x00 + i)

/-- FC_HITS (0x4002:00). -/
def FC_HITS : Nat := key 0x4002 0x00

/-- FC_MISSES (0x4002:01). -/
def FC_MISSES : Nat := key 0x4002 0x01

/-- FC_ECC_CORRECTED (0x4002:02). -/
def FC_ECC_CORRECTED : Nat := key 0x4002 0x02

/-- FC_ECC_REFETCHED (0x4002:03). -/
def FC_ECC_REFETCHED : Nat := key 0x4002 0x03

/-- MAP_MASK_0–11 (0x4100:00–0x4100:0B). -/
def MAP_MASK (i : Nat) : Nat := key 0x4100 (0x00 + i)

/-- MAP_IN_USE (0x4100:0C). -/
def MAP_IN_USE : Nat := key 0x4100 0x0C

/-- APERTURE_BASE (0x4102:00). -/
def APERTURE_BASE : Nat := key 0x4102 0x00

/-- ROW_DISTURB_THRESHOLD (0x4103:00). -/
def ROW_DISTURB_THRESHOLD : Nat := key 0x4103 0x00

/-- ROW_THROTTLE_CYCLES (0x4103:01). -/
def ROW_THROTTLE_CYCLES : Nat := key 0x4103 0x01

/-- ROW_THROTTLE_US (0x4103:02). -/
def ROW_THROTTLE_US : Nat := key 0x4103 0x02

/-- SCRUB_STATE (0x4104:00). -/
def SCRUB_STATE : Nat := key 0x4104 0x00

/-- SCRUB_ENABLE (0x4104:01). -/
def SCRUB_ENABLE : Nat := key 0x4104 0x01

/-- SCRUB_PERIOD_H (0x4104:02). -/
def SCRUB_PERIOD_H : Nat := key 0x4104 0x02

/-- SCRUB_DRAIN_LIMIT_US (0x4104:03). -/
def SCRUB_DRAIN_LIMIT_US : Nat := key 0x4104 0x03

/-- SCRUB_PASSES (0x4104:04). -/
def SCRUB_PASSES : Nat := key 0x4104 0x04

/-- DRIVE_PART_BASE (0x4105:00). -/
def DRIVE_PART_BASE : Nat := key 0x4105 0x00

/-- DRIVE_PART_SIZE (0x4105:01). -/
def DRIVE_PART_SIZE : Nat := key 0x4105 0x01

/-- WORK_BASE (0x4105:02). -/
def WORK_BASE : Nat := key 0x4105 0x02

/-- WORK_SIZE (0x4105:03). -/
def WORK_SIZE : Nat := key 0x4105 0x03

/-- DRIVE_SEALED (0x4105:04). -/
def DRIVE_SEALED : Nat := key 0x4105 0x04

/-- ZEROISE_BUSY (0x4105:05). -/
def ZEROISE_BUSY : Nat := key 0x4105 0x05

/-- RETRAIN_PERIOD_MS (0x4106:00). -/
def RETRAIN_PERIOD_MS : Nat := key 0x4106 0x00

/-- RETRAIN_TEMP_DELTA_C (0x4106:01). -/
def RETRAIN_TEMP_DELTA_C : Nat := key 0x4106 0x01

/-- TRAIN_STATE_s (0x4110+s:00). -/
def STACK_TRAIN_STATE (n : Nat) : Nat := key (0x4110 + n) 0x00

/-- STACK_TEMP_C (0x4110+s:01). -/
def STACK_TEMP_C (n : Nat) : Nat := key (0x4110 + n) 0x01

/-- ECC_CORRECTED (0x4110+s:02). -/
def STACK_ECC_CORRECTED (n : Nat) : Nat := key (0x4110 + n) 0x02

/-- ECC_UNCORRECTABLE (0x4110+s:03). -/
def STACK_ECC_UNCORRECTABLE (n : Nat) : Nat := key (0x4110 + n) 0x03

/-- CA_RETRIES (0x4110+s:04). -/
def STACK_CA_RETRIES (n : Nat) : Nat := key (0x4110 + n) 0x04

/-- ROW_DISTURB_EVENTS (0x4110+s:05). -/
def STACK_ROW_DISTURB_EVENTS (n : Nat) : Nat := key (0x4110 + n) 0x05

/-- RETRAIN_FAILS (0x4110+s:06). -/
def STACK_RETRAIN_FAILS (n : Nat) : Nat := key (0x4110 + n) 0x06

/-- REFRESH_WINDOW_MS (0x4110+s:07). -/
def STACK_REFRESH_WINDOW_MS (n : Nat) : Nat := key (0x4110 + n) 0x07

/-- RETRAINS (0x4110+s:08). -/
def STACK_RETRAINS (n : Nat) : Nat := key (0x4110 + n) 0x08

/-- REG_WINDOW_CYCLES (0x4200:00). -/
def REG_WINDOW_CYCLES : Nat := key 0x4200 0x00

/-- LAT_TARGET_RT (0x4200:01). -/
def LAT_TARGET_RT : Nat := key 0x4200 0x01

/-- LAT_TARGET_PT (0x4200:02). -/
def LAT_TARGET_PT : Nat := key 0x4200 0x02

/-- LAT_TARGET_BE (0x4200:03). -/
def LAT_TARGET_BE : Nat := key 0x4200 0x03

/-- LAT_TARGET_MG (0x4200:04). -/
def LAT_TARGET_MG : Nat := key 0x4200 0x04

/-- ALLOWANCE_SUM (0x4200:05). -/
def ALLOWANCE_SUM : Nat := key 0x4200 0x05

/-- CLASS (P:00), for port p. -/
def PORT_CLASS (p : Nat) : Nat := key (0x4210 + p / 16) (16 * (p % 16) + 0x00)

/-- BUDGET_BYTES (P:01), for port p. -/
def PORT_BUDGET_BYTES (p : Nat) : Nat := key (0x4210 + p / 16) (16 * (p % 16) + 0x01)

/-- READ_ALLOWANCE (P:02), for port p. -/
def PORT_READ_ALLOWANCE (p : Nat) : Nat := key (0x4210 + p / 16) (16 * (p % 16) + 0x02)

/-- DEADLINE_CYCLES (P:03), for port p. -/
def PORT_DEADLINE_CYCLES (p : Nat) : Nat := key (0x4210 + p / 16) (16 * (p % 16) + 0x03)

/-- PANIC_ON (P:04), for port p. -/
def PORT_PANIC_ON (p : Nat) : Nat := key (0x4210 + p / 16) (16 * (p % 16) + 0x04)

/-- PANIC_OFF (P:05), for port p. -/
def PORT_PANIC_OFF (p : Nat) : Nat := key (0x4210 + p / 16) (16 * (p % 16) + 0x05)

/-- CACHE_PARTITION (P:06), for port p. -/
def PORT_CACHE_PARTITION (p : Nat) : Nat := key (0x4210 + p / 16) (16 * (p % 16) + 0x06)

/-- FLAGS (P:07), for port p. -/
def PORT_FLAGS (p : Nat) : Nat := key (0x4210 + p / 16) (16 * (p % 16) + 0x07)

/-- BUDGET_EXHAUSTED (P:08), for port p. -/
def PORT_BUDGET_EXHAUSTED (p : Nat) : Nat := key (0x4210 + p / 16) (16 * (p % 16) + 0x08)

/-- BYTES_LAST_WINDOW (P:09), for port p. -/
def PORT_BYTES_LAST_WINDOW (p : Nat) : Nat := key (0x4210 + p / 16) (16 * (p % 16) + 0x09)

/-- LAT_AVG (P:0A), for port p. -/
def PORT_LAT_AVG (p : Nat) : Nat := key (0x4210 + p / 16) (16 * (p % 16) + 0x0A)

/-- LAT_MAX (P:0B), for port p. -/
def PORT_LAT_MAX (p : Nat) : Nat := key (0x4210 + p / 16) (16 * (p % 16) + 0x0B)

/-- LAT_HISTOGRAM (P:0C), for port p. -/
def PORT_LAT_HISTOGRAM (p : Nat) : Nat := key (0x4210 + p / 16) (16 * (p % 16) + 0x0C)

/-- DEADLINE_MISSES (P:0D), for port p. -/
def PORT_DEADLINE_MISSES (p : Nat) : Nat := key (0x4210 + p / 16) (16 * (p % 16) + 0x0D)

/-- PANIC_EVENTS (P:0E), for port p. -/
def PORT_PANIC_EVENTS (p : Nat) : Nat := key (0x4210 + p / 16) (16 * (p % 16) + 0x0E)

/-- ROW_THROTTLES (P:0F), for port p. -/
def PORT_ROW_THROTTLES (p : Nat) : Nat := key (0x4210 + p / 16) (16 * (p % 16) + 0x0F)

/-- SLOTS_ACTIVE (0x5000:00). -/
def SLOTS_ACTIVE : Nat := key 0x5000 0x00

/-- UNBOUND_FRAMES (0x5000:01). -/
def UNBOUND_FRAMES : Nat := key 0x5000 0x01

/-- PORT_OVERFLOWS_A, _B (0x5000:02, 0x5000:03). -/
def INGEST_OVERFLOWS (i : Nat) : Nat := key 0x5000 (0x02 + i)

/-- CAPTURE_MASK (0x5003:00). -/
def CAPTURE_MASK : Nat := key 0x5003 0x00

/-- CAPTURE_SKIPPED (0x5003:01). -/
def CAPTURE_SKIPPED : Nat := key 0x5003 0x01

/-- RX_PHY (0x5010+r:00). -/
def RX_PHY (n : Nat) : Nat := key (0x5010 + n) 0x00

/-- RX_WIDTH (0x5010+r:01). -/
def RX_WIDTH (n : Nat) : Nat := key (0x5010 + n) 0x01

/-- RX_RATE (0x5010+r:02). -/
def RX_RATE (n : Nat) : Nat := key (0x5010 + n) 0x02

/-- RX_LANE_MAP (0x5010+r:03). -/
def RX_LANE_MAP (n : Nat) : Nat := key (0x5010 + n) 0x03

/-- RX_HDR_CORRECTED (0x5010+r:04). -/
def RX_HDR_CORRECTED (n : Nat) : Nat := key (0x5010 + n) 0x04

/-- RX_HDR_DROPS (0x5010+r:05). -/
def RX_HDR_DROPS (n : Nat) : Nat := key (0x5010 + n) 0x05

/-- RX_LINK (0x5010+r:06). -/
def RX_LINK (n : Nat) : Nat := key (0x5010 + n) 0x06

/-- CLOCK_MAP_BANK0, _BANK1 (0x5020+c:00, :01): index offset n, subindex offset i. -/
def CLOCK_MAP_BANK (n i : Nat) : Nat := key (0x5020 + n) (0x00 + i)

/-- BANK0_COMMITS, BANK1_COMMITS (0x5020+c:02, :03): index offset n, subindex offset i. -/
def CLOCK_BANK_COMMITS (n i : Nat) : Nat := key (0x5020 + n) (0x02 + i)

/-- ETH_FEC (0x5040+p:00). -/
def ETH_FEC (n : Nat) : Nat := key (0x5040 + n) 0x00

/-- ETH_AUTONEG (0x5040+p:01). -/
def ETH_AUTONEG (n : Nat) : Nat := key (0x5040 + n) 0x01

/-- ETH_LINK_UP (0x5040+p:02). -/
def ETH_LINK_UP (n : Nat) : Nat := key (0x5040 + n) 0x02

/-- ETH_FRAMES_DROPPED (0x5040+p:03). -/
def ETH_FRAMES_DROPPED (n : Nat) : Nat := key (0x5040 + n) 0x03

/-- SLOT_STATE (0x5100+n:00). -/
def SLOT_STATE (n : Nat) : Nat := key (0x5100 + n) 0x00

/-- SLOT_ENABLE (0x5100+n:01). -/
def SLOT_ENABLE (n : Nat) : Nat := key (0x5100 + n) 0x01

/-- SOURCE_KIND (0x5100+n:02). -/
def SLOT_SOURCE_KIND (n : Nat) : Nat := key (0x5100 + n) 0x02

/-- SOURCE_PORT (0x5100+n:03). -/
def SLOT_SOURCE_PORT (n : Nat) : Nat := key (0x5100 + n) 0x03

/-- CSI_SELECT (0x5100+n:04). -/
def SLOT_CSI_SELECT (n : Nat) : Nat := key (0x5100 + n) 0x04

/-- ETH_SRC_MAC (0x5100+n:05). -/
def SLOT_ETH_SRC_MAC (n : Nat) : Nat := key (0x5100 + n) 0x05

/-- ETH_FLOW (0x5100+n:06). -/
def SLOT_ETH_FLOW (n : Nat) : Nat := key (0x5100 + n) 0x06

/-- CAN_ID_SET (0x5100+n:07). -/
def SLOT_CAN_ID_SET (n : Nat) : Nat := key (0x5100 + n) 0x07

/-- SPI_CFG (0x5100+n:08). -/
def SLOT_SPI_CFG (n : Nat) : Nat := key (0x5100 + n) 0x08

/-- STAMP_FIELD (0x5100+n:09). -/
def SLOT_STAMP_FIELD (n : Nat) : Nat := key (0x5100 + n) 0x09

/-- CLOCK_ID (0x5100+n:0A). -/
def SLOT_CLOCK_ID (n : Nat) : Nat := key (0x5100 + n) 0x0A

/-- BUF_BASE (0x5100+n:0B). -/
def SLOT_BUF_BASE (n : Nat) : Nat := key (0x5100 + n) 0x0B

/-- BUF_BYTES (0x5100+n:0C). -/
def SLOT_BUF_BYTES (n : Nat) : Nat := key (0x5100 + n) 0x0C

/-- BUF_COUNT (0x5100+n:0D). -/
def SLOT_BUF_COUNT (n : Nat) : Nat := key (0x5100 + n) 0x0D

/-- REC_BASE (0x5100+n:0E). -/
def SLOT_REC_BASE (n : Nat) : Nat := key (0x5100 + n) 0x0E

/-- EXPECTED_US (0x5100+n:0F). -/
def SLOT_EXPECTED_US (n : Nat) : Nat := key (0x5100 + n) 0x0F

/-- SLACK_US (0x5100+n:10). -/
def SLOT_SLACK_US (n : Nat) : Nat := key (0x5100 + n) 0x10

/-- DROPOUT_LIMIT (0x5100+n:11). -/
def SLOT_DROPOUT_LIMIT (n : Nat) : Nat := key (0x5100 + n) 0x11

/-- SHAPE (0x5100+n:12). -/
def SLOT_SHAPE (n : Nat) : Nat := key (0x5100 + n) 0x12

/-- PATTERN_KIND (0x5100+n:13). -/
def SLOT_PATTERN_KIND (n : Nat) : Nat := key (0x5100 + n) 0x13

/-- PATTERN_BYTES (0x5100+n:14). -/
def SLOT_PATTERN_BYTES (n : Nat) : Nat := key (0x5100 + n) 0x14

/-- PATTERN_BLOB (0x5100+n:15). -/
def SLOT_PATTERN_BLOB (n : Nat) : Nat := key (0x5100 + n) 0x15

/-- PATTERN_FAULT_COUNT (0x5100+n:16). -/
def SLOT_PATTERN_FAULT_COUNT (n : Nat) : Nat := key (0x5100 + n) 0x16

/-- DRAIN_LIMIT_US (0x5100+n:17). -/
def SLOT_DRAIN_LIMIT_US (n : Nat) : Nat := key (0x5100 + n) 0x17

/-- LAST_SEQ (0x5100+n:18). -/
def SLOT_LAST_SEQ (n : Nat) : Nat := key (0x5100 + n) 0x18

/-- SAMPLES (0x5100+n:19). -/
def SLOT_SAMPLES (n : Nat) : Nat := key (0x5100 + n) 0x19

/-- DROPOUTS (0x5100+n:20). -/
def SLOT_DROPOUTS (n : Nat) : Nat := key (0x5100 + n) 0x20

/-- PATTERN_FAILS (0x5100+n:21). -/
def SLOT_PATTERN_FAILS (n : Nat) : Nat := key (0x5100 + n) 0x21

/-- SELF_FAILS (0x5100+n:22). -/
def SLOT_SELF_FAILS (n : Nat) : Nat := key (0x5100 + n) 0x22

/-- TRUNCATIONS (0x5100+n:23). -/
def SLOT_TRUNCATIONS (n : Nat) : Nat := key (0x5100 + n) 0x23

/-- CRC_ERRORS (0x5100+n:24). -/
def SLOT_CRC_ERRORS (n : Nat) : Nat := key (0x5100 + n) 0x24

/-- SHAPE_ERRORS (0x5100+n:25). -/
def SLOT_SHAPE_ERRORS (n : Nat) : Nat := key (0x5100 + n) 0x25

/-- STAMP_FAULTS (0x5100+n:26). -/
def SLOT_STAMP_FAULTS (n : Nat) : Nat := key (0x5100 + n) 0x26

/-- SOURCE_GAPS (0x5100+n:27). -/
def SLOT_SOURCE_GAPS (n : Nat) : Nat := key (0x5100 + n) 0x27

/-- DRDY_OVERRUNS (0x5100+n:28). -/
def SLOT_DRDY_OVERRUNS (n : Nat) : Nat := key (0x5100 + n) 0x28

/-- FUSION_STATE (0x6000:00). -/
def FUSION_STATE : Nat := key 0x6000 0x00

/-- FUSION_ENABLE (0x6000:01). -/
def FUSION_ENABLE : Nat := key 0x6000 0x01

/-- FUSION_DRAIN_LIMIT_US (0x6000:02). -/
def FUSION_DRAIN_LIMIT_US : Nat := key 0x6000 0x02

/-- PERIOD_NS (0x6001:00). -/
def PERIOD_NS : Nat := key 0x6001 0x00

/-- PHASE_NS (0x6001:01). -/
def PHASE_NS : Nat := key 0x6001 0x01

/-- CLOSE_LAG_NS (0x6001:02). -/
def CLOSE_LAG_NS : Nat := key 0x6001 0x02

/-- GUARD_US (0x6001:03). -/
def GUARD_US : Nat := key 0x6001 0x03

/-- GUARD_LIMIT (0x6001:04). -/
def GUARD_LIMIT : Nat := key 0x6001 0x04

/-- REQUIRED_MASK (0x6001:05). -/
def REQUIRED_MASK : Nat := key 0x6001 0x05

/-- PACING_MASK (0x6001:06). -/
def PACING_MASK : Nat := key 0x6001 0x06

/-- LAG_WINDOW_NS (0x6001:07). -/
def LAG_WINDOW_NS : Nat := key 0x6001 0x07

/-- EGO_EXTRAP_MAX_NS (0x6001:08). -/
def EGO_EXTRAP_MAX_NS : Nat := key 0x6001 0x08

/-- WHEEL_GAIN (0x6001:09). -/
def WHEEL_GAIN : Nat := key 0x6001 0x09

/-- OUT_BASE (0x6002:00). -/
def OUT_BASE : Nat := key 0x6002 0x00

/-- OUT_COUNT (0x6002:01). -/
def OUT_COUNT : Nat := key 0x6002 0x01

/-- OUT_BUF_BYTES (0x6002:02). -/
def OUT_BUF_BYTES : Nat := key 0x6002 0x02

/-- GRID_DECAY (0x6002:03). -/
def GRID_DECAY : Nat := key 0x6002 0x03

/-- LOGODDS_HIT (0x6002:04). -/
def LOGODDS_HIT : Nat := key 0x6002 0x04

/-- LOGODDS_FREE (0x6002:05). -/
def LOGODDS_FREE : Nat := key 0x6002 0x05

/-- GROUND_HEIGHT_CM (0x6002:06). -/
def GROUND_HEIGHT_CM : Nat := key 0x6002 0x06

/-- GRID_TO_HOST (0x6002:07). -/
def GRID_TO_HOST : Nat := key 0x6002 0x07

/-- DISPUTE_MARGIN_CM (0x6004:00). -/
def DISPUTE_MARGIN_CM : Nat := key 0x6004 0x00

/-- DISPUTE_CONF (0x6004:01). -/
def DISPUTE_CONF : Nat := key 0x6004 0x01

/-- DISPUTE_HOLD (0x6004:02). -/
def DISPUTE_HOLD : Nat := key 0x6004 0x02

/-- FREE_THRESHOLD (0x6004:03). -/
def FREE_THRESHOLD : Nat := key 0x6004 0x03

/-- LAST_INSTANT (0x6005:00). -/
def LAST_INSTANT : Nat := key 0x6005 0x00

/-- LAST_T_K (0x6005:01). -/
def LAST_T_K : Nat := key 0x6005 0x01

/-- TRACKS_ACTIVE (0x6005:02). -/
def TRACKS_ACTIVE : Nat := key 0x6005 0x02

/-- TRACKS_CONFIRMED (0x6005:03). -/
def TRACKS_CONFIRMED : Nat := key 0x6005 0x03

/-- DISPUTES_ACTIVE (0x6005:04). -/
def DISPUTES_ACTIVE : Nat := key 0x6005 0x04

/-- EGO_HORIZON (0x6005:05). -/
def EGO_HORIZON : Nat := key 0x6005 0x05

/-- FUSION_EVENTS (0x6006:00–0x6006:0B). -/
def FUSION_EVENTS (i : Nat) : Nat := key 0x6006 (0x00 + i)

/-- CLASS_VALID (0x6020+c:00). -/
def CLASS_VALID (n : Nat) : Nat := key (0x6020 + n) 0x00

/-- GATE_D2 (0x6020+c:01). -/
def CLASS_GATE_D2 (n : Nat) : Nat := key (0x6020 + n) 0x01

/-- GATE_MAX_M (0x6020+c:02). -/
def CLASS_GATE_MAX_M (n : Nat) : Nat := key (0x6020 + n) 0x02

/-- CONFIRM_M (0x6020+c:03). -/
def CLASS_CONFIRM_M (n : Nat) : Nat := key (0x6020 + n) 0x03

/-- CONFIRM_N (0x6020+c:04). -/
def CLASS_CONFIRM_N (n : Nat) : Nat := key (0x6020 + n) 0x04

/-- DELETE_K (0x6020+c:05). -/
def CLASS_DELETE_K (n : Nat) : Nat := key (0x6020 + n) 0x05

/-- COAST_MAX (0x6020+c:06). -/
def CLASS_COAST_MAX (n : Nat) : Nat := key (0x6020 + n) 0x06

/-- ACCEL_SIGMA (0x6020+c:07). -/
def CLASS_ACCEL_SIGMA (n : Nat) : Nat := key (0x6020 + n) 0x07

/-- LENGTH_M, WIDTH_M, HEIGHT_M (0x6020+c:08–:0A): index offset n, subindex offset i. -/
def CLASS_SIZE (n i : Nat) : Nat := key (0x6020 + n) (0x08 + i)

/-- INCOMPATIBLE (0x6020+c:0B). -/
def CLASS_INCOMPATIBLE (n : Nat) : Nat := key (0x6020 + n) 0x0B

/-- BIRTH_CONF (0x6020+c:0C). -/
def CLASS_BIRTH_CONF (n : Nat) : Nat := key (0x6020 + n) 0x0C

/-- ROLE (0x6100+n:00). -/
def CAL_ROLE (n : Nat) : Nat := key (0x6100 + n) 0x00

/-- INTRINSICS (0x6100+n:01). -/
def CAL_INTRINSICS (n : Nat) : Nat := key (0x6100 + n) 0x01

/-- EXTRINSICS (0x6100+n:02). -/
def CAL_EXTRINSICS (n : Nat) : Nat := key (0x6100 + n) 0x02

/-- CALIB_GEN (0x6100+n:03). -/
def CAL_GEN (n : Nat) : Nat := key (0x6100 + n) 0x03

/-- CALIB_STATUS (0x6100+n:04). -/
def CAL_STATUS (n : Nat) : Nat := key (0x6100 + n) 0x04

/-- DEPTH_MASK (0x6100+n:05). -/
def CAL_DEPTH_MASK (n : Nat) : Nat := key (0x6100 + n) 0x05

/-- DEPTH_MIN_POINTS (0x6100+n:06). -/
def CAL_DEPTH_MIN_POINTS (n : Nat) : Nat := key (0x6100 + n) 0x06

/-- PLAN_STATE (0x6800:00). -/
def PLAN_STATE : Nat := key 0x6800 0x00

/-- PLAN_ENABLE (0x6800:01). -/
def PLAN_ENABLE : Nat := key 0x6800 0x01

/-- PLAN_DRAIN_LIMIT_US (0x6800:02). -/
def PLAN_DRAIN_LIMIT_US : Nat := key 0x6800 0x02

/-- CYCLE_BUDGET_US (0x6801:00). -/
def CYCLE_BUDGET_US : Nat := key 0x6801 0x00

/-- CLEAR_MARGIN_MM (0x6801:01). -/
def CLEAR_MARGIN_MM : Nat := key 0x6801 0x01

/-- OCC_THRESHOLD (0x6801:02). -/
def OCC_THRESHOLD : Nat := key 0x6801 0x02

/-- SURVIVOR_MAX (0x6801:03). -/
def SURVIVOR_MAX : Nat := key 0x6801 0x03

/-- EPOCH_MAX_AGE (0x6801:04). -/
def EPOCH_MAX_AGE : Nat := key 0x6801 0x04

/-- OUTSIDE_POLICY (0x6801:05). -/
def OUTSIDE_POLICY : Nat := key 0x6801 0x05

/-- FOOTPRINT (0x6801:06). -/
def FOOTPRINT : Nat := key 0x6801 0x06

/-- RECHECK_COUNT (0x6801:07). -/
def RECHECK_COUNT : Nat := key 0x6801 0x07

/-- TRAJ_BASE (0x6802:00). -/
def TRAJ_BASE : Nat := key 0x6802 0x00

/-- SURV_BASE (0x6802:01). -/
def SURV_BASE : Nat := key 0x6802 0x01

/-- OUT_CAN (0x6802:02). -/
def OUT_CAN : Nat := key 0x6802 0x02

/-- OUT_CAN_ID (0x6802:03). -/
def OUT_CAN_ID : Nat := key 0x6802 0x03

/-- OUT_SDT (0x6802:04). -/
def OUT_SDT : Nat := key 0x6802 0x04

/-- OUT_T1S (0x6802:05). -/
def OUT_T1S : Nat := key 0x6802 0x05

/-- OUT_T1S_DEST_MAC (0x6802:06). -/
def OUT_T1S_DEST_MAC : Nat := key 0x6802 0x06

/-- OUT_ETHERTYPE (0x6802:07). -/
def OUT_ETHERTYPE : Nat := key 0x6802 0x07

/-- OUT_TX_TIMEOUT_US (0x6802:08). -/
def OUT_TX_TIMEOUT_US : Nat := key 0x6802 0x08

/-- NEWEST_EPOCH (0x6804:00). -/
def NEWEST_EPOCH : Nat := key 0x6804 0x00

/-- NEWEST_EPOCH_INSTANT (0x6804:01). -/
def NEWEST_EPOCH_INSTANT : Nat := key 0x6804 0x01

/-- CYCLE_INSTANT (0x6804:02). -/
def CYCLE_INSTANT : Nat := key 0x6804 0x02

/-- LAST_OUT_STATUS (0x6804:03). -/
def LAST_OUT_STATUS : Nat := key 0x6804 0x03

/-- LAST_OUT_FLAGS (0x6804:04). -/
def LAST_OUT_FLAGS : Nat := key 0x6804 0x04

/-- OUT_SEQ (0x6804:05). -/
def OUT_SEQ : Nat := key 0x6804 0x05

/-- PLAN_EVENTS (0x6805:00–0x6805:0A). -/
def PLAN_EVENTS (i : Nat) : Nat := key 0x6805 (0x00 + i)

/-- LATTICE_BASE (0x6900:00). -/
def LATTICE_BASE : Nat := key 0x6900 0x00

/-- LATTICE_BYTES (0x6900:01). -/
def LATTICE_BYTES : Nat := key 0x6900 0x01

/-- LATTICE_GEN (0x6900:02). -/
def LATTICE_GEN : Nat := key 0x6900 0x02

/-- LATTICE_CRC (0x6900:03). -/
def LATTICE_CRC : Nat := key 0x6900 0x03

/-- LATTICE_STATUS (0x6900:04). -/
def LATTICE_STATUS : Nat := key 0x6900 0x04

/-- LATTICE_FAULT_AT (0x6900:05). -/
def LATTICE_FAULT_AT : Nat := key 0x6900 0x05

/-- FTTI_US (0x7000:00). -/
def FTTI_US : Nat := key 0x7000 0x00

/-- FRAME_STAGE (0x7000:01). -/
def FRAME_STAGE : Nat := key 0x7000 0x01

/-- FRAME_COUNT (0x7000:02). -/
def FRAME_COUNT : Nat := key 0x7000 0x02

/-- SAFETY_FN_MASK (0x7000:03). -/
def SAFETY_FN_MASK : Nat := key 0x7000 0x03

/-- SHED_ADDR (0x7000:04). -/
def SHED_ADDR : Nat := key 0x7000 0x04

/-- SHED_ORDER (0x7000:05). -/
def SHED_ORDER : Nat := key 0x7000 0x05

/-- SHED_LEAD_US (0x7000:06). -/
def SHED_LEAD_US : Nat := key 0x7000 0x06

/-- LOOKOUT_A_STATE, _B_STATE (0x7001:00, :01). -/
def LOOKOUT_STATE (i : Nat) : Nat := key 0x7001 (0x00 + i)

/-- FAULT_CAUSE_A, _B (0x7001:02, :03). -/
def FAULT_CAUSE (i : Nat) : Nat := key 0x7001 (0x02 + i)

/-- APP_STATUS_A, _B (0x7001:04, :05). -/
def APP_STATUS (i : Nat) : Nat := key 0x7001 (0x04 + i)

/-- FALLBACK_CAN_ID (0x7002:00). -/
def FALLBACK_CAN_ID : Nat := key 0x7002 0x00

/-- FALLBACK_SDT (0x7002:01). -/
def FALLBACK_SDT : Nat := key 0x7002 0x01

/-- FALLBACK_STREAMING (0x7002:02). -/
def FALLBACK_STREAMING : Nat := key 0x7002 0x02

/-- FALLBACK_FRAMES (0x7002:03). -/
def FALLBACK_FRAMES : Nat := key 0x7002 0x03

/-- FALLBACK_RECORD_SEQ (0x7002:04). -/
def FALLBACK_RECORD_SEQ : Nat := key 0x7002 0x04

/-- NO_CLEAR_PATH_RECORDS (0x7002:05). -/
def NO_CLEAR_PATH_RECORDS : Nat := key 0x7002 0x05

/-- SUBSTITUTE_FRAMES (0x7002:06). -/
def SUBSTITUTE_FRAMES : Nat := key 0x7002 0x06

/-- TRANSFORMS_A–D (0x7100:00–0x7100:03). -/
def TRANSFORMS (i : Nat) : Nat := key 0x7100 (0x00 + i)

/-- BAND_ULP_A–D (0x7100:04–0x7100:07). -/
def BAND_ULP (i : Nat) : Nat := key 0x7100 (0x04 + i)

/-- MISMATCH_SEM_A–D (0x7100:08–0x7100:0B). -/
def MISMATCH_SEM (i : Nat) : Nat := key 0x7100 (0x08 + i)

/-- MISMATCHES_0–63 (0x7101:00–0x7101:3F). -/
def MISMATCHES (i : Nat) : Nat := key 0x7101 (0x00 + i)

/-- TRANSIENTS_0–63 (0x7102:00–0x7102:3F). -/
def TRANSIENTS (i : Nat) : Nat := key 0x7102 (0x00 + i)

/-- TRANSIENT_LIMIT (0x7103:00). -/
def TRANSIENT_LIMIT : Nat := key 0x7103 0x00

/-- TRANSIENT_FRAMES (0x7103:01). -/
def TRANSIENT_FRAMES : Nat := key 0x7103 0x01

/-- QUARANTINE_MASK (0x7104:00). -/
def QUARANTINE_MASK : Nat := key 0x7104 0x00

/-- LAST_MISMATCH (0x7104:01). -/
def LAST_MISMATCH : Nat := key 0x7104 0x01

/-- REPLAYED_OPS_A–D (0x7105:00–0x7105:03). -/
def REPLAYED_OPS (i : Nat) : Nat := key 0x7105 (0x00 + i)

/-- SLICE_US (0x7200:00). -/
def SLICE_US : Nat := key 0x7200 0x00

/-- SLICE_START_ALLOWANCE_NS (0x7200:01). -/
def SLICE_START_ALLOWANCE_NS : Nat := key 0x7200 0x01

/-- TEST_STATUS_0–63 (0x7201:00–0x7201:3F). -/
def TEST_STATUS (i : Nat) : Nat := key 0x7201 (0x00 + i)

/-- TEST_DEBT (0x7202:00). -/
def TEST_DEBT : Nat := key 0x7202 0x00

/-- SLICES_DEFERRED (0x7202:01). -/
def SLICES_DEFERRED : Nat := key 0x7202 0x01

/-- STAGES_SHED (0x7202:02). -/
def STAGES_SHED : Nat := key 0x7202 0x02

/-- TESTS_OVERDUE (0x7202:03). -/
def TESTS_OVERDUE : Nat := key 0x7202 0x03

/-- WD_STAGES (0x7300:00). -/
def WD_STAGES : Nat := key 0x7300 0x00

/-- WD_MIN_US (0x7310+s:00). -/
def WD_MIN_US (n : Nat) : Nat := key (0x7310 + n) 0x00

/-- WD_MAX_US (0x7310+s:01). -/
def WD_MAX_US (n : Nat) : Nat := key (0x7310 + n) 0x01

/-- WD_ACTION (0x7310+s:02). -/
def WD_ACTION (n : Nat) : Nat := key (0x7310 + n) 0x02

/-- WD_REGION_MASK (0x7310+s:03). -/
def WD_REGION_MASK (n : Nat) : Nat := key (0x7310 + n) 0x03

/-- WD_STATE (0x7310+s:04). -/
def WD_STATE (n : Nat) : Nat := key (0x7310 + n) 0x04

/-- WD_LAST_INTERVAL_US (0x7310+s:05). -/
def WD_LAST_INTERVAL_US (n : Nat) : Nat := key (0x7310 + n) 0x05

/-- WD_EARLY_FAULTS (0x7310+s:06). -/
def WD_EARLY_FAULTS (n : Nat) : Nat := key (0x7310 + n) 0x06

/-- WD_LATE_FAULTS (0x7310+s:07). -/
def WD_LATE_FAULTS (n : Nat) : Nat := key (0x7310 + n) 0x07

/-- JOB_STATE (0x8000:00). -/
def JOB_STATE : Nat := key 0x8000 0x00

/-- JOB_ENABLE (0x8000:01). -/
def JOB_ENABLE : Nat := key 0x8000 0x01

/-- JOB_DRAIN_LIMIT_US (0x8000:02). -/
def JOB_DRAIN_LIMIT_US : Nat := key 0x8000 0x02

/-- JOB_ID (0x8000:03). -/
def JOB_ID : Nat := key 0x8000 0x03

/-- STEPS_TAKEN (0x8000:04). -/
def STEPS_TAKEN : Nat := key 0x8000 0x04

/-- CKPT_LAST (0x8000:05). -/
def CKPT_LAST : Nat := key 0x8000 0x05

/-- CKPT_ACK (0x8000:06). -/
def CKPT_ACK : Nat := key 0x8000 0x06

/-- POLICY_MAX_CLASS (0x8001:00). -/
def POLICY_MAX_CLASS : Nat := key 0x8001 0x00

/-- POLICY_MAX_SEQS (0x8001:01). -/
def POLICY_MAX_SEQS : Nat := key 0x8001 0x01

/-- POLICY_MAX_PROMPT (0x8001:02). -/
def POLICY_MAX_PROMPT : Nat := key 0x8001 0x02

/-- CKPT_K (0x8001:03). -/
def CKPT_K : Nat := key 0x8001 0x03

/-- DELAY_MAX_STEPS (0x8001:04). -/
def DELAY_MAX_STEPS : Nat := key 0x8001 0x04

/-- DELAY_QUEUE (0x8001:05). -/
def DELAY_QUEUE : Nat := key 0x8001 0x05

/-- YIELD_GRACE_MS (0x8001:06). -/
def YIELD_GRACE_MS : Nat := key 0x8001 0x06

/-- CKPT_FINAL_LIMIT_MS (0x8001:07). -/
def CKPT_FINAL_LIMIT_MS : Nat := key 0x8001 0x07

/-- CTRL_BASE (0x8002:00). -/
def CTRL_BASE : Nat := key 0x8002 0x00

/-- CTRL_BYTES (0x8002:01). -/
def CTRL_BYTES : Nat := key 0x8002 0x01

/-- STEP_BASE (0x8002:02). -/
def STEP_BASE : Nat := key 0x8002 0x02

/-- STEP_ENTRIES (0x8002:03). -/
def STEP_ENTRIES : Nat := key 0x8002 0x03

/-- SPOT_N (0x8003:00). -/
def SPOT_N : Nat := key 0x8003 0x00

/-- SPOT_MISMATCHES (0x8003:01). -/
def SPOT_MISMATCHES : Nat := key 0x8003 0x01

/-- SUSPECT_STEPS (0x8003:02). -/
def SUSPECT_STEPS : Nat := key 0x8003 0x02

/-- UNATTRIBUTED (0x8003:03). -/
def UNATTRIBUTED : Nat := key 0x8003 0x03

/-- ATTEST_NONCE (0x8004:00). -/
def ATTEST_NONCE : Nat := key 0x8004 0x00

/-- ATTEST_REPORT (0x8004:01). -/
def ATTEST_REPORT : Nat := key 0x8004 0x01

/-- ATTEST_STATE (0x8004:02). -/
def ATTEST_STATE : Nat := key 0x8004 0x02

/-- ADMITTED (0x8008:00). -/
def ADMITTED : Nat := key 0x8008 0x00

/-- QUEUED_NOW (0x8008:01). -/
def QUEUED_NOW : Nat := key 0x8008 0x01

/-- REFUSED (0x8008:02). -/
def REFUSED : Nat := key 0x8008 0x02

/-- PREEMPTIONS (0x8008:03). -/
def PREEMPTIONS : Nat := key 0x8008 0x03

/-- LAST_YIELD_MS (0x8008:04). -/
def LAST_YIELD_MS : Nat := key 0x8008 0x04

/-- NO_ROOM_EVENTS (0x8008:05). -/
def NO_ROOM_EVENTS : Nat := key 0x8008 0x05

/-- LATE_ACKS (0x8008:06). -/
def LATE_ACKS : Nat := key 0x8008 0x06

/-- TENANT_KEY_GEN (0x8008:07). -/
def TENANT_KEY_GEN : Nat := key 0x8008 0x07

/-- DEVICE_ID (0x9000:00). -/
def DEVICE_ID : Nat := key 0x9000 0x00

/-- SYSTEM_ID (0x9000:01). -/
def SYSTEM_ID : Nat := key 0x9000 0x01

/-- HOP_LIMIT (0x9000:02). -/
def HOP_LIMIT : Nat := key 0x9000 0x02

/-- EPOCH_DRAIN_US (0x9000:03). -/
def EPOCH_DRAIN_US : Nat := key 0x9000 0x03

/-- LINK_THROTTLE_US (0x9000:04). -/
def LINK_THROTTLE_US : Nat := key 0x9000 0x04

/-- LINK_WINDOW_BASE (0x9000:05). -/
def LINK_WINDOW_BASE : Nat := key 0x9000 0x05

/-- LINK_WINDOW_SIZE (0x9000:06). -/
def LINK_WINDOW_SIZE : Nat := key 0x9000 0x06

/-- LINK_TRAIN_MS (0x9000:07). -/
def LINK_TRAIN_MS : Nat := key 0x9000 0x07

/-- DISCARD_ANSWERS (0x9000:08). -/
def DISCARD_ANSWERS : Nat := key 0x9000 0x08

/-- ROUTE_0–63 (0x9001:00–0x9001:3F). -/
def ROUTE (i : Nat) : Nat := key 0x9001 (0x00 + i)

/-- CHAN_EPOCH_0–255 (0x9002:00–0x9002:FF). -/
def CHAN_EPOCH (i : Nat) : Nat := key 0x9002 (0x00 + i)

/-- OUT_INFLIGHT_0–15 (0x9003:00–0x9003:0F). -/
def OUT_INFLIGHT (i : Nat) : Nat := key 0x9003 (0x00 + i)

/-- EPOCH_RELEASE (0x9004:00). -/
def EPOCH_RELEASE : Nat := key 0x9004 0x00

/-- LINK_STATE (0x9010+p:00). -/
def LINK_STATE (n : Nat) : Nat := key (0x9010 + n) 0x00

/-- LINK_ENABLE (0x9010+p:01). -/
def LINK_ENABLE (n : Nat) : Nat := key (0x9010 + n) 0x01

/-- PEER_EXPECT (0x9010+p:02). -/
def LINK_PEER_EXPECT (n : Nat) : Nat := key (0x9010 + n) 0x02

/-- PEER_ID (0x9010+p:03). -/
def LINK_PEER_ID (n : Nat) : Nat := key (0x9010 + n) 0x03

/-- LINK_PHASE (0x9010+p:04). -/
def LINK_PHASE (n : Nat) : Nat := key (0x9010 + n) 0x04

/-- CRC_RETRIES (0x9010+p:05). -/
def LINK_CRC_RETRIES (n : Nat) : Nat := key (0x9010 + n) 0x05

/-- RETRAINS (0x9010+p:06). -/
def LINK_RETRAINS (n : Nat) : Nat := key (0x9010 + n) 0x06

/-- CREDIT_OVERRUNS (0x9010+p:07). -/
def LINK_CREDIT_OVERRUNS (n : Nat) : Nat := key (0x9010 + n) 0x07

/-- EPOCH_DISCARDS (0x9010+p:08). -/
def LINK_EPOCH_DISCARDS (n : Nat) : Nat := key (0x9010 + n) 0x08

/-- UNREACHABLE (0x9010+p:09). -/
def LINK_UNREACHABLE (n : Nat) : Nat := key (0x9010 + n) 0x09

/-- MALFORMED (0x9010+p:0A). -/
def LINK_MALFORMED (n : Nat) : Nat := key (0x9010 + n) 0x0A

/-- LINK_DRAIN_LIMIT_US (0x9010+p:0B). -/
def LINK_DRAIN_LIMIT_US (n : Nat) : Nat := key (0x9010 + n) 0x0B

/-- FORWARDED (0x9010+p:0C). -/
def LINK_FORWARDED (n : Nat) : Nat := key (0x9010 + n) 0x0C

/-- ROLE (0x9100+g:00). -/
def LANE_ROLE (n : Nat) : Nat := key (0x9100 + n) 0x00

/-- WIRING (0x9100+g:01). -/
def LANE_WIRING (n : Nat) : Nat := key (0x9100 + n) 0x01

/-- LANE_CFG (0x9100+g:02). -/
def LANE_CFG (n : Nat) : Nat := key (0x9100 + n) 0x02

/-- ROLE_ACTIVE (0x9100+g:03). -/
def LANE_ROLE_ACTIVE (n : Nat) : Nat := key (0x9100 + n) 0x03

/-- ROLE_STATUS (0x9100+g:04). -/
def LANE_ROLE_STATUS (n : Nat) : Nat := key (0x9100 + n) 0x04

/-- GUEST_STATE (0x9200:00). -/
def GUEST_STATE : Nat := key 0x9200 0x00

/-- GUEST_ENABLE (0x9200:01). -/
def GUEST_ENABLE : Nat := key 0x9200 0x01

/-- GUEST_DRAIN_LIMIT_US (0x9200:02). -/
def GUEST_DRAIN_LIMIT_US : Nat := key 0x9200 0x02

/-- GUEST_PRESENT (0x9200:03). -/
def GUEST_PRESENT : Nat := key 0x9200 0x03

/-- GUEST_MODULES (0x9200:04). -/
def GUEST_MODULES : Nat := key 0x9200 0x04

/-- GUEST_RATE (0x9200:05). -/
def GUEST_RATE : Nat := key 0x9200 0x05

/-- GUEST_FENCED (0x9200:06). -/
def GUEST_FENCED : Nat := key 0x9200 0x06

/-- GUEST_FAILURES (0x9200:07). -/
def GUEST_FAILURES : Nat := key 0x9200 0x07

/-- GUEST_WINDOW_BASE (0x9200:08). -/
def GUEST_WINDOW_BASE : Nat := key 0x9200 0x08

/-- GUEST_WINDOW_SIZE (0x9200:09). -/
def GUEST_WINDOW_SIZE : Nat := key 0x9200 0x09

/-- GUEST_ID (0x9200:0A). -/
def GUEST_ID : Nat := key 0x9200 0x0A

/-- GUEST_CRC_RETRIES (0x9200:0B). -/
def GUEST_CRC_RETRIES : Nat := key 0x9200 0x0B

/-- GUEST_MALFORMED (0x9200:0C). -/
def GUEST_MALFORMED : Nat := key 0x9200 0x0C

/-- GUEST_CREDIT_OVERRUNS (0x9200:0D). -/
def GUEST_CREDIT_OVERRUNS : Nat := key 0x9200 0x0D

/-- GUEST_WINDOW_REFUSALS (0x9200:0E). -/
def GUEST_WINDOW_REFUSALS : Nat := key 0x9200 0x0E

/-- GUEST_EPOCH_DISCARDS (0x9200:0F). -/
def GUEST_EPOCH_DISCARDS : Nat := key 0x9200 0x0F

/-- GUEST_CHAN_EPOCH_0–255 (0x9201:00–0x9201:FF). -/
def GUEST_CHAN_EPOCH (i : Nat) : Nat := key 0x9201 (0x00 + i)

/-- GUEST_ENTRY (0x9210:00–0x92FF:FF): index offset n, subindex offset i. -/
def GUEST_ENTRY (n i : Nat) : Nat := key (0x9210 + n) (0x00 + i)

/-- PKG_CAP_DRIVE_W (0x2200:00). -/
def PKG_CAP_DRIVE_W : Nat := key 0x2200 0x00

/-- PKG_CAP_OVERNIGHT_W (0x2200:01). -/
def PKG_CAP_OVERNIGHT_W : Nat := key 0x2200 0x01

/-- PKG_CAP_NOW_W (0x2200:02). -/
def PKG_CAP_NOW_W : Nat := key 0x2200 0x02

/-- CAP_GRANTED (0x2200:03). -/
def CAP_GRANTED : Nat := key 0x2200 0x03

/-- CAP_WINDOW_MS (0x2200:04). -/
def CAP_WINDOW_MS : Nat := key 0x2200 0x04

/-- CAP_HYST_W (0x2200:05). -/
def CAP_HYST_W : Nat := key 0x2200 0x05

/-- PKG_POWER_W (0x2200:06). -/
def PKG_POWER_W : Nat := key 0x2200 0x06

/-- PKG_POWER_PEAK_W (0x2200:07). -/
def PKG_POWER_PEAK_W : Nat := key 0x2200 0x07

/-- GUEST_BUDGET_W (0x2200:08). -/
def GUEST_BUDGET_W : Nat := key 0x2200 0x08

/-- DIV_POWER_A–D (0x2201:00–0x2201:03). -/
def DIV_POWER (i : Nat) : Nat := key 0x2201 (0x00 + i)

/-- DIV_THERMAL_A–D (0x2201:04–0x2201:07). -/
def DIV_THERMAL (i : Nat) : Nat := key 0x2201 (0x04 + i)

/-- HW_THROTTLE (0x2201:08). -/
def HW_THROTTLE : Nat := key 0x2201 0x08

/-- VF_MV_DIV2–DIV4 (0x2202:00–0x2202:02). -/
def VF_MV (i : Nat) : Nat := key 0x2202 (0x00 + i)

/-- VR_SETTLE_US (0x2202:03). -/
def VR_SETTLE_US : Nat := key 0x2202 0x03

/-- VDD_CMP_SET_MV_A–D (0x2202:04–0x2202:07). -/
def VDD_CMP_SET_MV (i : Nat) : Nat := key 0x2202 (0x04 + i)

/-- LOADHINT_LEAD_NS (0x2202:08). -/
def LOADHINT_LEAD_NS : Nat := key 0x2202 0x08

/-- LOADHINT_HOLD_NS (0x2202:09). -/
def LOADHINT_HOLD_NS : Nat := key 0x2202 0x09

/-- COOLANT_REPORT (0x2203:00). -/
def COOLANT_REPORT : Nat := key 0x2203 0x00

/-- COOLANT_REFRESH_MS (0x2203:01). -/
def COOLANT_REFRESH_MS : Nat := key 0x2203 0x01

/-- COOLANT_AGE_MS (0x2203:02). -/
def COOLANT_AGE_MS : Nat := key 0x2203 0x02

/-- COOLANT_STATUS (0x2203:03). -/
def COOLANT_STATUS : Nat := key 0x2203 0x03

/-- CAP_THERMAL_W (0x2203:04). -/
def CAP_THERMAL_W : Nat := key 0x2203 0x04

/-- T_SOFT_C (0x2204:00). -/
def T_SOFT_C : Nat := key 0x2204 0x00

/-- T_STACK_SOFT_C (0x2204:01). -/
def T_STACK_SOFT_C : Nat := key 0x2204 0x01

/-- T_HW_C (0x2204:02). -/
def T_HW_C : Nat := key 0x2204 0x02

/-- T_TRIP_C (0x2204:03). -/
def T_TRIP_C : Nat := key 0x2204 0x03

/-- T_STACK_HW_C (0x2204:04). -/
def T_STACK_HW_C : Nat := key 0x2204 0x04

/-- T_STACK_TRIP_C (0x2204:05). -/
def T_STACK_TRIP_C : Nat := key 0x2204 0x05

/-- TEMP_C_0–27 (0x2205:00–0x2205:1B). -/
def TEMP_C (i : Nat) : Nat := key 0x2205 (0x00 + i)

/-- TEMP_MAX_C (0x2205:1C). -/
def TEMP_MAX_C : Nat := key 0x2205 0x1C

/-- SENSOR_FAULT_MASK (0x2205:1D). -/
def SENSOR_FAULT_MASK : Nat := key 0x2205 0x1D

/-- TRIP_COUNT (0x2206:00). -/
def TRIP_COUNT : Nat := key 0x2206 0x00

/-- VR_ADDR_0–10 (0x2207:00–0x2207:0A). -/
def VR_ADDR (i : Nat) : Nat := key 0x2207 (0x00 + i)

/-- VR_SEGMENT (0x2207:0B). -/
def VR_SEGMENT : Nat := key 0x2207 0x0B

/-- VR_CLOCK_KHZ (0x2207:0C). -/
def VR_CLOCK_KHZ : Nat := key 0x2207 0x0C

/-- RAIL_CURRENT_MA_0–10 (0x2208:00–0x2208:0A). -/
def RAIL_CURRENT_MA (i : Nat) : Nat := key 0x2208 (0x00 + i)

/-- PT_EVENTS (0x2209:01–0x2209:0F). -/
def PT_EVENTS (i : Nat) : Nat := key 0x2209 (0x01 + i)

/-- AGE_RECORD (0x220A:00). -/
def AGE_RECORD : Nat := key 0x220A 0x00

/-- AGE_USE (0x220A:01). -/
def AGE_USE : Nat := key 0x220A 0x01

/-- AGE_MV_A–D (0x220A:02–0x220A:05). -/
def AGE_MV (i : Nat) : Nat := key 0x220A (0x02 + i)

/-- DIV2_ALLOWED (0x220A:06). -/
def DIV2_ALLOWED : Nat := key 0x220A 0x06

/-- Subindex `s` of the STREAM entry at index `b` (Table 2-10). -/
def RING (b s : Nat) : Nat := key b s

end Reg

end Sys2Proof.Machine
end

