-- ==== Sys2Proof/Machine/Dict.lean ====
section
/-!
DEFINITION. What one row of a dictionary table says (R41, R42, Tables 2-1 and 2-2): the type, access token, level,
privileges, default, stated range and owner of an entry. The rows themselves stand in Machine/DictTable.lean, which is
generated from the chapters' tables.
-/

namespace Sys2Proof.Machine

/-- Entry types (Table 2-1). `blob n` declares a length of `n` bytes; a STREAM entry is its twelve rows. -/
inductive EntryType where
  | bool | u8 | u16 | u32 | i32 | f32 | enum | bits32 | u64 | blob (len : Nat)
deriving DecidableEq, Repr

/-- Access tokens (Table 2-2). -/
inductive AccessToken where
  | const | ro | rw | wo | rws | rwb
deriving DecidableEq, Repr

/-- The function that owns an entry, for RWB and for the staging exception of R37. -/
inductive EntryOwner where
  | none | run | hamper | slot | fusion | planning | job | port | guest | ring
deriving DecidableEq, Repr

/-- An entry's default: a number, or a rule over the entry's place in its block. -/
inductive Default where
  | const (v : Nat)
  /-- 0x9E37_79B9 XOR n (LFSR_SEED_n). -/
  | seed
  /-- (1 << (11 + i)) OR (1 << (23 + i)) (MAP_MASK_i). -/
  | mapMask
  /-- 800, 700, 620 (VF_MV_DIV2 to DIV4). -/
  | vfMv
  /-- Table 8-12 (PART_0 to PART_7). -/
  | part
  /-- Table 8-4 (a port's CLASS). -/
  | portClass
  /-- Table 8-4 (a port's READ_ALLOWANCE). -/
  | portAllow
  /-- 0xFF for the cores' ports, 0 for the others (CACHE_PARTITION). -/
  | portPart
  /-- 0x40 + i (VR_ADDR_i). -/
  | vrAddr
  /-- Table 14-2 (a lane group's ROLE). -/
  | role
deriving DecidableEq, Repr

/-- An entry's stated range. -/
inductive Range where
  | any
  | span (lo hi : Nat)
  /-- `lo` to `hi`, a multiple of `m`. -/
  | multiple (lo hi m : Nat)
  | oneOf (l : List Nat)
  /-- The bits that are not reserved. -/
  | bits (mask : Nat)
  /-- 0, or `lo` to `hi`. -/
  | zeroOr (lo hi : Nat)
  /-- A power of two from `lo` to `hi`. -/
  | pow2 (lo hi : Nat)
  /-- binary32 bounds, given as their bits; both bounds are zero or positive. -/
  | f32 (lo hi : Nat)
  | i32 (lo hi : Int)
deriving DecidableEq, Repr

/-- One row of a dictionary table: `nIdx` consecutive indices from `idx`, and at each of them `nSub` subindices from
`sub`, `stride` apart. -/
structure EntrySpec where
  idx : Nat
  nIdx : Nat
  sub : Nat
  nSub : Nat
  stride : Nat
  type : EntryType
  access : AccessToken
  expert : Bool
  /-- read privilege: levels P0 to this one may read (R42). -/
  rd : Nat
  /-- write privilege. -/
  wr : Nat
  dflt : Default
  range : Range
  /-- marked with a dagger: owned by a unit outside the register fabric's clock domain (R56). -/
  cross : Bool
  owner : EntryOwner
  /-- staged under R37. -/
  staged : Bool
  /-- read-only and kept at a chip warm restart (R43). -/
  kept : Bool
deriving DecidableEq, Repr

/-- The row covers index:subindex. -/
def EntrySpec.covers (e : EntrySpec) (index subindex : Nat) : Bool :=
  e.idx ≤ index && index < e.idx + e.nIdx && e.sub ≤ subindex &&
    (subindex - e.sub) % e.stride == 0 && (subindex - e.sub) / e.stride < e.nSub

/-- Default role of lane group `g` (Table 14-2): UNUSED 0, CHIP_LINK 1, ETH_25G 2, PCIE_HOST 3. -/
def defaultRole (g : Nat) : Nat :=
  if g = 4 ∨ g = 5 then 3 else if g = 10 then 2 else if g = 11 then 0 else 1

/-- Default class of master port `p` (Table 8-4): RT 0, PT 1, BE 2, MG 3. -/
def defaultPortClass (p : Nat) : Nat :=
  if p ≤ 64 then 1 else if p ≤ 69 then 0 else if p ≤ 71 then 2 else if p ≤ 75 then 1
  else if p = 76 then 2 else 3

/-- Default read allowance of master port `p` (Table 8-4). -/
def defaultPortAllowance (p : Nat) : Nat :=
  if p < 64 then 192 else
  match p - 64 with
  | 0 => 1024 | 1 => 256 | 2 => 512 | 3 => 64 | 4 => 32 | 5 => 32 | 6 => 256 | 7 => 512
  | 8 => 192 | 9 => 192 | 10 => 192 | 11 => 192 | 12 => 256 | 13 => 64 | _ => 320

/-- The port whose block an index and subindex of Table 8-11 belong to. -/
def portOf (index subindex : Nat) : Nat := 16 * (index - 0x4210) + subindex / 16

/-- The default of the entry index:subindex of row `e` (R43). -/
def EntrySpec.default (e : EntrySpec) (index subindex : Nat) : Nat :=
  let i := (subindex - e.sub) / e.stride
  match e.dflt with
  | .const v => v
  | .seed => Nat.xor 0x9E3779B9 i
  | .mapMask => 2 ^ (11 + i) + 2 ^ (23 + i)
  | .vfMv => if i = 0 then 800 else if i = 1 then 700 else 620
  | .part => if i = 0 then 0x800007FF else if i = 1 then 0xC0007800 else if i = 2 then 0xC0008000 else 0
  | .portClass => defaultPortClass (portOf index subindex)
  | .portAllow => defaultPortAllowance (portOf index subindex)
  | .portPart => if portOf index subindex < 64 then 0xFF else 0
  | .vrAddr => 0x40 + i
  | .role => defaultRole (index - e.idx)

/-- The width of a value that is not a BLOB, in bytes. -/
def EntryType.bytes : EntryType → Nat
  | .bool => 1 | .u8 => 1 | .u16 => 2 | .u32 => 4 | .i32 => 4 | .f32 => 4 | .enum => 4 | .bits32 => 4
  | .u64 => 8 | .blob n => n

/-- The largest value of the type, as an unsigned number (Table 2-1). -/
def EntryType.top : EntryType → Nat
  | .bool => 1 | .u8 => 0xFF | .u16 => 0xFFFF | .u64 => 0xFFFFFFFFFFFFFFFF | _ => 0xFFFFFFFF

/-- The entry needs the mailbox: it is wider than one mapped word (R9, R55). -/
def EntryType.wide : EntryType → Bool
  | .u64 => true | .blob _ => true | _ => false

/-- A 32-bit word read as two's complement. -/
def toI32 (v : Nat) : Int := if v < 2 ^ 31 then (v : Int) else (v : Int) - 2 ^ 32

/-- A number stored as a 32-bit two's complement word. -/
def ofI32 (i : Int) : Nat := (i % 2 ^ 32).toNat

/-- A binary32 word that is a NaN or an infinity (Table 2-1 refuses both on write). -/
def f32NotFinite (v : Nat) : Bool := v / 2 ^ 23 % 256 == 255

/-- The value has a reserved bit set (R47: answered with 0x0108 whatever else is wrong with it). -/
def Range.reservedSet (r : Range) (v : Nat) : Bool :=
  match r with
  | .bits mask => Nat.land v mask != v
  | _ => false

/-- The value lies inside the stated range. -/
def Range.holds (r : Range) (v : Nat) : Bool :=
  match r with
  | .any => true
  | .span lo hi => lo ≤ v && v ≤ hi
  | .multiple lo hi m => lo ≤ v && v ≤ hi && v % m == 0
  | .oneOf l => l.contains v
  | .bits _ => true
  | .zeroOr lo hi => v == 0 || (lo ≤ v && v ≤ hi)
  | .pow2 lo hi => lo ≤ v && v ≤ hi && v == 2 ^ Nat.log2 v
  | .f32 lo hi => (lo ≤ v && v ≤ hi) || (lo == 0 && v == 2 ^ 31)
  | .i32 lo hi => lo ≤ toI32 v && toI32 v ≤ hi

end Sys2Proof.Machine
end

