-- ==== Sys2Proof/Machine/DictTable.lean ====
section
/-!
DEFINITION. The object dictionary's entries, one row per entry or block of like entries, as the chapters' dictionary
tables give them (Tables 2-16 to 2-19, 2-10, 3-11, 3-12, 4-16, 5-18, 6-9, 7-16, 8-8 to 8-11, 9-11, 9-12, 10-14, 10-15, 11-14, 11-15,
12-12 to 12-15, 13-8, 14-9 to 14-11, 15-19). Columns: first index, number of indices, first subindex, number of subindices, subindex stride,
type, access, Expert, read level, write level, default, stated range, cross-domain, owner, staged, kept at a warm restart.
-/

namespace Sys2Proof.Machine

/-- Entries of 0x1000 to 0x10FF (identity and versions). -/
def dictRows10 : List EntrySpec := [
  ⟨0x1000, 1, 0x00, 1, 1, .u32, .const, false, 3, 3, .const 0x4E4B0064, .any, false, .none, false, false⟩ /- DEVICE_TYPE -/,
  ⟨0x1000, 1, 0x01, 1, 1, .u8, .const, false, 3, 3, .const 0x10, .any, false, .none, false, false⟩ /- STEPPING -/,
  ⟨0x1000, 1, 0x02, 1, 1, .blob 11, .const, false, 3, 3, .const 0, .any, false, .none, false, false⟩ /- ORDERING_CODE -/,
  ⟨0x1000, 1, 0x03, 1, 1, .blob 7, .const, false, 3, 3, .const 0, .any, false, .none, false, false⟩ /- VENDOR_NAME -/,
  ⟨0x1000, 1, 0x04, 1, 1, .u32, .const, false, 3, 3, .const 0x00010001, .any, false, .none, false, false⟩ /- CONTRACT_RANGE -/,
  ⟨0x1001, 1, 0x00, 1, 1, .u64, .ro, false, 2, 2, .const 0, .any, false, .none, false, true⟩ /- UNIQUE_ID -/,
  ⟨0x1001, 1, 0x01, 1, 1, .blob 97, .ro, false, 3, 3, .const 0, .any, false, .none, false, true⟩ /- IDENTITY_PUBKEY -/,
  ⟨0x1002, 1, 0x00, 1, 1, .u32, .const, false, 3, 3, .const 0x00010000, .any, false, .none, false, false⟩ /- WARDEN_ROM_VERSION -/,
  ⟨0x1002, 1, 0x01, 1, 1, .u32, .ro, false, 2, 2, .const 0, .any, true, .none, false, true⟩ /- LOOKOUT_A_FW_VERSION -/,
  ⟨0x1002, 1, 0x02, 1, 1, .u32, .ro, false, 2, 2, .const 0, .any, true, .none, false, true⟩ /- LOOKOUT_B_FW_VERSION -/,
  ⟨0x1002, 1, 0x03, 1, 1, .u32, .const, false, 2, 2, .const 0x00010000, .any, true, .none, false, false⟩ /- LOOKOUT_B_ROM_VERSION -/,
  ⟨0x1003, 1, 0x00, 1, 1, .u16, .const, false, 3, 3, .const 0x0100, .any, false, .none, false, false⟩ /- DICT_LAYOUT -/]

/-- Entries of 0x1100 to 0x11FF (dictionary transports). -/
def dictRows11 : List EntrySpec := [
  ⟨0x1100, 1, 0x00, 1, 1, .bool, .rw, false, 2, 1, .const 1, .any, false, .none, false, false⟩ /- FN_ENABLE -/,
  ⟨0x1100, 1, 0x01, 1, 1, .enum, .ro, false, 2, 2, .const 0, .any, false, .none, false, false⟩ /- FN_STATE -/,
  ⟨0x1100, 1, 0x02, 1, 1, .u16, .rw, true, 2, 1, .const 100, .span 10 1000, false, .none, false, false⟩ /- SESSION_TIMEOUT_MS -/,
  ⟨0x1100, 1, 0x03, 1, 1, .u16, .rwb, true, 2, 1, .const 0x88B5, .any, false, .run, false, false⟩ /- ETHERTYPE -/,
  ⟨0x1100, 1, 0x04, 1, 1, .u8, .rwb, true, 2, 1, .const 0x7F, .any, false, .run, false, false⟩ /- CANXL_SDT -/,
  ⟨0x1101, 2, 0x00, 1, 1, .enum, .rwb, false, 2, 1, .const 0, .span 0 1, false, .run, false, false⟩ /- CAN_MODE -/,
  ⟨0x1101, 2, 0x01, 1, 1, .u32, .rwb, false, 2, 1, .const 500, .span 125 1000, false, .run, false, false⟩ /- NOMINAL_KBPS -/,
  ⟨0x1101, 2, 0x02, 1, 1, .u32, .rwb, false, 2, 1, .const 10000, .span 125 20000, false, .run, false, false⟩ /- DATA_KBPS -/,
  ⟨0x1103, 2, 0x00, 1, 1, .u8, .rwb, false, 2, 1, .const 1, .span 0 254, false, .run, false, false⟩ /- PLCA_NODE_ID -/,
  ⟨0x1103, 2, 0x01, 1, 1, .u8, .rwb, true, 2, 1, .const 8, .any, false, .run, false, false⟩ /- PLCA_NODE_COUNT -/,
  ⟨0x1103, 2, 0x02, 1, 1, .u64, .rwb, false, 2, 1, .const 0, .span 0 0xFFFFFFFFFFFF, false, .run, false, false⟩ /- MAC_ADDRESS -/,
  ⟨0x1108, 1, 0x00, 8, 4, .bits32, .rwb, false, 2, 1, .const 0, .bits 0xB00007FF, false, .run, false, false⟩ /- NODE_CFG -/,
  ⟨0x1108, 1, 0x01, 8, 4, .u16, .rwb, false, 2, 1, .const 0, .span 0 0x7FF, false, .run, false, false⟩ /- NODE_RESP_ID -/,
  ⟨0x1108, 1, 0x02, 8, 4, .u64, .rwb, false, 2, 1, .const 0, .span 0 0xFFFFFFFFFFFF, false, .run, false, false⟩ /- NODE_PEER_MAC -/,
  ⟨0x1110, 1, 0x00, 1, 1, .bits32, .wo, false, 3, 3, .const 0, .bits 0xF0FFFFFF, false, .none, false, false⟩ /- MBX_CTL -/,
  ⟨0x1110, 1, 0x01, 1, 1, .u32, .rw, false, 3, 3, .const 0, .multiple 0 65532 4, false, .none, false, false⟩ /- MBX_OFFSET -/,
  ⟨0x1110, 1, 0x02, 1, 1, .bits32, .ro, false, 3, 3, .const 0, .any, false, .none, false, false⟩ /- MBX_STAT -/,
  ⟨0x1110, 1, 0x03, 1, 1, .u32, .rw, false, 3, 3, .const 0, .span 0 65536, false, .none, false, false⟩ /- MBX_LEN -/,
  ⟨0x1110, 1, 0x04, 1, 1, .u32, .ro, false, 3, 3, .const 0, .any, false, .none, false, false⟩ /- MBX_GEN -/,
  ⟨0x1110, 1, 0x10, 240, 1, .u32, .rw, false, 3, 3, .const 0, .any, false, .none, false, false⟩ /- MBX_DATA -/]

/-- Entries of 0x1F00 to 0x1FFF (access control). -/
def dictRows1F : List EntrySpec := [
  ⟨0x1F00, 1, 0x01, 1, 1, .bool, .rw, false, 2, 1, .const 0, .any, false, .none, false, false⟩ /- EXPERT_ENABLE -/,
  ⟨0x1F00, 1, 0x02, 1, 1, .enum, .ro, false, 3, 3, .const 3, .any, false, .none, false, false⟩ /- PERSONALITY_NOW -/,
  ⟨0x1F00, 1, 0x03, 1, 1, .u8, .ro, false, 3, 3, .const 0, .any, false, .none, false, false⟩ /- MY_LEVEL -/,
  ⟨0x1F00, 1, 0x04, 1, 1, .bits32, .ro, false, 3, 3, .const 0, .any, false, .none, false, false⟩ /- LAST_ACCESS_STATUS -/]

/-- Entries of 0x2000 to 0x20FF (personalities and start-up). -/
def dictRows20 : List EntrySpec := [
  ⟨0x2000, 1, 0x00, 1, 1, .u8, .ro, false, 3, 3, .const 0, .any, false, .none, false, false⟩ /- TRAILHEAD_STEP -/,
  ⟨0x2000, 1, 0x01, 1, 1, .u16, .ro, false, 3, 3, .const 0x0000, .any, false, .none, false, false⟩ /- TRAILHEAD_STATUS -/,
  ⟨0x2000, 1, 0x02, 1, 1, .enum, .ro, false, 3, 3, .const 0, .any, false, .none, false, false⟩ /- TRAILHEAD_KIND -/,
  ⟨0x2000, 1, 0x03, 1, 1, .u8, .ro, false, 2, 2, .const 0, .any, false, .none, false, true⟩ /- BOOT_SRC_SAMPLED -/,
  ⟨0x2000, 1, 0x04, 1, 1, .enum, .ro, false, 2, 2, .const 0, .any, false, .none, false, true⟩ /- BOOT_SRC_USED -/,
  ⟨0x2000, 1, 0x05, 1, 1, .bool, .wo, false, 2, 1, .const 0, .any, false, .none, false, false⟩ /- CFG_GO -/,
  ⟨0x2000, 1, 0x06, 1, 1, .blob 52, .ro, false, 2, 2, .const 0, .any, false, .none, false, false⟩ /- STEP_TIMES -/,
  ⟨0x2000, 1, 0x07, 1, 1, .u8, .ro, false, 3, 3, .const 0, .any, false, .none, false, true⟩ /- RESTART_EPOCH -/,
  ⟨0x2000, 1, 0x08, 1, 1, .u32, .ro, false, 2, 2, .const 0, .any, false, .none, false, true⟩ /- WARM_RESTARTS -/,
  ⟨0x2000, 1, 0x09, 4, 1, .u32, .ro, false, 2, 2, .const 0, .any, false, .none, false, true⟩ /- REGION_RESTARTS -/,
  ⟨0x2001, 1, 0x00, 1, 1, .enum, .ro, false, 3, 3, .const 0, .any, false, .none, false, false⟩ /- RUN_STATE -/,
  ⟨0x2001, 1, 0x01, 1, 1, .u32, .const, false, 3, 3, .const 500000, .any, false, .none, false, false⟩ /- RUN_DRAIN_LIMIT_US -/,
  ⟨0x2001, 1, 0x02, 1, 1, .bool, .wo, false, 2, 1, .const 0, .any, false, .none, false, false⟩ /- RUN_RETRY -/,
  ⟨0x2002, 1, 0x00, 1, 1, .enum, .rw, false, 2, 2, .const 0, .span 0 2, false, .none, false, false⟩ /- PERSONALITY_REQ -/,
  ⟨0x2002, 1, 0x01, 1, 1, .enum, .ro, false, 3, 3, .const 0, .any, false, .none, false, false⟩ /- TRANSITION -/,
  ⟨0x2002, 1, 0x02, 1, 1, .enum, .rwb, false, 2, 1, .const 0, .span 0 2, false, .run, false, false⟩ /- BOOT_PERSONALITY -/,
  ⟨0x2002, 1, 0x03, 1, 1, .u32, .ro, false, 2, 2, .const 0, .any, false, .none, false, false⟩ /- LAST_TRANSITION_US -/,
  ⟨0x2002, 1, 0x04, 1, 1, .u16, .ro, false, 2, 2, .const 0x0000, .any, false, .none, false, false⟩ /- LAST_TRANSITION_STATUS -/,
  ⟨0x2003, 1, 0x00, 4, 1, .enum, .rwb, false, 2, 1, .const 0, .span 0 1, false, .run, false, false⟩ /- REGION_MODE -/,
  ⟨0x2003, 1, 0x04, 1, 1, .bits32, .ro, false, 3, 3, .const 0, .any, false, .none, false, false⟩ /- REGION_MODE_ACTIVE -/,
  ⟨0x2004, 1, 0x00, 1, 1, .u64, .ro, false, 2, 2, .const 0, .any, false, .none, false, false⟩ /- AVAIL_CORE_MASK -/,
  ⟨0x2004, 1, 0x01, 1, 1, .u8, .ro, false, 2, 2, .const 0xFF, .any, false, .none, false, false⟩ /- VARIANT_IN_USE -/,
  ⟨0x2005, 1, 0x00, 1, 1, .blob 12352, .rwb, true, 2, 1, .const 0, .any, true, .run, false, false⟩ /- TRAIN_RECORD -/,
  ⟨0x2005, 1, 0x01, 1, 1, .enum, .ro, false, 2, 2, .const 0, .any, false, .none, false, false⟩ /- TRAIN_RECORD_USE -/,
  ⟨0x2006, 1, 0x00, 1, 1, .u16, .const, false, 3, 3, .const 10000, .any, false, .none, false, false⟩ /- CFG_WINDOW_MS -/,
  ⟨0x2006, 1, 0x01, 1, 1, .u32, .ro, false, 2, 2, .const 0, .any, false, .none, false, true⟩ /- SNAPSHOT_GEN -/]

/-- Entries of 0x2100 to 0x21FF (clocks). -/
def dictRows21 : List EntrySpec := [
  ⟨0x2100, 1, 0x00, 1, 1, .bool, .ro, false, 3, 3, .const 0, .any, false, .none, false, false⟩ /- ROOT_PLL_LOCKED -/,
  ⟨0x2100, 1, 0x01, 1, 1, .u32, .ro, false, 2, 2, .const 0, .any, false, .none, false, true⟩ /- PLL_LOCK_LOSSES -/,
  ⟨0x2101, 1, 0x00, 4, 1, .u8, .rw, false, 2, 1, .const 3, .span 2 4, false, .run, true, false⟩ /- ARITH_DIV_DRIVE -/,
  ⟨0x2101, 1, 0x04, 4, 1, .u8, .rw, false, 2, 1, .const 2, .span 2 4, false, .run, true, false⟩ /- ARITH_DIV_OVERNIGHT -/,
  ⟨0x2102, 1, 0x00, 4, 1, .u8, .ro, false, 3, 3, .const 3, .any, false, .none, false, false⟩ /- ARITH_DIV_NOW -/,
  ⟨0x2103, 1, 0x00, 2, 1, .u16, .ro, true, 2, 2, .const 0, .any, true, .none, false, true⟩ /- ISL_PERIPH_COUNT -/,
  ⟨0x2103, 1, 0x02, 2, 1, .u32, .ro, false, 2, 2, .const 0, .any, true, .none, false, true⟩ /- ISL_CLOCK_FAULTS -/]

/-- Entries of 0x2200 to 0x22FF (power and thermal). -/
def dictRows22 : List EntrySpec := [
  ⟨0x2200, 1, 0x00, 1, 1, .u16, .rw, false, 2, 1, .const 480, .span 150 720, false, .none, false, false⟩ /- PKG_CAP_DRIVE_W -/,
  ⟨0x2200, 1, 0x01, 1, 1, .u16, .rw, false, 2, 1, .const 720, .span 150 720, false, .none, false, false⟩ /- PKG_CAP_OVERNIGHT_W -/,
  ⟨0x2200, 1, 0x02, 1, 1, .u16, .ro, false, 3, 3, .const 480, .any, false, .none, false, false⟩ /- PKG_CAP_NOW_W -/,
  ⟨0x2200, 1, 0x03, 1, 1, .bool, .ro, false, 3, 3, .const 0, .any, false, .none, false, false⟩ /- CAP_GRANTED -/,
  ⟨0x2200, 1, 0x04, 1, 1, .u8, .rw, true, 2, 1, .const 10, .span 1 100, false, .none, false, false⟩ /- CAP_WINDOW_MS -/,
  ⟨0x2200, 1, 0x05, 1, 1, .u16, .rw, true, 2, 1, .const 20, .span 5 100, false, .none, false, false⟩ /- CAP_HYST_W -/,
  ⟨0x2200, 1, 0x06, 1, 1, .u16, .ro, false, 2, 2, .const 0, .any, false, .none, false, false⟩ /- PKG_POWER_W -/,
  ⟨0x2200, 1, 0x07, 1, 1, .u16, .ro, false, 2, 2, .const 0, .any, false, .none, false, true⟩ /- PKG_POWER_PEAK_W -/,
  ⟨0x2200, 1, 0x08, 1, 1, .u8, .rwb, false, 2, 1, .const 0, .span 0 40, false, .run, false, false⟩ /- GUEST_BUDGET_W -/,
  ⟨0x2201, 1, 0x00, 4, 1, .u8, .ro, false, 2, 2, .const 3, .any, false, .none, false, false⟩ /- DIV_POWER -/,
  ⟨0x2201, 1, 0x04, 4, 1, .u8, .ro, false, 2, 2, .const 2, .any, false, .none, false, false⟩ /- DIV_THERMAL -/,
  ⟨0x2201, 1, 0x08, 1, 1, .bits32, .ro, false, 2, 2, .const 0, .any, false, .none, false, false⟩ /- HW_THROTTLE -/,
  ⟨0x2202, 1, 0x00, 3, 1, .u16, .rwb, true, 2, 1, .vfMv, .any, false, .run, false, false⟩ /- VF_MV -/,
  ⟨0x2202, 1, 0x03, 1, 1, .u16, .rw, true, 2, 1, .const 200, .span 50 2000, false, .none, false, false⟩ /- VR_SETTLE_US -/,
  ⟨0x2202, 1, 0x04, 4, 1, .u16, .ro, false, 2, 2, .const 700, .any, false, .none, false, false⟩ /- VDD_CMP_SET_MV -/,
  ⟨0x2202, 1, 0x08, 1, 1, .u16, .rw, true, 2, 1, .const 160, .multiple 0 1000 10, false, .none, false, false⟩ /- LOADHINT_LEAD_NS -/,
  ⟨0x2202, 1, 0x09, 1, 1, .u16, .rw, true, 2, 1, .const 2000, .span 100 10000, false, .none, false, false⟩ /- LOADHINT_HOLD_NS -/,
  ⟨0x2203, 1, 0x00, 1, 1, .bits32, .rw, false, 2, 2, .const 0, .bits 0x80FF00FF, false, .none, false, false⟩ /- COOLANT_REPORT -/,
  ⟨0x2203, 1, 0x01, 1, 1, .u16, .rw, false, 2, 1, .const 1000, .span 100 10000, false, .none, false, false⟩ /- COOLANT_REFRESH_MS -/,
  ⟨0x2203, 1, 0x02, 1, 1, .u32, .ro, false, 2, 2, .const 0xFFFFFFFF, .any, false, .none, false, false⟩ /- COOLANT_AGE_MS -/,
  ⟨0x2203, 1, 0x03, 1, 1, .enum, .ro, false, 2, 2, .const 5, .any, false, .none, false, false⟩ /- COOLANT_STATUS -/,
  ⟨0x2203, 1, 0x04, 1, 1, .u16, .ro, false, 2, 2, .const 380, .any, false, .none, false, false⟩ /- CAP_THERMAL_W -/,
  ⟨0x2204, 1, 0x00, 1, 1, .u8, .rw, true, 2, 1, .const 110, .span 90 118, false, .none, false, false⟩ /- T_SOFT_C -/,
  ⟨0x2204, 1, 0x01, 1, 1, .u8, .rw, true, 2, 1, .const 95, .span 85 100, false, .none, false, false⟩ /- T_STACK_SOFT_C -/,
  ⟨0x2204, 1, 0x02, 1, 1, .u8, .const, false, 2, 2, .const 120, .any, false, .none, false, false⟩ /- T_HW_C -/,
  ⟨0x2204, 1, 0x03, 1, 1, .u8, .const, false, 2, 2, .const 130, .any, false, .none, false, false⟩ /- T_TRIP_C -/,
  ⟨0x2204, 1, 0x04, 1, 1, .u8, .const, false, 2, 2, .const 103, .any, false, .none, false, false⟩ /- T_STACK_HW_C -/,
  ⟨0x2204, 1, 0x05, 1, 1, .u8, .const, false, 2, 2, .const 110, .any, false, .none, false, false⟩ /- T_STACK_TRIP_C -/,
  ⟨0x2205, 1, 0x00, 28, 1, .i32, .ro, false, 2, 2, .const 0, .any, false, .none, false, false⟩ /- TEMP_C -/,
  ⟨0x2205, 1, 0x1C, 1, 1, .i32, .ro, false, 3, 3, .const 0, .any, false, .none, false, false⟩ /- TEMP_MAX_C -/,
  ⟨0x2205, 1, 0x1D, 1, 1, .bits32, .ro, false, 2, 2, .const 0, .any, false, .none, false, false⟩ /- SENSOR_FAULT_MASK -/,
  ⟨0x2206, 1, 0x00, 1, 1, .u32, .ro, false, 2, 2, .const 0, .any, true, .none, false, true⟩ /- TRIP_COUNT -/,
  ⟨0x2207, 1, 0x00, 11, 1, .u8, .rwb, true, 2, 1, .vrAddr, .span 0 127, false, .run, false, false⟩ /- VR_ADDR -/,
  ⟨0x2207, 1, 0x0B, 1, 1, .bits32, .rwb, true, 2, 1, .const 0x000007E0, .bits 0x7FF, false, .run, false, false⟩ /- VR_SEGMENT -/,
  ⟨0x2207, 1, 0x0C, 1, 1, .u16, .rwb, true, 2, 1, .const 1000, .oneOf [100, 400, 1000], false, .run, false, false⟩ /- VR_CLOCK_KHZ -/,
  ⟨0x2208, 1, 0x00, 11, 1, .u32, .ro, false, 2, 2, .const 0, .any, false, .none, false, false⟩ /- RAIL_CURRENT_MA -/,
  ⟨0x2209, 1, 0x01, 15, 1, .u32, .ro, false, 2, 2, .const 0, .any, false, .none, false, false⟩ /- PT_EVENTS -/,
  ⟨0x220A, 1, 0x00, 1, 1, .blob 64, .rwb, true, 2, 1, .const 0, .any, false, .run, false, false⟩ /- AGE_RECORD -/,
  ⟨0x220A, 1, 0x01, 1, 1, .enum, .ro, false, 2, 2, .const 0, .any, false, .none, false, true⟩ /- AGE_USE -/,
  ⟨0x220A, 1, 0x02, 4, 1, .u8, .ro, false, 2, 2, .const 0, .any, false, .none, false, true⟩ /- AGE_MV -/,
  ⟨0x220A, 1, 0x06, 1, 1, .bits32, .ro, false, 2, 2, .const 0x0000000F, .any, false, .none, false, true⟩ /- DIV2_ALLOWED -/]

/-- Entries of 0x3000 to 0x30FF (loader and bundle stream). -/
def dictRows30 : List EntrySpec := [
  ⟨0x3000, 1, 0x00, 1, 1, .enum, .ro, false, 2, 1, .const 0, .any, false, .none, false, false⟩ /- PROGRAM_UPLOAD.RING_STATE -/,
  ⟨0x3000, 1, 0x01, 1, 1, .bool, .rw, false, 2, 1, .const 0, .any, false, .none, false, false⟩ /- PROGRAM_UPLOAD.RING_ENABLE -/,
  ⟨0x3000, 1, 0x02, 1, 1, .u64, .rwb, false, 2, 1, .const 0, .multiple 0 0xFFFFFFFFFFFFFFC0 64, false, .ring, false, false⟩ /- PROGRAM_UPLOAD.RING_BASE -/,
  ⟨0x3000, 1, 0x03, 1, 1, .u32, .rwb, false, 2, 1, .const 0, .pow2 16 65536, false, .ring, false, false⟩ /- PROGRAM_UPLOAD.RING_ENTRIES -/,
  ⟨0x3000, 1, 0x04, 1, 1, .u64, .rwb, false, 2, 1, .const 0, .multiple 0 0xFFFFFFFFFFFFFFC0 64, false, .ring, false, false⟩ /- PROGRAM_UPLOAD.CPL_BASE -/,
  ⟨0x3000, 1, 0x05, 1, 1, .u16, .const, false, 2, 1, .const 0, .any, false, .none, false, false⟩ /- PROGRAM_UPLOAD.DOORBELL_SLOT -/,
  ⟨0x3000, 1, 0x06, 1, 1, .u32, .ro, false, 2, 1, .const 0, .any, false, .none, false, false⟩ /- PROGRAM_UPLOAD.HEAD -/,
  ⟨0x3000, 1, 0x07, 1, 1, .u32, .ro, false, 2, 1, .const 0, .any, false, .none, false, false⟩ /- PROGRAM_UPLOAD.TAIL -/,
  ⟨0x3000, 1, 0x08, 1, 1, .enum, .const, false, 2, 1, .const 0, .any, false, .none, false, false⟩ /- PROGRAM_UPLOAD.DIRECTION -/,
  ⟨0x3000, 1, 0x09, 1, 1, .u32, .const, false, 2, 1, .const 50000, .any, false, .none, false, false⟩ /- PROGRAM_UPLOAD.DRAIN_LIMIT_US -/,
  ⟨0x3000, 1, 0x0A, 1, 1, .u16, .rwb, false, 2, 1, .const 0, .span 0 63, false, .ring, false, false⟩ /- PROGRAM_UPLOAD.MSIX_VECTOR -/,
  ⟨0x3000, 1, 0x0B, 1, 1, .u16, .ro, false, 2, 1, .const 0, .any, false, .none, false, false⟩ /- PROGRAM_UPLOAD.LAST_STATUS -/,
  ⟨0x3001, 1, 0x00, 1, 1, .u16, .ro, false, 2, 2, .const 0x0000, .any, false, .none, false, false⟩ /- LOADER_STATUS -/,
  ⟨0x3001, 1, 0x01, 1, 1, .bits32, .ro, false, 2, 2, .const 0, .any, false, .none, false, false⟩ /- LOADER_DETAIL -/,
  ⟨0x3001, 1, 0x02, 1, 1, .enum, .ro, false, 3, 3, .const 0xFF, .any, false, .none, false, false⟩ /- IMAGE_KIND -/,
  ⟨0x3001, 1, 0x03, 1, 1, .blob 48, .ro, false, 2, 2, .const 0, .any, false, .none, false, false⟩ /- IMAGE_HEADER_DIGEST -/,
  ⟨0x3001, 1, 0x04, 1, 1, .u16, .ro, false, 3, 3, .const 0, .any, false, .none, false, false⟩ /- IMAGE_CONTRACT -/,
  ⟨0x3001, 1, 0x05, 1, 1, .u16, .ro, false, 2, 2, .const 0, .any, false, .none, false, false⟩ /- STREAM_LENGTH_LOADED -/,
  ⟨0x3001, 1, 0x06, 1, 1, .bits32, .ro, false, 2, 2, .const 0, .any, false, .none, false, false⟩ /- SCHED_DIV_LOADED -/,
  ⟨0x3001, 1, 0x07, 1, 1, .u32, .ro, false, 2, 2, .const 0, .any, false, .none, false, false⟩ /- CERT_SERIAL -/,
  ⟨0x3001, 1, 0x08, 1, 1, .u64, .ro, false, 2, 2, .const 0, .any, false, .none, false, false⟩ /- CUSTOMER_ID -/,
  ⟨0x3001, 1, 0x09, 1, 1, .u64, .ro, false, 2, 2, .const 0, .any, false, .none, false, false⟩ /- IMAGE_BYTES_RECEIVED -/,
  ⟨0x3002, 1, 0x00, 1, 1, .u64, .ro, false, 3, 3, .const 0, .any, false, .none, false, false⟩ /- BUNDLE_COUNT -/,
  ⟨0x3002, 1, 0x01, 1, 1, .u32, .ro, false, 3, 3, .const 0, .any, false, .none, false, false⟩ /- BUNDLE_COUNT_LO -/,
  ⟨0x3002, 1, 0x02, 1, 1, .u16, .ro, true, 2, 2, .const 0, .any, false, .none, false, false⟩ /- ISSUE_ADDR -/,
  ⟨0x3002, 1, 0x03, 1, 1, .u64, .ro, false, 2, 2, .const 0, .any, false, .none, false, false⟩ /- HOLD_CYCLES -/,
  ⟨0x3002, 1, 0x04, 1, 1, .u32, .ro, false, 2, 2, .const 0, .any, false, .none, false, false⟩ /- HOLD_EVENTS -/,
  ⟨0x3002, 1, 0x05, 1, 1, .bits32, .ro, true, 2, 2, .const 0, .any, false, .none, false, false⟩ /- HOLD_CAUSES -/,
  ⟨0x3002, 1, 0x06, 1, 1, .u64, .ro, true, 2, 2, .const 0, .any, false, .none, false, false⟩ /- HOLD_CORES -/,
  ⟨0x3002, 1, 0x07, 1, 1, .u32, .rw, true, 2, 1, .const 20000, .span 1000 1000000, false, .none, false, false⟩ /- HOLD_LIMIT_US -/,
  ⟨0x3002, 1, 0x08, 1, 1, .u32, .ro, false, 2, 2, .const 0, .any, false, .none, false, true⟩ /- LONGEST_HOLD_CYCLES -/,
  ⟨0x3002, 1, 0x09, 1, 1, .bool, .ro, false, 2, 2, .const 0, .any, false, .none, false, false⟩ /- COUNTER_WARN -/,
  ⟨0x3002, 1, 0x0A, 1, 1, .u32, .ro, false, 2, 2, .const 0, .any, false, .none, false, false⟩ /- APPLY_MARKS -/,
  ⟨0x3003, 1, 0x00, 1, 1, .bits32, .ro, true, 2, 2, .const 0, .any, false, .none, false, false⟩ /- PREDICATES -/,
  ⟨0x3003, 1, 0x01, 1, 1, .u32, .ro, false, 2, 2, .const 0, .any, false, .none, false, false⟩ /- BRANCHES_TAKEN -/,
  ⟨0x3003, 1, 0x02, 1, 1, .u8, .ro, true, 2, 2, .const 0, .any, false, .none, false, false⟩ /- LOOP_DEPTH -/,
  ⟨0x3004, 1, 0x00, 1, 1, .u32, .ro, false, 2, 2, .const 0, .any, false, .none, false, false⟩ /- NOC_FAULTS -/,
  ⟨0x3004, 1, 0x01, 1, 1, .u32, .ro, false, 2, 2, .const 0, .any, false, .none, false, false⟩ /- FLITS_DISCARDED -/,
  ⟨0x3005, 1, 0x00, 1, 1, .u8, .ro, true, 2, 2, .const 0, .any, false, .none, false, false⟩ /- HANDOFF_OCCUPANCY -/,
  ⟨0x3010, 32, 0x00, 1, 1, .blob 16, .ro, false, 3, 3, .const 0, .any, false, .none, false, false⟩ /- FUNC_NAME -/,
  ⟨0x3010, 32, 0x01, 1, 1, .bool, .ro, false, 3, 3, .const 0, .any, false, .none, false, false⟩ /- FUNC_PLACED -/,
  ⟨0x3010, 32, 0x02, 1, 1, .enum, .ro, false, 3, 3, .const 0, .any, false, .none, false, false⟩ /- FUNC_STATE -/,
  ⟨0x3010, 32, 0x03, 1, 1, .u16, .ro, false, 3, 3, .const 0x0000, .any, false, .none, false, false⟩ /- FUNC_STATUS -/]

/-- Entries of 0x3400 to 0x34FF (cores). -/
def dictRows34 : List EntrySpec := [
  ⟨0x3400, 64, 0x00, 1, 1, .enum, .ro, false, 3, 3, .const 0, .any, false, .none, false, false⟩ /- CORE_STATE -/,
  ⟨0x3400, 64, 0x01, 1, 1, .u16, .ro, false, 2, 2, .const 0x0000, .any, false, .none, false, false⟩ /- CORE_FAULT_CODE -/,
  ⟨0x3400, 64, 0x02, 1, 1, .u64, .ro, false, 2, 2, .const 0, .any, false, .none, false, false⟩ /- CORE_FAULT_BUNDLE -/,
  ⟨0x3400, 64, 0x03, 1, 1, .u16, .ro, false, 2, 2, .const 0, .any, false, .none, false, false⟩ /- CORE_FAULT_ADDR -/,
  ⟨0x3400, 64, 0x04, 1, 1, .bits32, .ro, false, 2, 2, .const 0, .any, false, .none, false, false⟩ /- CORE_FAULT_DETAIL -/,
  ⟨0x3400, 64, 0x05, 1, 1, .u32, .ro, false, 2, 2, .const 0, .any, false, .none, false, true⟩ /- CORE_FAULTS -/,
  ⟨0x3400, 64, 0x06, 1, 1, .u32, .ro, false, 2, 2, .const 0, .any, false, .none, false, false⟩ /- CORE_ECC_CORRECTED -/,
  ⟨0x3400, 64, 0x07, 1, 1, .u32, .ro, false, 2, 2, .const 0, .any, false, .none, false, false⟩ /- CORE_ECC_POISONED -/,
  ⟨0x3400, 64, 0x08, 1, 1, .u32, .ro, true, 2, 2, .const 0, .any, false, .none, false, false⟩ /- CORE_STARVE_GRANTS -/,
  ⟨0x3400, 64, 0x09, 1, 1, .u64, .ro, true, 2, 2, .const 0, .any, false, .none, false, false⟩ /- CORE_BANK_WAIT_CYCLES -/,
  ⟨0x3400, 64, 0x0A, 1, 1, .u32, .ro, true, 2, 2, .const 0, .any, false, .none, false, false⟩ /- CORE_QUEUE_HOLDS -/,
  ⟨0x3400, 64, 0x10, 16, 1, .u8, .rw, true, 2, 1, .const 1, .span 0 15, false, .run, true, false⟩ /- CHAN_WEIGHT -/,
  ⟨0x3400, 64, 0x20, 1, 1, .u16, .ro, true, 2, 2, .const 0, .any, false, .none, false, false⟩ /- CORE_READS_OUTSTANDING -/,
  ⟨0x3400, 64, 0x21, 1, 1, .u16, .ro, true, 2, 2, .const 0, .any, false, .none, false, true⟩ /- CORE_READS_PEAK -/,
  ⟨0x3400, 64, 0x22, 1, 1, .u32, .ro, false, 2, 2, .const 0, .any, false, .none, false, false⟩ /- CORE_DE_READ_ERRORS -/,
  ⟨0x3400, 64, 0x23, 1, 1, .u32, .rw, true, 2, 1, .const 1000, .span 10 100000, false, .none, false, false⟩ /- CORE_ACK_TIMEOUT_US -/,
  ⟨0x3400, 64, 0x24, 1, 1, .blob 512, .ro, true, 2, 2, .const 0, .any, false, .none, false, false⟩ /- CORE_SEM_SNAPSHOT -/,
  ⟨0x3400, 64, 0x25, 1, 1, .u64, .ro, true, 2, 2, .const 0, .any, false, .none, false, false⟩ /- CORE_BARRIER_COUNTS -/,
  ⟨0x3400, 64, 0x28, 3, 1, .bits32, .rwb, false, 2, 1, .const 0, .bits 0xC0FFFF00, false, .run, false, false⟩ /- EP_BIND -/,
  ⟨0x3400, 64, 0x2B, 1, 1, .bits32, .rwb, false, 2, 1, .const 0, .any, false, .run, false, false⟩ /- EP_WORLD_WINDOW -/,
  ⟨0x3400, 64, 0x2C, 1, 1, .u32, .ro, false, 2, 2, .const 0, .any, false, .none, false, false⟩ /- CORE_INBOUND_DROPS -/,
  ⟨0x3400, 64, 0x30, 3, 1, .bits32, .rwb, false, 2, 1, .const 0, .any, false, .run, false, false⟩ /- EP_WINDOW -/]

/-- Entries of 0x3800 to 0x38FF (arithmetic). -/
def dictRows38 : List EntrySpec := [
  ⟨0x3800, 1, 0x00, 1, 1, .bits32, .const, false, 3, 3, .const 0x00007FBF, .any, false, .none, false, false⟩ /- FMT_TE_INPUT -/,
  ⟨0x3800, 1, 0x01, 1, 1, .bits32, .const, false, 3, 3, .const 0x00007FFF, .any, false, .none, false, false⟩ /- FMT_DRAIN_OUTPUT -/,
  ⟨0x3800, 1, 0x02, 1, 1, .bits32, .const, false, 3, 3, .const 0x0000007F, .any, false, .none, false, false⟩ /- FMT_VE -/,
  ⟨0x3800, 1, 0x03, 1, 1, .bool, .rw, false, 2, 1, .const 1, .any, false, .run, true, false⟩ /- STOCHASTIC_ALLOWED -/,
  ⟨0x3800, 1, 0x04, 1, 1, .enum, .rwb, false, 2, 1, .const 0, .span 0 1, false, .run, false, false⟩ /- SEED_SOURCE -/,
  ⟨0x3800, 1, 0x05, 1, 1, .u32, .ro, false, 2, 2, .const 0, .any, false, .none, false, true⟩ /- SEED_GEN -/,
  ⟨0x3801, 1, 0x00, 64, 1, .u32, .rwb, true, 2, 1, .seed, .span 1 0xFFFFFFFF, false, .run, false, false⟩ /- LFSR_SEED -/,
  ⟨0x3802, 1, 0x00, 64, 1, .u32, .ro, false, 2, 2, .const 0, .any, false, .none, false, false⟩ /- NAN_RESULTS -/,
  ⟨0x3803, 1, 0x00, 64, 1, .u32, .ro, false, 2, 2, .const 0, .any, false, .none, false, false⟩ /- INF_RESULTS -/,
  ⟨0x3804, 1, 0x00, 64, 1, .u32, .ro, false, 2, 2, .const 0, .any, false, .none, false, false⟩ /- SATURATIONS -/,
  ⟨0x3805, 1, 0x00, 64, 1, .u32, .ro, false, 2, 2, .const 0, .any, false, .none, false, false⟩ /- SCALE_INVALID -/,
  ⟨0x3806, 1, 0x00, 1, 1, .u32, .ro, false, 2, 2, .const 0, .any, false, .none, false, false⟩ /- SPARSE_META_FAULTS -/]

/-- Entries of 0x3900 to 0x39FF (attention and the Hamper). -/
def dictRows39 : List EntrySpec := [
  ⟨0x3900, 1, 0x00, 1, 1, .enum, .ro, false, 3, 3, .const 0, .any, false, .none, false, false⟩ /- HAMPER_STATE -/,
  ⟨0x3900, 1, 0x01, 1, 1, .bool, .rw, false, 3, 3, .const 0, .any, false, .none, false, false⟩ /- HAMPER_ENABLE -/,
  ⟨0x3900, 1, 0x02, 1, 1, .u32, .const, false, 3, 3, .const 10000, .any, false, .none, false, false⟩ /- HAMPER_DRAIN_LIMIT_US -/,
  ⟨0x3901, 1, 0x00, 1, 1, .u64, .rwb, false, 3, 3, .const 0, .any, false, .hamper, false, false⟩ /- HAMPER_BASE -/,
  ⟨0x3901, 1, 0x01, 1, 1, .u32, .rwb, false, 3, 3, .const 0, .any, false, .hamper, false, false⟩ /- SLOT_BYTES -/,
  ⟨0x3901, 1, 0x02, 1, 1, .u32, .rwb, false, 3, 3, .const 0, .span 1 16777215, false, .hamper, false, false⟩ /- SLOT_COUNT -/,
  ⟨0x3901, 1, 0x03, 1, 1, .u8, .rwb, false, 3, 3, .const 0, .span 1 32, false, .hamper, false, false⟩ /- KV_HEADS -/,
  ⟨0x3901, 1, 0x04, 1, 1, .u8, .rwb, false, 3, 3, .const 0, .oneOf [32, 64, 96, 128], false, .hamper, false, false⟩ /- HEAD_DIM -/,
  ⟨0x3901, 1, 0x05, 1, 1, .u8, .rwb, false, 3, 3, .const 0, .span 1 255, false, .hamper, false, false⟩ /- LAYERS -/,
  ⟨0x3901, 1, 0x06, 1, 1, .bits32, .rwb, false, 3, 3, .const 0x00000001, .bits 3, false, .hamper, false, false⟩ /- FORMATS_ALLOWED -/,
  ⟨0x3901, 1, 0x07, 1, 1, .u32, .rwb, false, 3, 3, .const 0, .multiple 16 65536 16, false, .hamper, false, false⟩ /- MAX_PAGES -/,
  ⟨0x3901, 1, 0x08, 1, 1, .u16, .rwb, false, 3, 3, .const 0, .span 1 4096, false, .hamper, false, false⟩ /- SEQ_MAX -/,
  ⟨0x3901, 1, 0x09, 1, 1, .u64, .rwb, false, 3, 3, .const 0, .multiple 0x0600000000 0x2FFFFFFFFF 64, false, .hamper, false, false⟩ /- SEQ_TABLE_BASE -/,
  ⟨0x3901, 1, 0x0A, 1, 1, .u64, .rwb, false, 3, 3, .const 0, .multiple 0x0600000000 0x2FFFFFFFFF 64, false, .hamper, false, false⟩ /- LIST_BASE -/,
  ⟨0x3901, 1, 0x0B, 1, 1, .u64, .rwb, false, 3, 3, .const 0, .multiple 0x0600000000 0x2FFFFFFFFF 64, false, .hamper, false, false⟩ /- FREE_RING_BASE -/,
  ⟨0x3901, 1, 0x0C, 1, 1, .u32, .rwb, false, 3, 3, .const 0, .pow2 1 0x80000000, false, .hamper, false, false⟩ /- FREE_RING_ENTRIES -/,
  ⟨0x3901, 1, 0x0D, 1, 1, .u64, .rwb, false, 3, 3, .const 0, .multiple 0x0600000000 0x2FFFFFFFFF 4096, false, .hamper, false, false⟩ /- POP_JOURNAL_BASE -/,
  ⟨0x3902, 1, 0x00, 1, 1, .u32, .ro, false, 3, 3, .const 0, .any, false, .none, false, false⟩ /- FREE_COUNT -/,
  ⟨0x3902, 1, 0x01, 1, 1, .u32, .rw, true, 3, 2, .const 4608, .any, false, .none, false, false⟩ /- FREE_LOW_WATER -/,
  ⟨0x3902, 1, 0x02, 1, 1, .u16, .rw, true, 3, 2, .const 64, .span 1 4096, false, .none, false, false⟩ /- EVICT_PER_PERIOD -/,
  ⟨0x3902, 1, 0x03, 1, 1, .u32, .const, false, 3, 3, .const 2000, .any, false, .none, false, false⟩ /- EDIT_BOUND_NS -/,
  ⟨0x3902, 1, 0x04, 1, 1, .u8, .const, false, 3, 3, .const 9, .any, false, .none, false, false⟩ /- WALK_ATTEMPTS -/,
  ⟨0x3902, 1, 0x05, 1, 1, .u16, .const, false, 3, 3, .const 512, .any, false, .none, false, false⟩ /- WALK_RETRY_CYCLES -/,
  ⟨0x3903, 1, 0x00, 1, 1, .u32, .ro, false, 3, 3, .const 0, .any, false, .none, false, false⟩ /- COLUMNS_EVICTED -/,
  ⟨0x3903, 1, 0x01, 1, 1, .u64, .ro, false, 3, 3, .const 0, .any, false, .none, false, false⟩ /- SLOTS_EVICTED -/,
  ⟨0x3903, 1, 0x02, 10, 1, .u32, .ro, false, 3, 3, .const 0, .any, false, .none, false, false⟩ /- HAMPER_EVENTS -/,
  ⟨0x3903, 1, 0x0C, 1, 1, .u32, .ro, false, 2, 2, .const 0, .any, false, .none, false, false⟩ /- AUDIT_SLOTS_RETURNED -/,
  ⟨0x3904, 1, 0x00, 1, 1, .u16, .rw, false, 3, 3, .const 0, .any, false, .none, false, false⟩ /- SEQ_SELECT -/,
  ⟨0x3904, 1, 0x01, 1, 1, .bits32, .ro, false, 3, 3, .const 0, .any, false, .none, false, false⟩ /- SEQ_FLAGS -/,
  ⟨0x3904, 1, 0x02, 1, 1, .u32, .ro, false, 3, 3, .const 0, .any, false, .none, false, false⟩ /- SEQ_LENGTH -/,
  ⟨0x3904, 1, 0x03, 1, 1, .u32, .ro, false, 3, 3, .const 0xFFFFFFFF, .any, false, .none, false, false⟩ /- SEQ_RECOMPUTE_FROM -/,
  ⟨0x3904, 1, 0x04, 1, 1, .u32, .ro, false, 3, 3, .const 0, .any, false, .none, false, false⟩ /- SEQ_SLOTS_HELD -/,
  ⟨0x3905, 1, 0x00, 1, 1, .bits32, .const, false, 3, 3, .const 0x0000000F, .any, false, .none, false, false⟩ /- ATTN_HEAD_DIMS -/,
  ⟨0x3905, 1, 0x01, 1, 1, .u8, .const, false, 3, 3, .const 64, .any, false, .none, false, false⟩ /- ATTN_MAX_NODES -/]

/-- Entries of 0x4000 to 0x40FF (floor cache). -/
def dictRows40 : List EntrySpec := [
  ⟨0x4000, 1, 0x00, 1, 1, .enum, .ro, false, 3, 3, .const 0, .any, false, .none, false, false⟩ /- FC_MODE -/,
  ⟨0x4001, 1, 0x00, 8, 1, .bits32, .rwb, true, 2, 1, .part, .bits 0xC000FFFF, false, .run, false, false⟩ /- PART -/,
  ⟨0x4002, 1, 0x00, 1, 1, .u64, .ro, false, 2, 2, .const 0, .any, false, .none, false, false⟩ /- FC_HITS -/,
  ⟨0x4002, 1, 0x01, 1, 1, .u64, .ro, false, 2, 2, .const 0, .any, false, .none, false, false⟩ /- FC_MISSES -/,
  ⟨0x4002, 1, 0x02, 1, 1, .u32, .ro, false, 2, 2, .const 0, .any, false, .none, false, false⟩ /- FC_ECC_CORRECTED -/,
  ⟨0x4002, 1, 0x03, 1, 1, .u32, .ro, false, 2, 2, .const 0, .any, false, .none, false, false⟩ /- FC_ECC_REFETCHED -/]

/-- Entries of 0x4100 to 0x41FF (DRAM controllers). -/
def dictRows41 : List EntrySpec := [
  ⟨0x4100, 1, 0x00, 12, 1, .u64, .rwb, true, 2, 1, .mapMask, .any, false, .run, false, false⟩ /- MAP_MASK -/,
  ⟨0x4100, 1, 0x0C, 1, 1, .enum, .ro, false, 2, 2, .const 0, .any, false, .none, false, true⟩ /- MAP_IN_USE -/,
  ⟨0x4102, 1, 0x00, 1, 1, .u64, .rw, false, 1, 1, .const 0, .any, false, .none, false, false⟩ /- APERTURE_BASE -/,
  ⟨0x4103, 1, 0x00, 1, 1, .u32, .rw, true, 2, 1, .const 4096, .span 512 32768, false, .none, false, false⟩ /- ROW_DISTURB_THRESHOLD -/,
  ⟨0x4103, 1, 0x01, 1, 1, .u16, .rw, true, 2, 1, .const 32, .span 8 1024, false, .none, false, false⟩ /- ROW_THROTTLE_CYCLES -/,
  ⟨0x4103, 1, 0x02, 1, 1, .u32, .rw, true, 2, 1, .const 1000, .span 100 100000, false, .none, false, false⟩ /- ROW_THROTTLE_US -/,
  ⟨0x4104, 1, 0x00, 1, 1, .enum, .ro, false, 2, 2, .const 0, .any, false, .none, false, false⟩ /- SCRUB_STATE -/,
  ⟨0x4104, 1, 0x01, 1, 1, .bool, .rw, false, 2, 1, .const 1, .any, false, .none, false, false⟩ /- SCRUB_ENABLE -/,
  ⟨0x4104, 1, 0x02, 1, 1, .u16, .rw, true, 2, 1, .const 24, .span 1 720, false, .none, false, false⟩ /- SCRUB_PERIOD_H -/,
  ⟨0x4104, 1, 0x03, 1, 1, .u32, .const, false, 2, 2, .const 1000, .any, false, .none, false, false⟩ /- SCRUB_DRAIN_LIMIT_US -/,
  ⟨0x4104, 1, 0x04, 1, 1, .u32, .ro, false, 2, 2, .const 0, .any, false, .none, false, false⟩ /- SCRUB_PASSES -/,
  ⟨0x4105, 1, 0x00, 1, 1, .u64, .const, false, 3, 3, .const 0x0000000000, .any, false, .none, false, false⟩ /- DRIVE_PART_BASE -/,
  ⟨0x4105, 1, 0x01, 1, 1, .u64, .const, false, 3, 3, .const 0x0600000000, .any, false, .none, false, false⟩ /- DRIVE_PART_SIZE -/,
  ⟨0x4105, 1, 0x02, 1, 1, .u64, .const, false, 3, 3, .const 0x0600000000, .any, false, .none, false, false⟩ /- WORK_BASE -/,
  ⟨0x4105, 1, 0x03, 1, 1, .u64, .const, false, 3, 3, .const 0x2A00000000, .any, false, .none, false, false⟩ /- WORK_SIZE -/,
  ⟨0x4105, 1, 0x04, 1, 1, .bool, .ro, false, 3, 3, .const 0, .any, false, .none, false, false⟩ /- DRIVE_SEALED -/,
  ⟨0x4105, 1, 0x05, 1, 1, .bool, .ro, false, 3, 3, .const 0, .any, false, .none, false, false⟩ /- ZEROISE_BUSY -/,
  ⟨0x4106, 1, 0x00, 1, 1, .u32, .rw, true, 2, 1, .const 100, .span 10 10000, false, .none, false, false⟩ /- RETRAIN_PERIOD_MS -/,
  ⟨0x4106, 1, 0x01, 1, 1, .u8, .rw, true, 2, 1, .const 5, .span 1 20, false, .none, false, false⟩ /- RETRAIN_TEMP_DELTA_C -/,
  ⟨0x4110, 8, 0x00, 1, 1, .enum, .ro, false, 2, 2, .const 0, .any, true, .none, false, true⟩ /- STACK_TRAIN_STATE -/,
  ⟨0x4110, 8, 0x01, 1, 1, .i32, .ro, false, 2, 2, .const 0, .any, true, .none, false, false⟩ /- STACK_TEMP_C -/,
  ⟨0x4110, 8, 0x02, 1, 1, .u32, .ro, false, 2, 2, .const 0, .any, false, .none, false, false⟩ /- STACK_ECC_CORRECTED -/,
  ⟨0x4110, 8, 0x03, 1, 1, .u32, .ro, false, 2, 2, .const 0, .any, false, .none, false, false⟩ /- STACK_ECC_UNCORRECTABLE -/,
  ⟨0x4110, 8, 0x04, 1, 1, .u32, .ro, false, 2, 2, .const 0, .any, false, .none, false, false⟩ /- STACK_CA_RETRIES -/,
  ⟨0x4110, 8, 0x05, 1, 1, .u32, .ro, false, 2, 2, .const 0, .any, false, .none, false, false⟩ /- STACK_ROW_DISTURB_EVENTS -/,
  ⟨0x4110, 8, 0x06, 1, 1, .u32, .ro, false, 2, 2, .const 0, .any, false, .none, false, false⟩ /- STACK_RETRAIN_FAILS -/,
  ⟨0x4110, 8, 0x07, 1, 1, .u8, .ro, false, 2, 2, .const 32, .any, true, .none, false, false⟩ /- STACK_REFRESH_WINDOW_MS -/,
  ⟨0x4110, 8, 0x08, 1, 1, .u32, .ro, true, 2, 2, .const 0, .any, true, .none, false, false⟩ /- STACK_RETRAINS -/]

/-- Entries of 0x4200 to 0x42FF (port regulation). -/
def dictRows42 : List EntrySpec := [
  ⟨0x4200, 1, 0x00, 1, 1, .u16, .rw, true, 2, 1, .const 1024, .multiple 256 16384 64, false, .run, true, false⟩ /- REG_WINDOW_CYCLES -/,
  ⟨0x4200, 1, 0x01, 1, 1, .u16, .rw, true, 2, 1, .const 256, .span 64 65535, false, .run, true, false⟩ /- LAT_TARGET_RT -/,
  ⟨0x4200, 1, 0x02, 1, 1, .u16, .rw, true, 2, 1, .const 640, .span 64 65535, false, .run, true, false⟩ /- LAT_TARGET_PT -/,
  ⟨0x4200, 1, 0x03, 1, 1, .u16, .rw, true, 2, 1, .const 2048, .span 64 65535, false, .run, true, false⟩ /- LAT_TARGET_BE -/,
  ⟨0x4200, 1, 0x04, 1, 1, .u16, .rw, true, 2, 1, .const 4096, .span 64 65535, false, .run, true, false⟩ /- LAT_TARGET_MG -/,
  ⟨0x4200, 1, 0x05, 1, 1, .u16, .ro, false, 2, 2, .const 4096, .any, false, .none, false, false⟩ /- ALLOWANCE_SUM -/,
  ⟨0x4210, 5, 0x00, 16, 16, .enum, .rwb, false, 2, 1, .portClass, .span 0 3, false, .run, false, false⟩ /- PORT_CLASS -/,
  ⟨0x4210, 5, 0x01, 16, 16, .u32, .rw, true, 2, 1, .const 0, .zeroOr 256 16777216, false, .run, true, false⟩ /- PORT_BUDGET_BYTES -/,
  ⟨0x4210, 5, 0x02, 16, 16, .u16, .rwb, true, 2, 1, .portAllow, .span 1 4096, false, .run, false, false⟩ /- PORT_READ_ALLOWANCE -/,
  ⟨0x4210, 5, 0x03, 16, 16, .u16, .rw, true, 2, 1, .const 2048, .span 1 65535, false, .run, true, false⟩ /- PORT_DEADLINE_CYCLES -/,
  ⟨0x4210, 5, 0x04, 16, 16, .u8, .rw, true, 2, 1, .const 12, .span 1 16, false, .run, true, false⟩ /- PORT_PANIC_ON -/,
  ⟨0x4210, 5, 0x05, 16, 16, .u8, .rw, true, 2, 1, .const 8, .span 0 15, false, .run, true, false⟩ /- PORT_PANIC_OFF -/,
  ⟨0x4210, 5, 0x06, 16, 16, .u8, .rwb, true, 2, 1, .portPart, .oneOf [0, 1, 2, 3, 4, 5, 6, 7, 0xFF], false, .run, false, false⟩ /- PORT_CACHE_PARTITION -/,
  ⟨0x4210, 5, 0x07, 16, 16, .bits32, .ro, false, 2, 2, .const 0, .any, false, .none, false, false⟩ /- PORT_FLAGS -/,
  ⟨0x4210, 5, 0x08, 16, 16, .u32, .ro, false, 2, 2, .const 0, .any, false, .none, false, false⟩ /- PORT_BUDGET_EXHAUSTED -/,
  ⟨0x4210, 5, 0x09, 16, 16, .u32, .ro, false, 2, 2, .const 0, .any, false, .none, false, false⟩ /- PORT_BYTES_LAST_WINDOW -/,
  ⟨0x4210, 5, 0x0A, 16, 16, .u16, .ro, false, 2, 2, .const 0, .any, false, .none, false, false⟩ /- PORT_LAT_AVG -/,
  ⟨0x4210, 5, 0x0B, 16, 16, .u32, .ro, false, 2, 2, .const 0, .any, false, .none, false, true⟩ /- PORT_LAT_MAX -/,
  ⟨0x4210, 5, 0x0C, 16, 16, .blob 32, .ro, false, 2, 2, .const 0, .any, false, .none, false, false⟩ /- PORT_LAT_HISTOGRAM -/,
  ⟨0x4210, 5, 0x0D, 16, 16, .u32, .ro, false, 2, 2, .const 0, .any, false, .none, false, false⟩ /- PORT_DEADLINE_MISSES -/,
  ⟨0x4210, 5, 0x0E, 16, 16, .u32, .ro, false, 2, 2, .const 0, .any, false, .none, false, false⟩ /- PORT_PANIC_EVENTS -/,
  ⟨0x4210, 5, 0x0F, 16, 16, .u32, .ro, false, 2, 2, .const 0, .any, false, .none, false, false⟩ /- PORT_ROW_THROTTLES -/]

/-- Entries of 0x5000 to 0x50FF (ingest). -/
def dictRows50 : List EntrySpec := [
  ⟨0x5000, 1, 0x00, 1, 1, .u64, .ro, false, 2, 2, .const 0, .any, false, .none, false, false⟩ /- SLOTS_ACTIVE -/,
  ⟨0x5000, 1, 0x01, 1, 1, .u32, .ro, false, 2, 2, .const 0, .any, false, .none, false, false⟩ /- UNBOUND_FRAMES -/,
  ⟨0x5000, 1, 0x02, 2, 1, .u32, .ro, false, 2, 2, .const 0, .any, false, .none, false, false⟩ /- INGEST_OVERFLOWS -/,
  ⟨0x5001, 1, 0x00, 1, 1, .enum, .ro, false, 2, 1, .const 0, .any, false, .none, false, false⟩ /- CAPTURE.RING_STATE -/,
  ⟨0x5001, 1, 0x01, 1, 1, .bool, .rw, false, 2, 1, .const 0, .any, false, .none, false, false⟩ /- CAPTURE.RING_ENABLE -/,
  ⟨0x5001, 1, 0x02, 1, 1, .u64, .rwb, false, 2, 1, .const 0, .multiple 0 0xFFFFFFFFFFFFFFC0 64, false, .ring, false, false⟩ /- CAPTURE.RING_BASE -/,
  ⟨0x5001, 1, 0x03, 1, 1, .u32, .rwb, false, 2, 1, .const 0, .pow2 16 65536, false, .ring, false, false⟩ /- CAPTURE.RING_ENTRIES -/,
  ⟨0x5001, 1, 0x04, 1, 1, .u64, .rwb, false, 2, 1, .const 0, .multiple 0 0xFFFFFFFFFFFFFFC0 64, false, .ring, false, false⟩ /- CAPTURE.CPL_BASE -/,
  ⟨0x5001, 1, 0x05, 1, 1, .u16, .const, false, 2, 1, .const 1, .any, false, .none, false, false⟩ /- CAPTURE.DOORBELL_SLOT -/,
  ⟨0x5001, 1, 0x06, 1, 1, .u32, .ro, false, 2, 1, .const 0, .any, false, .none, false, false⟩ /- CAPTURE.HEAD -/,
  ⟨0x5001, 1, 0x07, 1, 1, .u32, .ro, false, 2, 1, .const 0, .any, false, .none, false, false⟩ /- CAPTURE.TAIL -/,
  ⟨0x5001, 1, 0x08, 1, 1, .enum, .const, false, 2, 1, .const 1, .any, false, .none, false, false⟩ /- CAPTURE.DIRECTION -/,
  ⟨0x5001, 1, 0x09, 1, 1, .u32, .const, false, 2, 1, .const 10000, .any, false, .none, false, false⟩ /- CAPTURE.DRAIN_LIMIT_US -/,
  ⟨0x5001, 1, 0x0A, 1, 1, .u16, .rwb, false, 2, 1, .const 0, .span 0 63, false, .ring, false, false⟩ /- CAPTURE.MSIX_VECTOR -/,
  ⟨0x5001, 1, 0x0B, 1, 1, .u16, .ro, false, 2, 1, .const 0, .any, false, .none, false, false⟩ /- CAPTURE.LAST_STATUS -/,
  ⟨0x5002, 1, 0x00, 1, 1, .enum, .ro, false, 2, 1, .const 0, .any, false, .none, false, false⟩ /- REPLAY.RING_STATE -/,
  ⟨0x5002, 1, 0x01, 1, 1, .bool, .rw, false, 2, 1, .const 0, .any, false, .none, false, false⟩ /- REPLAY.RING_ENABLE -/,
  ⟨0x5002, 1, 0x02, 1, 1, .u64, .rwb, false, 2, 1, .const 0, .multiple 0 0xFFFFFFFFFFFFFFC0 64, false, .ring, false, false⟩ /- REPLAY.RING_BASE -/,
  ⟨0x5002, 1, 0x03, 1, 1, .u32, .rwb, false, 2, 1, .const 0, .pow2 16 65536, false, .ring, false, false⟩ /- REPLAY.RING_ENTRIES -/,
  ⟨0x5002, 1, 0x04, 1, 1, .u64, .rwb, false, 2, 1, .const 0, .multiple 0 0xFFFFFFFFFFFFFFC0 64, false, .ring, false, false⟩ /- REPLAY.CPL_BASE -/,
  ⟨0x5002, 1, 0x05, 1, 1, .u16, .const, false, 2, 1, .const 2, .any, false, .none, false, false⟩ /- REPLAY.DOORBELL_SLOT -/,
  ⟨0x5002, 1, 0x06, 1, 1, .u32, .ro, false, 2, 1, .const 0, .any, false, .none, false, false⟩ /- REPLAY.HEAD -/,
  ⟨0x5002, 1, 0x07, 1, 1, .u32, .ro, false, 2, 1, .const 0, .any, false, .none, false, false⟩ /- REPLAY.TAIL -/,
  ⟨0x5002, 1, 0x08, 1, 1, .enum, .const, false, 2, 1, .const 0, .any, false, .none, false, false⟩ /- REPLAY.DIRECTION -/,
  ⟨0x5002, 1, 0x09, 1, 1, .u32, .const, false, 2, 1, .const 10000, .any, false, .none, false, false⟩ /- REPLAY.DRAIN_LIMIT_US -/,
  ⟨0x5002, 1, 0x0A, 1, 1, .u16, .rwb, false, 2, 1, .const 0, .span 0 63, false, .ring, false, false⟩ /- REPLAY.MSIX_VECTOR -/,
  ⟨0x5002, 1, 0x0B, 1, 1, .u16, .ro, false, 2, 1, .const 0, .any, false, .none, false, false⟩ /- REPLAY.LAST_STATUS -/,
  ⟨0x5003, 1, 0x00, 1, 1, .u64, .rw, false, 2, 1, .const 0, .any, false, .none, false, false⟩ /- CAPTURE_MASK -/,
  ⟨0x5003, 1, 0x01, 1, 1, .u32, .ro, false, 2, 2, .const 0, .any, false, .none, false, false⟩ /- CAPTURE_SKIPPED -/,
  ⟨0x5010, 16, 0x00, 1, 1, .enum, .rwb, false, 2, 1, .const 0, .span 0 1, false, .run, false, false⟩ /- RX_PHY -/,
  ⟨0x5010, 16, 0x01, 1, 1, .u8, .rwb, false, 2, 1, .const 4, .span 1 4, false, .run, false, false⟩ /- RX_WIDTH -/,
  ⟨0x5010, 16, 0x02, 1, 1, .u16, .rwb, false, 2, 1, .const 1500, .any, false, .run, false, false⟩ /- RX_RATE -/,
  ⟨0x5010, 16, 0x03, 1, 1, .bits32, .rwb, true, 2, 1, .const 0x000000E4, .bits 0xFFF, false, .run, false, false⟩ /- RX_LANE_MAP -/,
  ⟨0x5010, 16, 0x04, 1, 1, .u32, .ro, false, 2, 2, .const 0, .any, false, .none, false, false⟩ /- RX_HDR_CORRECTED -/,
  ⟨0x5010, 16, 0x05, 1, 1, .u32, .ro, false, 2, 2, .const 0, .any, false, .none, false, false⟩ /- RX_HDR_DROPS -/,
  ⟨0x5010, 16, 0x06, 1, 1, .enum, .ro, false, 2, 2, .const 0, .any, false, .none, false, false⟩ /- RX_LINK -/,
  ⟨0x5020, 32, 0x00, 2, 1, .blob 48, .rw, false, 2, 2, .const 0, .any, false, .none, false, false⟩ /- CLOCK_MAP_BANK -/,
  ⟨0x5020, 32, 0x02, 2, 1, .u32, .ro, false, 2, 2, .const 0, .any, false, .none, false, false⟩ /- CLOCK_BANK_COMMITS -/,
  ⟨0x5040, 8, 0x00, 1, 1, .enum, .rwb, false, 2, 1, .const 2, .span 0 2, false, .run, false, false⟩ /- ETH_FEC -/,
  ⟨0x5040, 8, 0x01, 1, 1, .bool, .rwb, false, 2, 1, .const 1, .any, false, .run, false, false⟩ /- ETH_AUTONEG -/,
  ⟨0x5040, 8, 0x02, 1, 1, .bool, .ro, false, 2, 2, .const 0, .any, false, .none, false, false⟩ /- ETH_LINK_UP -/,
  ⟨0x5040, 8, 0x03, 1, 1, .u32, .ro, false, 2, 2, .const 0, .any, false, .none, false, false⟩ /- ETH_FRAMES_DROPPED -/]

/-- Entries of 0x5100 to 0x51FF (stream slots). -/
def dictRows51 : List EntrySpec := [
  ⟨0x5100, 64, 0x00, 1, 1, .enum, .ro, false, 2, 2, .const 0, .any, false, .none, false, false⟩ /- SLOT_STATE -/,
  ⟨0x5100, 64, 0x01, 1, 1, .bool, .rw, false, 2, 1, .const 0, .any, false, .none, false, false⟩ /- SLOT_ENABLE -/,
  ⟨0x5100, 64, 0x02, 1, 1, .enum, .rwb, false, 2, 1, .const 0, .span 0 5, false, .slot, false, false⟩ /- SLOT_SOURCE_KIND -/,
  ⟨0x5100, 64, 0x03, 1, 1, .u8, .rwb, false, 2, 1, .const 0, .any, false, .slot, false, false⟩ /- SLOT_SOURCE_PORT -/,
  ⟨0x5100, 64, 0x04, 1, 1, .bits32, .rwb, false, 2, 1, .const 0, .bits 0x1F3F3F, false, .slot, false, false⟩ /- SLOT_CSI_SELECT -/,
  ⟨0x5100, 64, 0x05, 1, 1, .u64, .rwb, false, 2, 1, .const 0, .span 0 0xFFFFFFFFFFFF, false, .slot, false, false⟩ /- SLOT_ETH_SRC_MAC -/,
  ⟨0x5100, 64, 0x06, 1, 1, .bits32, .rwb, false, 2, 1, .const 0, .any, false, .slot, false, false⟩ /- SLOT_ETH_FLOW -/,
  ⟨0x5100, 64, 0x07, 1, 1, .blob 16, .rwb, false, 2, 1, .const 0, .any, false, .slot, false, false⟩ /- SLOT_CAN_ID_SET -/,
  ⟨0x5100, 64, 0x08, 1, 1, .bits32, .rwb, false, 2, 1, .const 0, .bits 0xFFFF01FF, false, .slot, false, false⟩ /- SLOT_SPI_CFG -/,
  ⟨0x5100, 64, 0x09, 1, 1, .bits32, .rwb, false, 2, 1, .const 0, .bits 0xFF00FFFF, false, .slot, false, false⟩ /- SLOT_STAMP_FIELD -/,
  ⟨0x5100, 64, 0x0A, 1, 1, .u8, .rwb, false, 2, 1, .const 0, .span 0 31, false, .slot, false, false⟩ /- SLOT_CLOCK_ID -/,
  ⟨0x5100, 64, 0x0B, 1, 1, .u64, .rwb, false, 2, 1, .const 0, .multiple 0x0600000000 0x2FFFFFFFFF 4096, false, .slot, false, false⟩ /- SLOT_BUF_BASE -/,
  ⟨0x5100, 64, 0x0C, 1, 1, .u32, .rwb, false, 2, 1, .const 0, .multiple 4096 0xFFFFF000 4096, false, .slot, false, false⟩ /- SLOT_BUF_BYTES -/,
  ⟨0x5100, 64, 0x0D, 1, 1, .u8, .rwb, false, 2, 1, .const 4, .span 2 64, false, .slot, false, false⟩ /- SLOT_BUF_COUNT -/,
  ⟨0x5100, 64, 0x0E, 1, 1, .u64, .rwb, false, 2, 1, .const 0, .multiple 0x0600000000 0x2FFFFFFFFF 64, false, .slot, false, false⟩ /- SLOT_REC_BASE -/,
  ⟨0x5100, 64, 0x0F, 1, 1, .u32, .rw, false, 2, 1, .const 33333, .span 100 1000000, false, .none, false, false⟩ /- SLOT_EXPECTED_US -/,
  ⟨0x5100, 64, 0x10, 1, 1, .u32, .rw, false, 2, 1, .const 5000, .span 0 1000000, false, .none, false, false⟩ /- SLOT_SLACK_US -/,
  ⟨0x5100, 64, 0x11, 1, 1, .u8, .rw, false, 2, 1, .const 3, .span 1 255, false, .none, false, false⟩ /- SLOT_DROPOUT_LIMIT -/,
  ⟨0x5100, 64, 0x12, 1, 1, .bits32, .rwb, false, 2, 1, .const 0, .any, false, .slot, false, false⟩ /- SLOT_SHAPE -/,
  ⟨0x5100, 64, 0x13, 1, 1, .enum, .rwb, false, 2, 1, .const 0, .span 0 2, false, .slot, false, false⟩ /- SLOT_PATTERN_KIND -/,
  ⟨0x5100, 64, 0x14, 1, 1, .u16, .rwb, false, 2, 1, .const 0, .multiple 4 4096 4, false, .slot, false, false⟩ /- SLOT_PATTERN_BYTES -/,
  ⟨0x5100, 64, 0x15, 1, 1, .blob 4096, .rwb, false, 2, 1, .const 0, .any, false, .slot, false, false⟩ /- SLOT_PATTERN_BLOB -/,
  ⟨0x5100, 64, 0x16, 1, 1, .u8, .rw, false, 2, 1, .const 3, .span 1 255, false, .none, false, false⟩ /- SLOT_PATTERN_FAULT_COUNT -/,
  ⟨0x5100, 64, 0x17, 1, 1, .u32, .ro, false, 2, 2, .const 38333, .any, false, .none, false, false⟩ /- SLOT_DRAIN_LIMIT_US -/,
  ⟨0x5100, 64, 0x18, 1, 1, .u32, .ro, false, 2, 2, .const 0, .any, false, .none, false, false⟩ /- SLOT_LAST_SEQ -/,
  ⟨0x5100, 64, 0x19, 1, 1, .u32, .ro, false, 2, 2, .const 0, .any, false, .none, false, false⟩ /- SLOT_SAMPLES -/,
  ⟨0x5100, 64, 0x20, 1, 1, .u32, .ro, false, 2, 2, .const 0, .any, false, .none, false, false⟩ /- SLOT_DROPOUTS -/,
  ⟨0x5100, 64, 0x21, 1, 1, .u32, .ro, false, 2, 2, .const 0, .any, false, .none, false, false⟩ /- SLOT_PATTERN_FAILS -/,
  ⟨0x5100, 64, 0x22, 1, 1, .u32, .ro, false, 2, 2, .const 0, .any, false, .none, false, false⟩ /- SLOT_SELF_FAILS -/,
  ⟨0x5100, 64, 0x23, 1, 1, .u32, .ro, false, 2, 2, .const 0, .any, false, .none, false, false⟩ /- SLOT_TRUNCATIONS -/,
  ⟨0x5100, 64, 0x24, 1, 1, .u32, .ro, false, 2, 2, .const 0, .any, false, .none, false, false⟩ /- SLOT_CRC_ERRORS -/,
  ⟨0x5100, 64, 0x25, 1, 1, .u32, .ro, false, 2, 2, .const 0, .any, false, .none, false, false⟩ /- SLOT_SHAPE_ERRORS -/,
  ⟨0x5100, 64, 0x26, 1, 1, .u32, .ro, false, 2, 2, .const 0, .any, false, .none, false, false⟩ /- SLOT_STAMP_FAULTS -/,
  ⟨0x5100, 64, 0x27, 1, 1, .u32, .ro, false, 2, 2, .const 0, .any, false, .none, false, false⟩ /- SLOT_SOURCE_GAPS -/,
  ⟨0x5100, 64, 0x28, 1, 1, .u32, .ro, false, 2, 2, .const 0, .any, false, .none, false, false⟩ /- SLOT_DRDY_OVERRUNS -/]

/-- Entries of 0x6000 to 0x60FF (fusion). -/
def dictRows60 : List EntrySpec := [
  ⟨0x6000, 1, 0x00, 1, 1, .enum, .ro, false, 2, 2, .const 0, .any, false, .none, false, false⟩ /- FUSION_STATE -/,
  ⟨0x6000, 1, 0x01, 1, 1, .bool, .rw, false, 2, 1, .const 0, .any, false, .none, false, false⟩ /- FUSION_ENABLE -/,
  ⟨0x6000, 1, 0x02, 1, 1, .u32, .const, false, 2, 2, .const 20000, .any, false, .none, false, false⟩ /- FUSION_DRAIN_LIMIT_US -/,
  ⟨0x6001, 1, 0x00, 1, 1, .u32, .rwb, false, 2, 1, .const 50000000, .span 20000000 200000000, false, .fusion, false, false⟩ /- PERIOD_NS -/,
  ⟨0x6001, 1, 0x01, 1, 1, .u32, .rwb, false, 2, 1, .const 0, .any, false, .fusion, false, false⟩ /- PHASE_NS -/,
  ⟨0x6001, 1, 0x02, 1, 1, .u32, .rw, false, 2, 1, .const 30000000, .any, false, .fusion, true, false⟩ /- CLOSE_LAG_NS -/,
  ⟨0x6001, 1, 0x03, 1, 1, .u32, .rw, false, 2, 1, .const 100000, .span 20000 1000000, false, .none, false, false⟩ /- GUARD_US -/,
  ⟨0x6001, 1, 0x04, 1, 1, .u8, .rw, false, 2, 1, .const 3, .span 1 255, false, .none, false, false⟩ /- GUARD_LIMIT -/,
  ⟨0x6001, 1, 0x05, 1, 1, .u64, .rw, false, 2, 1, .const 0, .any, false, .none, false, false⟩ /- REQUIRED_MASK -/,
  ⟨0x6001, 1, 0x06, 1, 1, .u64, .rwb, false, 2, 1, .const 0, .any, false, .fusion, false, false⟩ /- PACING_MASK -/,
  ⟨0x6001, 1, 0x07, 1, 1, .u32, .rw, false, 2, 1, .const 100000000, .span 0 400000000, false, .fusion, true, false⟩ /- LAG_WINDOW_NS -/,
  ⟨0x6001, 1, 0x08, 1, 1, .u32, .rw, true, 2, 1, .const 20000000, .span 0 50000000, false, .none, false, false⟩ /- EGO_EXTRAP_MAX_NS -/,
  ⟨0x6001, 1, 0x09, 1, 1, .f32, .rw, true, 2, 1, .const 0x3E4CCCCD, .f32 0x00000000 0x3F800000, false, .none, false, false⟩ /- WHEEL_GAIN -/,
  ⟨0x6002, 1, 0x00, 1, 1, .u64, .rwb, false, 2, 1, .const 0, .multiple 0x0600000000 0x2FFFFFFFFF 4096, false, .fusion, false, false⟩ /- OUT_BASE -/,
  ⟨0x6002, 1, 0x01, 1, 1, .u8, .rwb, false, 2, 1, .const 4, .span 2 8, false, .fusion, false, false⟩ /- OUT_COUNT -/,
  ⟨0x6002, 1, 0x02, 1, 1, .u32, .const, false, 2, 2, .const 1314816, .any, false, .none, false, false⟩ /- OUT_BUF_BYTES -/,
  ⟨0x6002, 1, 0x03, 1, 1, .u8, .rw, true, 2, 1, .const 15, .span 0 16, false, .none, false, false⟩ /- GRID_DECAY -/,
  ⟨0x6002, 1, 0x04, 1, 1, .u8, .rw, true, 2, 1, .const 8, .span 1 64, false, .none, false, false⟩ /- LOGODDS_HIT -/,
  ⟨0x6002, 1, 0x05, 1, 1, .u8, .rw, true, 2, 1, .const 2, .span 0 64, false, .none, false, false⟩ /- LOGODDS_FREE -/,
  ⟨0x6002, 1, 0x06, 1, 1, .u16, .rw, true, 2, 1, .const 30, .span 0 300, false, .none, false, false⟩ /- GROUND_HEIGHT_CM -/,
  ⟨0x6002, 1, 0x07, 1, 1, .bool, .rw, false, 2, 1, .const 0, .any, false, .none, false, false⟩ /- GRID_TO_HOST -/,
  ⟨0x6003, 1, 0x00, 1, 1, .enum, .ro, false, 2, 1, .const 0, .any, false, .none, false, false⟩ /- FUSION_OUT.RING_STATE -/,
  ⟨0x6003, 1, 0x01, 1, 1, .bool, .rw, false, 2, 1, .const 0, .any, false, .none, false, false⟩ /- FUSION_OUT.RING_ENABLE -/,
  ⟨0x6003, 1, 0x02, 1, 1, .u64, .rwb, false, 2, 1, .const 0, .multiple 0 0xFFFFFFFFFFFFFFC0 64, false, .ring, false, false⟩ /- FUSION_OUT.RING_BASE -/,
  ⟨0x6003, 1, 0x03, 1, 1, .u32, .rwb, false, 2, 1, .const 0, .pow2 16 65536, false, .ring, false, false⟩ /- FUSION_OUT.RING_ENTRIES -/,
  ⟨0x6003, 1, 0x04, 1, 1, .u64, .rwb, false, 2, 1, .const 0, .multiple 0 0xFFFFFFFFFFFFFFC0 64, false, .ring, false, false⟩ /- FUSION_OUT.CPL_BASE -/,
  ⟨0x6003, 1, 0x05, 1, 1, .u16, .const, false, 2, 1, .const 3, .any, false, .none, false, false⟩ /- FUSION_OUT.DOORBELL_SLOT -/,
  ⟨0x6003, 1, 0x06, 1, 1, .u32, .ro, false, 2, 1, .const 0, .any, false, .none, false, false⟩ /- FUSION_OUT.HEAD -/,
  ⟨0x6003, 1, 0x07, 1, 1, .u32, .ro, false, 2, 1, .const 0, .any, false, .none, false, false⟩ /- FUSION_OUT.TAIL -/,
  ⟨0x6003, 1, 0x08, 1, 1, .enum, .const, false, 2, 1, .const 1, .any, false, .none, false, false⟩ /- FUSION_OUT.DIRECTION -/,
  ⟨0x6003, 1, 0x09, 1, 1, .u32, .const, false, 2, 1, .const 10000, .any, false, .none, false, false⟩ /- FUSION_OUT.DRAIN_LIMIT_US -/,
  ⟨0x6003, 1, 0x0A, 1, 1, .u16, .rwb, false, 2, 1, .const 0, .span 0 63, false, .ring, false, false⟩ /- FUSION_OUT.MSIX_VECTOR -/,
  ⟨0x6003, 1, 0x0B, 1, 1, .u16, .ro, false, 2, 1, .const 0, .any, false, .none, false, false⟩ /- FUSION_OUT.LAST_STATUS -/,
  ⟨0x6004, 1, 0x00, 1, 1, .u16, .rw, false, 2, 1, .const 50, .span 0 500, false, .none, false, false⟩ /- DISPUTE_MARGIN_CM -/,
  ⟨0x6004, 1, 0x01, 1, 1, .f32, .rw, false, 2, 1, .const 0x3F19999A, .f32 0x00000000 0x3F800000, false, .none, false, false⟩ /- DISPUTE_CONF -/,
  ⟨0x6004, 1, 0x02, 1, 1, .u8, .rw, false, 2, 1, .const 10, .span 1 255, false, .none, false, false⟩ /- DISPUTE_HOLD -/,
  ⟨0x6004, 1, 0x03, 1, 1, .i32, .rw, true, 2, 1, .const 4294967272, .i32 (-128) 0, false, .none, false, false⟩ /- FREE_THRESHOLD -/,
  ⟨0x6005, 1, 0x00, 1, 1, .u64, .ro, false, 2, 2, .const 0, .any, false, .none, false, false⟩ /- LAST_INSTANT -/,
  ⟨0x6005, 1, 0x01, 1, 1, .u64, .ro, false, 2, 2, .const 0, .any, false, .none, false, false⟩ /- LAST_T_K -/,
  ⟨0x6005, 1, 0x02, 1, 1, .u16, .ro, false, 2, 2, .const 0, .any, false, .none, false, false⟩ /- TRACKS_ACTIVE -/,
  ⟨0x6005, 1, 0x03, 1, 1, .u16, .ro, false, 2, 2, .const 0, .any, false, .none, false, false⟩ /- TRACKS_CONFIRMED -/,
  ⟨0x6005, 1, 0x04, 1, 1, .u16, .ro, false, 2, 2, .const 0, .any, false, .none, false, false⟩ /- DISPUTES_ACTIVE -/,
  ⟨0x6005, 1, 0x05, 1, 1, .u64, .ro, false, 2, 2, .const 0, .any, false, .none, false, false⟩ /- EGO_HORIZON -/,
  ⟨0x6006, 1, 0x00, 12, 1, .u32, .ro, false, 2, 2, .const 0, .any, false, .none, false, false⟩ /- FUSION_EVENTS -/,
  ⟨0x6020, 16, 0x00, 1, 1, .bool, .rw, false, 2, 1, .const 0, .any, false, .fusion, true, false⟩ /- CLASS_VALID -/,
  ⟨0x6020, 16, 0x01, 1, 1, .f32, .rw, false, 2, 1, .const 0x41135C29, .f32 0x3DCCCCCD 0x42C80000, false, .fusion, true, false⟩ /- CLASS_GATE_D2 -/,
  ⟨0x6020, 16, 0x02, 1, 1, .f32, .rw, false, 2, 1, .const 0x40000000, .f32 0x3DCCCCCD 0x41A00000, false, .fusion, true, false⟩ /- CLASS_GATE_MAX_M -/,
  ⟨0x6020, 16, 0x03, 1, 1, .u8, .rw, false, 2, 1, .const 3, .span 1 16, false, .fusion, true, false⟩ /- CLASS_CONFIRM_M -/,
  ⟨0x6020, 16, 0x04, 1, 1, .u8, .rw, false, 2, 1, .const 5, .span 1 16, false, .fusion, true, false⟩ /- CLASS_CONFIRM_N -/,
  ⟨0x6020, 16, 0x05, 1, 1, .u8, .rw, false, 2, 1, .const 3, .span 1 255, false, .fusion, true, false⟩ /- CLASS_DELETE_K -/,
  ⟨0x6020, 16, 0x06, 1, 1, .u8, .rw, false, 2, 1, .const 20, .span 1 255, false, .fusion, true, false⟩ /- CLASS_COAST_MAX -/,
  ⟨0x6020, 16, 0x07, 1, 1, .f32, .rw, true, 2, 1, .const 0x40000000, .f32 0x3C23D70A 0x42480000, false, .fusion, true, false⟩ /- CLASS_ACCEL_SIGMA -/,
  ⟨0x6020, 16, 0x08, 3, 1, .f32, .rw, false, 2, 1, .const 0x3F800000, .f32 0x3DCCCCCD 0x41F00000, false, .fusion, true, false⟩ /- CLASS_SIZE -/,
  ⟨0x6020, 16, 0x0B, 1, 1, .bits32, .rw, false, 2, 1, .const 0, .bits 0xFFFF, false, .fusion, true, false⟩ /- CLASS_INCOMPATIBLE -/,
  ⟨0x6020, 16, 0x0C, 1, 1, .f32, .rw, false, 2, 1, .const 0x3F000000, .f32 0x00000000 0x3F800000, false, .fusion, true, false⟩ /- CLASS_BIRTH_CONF -/]

/-- Entries of 0x6100 to 0x61FF (calibration). -/
def dictRows61 : List EntrySpec := [
  ⟨0x6100, 64, 0x00, 1, 1, .enum, .rwb, false, 2, 1, .const 0, .span 0 5, false, .fusion, false, false⟩ /- CAL_ROLE -/,
  ⟨0x6100, 64, 0x01, 1, 1, .blob 1500, .rw, false, 2, 1, .const 0, .any, false, .none, false, false⟩ /- CAL_INTRINSICS -/,
  ⟨0x6100, 64, 0x02, 1, 1, .blob 64, .rw, false, 2, 1, .const 0, .any, false, .none, false, false⟩ /- CAL_EXTRINSICS -/,
  ⟨0x6100, 64, 0x03, 1, 1, .u32, .ro, false, 2, 2, .const 0, .any, false, .none, false, false⟩ /- CAL_GEN -/,
  ⟨0x6100, 64, 0x04, 1, 1, .u16, .ro, false, 2, 2, .const 0x0000, .any, false, .none, false, false⟩ /- CAL_STATUS -/,
  ⟨0x6100, 64, 0x05, 1, 1, .u64, .rw, false, 2, 1, .const 0, .any, false, .none, false, false⟩ /- CAL_DEPTH_MASK -/,
  ⟨0x6100, 64, 0x06, 1, 1, .u8, .rw, true, 2, 1, .const 5, .span 1 255, false, .none, false, false⟩ /- CAL_DEPTH_MIN_POINTS -/]

/-- Entries of 0x6800 to 0x68FF (planning). -/
def dictRows68 : List EntrySpec := [
  ⟨0x6800, 1, 0x00, 1, 1, .enum, .ro, false, 2, 2, .const 0, .any, false, .none, false, false⟩ /- PLAN_STATE -/,
  ⟨0x6800, 1, 0x01, 1, 1, .bool, .rw, false, 2, 1, .const 0, .any, false, .none, false, false⟩ /- PLAN_ENABLE -/,
  ⟨0x6800, 1, 0x02, 1, 1, .u32, .const, false, 2, 2, .const 200000, .any, false, .none, false, false⟩ /- PLAN_DRAIN_LIMIT_US -/,
  ⟨0x6801, 1, 0x00, 1, 1, .u32, .rwb, false, 2, 1, .const 40000, .span 5000 190000, false, .planning, false, false⟩ /- CYCLE_BUDGET_US -/,
  ⟨0x6801, 1, 0x01, 1, 1, .u16, .rw, false, 2, 1, .const 300, .span 0 2000, false, .planning, true, false⟩ /- CLEAR_MARGIN_MM -/,
  ⟨0x6801, 1, 0x02, 1, 1, .u8, .rw, false, 2, 1, .const 128, .span 1 255, false, .planning, true, false⟩ /- OCC_THRESHOLD -/,
  ⟨0x6801, 1, 0x03, 1, 1, .u16, .rw, false, 2, 1, .const 256, .span 1 1024, false, .planning, true, false⟩ /- SURVIVOR_MAX -/,
  ⟨0x6801, 1, 0x04, 1, 1, .u8, .rw, true, 2, 1, .const 2, .span 0 16, false, .planning, true, false⟩ /- EPOCH_MAX_AGE -/,
  ⟨0x6801, 1, 0x05, 1, 1, .enum, .rwb, false, 2, 1, .const 0, .span 0 1, false, .planning, false, false⟩ /- OUTSIDE_POLICY -/,
  ⟨0x6801, 1, 0x06, 1, 1, .blob 64, .rwb, false, 2, 1, .const 0, .any, false, .planning, false, false⟩ /- FOOTPRINT -/,
  ⟨0x6801, 1, 0x07, 1, 1, .u8, .const, false, 2, 2, .const 16, .any, false, .none, false, false⟩ /- RECHECK_COUNT -/,
  ⟨0x6802, 1, 0x00, 1, 1, .u64, .rwb, false, 2, 1, .const 0, .multiple 0x0600000000 0x2FFFFFFFFF 4096, false, .planning, false, false⟩ /- TRAJ_BASE -/,
  ⟨0x6802, 1, 0x01, 1, 1, .u64, .rwb, false, 2, 1, .const 0, .multiple 0x0600000000 0x2FFFFFFFFF 4096, false, .planning, false, false⟩ /- SURV_BASE -/,
  ⟨0x6802, 1, 0x02, 1, 1, .enum, .rwb, false, 2, 1, .const 1, .span 0 2, false, .planning, false, false⟩ /- OUT_CAN -/,
  ⟨0x6802, 1, 0x03, 1, 1, .u16, .rwb, false, 2, 1, .const 0x010, .span 0 0x7FF, false, .planning, false, false⟩ /- OUT_CAN_ID -/,
  ⟨0x6802, 1, 0x04, 1, 1, .u8, .rwb, true, 2, 1, .const 0x7E, .any, false, .planning, false, false⟩ /- OUT_SDT -/,
  ⟨0x6802, 1, 0x05, 1, 1, .enum, .rwb, false, 2, 1, .const 0, .span 0 2, false, .planning, false, false⟩ /- OUT_T1S -/,
  ⟨0x6802, 1, 0x06, 1, 1, .u64, .rwb, false, 2, 1, .const 0, .span 0 0xFFFFFFFFFFFF, false, .planning, false, false⟩ /- OUT_T1S_DEST_MAC -/,
  ⟨0x6802, 1, 0x07, 1, 1, .u16, .rwb, true, 2, 1, .const 0x88B6, .any, false, .planning, false, false⟩ /- OUT_ETHERTYPE -/,
  ⟨0x6802, 1, 0x08, 1, 1, .u32, .rw, false, 2, 1, .const 5000, .span 100 50000, false, .none, false, false⟩ /- OUT_TX_TIMEOUT_US -/,
  ⟨0x6803, 1, 0x00, 1, 1, .enum, .ro, false, 2, 1, .const 0, .any, false, .none, false, false⟩ /- TRAJ_OUT.RING_STATE -/,
  ⟨0x6803, 1, 0x01, 1, 1, .bool, .rw, false, 2, 1, .const 0, .any, false, .none, false, false⟩ /- TRAJ_OUT.RING_ENABLE -/,
  ⟨0x6803, 1, 0x02, 1, 1, .u64, .rwb, false, 2, 1, .const 0, .multiple 0 0xFFFFFFFFFFFFFFC0 64, false, .ring, false, false⟩ /- TRAJ_OUT.RING_BASE -/,
  ⟨0x6803, 1, 0x03, 1, 1, .u32, .rwb, false, 2, 1, .const 0, .pow2 16 65536, false, .ring, false, false⟩ /- TRAJ_OUT.RING_ENTRIES -/,
  ⟨0x6803, 1, 0x04, 1, 1, .u64, .rwb, false, 2, 1, .const 0, .multiple 0 0xFFFFFFFFFFFFFFC0 64, false, .ring, false, false⟩ /- TRAJ_OUT.CPL_BASE -/,
  ⟨0x6803, 1, 0x05, 1, 1, .u16, .const, false, 2, 1, .const 4, .any, false, .none, false, false⟩ /- TRAJ_OUT.DOORBELL_SLOT -/,
  ⟨0x6803, 1, 0x06, 1, 1, .u32, .ro, false, 2, 1, .const 0, .any, false, .none, false, false⟩ /- TRAJ_OUT.HEAD -/,
  ⟨0x6803, 1, 0x07, 1, 1, .u32, .ro, false, 2, 1, .const 0, .any, false, .none, false, false⟩ /- TRAJ_OUT.TAIL -/,
  ⟨0x6803, 1, 0x08, 1, 1, .enum, .const, false, 2, 1, .const 1, .any, false, .none, false, false⟩ /- TRAJ_OUT.DIRECTION -/,
  ⟨0x6803, 1, 0x09, 1, 1, .u32, .const, false, 2, 1, .const 10000, .any, false, .none, false, false⟩ /- TRAJ_OUT.DRAIN_LIMIT_US -/,
  ⟨0x6803, 1, 0x0A, 1, 1, .u16, .rwb, false, 2, 1, .const 0, .span 0 63, false, .ring, false, false⟩ /- TRAJ_OUT.MSIX_VECTOR -/,
  ⟨0x6803, 1, 0x0B, 1, 1, .u16, .ro, false, 2, 1, .const 0, .any, false, .none, false, false⟩ /- TRAJ_OUT.LAST_STATUS -/,
  ⟨0x6804, 1, 0x00, 1, 1, .u8, .ro, false, 2, 2, .const 0, .any, false, .none, false, false⟩ /- NEWEST_EPOCH -/,
  ⟨0x6804, 1, 0x01, 1, 1, .u64, .ro, false, 2, 2, .const 0, .any, false, .none, false, false⟩ /- NEWEST_EPOCH_INSTANT -/,
  ⟨0x6804, 1, 0x02, 1, 1, .u64, .ro, false, 2, 2, .const 0, .any, false, .none, false, false⟩ /- CYCLE_INSTANT -/,
  ⟨0x6804, 1, 0x03, 1, 1, .u16, .ro, false, 2, 2, .const 0x0000, .any, false, .none, false, false⟩ /- LAST_OUT_STATUS -/,
  ⟨0x6804, 1, 0x04, 1, 1, .bits32, .ro, false, 2, 2, .const 0, .any, false, .none, false, false⟩ /- LAST_OUT_FLAGS -/,
  ⟨0x6804, 1, 0x05, 1, 1, .u32, .ro, false, 2, 2, .const 0, .any, false, .none, false, false⟩ /- OUT_SEQ -/,
  ⟨0x6805, 1, 0x00, 11, 1, .u32, .ro, false, 2, 2, .const 0, .any, false, .none, false, false⟩ /- PLAN_EVENTS -/]

/-- Entries of 0x6900 to 0x69FF (lattice). -/
def dictRows69 : List EntrySpec := [
  ⟨0x6900, 1, 0x00, 1, 1, .u64, .rwb, false, 2, 1, .const 0, .multiple 0 0x05FFFFFFFF 4096, false, .planning, false, false⟩ /- LATTICE_BASE -/,
  ⟨0x6900, 1, 0x01, 1, 1, .u64, .ro, false, 2, 2, .const 0, .any, false, .none, false, false⟩ /- LATTICE_BYTES -/,
  ⟨0x6900, 1, 0x02, 1, 1, .u32, .ro, false, 2, 2, .const 0, .any, false, .none, false, false⟩ /- LATTICE_GEN -/,
  ⟨0x6900, 1, 0x03, 1, 1, .u32, .ro, false, 2, 2, .const 0, .any, false, .none, false, false⟩ /- LATTICE_CRC -/,
  ⟨0x6900, 1, 0x04, 1, 1, .u16, .ro, false, 2, 2, .const 0x0000, .any, false, .none, false, false⟩ /- LATTICE_STATUS -/,
  ⟨0x6900, 1, 0x05, 1, 1, .u32, .ro, false, 2, 2, .const 0, .any, false, .none, false, false⟩ /- LATTICE_FAULT_AT -/,
  ⟨0x6901, 1, 0x00, 1, 1, .enum, .ro, false, 2, 1, .const 0, .any, false, .none, false, false⟩ /- LATTICE_UPLOAD.RING_STATE -/,
  ⟨0x6901, 1, 0x01, 1, 1, .bool, .rw, false, 2, 1, .const 0, .any, false, .none, false, false⟩ /- LATTICE_UPLOAD.RING_ENABLE -/,
  ⟨0x6901, 1, 0x02, 1, 1, .u64, .rwb, false, 2, 1, .const 0, .multiple 0 0xFFFFFFFFFFFFFFC0 64, false, .ring, false, false⟩ /- LATTICE_UPLOAD.RING_BASE -/,
  ⟨0x6901, 1, 0x03, 1, 1, .u32, .rwb, false, 2, 1, .const 0, .pow2 16 65536, false, .ring, false, false⟩ /- LATTICE_UPLOAD.RING_ENTRIES -/,
  ⟨0x6901, 1, 0x04, 1, 1, .u64, .rwb, false, 2, 1, .const 0, .multiple 0 0xFFFFFFFFFFFFFFC0 64, false, .ring, false, false⟩ /- LATTICE_UPLOAD.CPL_BASE -/,
  ⟨0x6901, 1, 0x05, 1, 1, .u16, .const, false, 2, 1, .const 5, .any, false, .none, false, false⟩ /- LATTICE_UPLOAD.DOORBELL_SLOT -/,
  ⟨0x6901, 1, 0x06, 1, 1, .u32, .ro, false, 2, 1, .const 0, .any, false, .none, false, false⟩ /- LATTICE_UPLOAD.HEAD -/,
  ⟨0x6901, 1, 0x07, 1, 1, .u32, .ro, false, 2, 1, .const 0, .any, false, .none, false, false⟩ /- LATTICE_UPLOAD.TAIL -/,
  ⟨0x6901, 1, 0x08, 1, 1, .enum, .const, false, 2, 1, .const 0, .any, false, .none, false, false⟩ /- LATTICE_UPLOAD.DIRECTION -/,
  ⟨0x6901, 1, 0x09, 1, 1, .u32, .const, false, 2, 1, .const 50000, .any, false, .none, false, false⟩ /- LATTICE_UPLOAD.DRAIN_LIMIT_US -/,
  ⟨0x6901, 1, 0x0A, 1, 1, .u16, .rwb, false, 2, 1, .const 0, .span 0 63, false, .ring, false, false⟩ /- LATTICE_UPLOAD.MSIX_VECTOR -/,
  ⟨0x6901, 1, 0x0B, 1, 1, .u16, .ro, false, 2, 1, .const 0, .any, false, .none, false, false⟩ /- LATTICE_UPLOAD.LAST_STATUS -/]

/-- Entries of 0x7000 to 0x70FF (safety general). -/
def dictRows70 : List EntrySpec := [
  ⟨0x7000, 1, 0x00, 1, 1, .u32, .rwb, false, 2, 1, .const 100000, .span 100000 1000000, false, .run, false, false⟩ /- FTTI_US -/,
  ⟨0x7000, 1, 0x01, 1, 1, .u8, .rwb, false, 2, 1, .const 0, .span 0 15, false, .run, false, false⟩ /- FRAME_STAGE -/,
  ⟨0x7000, 1, 0x02, 1, 1, .u32, .ro, false, 2, 2, .const 0, .any, true, .none, false, true⟩ /- FRAME_COUNT -/,
  ⟨0x7000, 1, 0x03, 1, 1, .bits32, .rwb, false, 2, 1, .const 0, .any, false, .run, false, false⟩ /- SAFETY_FN_MASK -/,
  ⟨0x7000, 1, 0x04, 1, 1, .u64, .rwb, false, 2, 1, .const 0, .multiple 0x0600000000 0x2FFFFFFFFF 64, false, .run, false, false⟩ /- SHED_ADDR -/,
  ⟨0x7000, 1, 0x05, 1, 1, .blob 16, .rwb, false, 2, 1, .const 0, .any, false, .run, false, false⟩ /- SHED_ORDER -/,
  ⟨0x7000, 1, 0x06, 1, 1, .u32, .rw, true, 2, 1, .const 25000, .span 1000 1000000, false, .none, false, false⟩ /- SHED_LEAD_US -/,
  ⟨0x7001, 1, 0x00, 2, 1, .enum, .ro, false, 3, 3, .const 0, .any, true, .none, false, true⟩ /- LOOKOUT_STATE -/,
  ⟨0x7001, 1, 0x02, 2, 1, .bits32, .ro, false, 2, 2, .const 0, .any, true, .none, false, true⟩ /- FAULT_CAUSE -/,
  ⟨0x7001, 1, 0x04, 2, 1, .u32, .ro, false, 2, 2, .const 0, .any, true, .none, false, true⟩ /- APP_STATUS -/,
  ⟨0x7002, 1, 0x00, 1, 1, .u16, .rwb, false, 2, 1, .const 0x011, .span 0 0x7FF, false, .run, false, false⟩ /- FALLBACK_CAN_ID -/,
  ⟨0x7002, 1, 0x01, 1, 1, .u8, .rwb, true, 2, 1, .const 0x7D, .any, false, .run, false, false⟩ /- FALLBACK_SDT -/,
  ⟨0x7002, 1, 0x02, 1, 1, .bool, .ro, false, 2, 2, .const 0, .any, true, .none, false, true⟩ /- FALLBACK_STREAMING -/,
  ⟨0x7002, 1, 0x03, 1, 1, .u32, .ro, false, 2, 2, .const 0, .any, true, .none, false, true⟩ /- FALLBACK_FRAMES -/,
  ⟨0x7002, 1, 0x04, 1, 1, .u32, .ro, false, 2, 2, .const 0, .any, true, .none, false, true⟩ /- FALLBACK_RECORD_SEQ -/,
  ⟨0x7002, 1, 0x05, 1, 1, .u32, .ro, false, 2, 2, .const 0, .any, true, .none, false, true⟩ /- NO_CLEAR_PATH_RECORDS -/,
  ⟨0x7002, 1, 0x06, 1, 1, .u32, .ro, false, 2, 2, .const 0, .any, true, .none, false, true⟩ /- SUBSTITUTE_FRAMES -/]

/-- Entries of 0x7100 to 0x71FF (replay). -/
def dictRows71 : List EntrySpec := [
  ⟨0x7100, 1, 0x00, 4, 1, .bits32, .rwb, true, 2, 1, .const 0x0000000F, .bits 0xF, false, .run, false, false⟩ /- TRANSFORMS -/,
  ⟨0x7100, 1, 0x04, 4, 1, .u16, .rw, true, 2, 1, .const 4, .span 1 4096, false, .none, false, false⟩ /- BAND_ULP -/,
  ⟨0x7100, 1, 0x08, 4, 1, .u8, .rwb, false, 2, 1, .const 247, .span 0 247, false, .run, false, false⟩ /- MISMATCH_SEM -/,
  ⟨0x7101, 1, 0x00, 64, 1, .u32, .ro, false, 2, 2, .const 0, .any, false, .none, false, false⟩ /- MISMATCHES -/,
  ⟨0x7102, 1, 0x00, 64, 1, .u8, .ro, false, 2, 2, .const 0, .any, true, .none, false, true⟩ /- TRANSIENTS -/,
  ⟨0x7103, 1, 0x00, 1, 1, .u8, .const, false, 2, 2, .const 3, .any, false, .none, false, false⟩ /- TRANSIENT_LIMIT -/,
  ⟨0x7103, 1, 0x01, 1, 1, .u16, .const, false, 2, 2, .const 1000, .any, false, .none, false, false⟩ /- TRANSIENT_FRAMES -/,
  ⟨0x7104, 1, 0x00, 1, 1, .u64, .ro, false, 2, 2, .const 0, .any, true, .none, false, true⟩ /- QUARANTINE_MASK -/,
  ⟨0x7104, 1, 0x01, 1, 1, .blob 32, .ro, false, 2, 2, .const 0, .any, false, .none, false, false⟩ /- LAST_MISMATCH -/,
  ⟨0x7105, 1, 0x00, 4, 1, .u64, .ro, true, 2, 2, .const 0, .any, false, .none, false, false⟩ /- REPLAYED_OPS -/]

/-- Entries of 0x7200 to 0x72FF (self-test). -/
def dictRows72 : List EntrySpec := [
  ⟨0x7200, 1, 0x00, 1, 1, .u16, .const, false, 2, 2, .const 300, .any, false, .none, false, false⟩ /- SLICE_US -/,
  ⟨0x7200, 1, 0x01, 1, 1, .u16, .const, false, 2, 2, .const 2000, .any, false, .none, false, false⟩ /- SLICE_START_ALLOWANCE_NS -/,
  ⟨0x7201, 1, 0x00, 64, 1, .bits32, .ro, false, 2, 2, .const 0, .any, true, .none, false, true⟩ /- TEST_STATUS -/,
  ⟨0x7202, 1, 0x00, 1, 1, .u16, .ro, false, 2, 2, .const 0, .any, true, .none, false, true⟩ /- TEST_DEBT -/,
  ⟨0x7202, 1, 0x01, 1, 1, .u32, .ro, false, 2, 2, .const 0, .any, true, .none, false, true⟩ /- SLICES_DEFERRED -/,
  ⟨0x7202, 1, 0x02, 1, 1, .u32, .ro, false, 2, 2, .const 0, .any, true, .none, false, true⟩ /- STAGES_SHED -/,
  ⟨0x7202, 1, 0x03, 1, 1, .u32, .ro, false, 2, 2, .const 0, .any, true, .none, false, true⟩ /- TESTS_OVERDUE -/]

/-- Entries of 0x7300 to 0x73FF (watchdogs). -/
def dictRows73 : List EntrySpec := [
  ⟨0x7300, 1, 0x00, 1, 1, .bits32, .rwb, false, 2, 1, .const 0, .bits 0xFFFF, false, .run, false, false⟩ /- WD_STAGES -/,
  ⟨0x7310, 16, 0x00, 1, 1, .u32, .rwb, false, 2, 1, .const 0, .span 0 999999, false, .run, false, false⟩ /- WD_MIN_US -/,
  ⟨0x7310, 16, 0x01, 1, 1, .u32, .rwb, false, 2, 1, .const 100000, .span 100 1000000, false, .run, false, false⟩ /- WD_MAX_US -/,
  ⟨0x7310, 16, 0x02, 1, 1, .enum, .rwb, false, 2, 1, .const 0, .span 0 2, false, .run, false, false⟩ /- WD_ACTION -/,
  ⟨0x7310, 16, 0x03, 1, 1, .bits32, .rwb, false, 2, 1, .const 0, .bits 0x3F, false, .run, false, false⟩ /- WD_REGION_MASK -/,
  ⟨0x7310, 16, 0x04, 1, 1, .enum, .ro, false, 2, 2, .const 0, .any, true, .none, false, true⟩ /- WD_STATE -/,
  ⟨0x7310, 16, 0x05, 1, 1, .u32, .ro, false, 2, 2, .const 0, .any, true, .none, false, true⟩ /- WD_LAST_INTERVAL_US -/,
  ⟨0x7310, 16, 0x06, 1, 1, .u32, .ro, false, 2, 2, .const 0, .any, true, .none, false, true⟩ /- WD_EARLY_FAULTS -/,
  ⟨0x7310, 16, 0x07, 1, 1, .u32, .ro, false, 2, 2, .const 0, .any, true, .none, false, true⟩ /- WD_LATE_FAULTS -/]

/-- Entries of 0x8000 to 0x80FF (Overnight and tenancy). -/
def dictRows80 : List EntrySpec := [
  ⟨0x8000, 1, 0x00, 1, 1, .enum, .ro, false, 3, 3, .const 0, .any, false, .none, false, false⟩ /- JOB_STATE -/,
  ⟨0x8000, 1, 0x01, 1, 1, .bool, .rw, false, 3, 2, .const 0, .any, false, .none, false, false⟩ /- JOB_ENABLE -/,
  ⟨0x8000, 1, 0x02, 1, 1, .u32, .const, false, 3, 3, .const 1000000, .any, false, .none, false, false⟩ /- JOB_DRAIN_LIMIT_US -/,
  ⟨0x8000, 1, 0x03, 1, 1, .u64, .rwb, false, 3, 2, .const 0, .any, false, .job, false, false⟩ /- JOB_ID -/,
  ⟨0x8000, 1, 0x04, 1, 1, .u32, .ro, false, 3, 3, .const 0, .any, false, .none, false, false⟩ /- STEPS_TAKEN -/,
  ⟨0x8000, 1, 0x05, 1, 1, .u32, .ro, false, 3, 3, .const 0, .any, false, .none, false, false⟩ /- CKPT_LAST -/,
  ⟨0x8000, 1, 0x06, 1, 1, .u32, .rw, false, 3, 3, .const 0, .any, false, .none, false, false⟩ /- CKPT_ACK -/,
  ⟨0x8001, 1, 0x00, 1, 1, .u8, .rwb, false, 3, 2, .const 3, .span 0 3, false, .job, false, false⟩ /- POLICY_MAX_CLASS -/,
  ⟨0x8001, 1, 0x01, 1, 1, .u16, .rwb, false, 3, 2, .const 4096, .span 1 4096, false, .job, false, false⟩ /- POLICY_MAX_SEQS -/,
  ⟨0x8001, 1, 0x02, 1, 1, .u32, .rwb, false, 3, 2, .const 65536, .span 1 1048576, false, .job, false, false⟩ /- POLICY_MAX_PROMPT -/,
  ⟨0x8001, 1, 0x03, 1, 1, .u8, .rwb, false, 3, 2, .const 8, .span 1 64, false, .job, false, false⟩ /- CKPT_K -/,
  ⟨0x8001, 1, 0x04, 1, 1, .u16, .rwb, false, 3, 2, .const 64, .span 1 65535, false, .job, false, false⟩ /- DELAY_MAX_STEPS -/,
  ⟨0x8001, 1, 0x05, 1, 1, .u16, .const, false, 3, 3, .const 256, .any, false, .none, false, false⟩ /- DELAY_QUEUE -/,
  ⟨0x8001, 1, 0x06, 1, 1, .u16, .rwb, false, 3, 1, .const 500, .span 50 1000, false, .job, false, false⟩ /- YIELD_GRACE_MS -/,
  ⟨0x8001, 1, 0x07, 1, 1, .u16, .const, false, 3, 3, .const 800, .any, false, .none, false, false⟩ /- CKPT_FINAL_LIMIT_MS -/,
  ⟨0x8002, 1, 0x00, 1, 1, .u64, .rwb, false, 3, 3, .const 0, .multiple 0x0600000000 0x2FFFFFFFFF 4096, false, .job, false, false⟩ /- CTRL_BASE -/,
  ⟨0x8002, 1, 0x01, 1, 1, .u32, .const, false, 3, 3, .const 69632, .any, false, .none, false, false⟩ /- CTRL_BYTES -/,
  ⟨0x8002, 1, 0x02, 1, 1, .u64, .rwb, false, 3, 3, .const 0, .multiple 0x0600000000 0x2FFFFFFFFF 64, false, .job, false, false⟩ /- STEP_BASE -/,
  ⟨0x8002, 1, 0x03, 1, 1, .u32, .rwb, false, 3, 3, .const 256, .pow2 4 65536, false, .job, false, false⟩ /- STEP_ENTRIES -/,
  ⟨0x8003, 1, 0x00, 1, 1, .u16, .rwb, false, 3, 2, .const 0, .zeroOr 2 65535, false, .job, false, false⟩ /- SPOT_N -/,
  ⟨0x8003, 1, 0x01, 1, 1, .u32, .ro, false, 3, 3, .const 0, .any, false, .none, false, false⟩ /- SPOT_MISMATCHES -/,
  ⟨0x8003, 1, 0x02, 1, 1, .u32, .ro, false, 3, 3, .const 0, .any, false, .none, false, false⟩ /- SUSPECT_STEPS -/,
  ⟨0x8003, 1, 0x03, 1, 1, .u32, .ro, false, 3, 3, .const 0, .any, false, .none, false, false⟩ /- UNATTRIBUTED -/,
  ⟨0x8004, 1, 0x00, 1, 1, .blob 32, .wo, false, 3, 3, .const 0, .any, false, .none, false, false⟩ /- ATTEST_NONCE -/,
  ⟨0x8004, 1, 0x01, 1, 1, .blob 296, .ro, false, 3, 3, .const 0, .any, true, .none, false, true⟩ /- ATTEST_REPORT -/,
  ⟨0x8004, 1, 0x02, 1, 1, .enum, .ro, false, 3, 3, .const 0, .any, true, .none, false, true⟩ /- ATTEST_STATE -/,
  ⟨0x8005, 1, 0x00, 1, 1, .enum, .ro, false, 3, 3, .const 0, .any, false, .none, false, false⟩ /- JOB_IN.RING_STATE -/,
  ⟨0x8005, 1, 0x01, 1, 1, .bool, .rw, false, 3, 3, .const 0, .any, false, .none, false, false⟩ /- JOB_IN.RING_ENABLE -/,
  ⟨0x8005, 1, 0x02, 1, 1, .u64, .rwb, false, 3, 3, .const 0, .multiple 0 0xFFFFFFFFFFFFFFC0 64, false, .ring, false, false⟩ /- JOB_IN.RING_BASE -/,
  ⟨0x8005, 1, 0x03, 1, 1, .u32, .rwb, false, 3, 3, .const 0, .pow2 16 65536, false, .ring, false, false⟩ /- JOB_IN.RING_ENTRIES -/,
  ⟨0x8005, 1, 0x04, 1, 1, .u64, .rwb, false, 3, 3, .const 0, .multiple 0 0xFFFFFFFFFFFFFFC0 64, false, .ring, false, false⟩ /- JOB_IN.CPL_BASE -/,
  ⟨0x8005, 1, 0x05, 1, 1, .u16, .const, false, 3, 3, .const 6, .any, false, .none, false, false⟩ /- JOB_IN.DOORBELL_SLOT -/,
  ⟨0x8005, 1, 0x06, 1, 1, .u32, .ro, false, 3, 3, .const 0, .any, false, .none, false, false⟩ /- JOB_IN.HEAD -/,
  ⟨0x8005, 1, 0x07, 1, 1, .u32, .ro, false, 3, 3, .const 0, .any, false, .none, false, false⟩ /- JOB_IN.TAIL -/,
  ⟨0x8005, 1, 0x08, 1, 1, .enum, .const, false, 3, 3, .const 0, .any, false, .none, false, false⟩ /- JOB_IN.DIRECTION -/,
  ⟨0x8005, 1, 0x09, 1, 1, .u32, .const, false, 3, 3, .const 10000, .any, false, .none, false, false⟩ /- JOB_IN.DRAIN_LIMIT_US -/,
  ⟨0x8005, 1, 0x0A, 1, 1, .u16, .rwb, false, 3, 3, .const 0, .span 0 63, false, .ring, false, false⟩ /- JOB_IN.MSIX_VECTOR -/,
  ⟨0x8005, 1, 0x0B, 1, 1, .u16, .ro, false, 3, 3, .const 0, .any, false, .none, false, false⟩ /- JOB_IN.LAST_STATUS -/,
  ⟨0x8006, 1, 0x00, 1, 1, .enum, .ro, false, 3, 3, .const 0, .any, false, .none, false, false⟩ /- JOB_OUT.RING_STATE -/,
  ⟨0x8006, 1, 0x01, 1, 1, .bool, .rw, false, 3, 3, .const 0, .any, false, .none, false, false⟩ /- JOB_OUT.RING_ENABLE -/,
  ⟨0x8006, 1, 0x02, 1, 1, .u64, .rwb, false, 3, 3, .const 0, .multiple 0 0xFFFFFFFFFFFFFFC0 64, false, .ring, false, false⟩ /- JOB_OUT.RING_BASE -/,
  ⟨0x8006, 1, 0x03, 1, 1, .u32, .rwb, false, 3, 3, .const 0, .pow2 16 65536, false, .ring, false, false⟩ /- JOB_OUT.RING_ENTRIES -/,
  ⟨0x8006, 1, 0x04, 1, 1, .u64, .rwb, false, 3, 3, .const 0, .multiple 0 0xFFFFFFFFFFFFFFC0 64, false, .ring, false, false⟩ /- JOB_OUT.CPL_BASE -/,
  ⟨0x8006, 1, 0x05, 1, 1, .u16, .const, false, 3, 3, .const 7, .any, false, .none, false, false⟩ /- JOB_OUT.DOORBELL_SLOT -/,
  ⟨0x8006, 1, 0x06, 1, 1, .u32, .ro, false, 3, 3, .const 0, .any, false, .none, false, false⟩ /- JOB_OUT.HEAD -/,
  ⟨0x8006, 1, 0x07, 1, 1, .u32, .ro, false, 3, 3, .const 0, .any, false, .none, false, false⟩ /- JOB_OUT.TAIL -/,
  ⟨0x8006, 1, 0x08, 1, 1, .enum, .const, false, 3, 3, .const 1, .any, false, .none, false, false⟩ /- JOB_OUT.DIRECTION -/,
  ⟨0x8006, 1, 0x09, 1, 1, .u32, .const, false, 3, 3, .const 10000, .any, false, .none, false, false⟩ /- JOB_OUT.DRAIN_LIMIT_US -/,
  ⟨0x8006, 1, 0x0A, 1, 1, .u16, .rwb, false, 3, 3, .const 0, .span 0 63, false, .ring, false, false⟩ /- JOB_OUT.MSIX_VECTOR -/,
  ⟨0x8006, 1, 0x0B, 1, 1, .u16, .ro, false, 3, 3, .const 0, .any, false, .none, false, false⟩ /- JOB_OUT.LAST_STATUS -/,
  ⟨0x8007, 1, 0x00, 1, 1, .enum, .ro, false, 3, 3, .const 0, .any, false, .none, false, false⟩ /- CKPT.RING_STATE -/,
  ⟨0x8007, 1, 0x01, 1, 1, .bool, .rw, false, 3, 3, .const 0, .any, false, .none, false, false⟩ /- CKPT.RING_ENABLE -/,
  ⟨0x8007, 1, 0x02, 1, 1, .u64, .rwb, false, 3, 3, .const 0, .multiple 0 0xFFFFFFFFFFFFFFC0 64, false, .ring, false, false⟩ /- CKPT.RING_BASE -/,
  ⟨0x8007, 1, 0x03, 1, 1, .u32, .rwb, false, 3, 3, .const 0, .pow2 16 65536, false, .ring, false, false⟩ /- CKPT.RING_ENTRIES -/,
  ⟨0x8007, 1, 0x04, 1, 1, .u64, .rwb, false, 3, 3, .const 0, .multiple 0 0xFFFFFFFFFFFFFFC0 64, false, .ring, false, false⟩ /- CKPT.CPL_BASE -/,
  ⟨0x8007, 1, 0x05, 1, 1, .u16, .const, false, 3, 3, .const 8, .any, false, .none, false, false⟩ /- CKPT.DOORBELL_SLOT -/,
  ⟨0x8007, 1, 0x06, 1, 1, .u32, .ro, false, 3, 3, .const 0, .any, false, .none, false, false⟩ /- CKPT.HEAD -/,
  ⟨0x8007, 1, 0x07, 1, 1, .u32, .ro, false, 3, 3, .const 0, .any, false, .none, false, false⟩ /- CKPT.TAIL -/,
  ⟨0x8007, 1, 0x08, 1, 1, .enum, .const, false, 3, 3, .const 1, .any, false, .none, false, false⟩ /- CKPT.DIRECTION -/,
  ⟨0x8007, 1, 0x09, 1, 1, .u32, .const, false, 3, 3, .const 10000, .any, false, .none, false, false⟩ /- CKPT.DRAIN_LIMIT_US -/]

/-- Entries of 0x8000 to 0x80FF (Overnight and tenancy). -/
def dictRows80b : List EntrySpec := [
  ⟨0x8007, 1, 0x0A, 1, 1, .u16, .rwb, false, 3, 3, .const 0, .span 0 63, false, .ring, false, false⟩ /- CKPT.MSIX_VECTOR -/,
  ⟨0x8007, 1, 0x0B, 1, 1, .u16, .ro, false, 3, 3, .const 0, .any, false, .none, false, false⟩ /- CKPT.LAST_STATUS -/,
  ⟨0x8008, 1, 0x00, 1, 1, .u32, .ro, false, 3, 3, .const 0, .any, false, .none, false, false⟩ /- ADMITTED -/,
  ⟨0x8008, 1, 0x01, 1, 1, .u16, .ro, false, 3, 3, .const 0, .any, false, .none, false, false⟩ /- QUEUED_NOW -/,
  ⟨0x8008, 1, 0x02, 1, 1, .u32, .ro, false, 3, 3, .const 0, .any, false, .none, false, false⟩ /- REFUSED -/,
  ⟨0x8008, 1, 0x03, 1, 1, .u32, .ro, false, 3, 3, .const 0, .any, false, .none, false, false⟩ /- PREEMPTIONS -/,
  ⟨0x8008, 1, 0x04, 1, 1, .u32, .ro, false, 2, 2, .const 0, .any, false, .none, false, false⟩ /- LAST_YIELD_MS -/,
  ⟨0x8008, 1, 0x05, 1, 1, .u32, .ro, false, 3, 3, .const 0, .any, false, .none, false, false⟩ /- NO_ROOM_EVENTS -/,
  ⟨0x8008, 1, 0x06, 1, 1, .u32, .ro, false, 3, 3, .const 0, .any, false, .none, false, false⟩ /- LATE_ACKS -/,
  ⟨0x8008, 1, 0x07, 1, 1, .u32, .ro, false, 3, 3, .const 0, .any, false, .none, false, true⟩ /- TENANT_KEY_GEN -/]

/-- Entries of 0x9000 to 0x90FF (chip links). -/
def dictRows90 : List EntrySpec := [
  ⟨0x9000, 1, 0x00, 1, 1, .u8, .rwb, false, 2, 1, .const 0, .span 0 63, false, .run, false, false⟩ /- DEVICE_ID -/,
  ⟨0x9000, 1, 0x01, 1, 1, .u32, .rwb, false, 2, 1, .const 0, .any, false, .run, false, false⟩ /- SYSTEM_ID -/,
  ⟨0x9000, 1, 0x02, 1, 1, .u8, .rw, true, 2, 1, .const 8, .span 1 15, false, .none, false, false⟩ /- HOP_LIMIT -/,
  ⟨0x9000, 1, 0x03, 1, 1, .u32, .rw, true, 2, 1, .const 10000, .span 100 1000000, false, .none, false, false⟩ /- EPOCH_DRAIN_US -/,
  ⟨0x9000, 1, 0x04, 1, 1, .u16, .rw, true, 2, 1, .const 100, .span 10 10000, false, .none, false, false⟩ /- LINK_THROTTLE_US -/,
  ⟨0x9000, 1, 0x05, 1, 1, .u64, .rw, false, 2, 1, .const 0, .multiple 0 0xFFFFFFFFFFFFF000 4096, false, .none, false, false⟩ /- LINK_WINDOW_BASE -/,
  ⟨0x9000, 1, 0x06, 1, 1, .u64, .rw, false, 2, 1, .const 0, .multiple 0 0xFFFFFFFFFFFFF000 4096, false, .none, false, false⟩ /- LINK_WINDOW_SIZE -/,
  ⟨0x9000, 1, 0x07, 1, 1, .u32, .rw, false, 2, 1, .const 10000, .span 100 600000, false, .none, false, false⟩ /- LINK_TRAIN_MS -/,
  ⟨0x9000, 1, 0x08, 1, 1, .u32, .ro, false, 2, 2, .const 0, .any, false, .none, false, false⟩ /- DISCARD_ANSWERS -/,
  ⟨0x9001, 1, 0x00, 64, 1, .u8, .rw, false, 2, 1, .const 0, .any, false, .run, true, false⟩ /- ROUTE -/,
  ⟨0x9002, 1, 0x00, 256, 1, .u8, .rw, false, 2, 1, .const 0, .any, false, .run, true, false⟩ /- CHAN_EPOCH -/,
  ⟨0x9003, 1, 0x00, 16, 1, .u32, .ro, false, 2, 2, .const 0, .any, false, .none, false, false⟩ /- OUT_INFLIGHT -/,
  ⟨0x9004, 1, 0x00, 1, 1, .bits32, .wo, false, 2, 1, .const 0, .bits 0x1FF0F, false, .none, false, false⟩ /- EPOCH_RELEASE -/,
  ⟨0x9010, 4, 0x00, 1, 1, .enum, .ro, false, 2, 2, .const 0, .any, false, .none, false, false⟩ /- LINK_STATE -/,
  ⟨0x9010, 4, 0x01, 1, 1, .bool, .rw, false, 2, 1, .const 1, .any, false, .none, false, false⟩ /- LINK_ENABLE -/,
  ⟨0x9010, 4, 0x02, 1, 1, .u8, .rwb, false, 2, 1, .const 0, .any, false, .port, false, false⟩ /- LINK_PEER_EXPECT -/,
  ⟨0x9010, 4, 0x03, 1, 1, .u8, .ro, false, 2, 2, .const 0xFF, .any, false, .none, false, false⟩ /- LINK_PEER_ID -/,
  ⟨0x9010, 4, 0x04, 1, 1, .enum, .ro, false, 2, 2, .const 0, .any, false, .none, false, false⟩ /- LINK_PHASE -/,
  ⟨0x9010, 4, 0x05, 1, 1, .u32, .ro, false, 2, 2, .const 0, .any, false, .none, false, false⟩ /- LINK_CRC_RETRIES -/,
  ⟨0x9010, 4, 0x06, 1, 1, .u32, .ro, false, 2, 2, .const 0, .any, false, .none, false, false⟩ /- LINK_RETRAINS -/,
  ⟨0x9010, 4, 0x07, 1, 1, .u32, .ro, false, 2, 2, .const 0, .any, false, .none, false, false⟩ /- LINK_CREDIT_OVERRUNS -/,
  ⟨0x9010, 4, 0x08, 1, 1, .u32, .ro, false, 2, 2, .const 0, .any, false, .none, false, false⟩ /- LINK_EPOCH_DISCARDS -/,
  ⟨0x9010, 4, 0x09, 1, 1, .u32, .ro, false, 2, 2, .const 0, .any, false, .none, false, false⟩ /- LINK_UNREACHABLE -/,
  ⟨0x9010, 4, 0x0A, 1, 1, .u32, .ro, false, 2, 2, .const 0, .any, false, .none, false, false⟩ /- LINK_MALFORMED -/,
  ⟨0x9010, 4, 0x0B, 1, 1, .u32, .const, false, 2, 2, .const 10000, .any, false, .none, false, false⟩ /- LINK_DRAIN_LIMIT_US -/,
  ⟨0x9010, 4, 0x0C, 1, 1, .u64, .ro, true, 2, 2, .const 0, .any, false, .none, false, false⟩ /- LINK_FORWARDED -/]

/-- Entries of 0x9100 to 0x91FF (lane roles). -/
def dictRows91 : List EntrySpec := [
  ⟨0x9100, 12, 0x00, 1, 1, .enum, .rwb, false, 2, 1, .role, .span 0 3, false, .run, false, false⟩ /- LANE_ROLE -/,
  ⟨0x9100, 12, 0x01, 1, 1, .enum, .rwb, false, 2, 1, .const 0, .span 0 3, false, .run, false, false⟩ /- LANE_WIRING -/,
  ⟨0x9100, 12, 0x02, 1, 1, .bits32, .rwb, true, 2, 1, .const 0, .bits 0x1FF, false, .run, false, false⟩ /- LANE_CFG -/,
  ⟨0x9100, 12, 0x03, 1, 1, .enum, .ro, false, 2, 2, .const 0, .any, false, .none, false, false⟩ /- LANE_ROLE_ACTIVE -/,
  ⟨0x9100, 12, 0x04, 1, 1, .u16, .ro, false, 2, 2, .const 0x0000, .any, false, .none, false, false⟩ /- LANE_ROLE_STATUS -/]

/-- Entries of 0x9200 to 0x92FF (guest die). -/
def dictRows92 : List EntrySpec := [
  ⟨0x9200, 1, 0x00, 1, 1, .enum, .ro, false, 2, 2, .const 0, .any, false, .none, false, false⟩ /- GUEST_STATE -/,
  ⟨0x9200, 1, 0x01, 1, 1, .bool, .rw, false, 2, 1, .const 1, .any, false, .none, false, false⟩ /- GUEST_ENABLE -/,
  ⟨0x9200, 1, 0x02, 1, 1, .u32, .const, false, 2, 2, .const 10000, .any, false, .none, false, false⟩ /- GUEST_DRAIN_LIMIT_US -/,
  ⟨0x9200, 1, 0x03, 1, 1, .bool, .ro, false, 2, 2, .const 0, .any, true, .none, false, false⟩ /- GUEST_PRESENT -/,
  ⟨0x9200, 1, 0x04, 1, 1, .u8, .ro, false, 2, 2, .const 0, .any, true, .none, false, false⟩ /- GUEST_MODULES -/,
  ⟨0x9200, 1, 0x05, 1, 1, .enum, .ro, false, 2, 2, .const 0, .any, true, .none, false, false⟩ /- GUEST_RATE -/,
  ⟨0x9200, 1, 0x06, 1, 1, .bool, .ro, false, 2, 2, .const 0, .any, false, .none, false, true⟩ /- GUEST_FENCED -/,
  ⟨0x9200, 1, 0x07, 1, 1, .u8, .ro, false, 2, 2, .const 0, .any, false, .none, false, true⟩ /- GUEST_FAILURES -/,
  ⟨0x9200, 1, 0x08, 1, 1, .u64, .rwb, false, 2, 1, .const 0, .multiple 0 0xFFFFFFFFFFFFF000 4096, false, .guest, false, false⟩ /- GUEST_WINDOW_BASE -/,
  ⟨0x9200, 1, 0x09, 1, 1, .u64, .rwb, false, 2, 1, .const 0, .multiple 0 0xFFFFFFFFFFFFF000 4096, false, .guest, false, false⟩ /- GUEST_WINDOW_SIZE -/,
  ⟨0x9200, 1, 0x0A, 1, 1, .u32, .ro, false, 2, 2, .const 0, .any, true, .none, false, false⟩ /- GUEST_ID -/,
  ⟨0x9200, 1, 0x0B, 1, 1, .u32, .ro, false, 2, 2, .const 0, .any, false, .none, false, false⟩ /- GUEST_CRC_RETRIES -/,
  ⟨0x9200, 1, 0x0C, 1, 1, .u32, .ro, false, 2, 2, .const 0, .any, false, .none, false, false⟩ /- GUEST_MALFORMED -/,
  ⟨0x9200, 1, 0x0D, 1, 1, .u32, .ro, false, 2, 2, .const 0, .any, false, .none, false, false⟩ /- GUEST_CREDIT_OVERRUNS -/,
  ⟨0x9200, 1, 0x0E, 1, 1, .u32, .ro, false, 2, 2, .const 0, .any, false, .none, false, false⟩ /- GUEST_WINDOW_REFUSALS -/,
  ⟨0x9200, 1, 0x0F, 1, 1, .u32, .ro, false, 2, 2, .const 0, .any, false, .none, false, false⟩ /- GUEST_EPOCH_DISCARDS -/,
  ⟨0x9201, 1, 0x00, 256, 1, .u8, .rw, false, 2, 1, .const 0, .any, false, .run, true, false⟩ /- GUEST_CHAN_EPOCH -/,
  ⟨0x9210, 240, 0x00, 256, 1, .u32, .rw, false, 2, 1, .const 0, .any, true, .none, false, false⟩ /- GUEST_ENTRY -/]

/-- Entries of 0xF000 to 0xF0FF (counters). -/
def dictRowsF0 : List EntrySpec := [
  ⟨0xF000, 1, 0x00, 1, 1, .u32, .ro, false, 2, 2, .const 0, .any, false, .none, false, true⟩ /- MGMT_PERIODS -/,
  ⟨0xF000, 1, 0x01, 1, 1, .u32, .ro, false, 2, 2, .const 0, .any, false, .none, false, true⟩ /- MGMT_SKIPPED -/,
  ⟨0xF000, 1, 0x02, 1, 1, .u32, .ro, false, 2, 2, .const 0, .any, false, .none, false, true⟩ /- PRIV_DROPS -/,
  ⟨0xF000, 1, 0x03, 1, 1, .u32, .ro, false, 2, 2, .const 0, .any, false, .none, false, true⟩ /- ABORTS_SENT -/,
  ⟨0xF000, 1, 0x04, 1, 1, .u32, .ro, false, 2, 2, .const 0, .any, false, .none, false, true⟩ /- MALFORMED_FRAMES -/,
  ⟨0xF000, 1, 0x05, 1, 1, .u32, .ro, false, 2, 2, .const 0, .any, false, .none, false, true⟩ /- CROSS_TIMEOUTS -/,
  ⟨0xF000, 1, 0x06, 1, 1, .u32, .ro, false, 2, 2, .const 0, .any, false, .none, false, true⟩ /- UNKNOWN_NODE_FRAMES -/,
  ⟨0xF000, 1, 0x07, 1, 1, .u32, .ro, false, 2, 2, .const 0, .any, false, .none, false, true⟩ /- CPL_DISCARDED -/,
  ⟨0xF000, 1, 0x08, 1, 1, .u32, .ro, false, 2, 2, .const 0, .any, false, .none, false, true⟩ /- DOORBELL_REJECTS -/,
  ⟨0xF000, 1, 0x09, 1, 1, .u32, .ro, false, 2, 2, .const 0, .any, false, .none, false, true⟩ /- LOG_LOST -/,
  ⟨0xF000, 1, 0x0A, 1, 1, .u32, .ro, false, 2, 2, .const 0, .any, false, .none, false, true⟩ /- USB4_RECOVERIES -/]

/-- Entries of 0xF100 to 0xF1FF (error log window). -/
def dictRowsF1 : List EntrySpec := [
  ⟨0xF100, 1, 0x00, 1, 1, .u32, .wo, false, 2, 2, .const 0, .any, false, .none, false, false⟩ /- LOG_CTL -/,
  ⟨0xF100, 1, 0x01, 1, 1, .bits32, .ro, false, 2, 2, .const 0, .any, false, .none, false, false⟩ /- LOG_STAT -/,
  ⟨0xF100, 1, 0x02, 1, 1, .u16, .ro, false, 2, 2, .const 0, .any, false, .none, false, false⟩ /- LOG_OLDEST -/,
  ⟨0xF100, 1, 0x03, 1, 1, .u16, .ro, false, 2, 2, .const 0, .any, false, .none, false, false⟩ /- LOG_NEWEST -/,
  ⟨0xF100, 1, 0x10, 128, 1, .u32, .ro, false, 2, 2, .const 0, .any, false, .none, false, false⟩ /- LOG_WINDOW -/]

/-- The rows of the range that an index belongs to (Table 0-3); no row where the range holds no entry (R7). -/
def dictRange (index : Nat) : List EntrySpec :=
  match index / 256 with
  | 0x10 => dictRows10
  | 0x11 => dictRows11
  | 0x1F => dictRows1F
  | 0x20 => dictRows20
  | 0x21 => dictRows21
  | 0x22 => dictRows22
  | 0x30 => dictRows30
  | 0x34 => dictRows34
  | 0x38 => dictRows38
  | 0x39 => dictRows39
  | 0x40 => dictRows40
  | 0x41 => dictRows41
  | 0x42 => dictRows42
  | 0x50 => dictRows50
  | 0x51 => dictRows51
  | 0x60 => dictRows60
  | 0x61 => dictRows61
  | 0x68 => dictRows68
  | 0x69 => dictRows69
  | 0x70 => dictRows70
  | 0x71 => dictRows71
  | 0x72 => dictRows72
  | 0x73 => dictRows73
  | 0x80 => dictRows80 ++ dictRows80b
  | 0x90 => dictRows90
  | 0x91 => dictRows91
  | 0x92 => dictRows92
  | 0xF0 => dictRowsF0
  | 0xF1 => dictRowsF1
  | _ => []

/-- Every entry of the object dictionary (R6). -/
def dictTable : List EntrySpec :=
  dictRows10 ++
  dictRows11 ++
  dictRows1F ++
  dictRows20 ++
  dictRows21 ++
  dictRows22 ++
  dictRows30 ++
  dictRows34 ++
  dictRows38 ++
  dictRows39 ++
  dictRows40 ++
  dictRows41 ++
  dictRows42 ++
  dictRows50 ++
  dictRows51 ++
  dictRows60 ++
  dictRows61 ++
  dictRows68 ++
  dictRows69 ++
  dictRows70 ++
  dictRows71 ++
  dictRows72 ++
  dictRows73 ++
  dictRows80 ++
  dictRows80b ++
  dictRows90 ++
  dictRows91 ++
  dictRows92 ++
  dictRowsF0 ++
  dictRowsF1

/-- The row of the dictionary that index:subindex belongs to, or none where no entry exists (R7). The ports of Table
8-11 end at 78. -/
def findEntry (index subindex : Nat) : Option EntrySpec :=
  if index = 0x4214 ∧ 0xF0 ≤ subindex then none
  else (dictRange index).find? (fun e => e.covers index subindex)

/-- The row that a dictionary key belongs to. -/
def entryAt (k : Nat) : Option EntrySpec := findEntry (k / 256) (k % 256)

/-- What a key of the dictionary reads as while nothing is listed at it: the entry's default (R43). -/
def dictDefault (k : Nat) : Nat :=
  match entryAt k with
  | some e => e.default (k / 256) (k % 256)
  | none => 0

end Sys2Proof.Machine
end

