-- ==== Sys2Proof/Machine/SMap.lean ====
section
/-!
DEFINITION. Sparse maps from a natural-number key to a value, the one carrier of every memory, register file and
table of the part that is larger than a few items. A map is a list of (key, value) pairs in one canonical form: keys
strictly rising, and no value equal to the one that an unlisted key reads as. Equal contents are then equal lists.
The value of an unlisted key is given by the reader, so one type serves memories (0), the dictionary (each entry's
default) and tables of records (the record after reset).
-/

namespace Sys2Proof.Machine

/-- A sparse map: (key, value) pairs, keys strictly rising. -/
abbrev SMap (α : Type) := List (Nat × α)

/-- The value listed at `k`, if any. -/
def SMap.find {α : Type} : SMap α → Nat → Option α
  | [], _ => none
  | (k', v) :: t, k => if k' = k then some v else SMap.find t k

/-- The value at `k`, where an unlisted key reads as `d`. -/
def SMap.getD {α : Type} (m : SMap α) (k : Nat) (d : α) : α :=
  match SMap.find m k with
  | some v => v
  | none => d

/-- List `v` at `k`, keeping the keys in rising order. -/
def SMap.insert {α : Type} : SMap α → Nat → α → SMap α
  | [], k, v => [(k, v)]
  | (k', v') :: t, k, v =>
    if k < k' then (k, v) :: (k', v') :: t
    else if k' = k then (k, v) :: t
    else (k', v') :: SMap.insert t k v

/-- List nothing at `k`. -/
def SMap.erase {α : Type} : SMap α → Nat → SMap α
  | [], _ => []
  | (k', v') :: t, k => if k' = k then SMap.erase t k else (k', v') :: SMap.erase t k

/-- Write `v` at `k`, where an unlisted key reads as `d`: the canonical form lists no value equal to `d`. -/
def SMap.put {α : Type} [DecidableEq α] (m : SMap α) (k : Nat) (v d : α) : SMap α :=
  if v = d then SMap.erase m k else SMap.insert m k v

/-- Every listed key lies above `lo`, and the keys rise strictly. -/
def SMap.risesFrom {α : Type} : SMap α → Nat → Bool
  | [], _ => true
  | (k, _) :: t, lo => decide (lo < k) && SMap.risesFrom t k

/-- The keys rise strictly. -/
def SMap.rises {α : Type} : SMap α → Bool
  | [] => true
  | (k, _) :: t => SMap.risesFrom t k

/-- The canonical form: keys strictly rising, no value equal to what an unlisted key reads as. -/
def SMap.wf {α : Type} [DecidableEq α] (d : Nat → α) (m : SMap α) : Bool :=
  SMap.rises m && m.all (fun p => decide (p.2 ≠ d p.1))

/-- The entries whose key satisfies `p`. -/
def SMap.keep {α : Type} (m : SMap α) (p : Nat → Bool) : SMap α := m.filter (fun e => p e.1)

/-- Write `v` at each of `n` consecutive keys from `k`. -/
def SMap.fill {α : Type} [DecidableEq α] (m : SMap α) (k : Nat) (v d : α) : Nat → SMap α
  | 0 => m
  | n + 1 => SMap.put (SMap.fill m k v d n) (k + n) v d

/-- Write a list of values at consecutive keys from `k`. -/
def SMap.putList {α : Type} [DecidableEq α] (m : SMap α) (k : Nat) (d : α) : List α → SMap α
  | [] => m
  | v :: t => SMap.putList (SMap.put m k v d) (k + 1) d t

/-- The values at `n` consecutive keys from `k`. -/
def SMap.getList {α : Type} (m : SMap α) (k : Nat) (d : α) : Nat → List α
  | 0 => []
  | n + 1 => SMap.getD m k d :: SMap.getList m (k + 1) d n

end Sys2Proof.Machine
end

