-- ==== Sys2Proof/Machine/State.lean ====
section
/-!
DEFINITION. The state of the DX64: every register, store, queue, engine and pin the spec gives it, as plain data, and
the queue of commands that wait. Everything that the object dictionary shows and the part itself keeps as a register
has its one home in `Device.dict` (keys: Machine/Regs.lean); state that the dictionary does not show, or shows only as
a view, stands in the unit structures below.
-/

namespace Sys2Proof.Machine

/-- A stop with a fault. No constructor: the spec gives every command an effect in every state, so no meaning of this
model stops the block with a fault. -/
inductive Fault where
deriving DecidableEq, Repr

/-- A refusal of a command by the model. -/
inductive Refusal where
  /-- Raised by exec for a command whose meaning is not written (safe: nothing can be proved of it). -/
  | notModelled (mnemonic : String)
deriving DecidableEq, Repr

/-! ### The dictionary's access machinery (chapter 2) -/

/-- What a requester's mailbox is doing (R60, R62). -/
inductive MbxOp where
  | idle
  /-- A snapshot of the entry at key `k`; `crossing` entries are captured when the request reaches their domain. -/
  | snapshot (k : Nat) (crossing : Bool) (status : Code) (bytes : List Byte)
  /-- A commit to the entry at key `k`; `answer` is the guest's answer where the guest serves the entry. -/
  | commit (k : Nat) (answer : Option Code)
deriving DecidableEq, Repr

/-- A requester's mailbox (Tables 2-5, 2-6, R60 to R63). -/
structure Mailbox where
  /-- MBX_OFFSET. -/
  offset : Nat := 0
  /-- MBX_LEN. -/
  len : Nat := 0
  /-- MBX_GEN, 32 bits. -/
  gen : Nat := 0
  /-- VALID of MBX_STAT. -/
  valid : Bool := false
  /-- STATUS of MBX_STAT, 16 bits. -/
  status : Code := 0
  /-- The operation under way: BUSY of MBX_STAT while it is not idle. -/
  op : MbxOp := .idle
  /-- The 65,536-byte buffer; an unlisted byte reads 0. -/
  buf : SMap Byte := []
deriving DecidableEq, Repr

/-- One log record (Table 2-15). -/
structure LogRecord where
  status : Code
  inst : Nat
  level : Nat
  personality : Nat
  bundle : Nat
  epoch : Nat
  mgmt : Nat := 0
  d0 : Nat
  d1 : Nat
  d2 : Nat
  reps : Nat := 0
  seq : Nat := 0
deriving DecidableEq, Repr

/-- The error log (R74): records on their way to the Warden, and the records stored, oldest first. -/
structure Log where
  /-- Records on their way to the Warden, oldest first. -/
  inbox : List LogRecord := []
  /-- The records stored, oldest first, at most 4,096. -/
  stored : List LogRecord := []
  /-- The SEQ of the next record, 16 bits. -/
  nextSeq : Nat := 0
deriving DecidableEq, Repr

/-- A requester's log window (R75). -/
structure LogWindow where
  /-- The window holds a snapshot. -/
  valid : Bool := false
  /-- A snapshot is under way. -/
  busy : Bool := false
  /-- The first SEQ asked for. -/
  first : Nat := 0
  /-- Up to 16 records in SEQ order. -/
  recs : List LogRecord := []
deriving DecidableEq, Repr

/-- A mapped access that waits behind the same requester's stalled cross-domain access (R58). -/
inductive HeldAccess where
  | write (index sub value bytes : Nat)
  /-- The flag says whether the access will cross within its bound. -/
  | crossRead (index sub : Nat) (crosses : Bool)
  | crossWrite (index sub value : Nat) (enters : Bool)
deriving DecidableEq, Repr

/-- A cross-domain access under way (R56, R57). -/
inductive Crossing where
  | none
  | reading (k : Nat)
  | writing (k : Nat)
deriving DecidableEq, Repr

/-- An open segment session of a field-network node (R64). -/
inductive Session where
  | none
  | reading (txn k : Nat) (bytes : List Byte) (next : Nat)
  | writing (txn k : Nat) (bytes : List Byte)
deriving DecidableEq, Repr

/-- What the device keeps for one requester (R49). -/
structure ReqState where
  /-- STATUS of LAST_ACCESS_STATUS, 16 bits. -/
  lastStatus : Code := 0
  /-- The entry last accessed, whose staged write LAST_ACCESS_STATUS shows (R54); none after a privilege drop. -/
  lastKey : Option Nat := none
  /-- The requester's mailbox. -/
  mbx : Mailbox := {}
  /-- The requester's log window. -/
  window : LogWindow := {}
  /-- SEQ_SELECT, which each requester has its own of. -/
  seqSelect : Nat := 0
  /-- The cross-domain access under way. -/
  crossing : Crossing := .none
  /-- The TAG of the guest request that it waits for (R445). -/
  asked : Option Nat := none
  /-- The TAG of the guest request that the mailbox's operation waits for. -/
  mbxAsked : Option Nat := none
  /-- Accesses that wait behind it, in issue order (R58). -/
  held : List HeldAccess := []
  /-- The node's open segment session. -/
  session : Session := .none
  /-- The last completion returned to the requester: a mapped read's value, none for a Completer Abort. -/
  answer : Option Nat := none
  /-- The last frame sent to a field-network node. -/
  sent : List Byte := []
deriving DecidableEq, Repr

/-! ### Rings (chapter 2) -/

/-- An item a FROM_DEVICE ring has still to deliver: its bytes, the detail of its completions, and whether it closes a
group. -/
structure RingItem where
  bytes : List Byte
  detail : Nat := 0
  last : Bool := true
deriving DecidableEq, Repr

/-- A completion record not yet written, because the host's ring is full (R70). -/
structure Completion where
  tag : Nat
  status : Code
  bytes : Nat
  detail : Nat
deriving DecidableEq, Repr

/-- The state of a ring beyond its subindexes. -/
structure Ring where
  /-- Completion records written since STARTING. -/
  written : Nat := 0
  /-- Items a FROM_DEVICE ring is to deliver, oldest first. -/
  items : List RingItem := []
  /-- Completions not yet delivered. -/
  owed : List Completion := []
  /-- Set once the drain limit has passed (R70). -/
  limitPassed : Bool := false
deriving DecidableEq, Repr

/-! ### Start-up, personalities and restarts (chapter 3) -/

/-- Which configuration window is open (R81, R89). -/
inductive CfgWindow where
  | closed | startup | fallback
deriving DecidableEq, Repr

/-- The inputs, and the progress of Trailhead, transitions and restarts. -/
structure Boot where
  /-- ISL_RESET_A_N is high. -/
  islA : Bool := false
  /-- ISL_RESET_B_N is high. -/
  islB : Bool := false
  /-- PWR_GOOD_FLOOR is high. -/
  floorGood : Bool := false
  /-- RESET_N is high. -/
  resetHigh : Bool := false
  /-- PWR_GOOD_CMP_A to D, bits 0 to 3. -/
  cmpGood : Nat := 0
  /-- The regions that this start takes: PWR_GOOD_CMP as step 11 began, or as the warm restart left them (R77). -/
  cmpTaken : Nat := 0
  /-- The regions that the next warm restart leaves out: their supply had not risen within 120 ms (R77). -/
  leftOut : Nat := 0
  /-- Step 1 has completed on Lookout A. -/
  step1A : Bool := false
  /-- Step 1 has completed on Lookout B. -/
  step1B : Bool := false
  /-- Step 2 has completed. -/
  step2 : Bool := false
  /-- Step 3 has completed in this start. -/
  step3 : Bool := false
  /-- Step 4 has completed in this start. -/
  step4 : Bool := false
  /-- The configuration window that is open. -/
  window : CfgWindow := .closed
  /-- The open window takes the host's writes and CFG_GO. -/
  hostWindow : Bool := false
  /-- The start-up window of this start has closed (R84). -/
  closedOnce : Bool := false
  /-- The start configuration snapshot (R83). -/
  snap : SMap Nat := []
  /-- The BLOB entries of the snapshot. -/
  snapBlobs : SMap (List Byte) := []
  /-- Values written to RUN's entries while RUN reads FAULT: the entries hold them, and they do not act (R85). -/
  parked : SMap Nat := []
  /-- The BLOBs among them. -/
  parkedBlobs : SMap (List Byte) := []
  /-- The training result that floor SRAM keeps (R90); none before the first step 6. -/
  training : List Byte := []
  /-- TRAIN_RECORD has been written since this start began (R90). -/
  trainWritten : Bool := false
  /-- The personality in which RUN last entered FAULT, as PERSONALITY_NOW shows it (R85). -/
  faultedIn : Nat := 0
  /-- Cores failing the injection test of step 7 (R92). -/
  badCores : Nat := 0
  /-- The image of this start comes from the host (R86, R89). -/
  hostFetch : Bool := false
  /-- Step 1 failed on a Lookout, a bit each (A 0, B 1); bit 2: step 2 failed. -/
  romFailed : Nat := 0
  /-- The USB4 port of the boot host: the first on which a host router enumerated the device (R86). -/
  hostPort : Option Nat := none
  /-- Both I/O dies have trained in this start (step 5). -/
  ioUp : Bool := false
  /-- Durations of steps 1 to 12 and of the configuration windows, in µs. -/
  times : SMap Nat := []
  /-- Regions with a fault record waiting for a restart, bits 0 to 6 in Region's order. -/
  regionDemand : Nat := 0
  /-- The region whose restart is in progress. -/
  restarting : Option Region := none
  /-- That region has been cleared, tested and reloaded (Table 3-9). -/
  reloaded : Bool := false
  /-- A chip warm restart is under way. -/
  warm : Bool := false
  /-- A demand for a chip warm restart, with the code that caused it. -/
  chipDemand : Option Code := none
  /-- The personality in which the transition or restart under way began. -/
  begunIn : Nat := 0
  /-- A yield request that waits for a region restart (R97). -/
  yieldWaits : Bool := false
  /-- A warm restart has failed: the device holds Bivouac until RESET_N (0x0217). -/
  held : Bool := false
  /-- The kept record of floor SRAM is valid (R90, R101). -/
  trained : Bool := false
deriving DecidableEq, Repr

/-- The loader (R124 to R127). -/
structure Loader where
  /-- Bytes of the image, in image order; host-supplied segments of a flash image read 0 until received. -/
  image : List Byte := []
  /-- The image under upload in Overnight. -/
  upload : List Byte := []
  /-- The OVERNIGHT image last accepted. -/
  tenant : List Byte := []
  /-- The flash record's IMAGE_OFFSET (Table 3-3). -/
  flashAt : Nat := 0
  /-- The image being fetched comes from flash: only host-supplied segments come through the ring. -/
  fromFlash : Bool := false
  /-- Host-supplied bytes still awaited, as (offset, end) in image order. -/
  awaited : List (Nat × Nat) := []
  /-- Step 9 is in progress. -/
  fetching : Bool := false
deriving DecidableEq, Repr

/-! ### Cores (chapters 5 to 7) -/

/-- An attention row's running maximum m and running sum l, binary32 bits (R200). -/
structure RowState where
  m : Nat := 0
  l : Nat := 0
deriving DecidableEq, Repr

/-- A TE operation in a core's queue (Table 4-3): its OP, SR and DONE fields, its 80 operand bits, and the bundle that
issued it. -/
structure TeOp where
  op : Nat
  sr : Bool
  done : Option Nat
  operands : Nat
  addr : Nat := 0
  bundle : Nat := 0
deriving DecidableEq, Repr

/-- What a TE or VE operation writes when it completes, worked out from the operands read at its start. -/
structure EngineResult where
  /-- Local-memory writes, as (byte address, bytes). -/
  writes : List (Nat × List Byte) := []
  /-- The new contents of the accumulator sets that the operation writes. -/
  sets : List (Nat × SMap Nat) := []
  /-- The attention state, when the operation changes it. -/
  attn : Option (SMap RowState × Nat) := none
  /-- The ancestor sets that an INIT_STEP forms (R204). -/
  anc : Option (SMap Nat) := none
  /-- Events counted per core (R178). -/
  nans : Nat := 0
  infs : Nat := 0
  sats : Nat := 0
  /-- 0x060B events of a FINISH (R203). -/
  incomplete : Nat := 0
  /-- ACCEPT's result word, and the scalar register it goes to (R205). -/
  reg : Option (Nat × Nat) := none
  /-- The operands' formats and scales make an integer path (R360). -/
  intPath : Bool := false
  /-- What local memory held at the operation's start (R135). -/
  before : SMap Byte := []
  /-- Stochastic rounding was allowed at its start (R176). -/
  allowed : Bool := true
deriving DecidableEq, Repr

/-- An accumulator chain of a set (R356 to R358, R409): whether its operations are replayed, whether as a spot replay,
and its transform. -/
structure Chain where
  replayed : Bool := false
  spot : Bool := false
  transform : Nat := 0
deriving DecidableEq, Repr

/-- A TE operation under way; `replay` is its transform when it is replayed. -/
structure TeRun where
  op : TeOp
  result : EngineResult
  replay : Option Chain := none
deriving DecidableEq, Repr

/-- How a TE stands with its load-step hint (R462). -/
inductive TeHint where
  /-- Not counted busy. -/
  | idle
  /-- Counted in the level, its lead time running. -/
  | waiting
  /-- It may start. -/
  | ready
deriving DecidableEq, Repr

/-- A VE operation in a core's queue: its OP, DONE fields, 111 operand bits and the word's IMM. -/
structure VeOp where
  op : Nat
  done : Option Nat
  operands : Nat
  imm : Nat
deriving DecidableEq, Repr

/-- A scalar load or store whose bank access is under way (R139). -/
structure ScalarAccess where
  load : Bool
  rd : Nat
  addr : Nat
  value : Nat
deriving DecidableEq, Repr

/-- A DMA descriptor (Table 5-12). Spaces: 0 LOCAL, 1 CORE, 2 DEVICE, 3 REMOTE. -/
structure Desc where
  src : Nat := 0
  dst : Nat := 0
  rowBytes : Nat := 0
  rows : Nat := 0
  srcStride : Nat := 0
  dstStride : Nat := 0
  srcSpace : Nat := 0
  dstSpace : Nat := 0
  srcUnit : Nat := 0
  dstUnit : Nat := 0
  allocate : Bool := false
deriving DecidableEq, Repr

/-- A transaction in flight (R141): its addresses and length, the data once read, and where it stands. -/
structure InFlight where
  src : Nat
  dst : Nat
  len : Nat
  /-- The last transaction of its operation. -/
  last : Bool
  data : List Byte := []
  /-- Poisoned granules of the data, counted from its start. -/
  bad : List Nat := []
  /-- The data has been read. -/
  arrived : Bool := false
  /-- The write of the data has been issued. -/
  writing : Bool := false
  /-- The tag of the chip-link request that carries the write. -/
  tag : Option Nat := none
  /-- The order of issue at the core's port (R222), the priority and the deadline field it was issued with (R251, R252). -/
  no : Nat := 0
  prio : Nat := 0
  deadline : Nat := 0
deriving DecidableEq, Repr

/-- Where a page walk stands (R191, R193). -/
inductive WalkPhase where
  /-- Judged; its first attempt has not begun. -/
  | ready
  /-- A READ attempt has copied its frames under the even GEN given. -/
  | copied (gen : Nat)
  /-- A READ attempt met an odd or a changed GEN. -/
  | retry
  /-- An APPEND or REFILL has written its slots and has to publish. -/
  | written
  /-- Only its result is to be written. -/
  | done
deriving DecidableEq, Repr

/-- A page walk under way (Table 7-6). -/
structure Walk where
  phase : WalkPhase := .ready
  desc : Nat := 0
  seq : Nat := 0
  layer : Nat := 0
  mode : Nat := 0
  pos0 : Nat := 0
  count : Nat := 0
  frames : Nat := 0
  format : Nat := 0
  frameBase : Nat := 0
  srcElem : Nat := 0
  srcScale : Nat := 0
  srcTile : Nat := 0
  /-- The bundle counter at the start of the walk. -/
  bundle : Nat := 0
  attempts : Nat := 0
  status : Code := 0
  /-- RES_FRAMES, RES_FLAGS, RES_LENGTH, RES_GEN and RES_SLOTS as they will be written. -/
  resFrames : Nat := 0
  resFlags : Nat := 0
  resLength : Nat := 0
  resGen : Nat := 0
  resSlots : Nat := 0
  /-- Some frame was delivered RECOMPUTE. -/
  missing : Bool := false
  /-- New page entries to publish: page index and entry word. -/
  news : List (Nat × Nat) := []
  /-- Its transactions that have not been issued (R192). -/
  todo : List InFlight := []
deriving DecidableEq, Repr

/-- Where a DE operation stands. -/
inductive DePhase where
  | queued | running | walking
deriving DecidableEq, Repr

/-- A DE operation of a channel (Table 5-11). -/
structure DeOp where
  op : Nat
  done : Option Nat
  operands : Nat
  phase : DePhase := .queued
  desc : Desc := {}
  /-- The next transaction: its row, and the bytes of the row already issued. -/
  row : Nat := 0
  off : Nat := 0
  flights : List InFlight := []
  walk : Option Walk := none
  /-- The bundle counter and the address of the bundle that issued it (R22). -/
  bundle : Nat := 0
  addr : Nat := 0
deriving DecidableEq, Repr

/-- A transfer open at an inbound endpoint (R438). -/
structure OpenTransfer where
  /-- The device it comes from; 64 for the guest. -/
  dev : Nat
  core : Nat
  chan : Nat
  channel : Nat
  /-- A write of it fell outside the window: the rest of it is dropped (R152). -/
  dropped : Bool := false
deriving DecidableEq, Repr

/-- A write that waits at an inbound endpoint while its core runs a self-test slice (R367). -/
structure EpWrite where
  ep : Nat
  off : Nat
  data : List Byte
  bad : List Nat
  last : Bool
  sem : Nat
deriving DecidableEq, Repr

/-- One core. -/
structure Core where
  /-- 4 MiB of local memory. -/
  lm : SMap Byte := []
  /-- Poison marks, one per 32-byte granule (R134). -/
  poison : SMap Bool := []
  /-- Scalar registers s0 to s31, 32 bits each (R137). -/
  sregs : SMap Nat := []
  /-- Semaphores 0 to 255: their counts (R146). -/
  sems : SMap Nat := []
  /-- Participant counts P_b (R148). -/
  bars : SMap Nat := []
  /-- Scalar loads and stores whose bank access is under way. -/
  loads : List ScalarAccess := []
  /-- The TE queue, oldest first, at most 4 operations. -/
  teQueue : List TeOp := []
  /-- TE operations under way. -/
  teRuns : List TeRun := []
  /-- The VE queue, oldest first, at most 8 operations. -/
  veQueue : List VeOp := []
  /-- The VE operation under way. -/
  veRun : Option (VeOp × EngineResult) := none
  /-- DMA channels 0 to 15: operations in issue order, at most four. -/
  chans : SMap (List DeOp) := []
  /-- The channel that the round robin of the port serves (R142). -/
  rrChan : Nat := 15
  /-- The grants it has left. -/
  rrLeft : Nat := 0
  /-- Transactions that the port has issued: the next one's place in the order of issue (R222). -/
  issueNo : Nat := 0
  /-- Transfers open at endpoints 0 to 3. -/
  transfers : SMap (List OpenTransfer) := []
  /-- Accumulator set 0: key i * 64 + j, binary32 bits. -/
  acc0 : SMap Nat := []
  /-- Accumulator set 1. -/
  acc1 : SMap Nat := []
  /-- The attention row state, rows 0 to 127 (chapter 7). -/
  rows : SMap RowState := []
  /-- The node-incomplete set (R199), bit n for node n. -/
  nodeInc : Nat := 0
  /-- The ancestor sets of the tree (R204): key node, a bit per ancestor. -/
  anc : SMap Nat := []
  /-- The accumulator chains of the two sets. -/
  chains : SMap Chain := []
  /-- The transform that the next chain tries first (R358). -/
  nextTransform : Nat := 0
  /-- Chains counted for spot replay (R409). -/
  spotCount : Nat := 0
  /-- How its TE stands with the load-step hint. -/
  hint : TeHint := .idle
  /-- The stochastic-rounding generator (R174). -/
  lfsr : Nat := 0
  /-- Writes that wait at its endpoints while a slice runs, oldest first (R367). -/
  epWaits : List EpWrite := []
deriving DecidableEq, Repr

/-! ### The bundle stream (chapter 4) -/

/-- An active loop level (R117). -/
structure Loop where
  start : Nat
  last : Nat
  left : Nat
deriving DecidableEq, Repr

/-- A reduction in its pipeline (R116): visible from the bundle with issue index `visible`. -/
structure Reduction where
  pred : Nat
  value : Bool
  visible : Nat
deriving DecidableEq, Repr

/-- A flit in the network plane (R119): written by the bundle with issue index `arrives`. -/
structure Flit where
  src : Nat
  dst : Nat
  data : List Byte
  poisoned : Bool
  arrives : Nat
deriving DecidableEq, Repr

/-- A world-engine job in the handoff queue (R106). -/
structure WorldJob where
  cls : Nat
  job : Nat
  core : Nat
  sem : Nat
  arg : Nat
deriving DecidableEq, Repr

/-- An effect too recent to count in the judgement of R110: made in one of the last three CLK_FABRIC cycles. -/
inductive RecentEffect where
  /-- A semaphore raised by something other than the core's own SYNC slot. -/
  | raise (core sem n : Nat)
  /-- Room freed in an engine queue (0 TE, 1 VE, 2 to 17 DE channel). -/
  | room (core queue : Nat)
  /-- A scalar load has written its register. -/
  | loaded (core reg : Nat)
  /-- Room freed in the handoff queue. -/
  | handoff
  /-- A barrier's participant count has been set; it was `old`. -/
  | barcfg (core bar old : Nat)
deriving DecidableEq, Repr

/-- The bundle stream's state. -/
structure Stream where
  /-- Lane stores: key core * 16,384 + address; an unlisted word is empty. -/
  lanes : SMap (BitVec 512) := []
  /-- The chip store, a 512-bit word per address. -/
  chip : SMap (BitVec 512) := []
  /-- The chosen variant's CORE_MASK (Table 4-10). -/
  coreMask : Nat := 0
  /-- Issue is possible: RUN has started the stream and nothing has stopped it. -/
  running : Bool := false
  /-- Dispatched and not yet issued addresses, the next to issue first (at most four). -/
  skid : List Nat := []
  /-- The next address to dispatch. -/
  nextAddr : Nat := 0
  /-- Dispatch has ended at a HALT. -/
  noMore : Bool := false
  /-- Active loop levels, the innermost first (R117). -/
  loops : List Loop := []
  /-- Predicates p0 to p15, a bit each. -/
  preds : Nat := 0
  /-- Reductions in their pipeline. -/
  reductions : List Reduction := []
  /-- Flits in the network plane. -/
  flits : List Flit := []
  /-- The handoff queue, oldest first. -/
  handoff : List WorldJob := []
  /-- Effects of the last three cycles, with the cycle index. -/
  recent : List (Nat × RecentEffect) := []
  /-- The 48-bit bundle counter (R114). -/
  count : Nat := 0
  /-- Bundles issued since the last start or restart, not saturating: the index that latencies count in. -/
  index : Nat := 0
  /-- A hold is in progress, and how many cycles it has lasted. -/
  holdCycles : Nat := 0
  /-- Bundles issued since the last apply mark while a write has been staged (R108). -/
  sinceApply : Nat := 0
  /-- Self-test windows: for each core, the issue index at which its window ends. -/
  windows : SMap Nat := []
  /-- Kicks on their way to the stage watchdogs (R107), oldest first. -/
  kicks : List Nat := []
  /-- Cores that have faulted in the present CLK_FABRIC cycle: one more than the ENGINE of the fault record (R153). -/
  faults : SMap Nat := []
  /-- The bundle counter's saturation has been logged (R115). -/
  saturated : Bool := false
  /-- CLK_FABRIC cycles left of a divisor change, per region A to D (R29). -/
  divChange : SMap Nat := []
deriving DecidableEq, Repr

/-! ### Memory (chapter 8) -/

/-- A DRAM line held in a floor-cache way. -/
structure CacheLine where
  way : Nat
  line : Nat
deriving DecidableEq, Repr

/-- What the device last answered on a master port. -/
structure MemAnswer where
  data : List Byte := []
  /-- The data is poisoned. -/
  poison : Bool := false
  code : Code := 0
  /-- The priority that the request was served at (Table 8-5). -/
  priority : Nat := 0
deriving DecidableEq, Repr

/-- The regulation state of a master port (R249 to R254). -/
structure MemPort where
  /-- The budget of the window in progress, in bytes; 0 is none. -/
  budget : Nat := 0
  /-- Bytes issued in it. -/
  bytes : Nat := 0
  /-- Bytes issued in the last full window. -/
  lastBytes : Nat := 0
  /-- Issue stopped by budget. -/
  stopped : Bool := false
  /-- Windows with issue stopped by budget (BUDGET_EXHAUSTED). -/
  exhausted : Nat := 0
  /-- L of R251, in CLK_FABRIC cycles. -/
  lat : Nat := 0
  /-- The largest latency. -/
  latMax : Nat := 0
  /-- The eight bins of the latency histogram. -/
  hist : SMap Nat := []
  /-- Deadline misses (R252). -/
  misses : Nat := 0
  /-- Deadline misses already logged (R252). -/
  missesLogged : Nat := 0
  /-- The address of the last request that missed its deadline. -/
  lateAddr : Nat := 0
  /-- Panic is raised (R253). -/
  panic : Bool := false
  /-- Panics raised. -/
  panics : Nat := 0
  /-- Stacks in which the port is throttled (R239). -/
  throttled : List Nat := []
  /-- Throttles begun. -/
  throttles : Nat := 0
  /-- FLAGS conditions that held at any time in this management period. -/
  period : Nat := 0
  /-- What the device last answered on the port. -/
  answer : MemAnswer := {}
deriving DecidableEq, Repr

/-- Where poison came from: the core whose DE wrote it, and the bundle that issued the transfer (R22). -/
structure Producer where
  core : Nat
  bundle : Nat
  addr : Nat
deriving DecidableEq, Repr

/-- The memory system. -/
structure Memory where
  /-- DRAM, by device address; an unlisted byte reads 0. -/
  dram : SMap Byte := []
  /-- The locked window of the floor cache, by device address. -/
  locked : SMap Byte := []
  /-- Lines that hold poison, by device address / 64 (R242), and which transfer brought it, where a core's did. -/
  poison : SMap Bool := []
  producers : SMap Producer := []
  /-- Floor-cache sets: key slice * 8,192 + set, lines most recent first. -/
  cache : SMap (List CacheLine) := []
  /-- The master ports, 0 to 78. -/
  ports : SMap MemPort := []
  /-- The first correction of each stack in this management period (R240). -/
  corrections : SMap LogRecord := []
  /-- Failed parity retries in this management period, by stack * 24 + channel (R241). -/
  caFails : SMap Nat := []
  /-- Those of the period before. -/
  caOld : SMap Nat := []
  /-- Consecutive retraining failures, by stack * 24 + channel (R237). -/
  retrainFails : SMap Nat := []
  /-- The iteration that may retry them: `elapsed` + 1 at the last failure (R237). -/
  retryFrom : SMap Nat := []
  /-- Channels that are retraining, as stack * 24 + channel. -/
  retraining : List Nat := []
  /-- Milliseconds of management periods, the skipped ones too (R236). -/
  elapsed : Nat := 0
  /-- `elapsed` at each channel's last training (R236). -/
  trainedAt : SMap Nat := []
  /-- The temperature of its stack then. -/
  trainedTemp : SMap Int := []
  /-- Row activations in this refresh window, by location (R238). -/
  activations : SMap Nat := []
  /-- Rows that have reached the threshold: location, port, address, count; oldest first. -/
  disturbed : List (Nat × Nat × Nat × Nat) := []
  /-- Ranges under zeroisation: base and size (R233). -/
  zeroing : List (Nat × Nat) := []
  /-- The patrol scrubber's next line (R243). -/
  scrubLine : Nat := 0
  /-- The AES-XTS keys of the Drive partition and of the 168 GiB range (R232): no entry and no port reads them. -/
  driveKey : Nat := 0
  workKey : Nat := 0
  /-- The stack whose controller failed, or whose writes a failed slice held (R234). -/
  failedStack : Option Nat := none
deriving DecidableEq, Repr

/-- The free ring's head and tail, counted in pops and pushes (R184). -/
structure Hamper where
  /-- Pops of the free ring. -/
  head : Nat := 0
  /-- Pushes to the free ring. -/
  tail : Nat := 0
deriving DecidableEq, Repr

/-! ### Chip links and the guest die (chapter 14) -/

/-- A chip-link packet (Table 14-4). -/
structure LinkPacket where
  typ : Nat
  last : Bool := false
  /-- 0 request lane, 1 answer and control. -/
  vl : Nat := 0
  poison : Nat := 0
  hops : Nat := 0
  epoch : Nat := 0
  srcDev : Nat := 0
  dstDev : Nat := 0
  addr : Nat := 0
  channel : Nat := 0
  srcCore : Nat := 0
  srcChan : Nat := 0
  tag : Nat := 0
  status : Nat := 0
  seq : Nat := 0
  data : List Byte := []
  /-- The lane whose credits a CREDIT packet returns (Table 14-4 gives the packet no field for it). -/
  lane : Nat := 0
deriving DecidableEq, Repr

/-- A chip-link port. -/
structure LinkPort where
  /-- Credits that the peer grants us on the request lane (R432). -/
  reqCredit : Nat := 512
  /-- The same on the answer lane. -/
  ansCredit : Nat := 128
  /-- Credits that the peer has left of our request lane. -/
  peerReq : Nat := 512
  /-- The same of our answer lane. -/
  peerAns : Nat := 128
  /-- Packets that wait for credit, for the end of a throttle or for a retrain, in order. -/
  queue : List LinkPacket := []
  /-- Packets sent and not yet acknowledged at link level (R433). -/
  replay : List LinkPacket := []
  /-- The SEQ of the next packet sent, 12 bits. -/
  txSeq : Nat := 0
  /-- The SEQ expected next. -/
  rxSeq : Nat := 0
  /-- Request packets that wait in the receive buffer with their credits held (R367, R438). -/
  held : List LinkPacket := []
  /-- Requests are paused by a THROTTLE of the peer (R440). -/
  throttled : Bool := false
  /-- Fast retrains in a row that failed (R434). -/
  failed : Nat := 0
  /-- A full retrain is in progress. -/
  full : Bool := false
  /-- The last packet put on the wire. -/
  wire : Option LinkPacket := none
  /-- The SEQ of the last link negative acknowledgement sent (R433). -/
  nak : Option Nat := none
deriving DecidableEq, Repr

/-- A chip-link request of this device that is not yet answered. -/
structure OutRequest where
  tag : Nat
  core : Nat
  chan : Nat
  /-- The port it left by. -/
  port : Nat
  /-- The epoch that a CHAN_XFER carries. -/
  epoch : Option Nat
deriving DecidableEq, Repr

/-- The chip links and inbound channels. -/
structure Links where
  /-- Ports 0 to 3. -/
  ports : SMap LinkPort := []
  /-- Requests not yet answered. -/
  requests : List OutRequest := []
  /-- The TAG of the next request. -/
  nextTag : Nat := 0
  /-- Retired epochs of a channel, a bit each: key channel, plus 256 for guest channels (R439). -/
  retired : SMap Nat := []
deriving DecidableEq, Repr

/-- A guest packet (Table 14-9). -/
structure GuestPacket where
  typ : Nat
  last : Bool := false
  poison : Nat := 0
  epoch : Nat := 0
  tag : Nat := 0
  len : Nat := 0
  addr : Nat := 0
  channel : Nat := 0
  status : Nat := 0
  index : Nat := 0
  subindex : Nat := 0
  value : Nat := 0
  seq : Nat := 0
  data : List Byte := []
  /-- The credits that a CREDIT packet returns: 0 headers, 1 data flits (Table 14-9 gives the packet no field for it). -/
  pool : Nat := 0
deriving DecidableEq, Repr

/-- The guest site. -/
structure Guest where
  /-- Training has completed and the modules are trained. -/
  trained : Bool := false
  /-- Training is in progress. -/
  training : Bool := false
  /-- A retraining is in progress (R448). -/
  retraining : Bool := false
  /-- The TAG of the next DICT_REQ, 16 bits (R445). -/
  nextTag : Nat := 0
  /-- Header credits that the guest grants the device. -/
  hdrCredit : Nat := 0
  /-- Data-flit credits that the guest grants the device. -/
  dataCredit : Nat := 0
  /-- Header credits that the guest has left (R443). -/
  peerHdr : Nat := 256
  /-- Data-flit credits that the guest has left. -/
  peerData : Nat := 1024
  /-- Packets that wait for credit, in order. -/
  queue : List GuestPacket := []
  /-- Packets sent and not yet acknowledged. -/
  replay : List GuestPacket := []
  /-- The SEQ of the next packet sent. -/
  txSeq : Nat := 0
  /-- The SEQ expected next. -/
  rxSeq : Nat := 0
  /-- Packets that wait in the receive buffer. -/
  held : List GuestPacket := []
  /-- Malformed packets in this millisecond (Table 14-10). -/
  malformed : Nat := 0
  /-- Packets without credit in this millisecond. -/
  overruns : Nat := 0
  /-- The last packet put on the wire. -/
  wire : Option GuestPacket := none
deriving DecidableEq, Repr

/-! ### Stream slots (chapter 9) -/

/-- A sample in a slot (R261 to R272). -/
structure Sample where
  seq : Nat
  /-- Bytes stored, and lines, packets or 1. -/
  bytes : Nat := 0
  units : Nat := 0
  /-- Bytes that have come for the buffer, stored or not. -/
  got : Nat := 0
  stamp : Option Nat := none
  frameNumber : Nat := 0
  flags : Nat := 0
  status : Code := 0
  /-- The first embedded-data packet has come; the pattern packet has come; an image packet has come. -/
  embedded : Bool := false
  pattern : Bool := false
  image : Bool := false
  /-- Data is discarded from here to the sample's end (R269). -/
  cut : Bool := false
deriving DecidableEq, Repr

/-- A stream slot. -/
structure Slot where
  /-- The next SEQ. -/
  seq : Nat := 0
  /-- The sample under reception. -/
  sample : Option Sample := none
  /-- Samples received whole and not yet completed, oldest first. -/
  ending : List Sample := []
  /-- The vehicle time of the previous usable sample. -/
  lastTime : Option Int := none
  /-- Consecutive frames flagged PATTERN_FAIL or SELF_FAIL. -/
  badRun : Nat := 0
  /-- The slot has reported them (R270). -/
  alarmed : Bool := false
  /-- Consecutive dropouts. -/
  dropRun : Nat := 0
  /-- STREAM_LOST has been logged (R274). -/
  lost : Bool := false
deriving DecidableEq, Repr

/-! ### Fusion (chapter 10) -/

/-- An entry of the ego history (R286): the pose after an IMU sample, and the sample in the vehicle frame. -/
structure EgoEntry where
  tau : Int
  q : List Number
  v : List Number
  p : List Number
  w : List Number
  a : List Number
deriving DecidableEq, Repr

/-- An IMU or WHEEL sample taken into fusion: the record's VTIME and the sample's integers (gyro and specific force, or speed). -/
structure EgoSample where
  slot : Nat
  stamp : Nat
  data : List Int
deriving DecidableEq, Repr

/-- A detection record (Table 10-7); F32 fields are their bits. -/
structure Detection where
  box3d : Bool
  cls : Nat
  conf : Nat
  geom : List Nat
  var : List Nat
  vel : List Nat
deriving DecidableEq, Repr

/-- A detection list taken into fusion (R296): `stamp` is its VTIME. -/
structure DetectionList where
  slot : Nat
  final : Bool
  invalid : Bool
  stamp : Nat
  dets : List Detection
deriving DecidableEq, Repr

/-- A lidar packet taken into fusion: its frame, and the vehicle time of its prefix. -/
structure LidarPacket where
  slot : Nat
  stamp : Nat
  frame : List Byte
deriving DecidableEq, Repr

/-- A measurement of a track (R301, R306). -/
structure Measurement where
  tau : Int
  slot : Nat
  cls : Nat
  conf : Nat
  data : List Number
deriving DecidableEq, Repr

/-- What a track retains of an instant (R306). -/
structure TrackInstant where
  instant : Nat
  /-- The end-of-instant state and covariance. -/
  filt : List Number
  log : List Measurement
  hit : Bool
  /-- The instant counted in hist. -/
  counted : Bool
deriving DecidableEq, Repr

/-- A dispute of a track (R307, R308). -/
structure Dispute where
  /-- 1 CLASS, 2 OCCUPANCY. -/
  kind : Nat
  slotA : Nat
  slotB : Nat
  clsA : Nat
  clsB : Nat
  first : Nat
  last : Nat
deriving DecidableEq, Repr

/-- A track (R301 to R308). -/
structure Track where
  id : Nat
  /-- 1 TENTATIVE, 2 CONFIRMED, 3 DELETED. -/
  state : Nat := 1
  cls : Nat
  /-- State and covariance of the filter, and the vehicle time they stand at. -/
  filt : List Number
  time : Int
  hist : Nat := 1
  counted : Nat := 1
  missRun : Nat := 0
  coastRun : Nat := 0
  age : Nat := 0
  conf : Nat := 0
  lastUpdate : Int := 0
  /-- This instant: hit, coasted, updated late, born, left the field; slots that updated it; its measurements. -/
  hit : Bool := false
  coasted : Bool := false
  late : Bool := false
  born : Bool := false
  left : Bool := false
  slotMask : Nat := 0
  log : List Measurement := []
  past : List TrackInstant := []
  dispute : Option Dispute := none
deriving DecidableEq, Repr

/-- An instant closed and not yet written DONE. -/
structure ClosedInstant where
  instant : Nat
  /-- The header (Table 10-9) but for STATE and DONE_BUNDLE, and the records and grid to be written. -/
  header : List Byte
  disputes : List Byte
  tracks : List Byte
  grid : SMap Nat
  /-- Tracks tentative or confirmed, tracks confirmed, and disputes. -/
  active : Nat
  confirmed : Nat
  disputed : Nat
deriving DecidableEq, Repr

/-- An output written DONE: its instant and its t_k. -/
structure FusionOutput where
  instant : Nat
  time : Int
deriving DecidableEq, Repr

/-- Fusion's state. -/
structure Fusion where
  /-- The ego history E, oldest first (R286). -/
  history : List EgoEntry := []
  /-- The latest usable sample of each WHEEL slot. -/
  speeds : SMap EgoSample := []
  /-- WHEEL samples that wait for E to reach their time. -/
  wheelWait : List EgoSample := []
  /-- The IMU and WHEEL samples later than the newest closed instant, in the order taken, and the latest sample of each
  WHEEL slot before them: a calibration committed now is applied to them again (R285). -/
  egoInputs : List EgoSample := []
  speedsOld : SMap EgoSample := []
  /-- The open instant. -/
  open? : Option Nat := none
  /-- Detection lists taken and not yet fused. -/
  lists : List DetectionList := []
  /-- Lidar packets taken and not yet fused. -/
  packets : List LidarPacket := []
  /-- Late lists to fold before the next instant. -/
  lateLists : List DetectionList := []
  /-- Late packets to fold before the next instant. -/
  latePackets : List LidarPacket := []
  /-- Slots that have sent a list since ON, a bit each. -/
  sentLists : Nat := 0
  /-- The newest packet time of each LIDAR slot, as the packets' prefixes give it. -/
  newestPacket : SMap Nat := []
  /-- The slot and VTIME of each FINAL list delivered. -/
  finals : List (Nat × Nat) := []
  /-- The lidar packets of the last 24 instants, which place their late detections (R298, R306). -/
  pastPackets : List LidarPacket := []
  /-- The detections placed in this instant, which mark the grid (R299). -/
  footprints : List Measurement := []
  /-- Slots and instants with an input used. -/
  used : List (Nat × Nat) := []
  /-- The track store. -/
  tracks : List Track := []
  /-- The next track number. -/
  nextId : Nat := 1
  /-- The occupancy grid in the ego frame of its instant: log-odds by cell. -/
  grid : SMap Nat := []
  /-- The pose of that frame. -/
  gridPose : Option EgoEntry := none
  /-- The instants closed and not yet written DONE, oldest first. -/
  closed : List ClosedInstant := []
  /-- Outputs written DONE. -/
  outputs : List FusionOutput := []
  /-- Outputs written since ON. -/
  written : Nat := 0
  /-- Consecutive guard closes. -/
  guards : Nat := 0
  /-- EGO_LOST has been logged. -/
  lost : Bool := false
  /-- Late inputs dropped since the last output. -/
  lateDropped : Nat := 0
  /-- A restart precedes the next output (FLAGS). -/
  restarted : Bool := false
  /-- A calibration was committed before the next output. -/
  calibChanged : Bool := false
  /-- The track store was full in this instant. -/
  storeFull : Bool := false
deriving DecidableEq, Repr

/-! ### Planning (chapter 11) -/

/-- A survivor of EXPAND (Table 11-9). Its clearance is in mm. -/
structure Survivor where
  index : Nat
  clearance : Number
  minT : Nat
  outside : Bool
  cost : Nat
deriving DecidableEq, Repr

/-- The clearance of a primitive against an epoch. -/
structure Clearance where
  index : Nat
  epoch : Nat
  value : Number
  outside : Bool
  minT : Nat
deriving DecidableEq, Repr

/-- Where a cycle's EXPAND stands. -/
inductive ExpandPhase where
  | none | running | done
deriving DecidableEq, Repr

/-- The settings that a cycle takes when it begins (R346). -/
structure PlanSettings where
  /-- CLEAR_MARGIN_MM as the cycle took it. -/
  margin : Nat := 300
  /-- OCC_THRESHOLD as the cycle took it. -/
  occupied : Nat := 128
  /-- SURVIVOR_MAX as the cycle took it. -/
  survivors : Nat := 256
  /-- EPOCH_MAX_AGE as the cycle took it. -/
  maxAge : Nat := 2
deriving DecidableEq, Repr

/-- The record a cycle has chosen, and the fallback record beside it. -/
structure ChosenRecord where
  trajectory : List Byte
  fallback : List Byte
  /-- The SELECT job that chose it, unless the planner acted itself. -/
  job : Option WorldJob
  /-- The epoch it was checked against, whose buffer it holds (R323, R337). -/
  epoch : Option Nat
deriving DecidableEq, Repr

/-- The open planning cycle (R332). -/
structure Cycle where
  instant : Nat
  /-- t_k, and the ego's x, y and yaw at t_k. -/
  time : Int := 0
  ego : List Number := []
  /-- The lattice bin (R331). -/
  bin : Nat := 0
  expand : ExpandPhase := .none
  expandJob : Option WorldJob := none
  bound : Option Nat := none
  stale : Bool := false
  survivors : List Survivor := []
  clearances : List Clearance := []
  /-- A SELECT that waits for the EXPAND. -/
  waiting : Option WorldJob := none
  /-- The record chosen and written FILLING. -/
  chosen : Option ChosenRecord := none
deriving DecidableEq, Repr

/-- A build accepted (R320 to R324). -/
structure Build where
  job : WorldJob
  /-- The builder has read and taken its record (R320), which gives the instant and the two addresses. -/
  checked : Bool := false
  instant : Nat := 0
  far : Nat := 0
  near : Nat := 0
  /-- The epoch it takes once running. -/
  running : Option Nat := none
deriving DecidableEq, Repr

/-- Planning's state. -/
structure Planning where
  /-- The settings taken at the last apply mark. -/
  settings : PlanSettings := {}
  /-- The open planning cycle. -/
  cycle : Option Cycle := none
  /-- An EXPAND that waits for its cycle. -/
  expandWait : Option WorldJob := none
  /-- Accepted builds in order; only the first may run. -/
  builds : List Build := []
  /-- The newest completed epoch and its instant. -/
  newest : Option (Nat × Nat) := none
  /-- A cycle has begun since ON, so that CYCLE_INSTANT names one. -/
  begun : Bool := false
  /-- Records sent since ON. -/
  outSeq : Nat := 0
  /-- Frames on an output that may still be dropped: output 0 CAN XL, 1 10BASE-T1S. -/
  unsent : SMap (List Byte) := []
  /-- The last frame that an output put on the wire. -/
  sent : SMap (List Byte) := []
deriving DecidableEq, Repr

/-- The world engine: jobs taken from the handoff queue, and AWAIT_INSTANT jobs that wait. -/
structure World where
  /-- Jobs taken from the handoff queue and not yet done. -/
  taken : List WorldJob := []
  /-- AWAIT_INSTANT jobs that wait. -/
  waits : List WorldJob := []
deriving DecidableEq, Repr

/-! ### The tenant's job (chapter 13) -/

/-- An admission request or a preempted sequence in the queue (R406, R407). -/
structure JobReq where
  seq : Nat
  cls : Nat
  /-- Slots it needs. -/
  need : Nat
  addr : Nat := 0
  tokens : Nat := 0
  /-- Steps it has waited. -/
  waited : Nat := 0
  /-- It was preempted: its descriptor is ACTIVE. -/
  preempted : Bool := false
deriving DecidableEq, Repr

/-- A disposition to report (Table 13-4). -/
structure Disposition where
  seq : Nat
  code : Nat
  estimate : Nat := 0
deriving DecidableEq, Repr

/-- A step taken and not yet in a checkpoint: its record as checkpoints copy it, its digest and its token list. -/
structure TakenStep where
  step : Nat
  record : List Byte
  digest : List Byte
  tokens : List Byte
deriving DecidableEq, Repr

/-- Where a job that closes stands (Table 13-6). -/
inductive JobPhase where
  | running
  /-- Rows 1 to 3: until RUN is OFF. -/
  | closing
  /-- Row 4: the FINAL checkpoint is on its way. -/
  | final
  /-- Row 4 is over. -/
  | done
deriving DecidableEq, Repr

/-- The job. -/
structure Job where
  /-- Where the job stands. -/
  phase : JobPhase := .running
  /-- The disposition that closing gives: 5 at a yield, 7 at a disable. -/
  closing : Nat := 0
  /-- The admission queue, in order. -/
  queue : List JobReq := []
  /-- Dispositions since the last JOB_OUT group. -/
  news : List Disposition := []
  /-- Steps taken and not yet in a checkpoint. -/
  steps : List TakenStep := []
  /-- Steps taken since the last checkpoint was due. -/
  sinceCkpt : Nat := 0
  /-- A checkpoint is pending, merged into the next (R414). -/
  merged : Bool := false
  /-- The step after the last one that a checkpoint covered. -/
  firstStep : Nat := 1
  /-- The running digest of the checkpoint under way. -/
  digest : List Byte := []
  /-- The sum of MISMATCHES over the steps taken. -/
  mismatches : Nat := 0
  /-- Slots pushed to the free ring at the ends of the last 17 steps, newest first. -/
  pushes : List Nat := []
  /-- Tokens emitted by each sequence since its admission. -/
  emitted : SMap Nat := []
  /-- The last disposition of each sequence. -/
  last : SMap Nat := []
  /-- Sequences that have changed since the last checkpoint. -/
  changed : List Nat := []
  /-- Sequences that the program could admit at some time since the last step. -/
  admissible : List Nat := []
  /-- Preempted sequences whose turn in the queue was refused (R406, R407). -/
  forgotten : List Nat := []
  /-- The last step that each checkpoint covers (R403). -/
  covers : SMap Nat := []
  /-- The FINAL checkpoint has been assembled. -/
  finalSent : Bool := false
deriving DecidableEq, Repr

/-! ### Safety (chapter 12) -/

/-- An event on its way to Lookout A (Table 12-3). -/
inductive LookoutEvent where
  | coreFault (core : Nat) (code : Code)
  | mismatch (core : Nat)
  /-- A test slice's result: slice A is 0, slice B is 1. -/
  | selfTest (core slice : Nat) (passed : Bool)
  | watchdog (stage : Nat) (code : Code)
  /-- PATTERN_FAULT_COUNT reached, STREAM_LOST, EGO_LOST. -/
  | alarm (code : Code) (inst : Nat)
  /-- The functions of SAFETY_FN_MASK that are not ON or not placed, a bit each. -/
  | functions (down : Nat)
deriving DecidableEq, Repr

/-- The self-test of one core (R365 to R373). -/
structure CoreTest where
  /-- Frame counts of the mismatches since the last slice A. -/
  mismatches : List Nat := []
  /-- Slice A is pending for a mismatch. -/
  forMismatch : Bool := false
  /-- Slice A is pending. -/
  pendingA : Bool := true
  /-- Slice B is pending. -/
  pendingB : Bool := true
  /-- When slice A last ran, by the count of slices. -/
  lastA : Nat := 0
  /-- When slice B last ran. -/
  lastB : Nat := 0
  /-- The last slice failed. -/
  lastFailed : Bool := false
  /-- A granted window in which no slice has started. -/
  granted : Bool := false
  /-- The slice that runs: 0 A, 1 B. -/
  running : Option Nat := none
  /-- Milliseconds since the last complete test. -/
  sinceMs : Nat := 0
  /-- Frame counts of the transients that still count. -/
  transients : List Nat := []
deriving DecidableEq, Repr

/-- One Lookout's own state. -/
structure Isl where
  /-- The safety firmware runs. -/
  firmware : Bool := false
  /-- Its lockstep compare has failed (R350). -/
  halted : Bool := false
  /-- Its supply or its crystal is lost (R18). -/
  stopped : Bool := false
  /-- The level of its HEARTBEAT pin. -/
  heartbeat : Bool := false
  /-- The peer has declared it lost (R351). -/
  lost : Bool := false
  /-- The count of its last status message, 16 bits. -/
  sent : Nat := 0
  /-- The message on its way to the peer. -/
  transit : Option Nat := none
  /-- The last new count it received from the peer. -/
  seen : Option Nat := none
  /-- Valid messages received in a row since it declared the peer lost. -/
  valid : Nat := 0
  /-- Windows in a row out of range (R34). -/
  clockBad : Nat := 0
  /-- Windows in a row in range. -/
  clockGood : Nat := 0
deriving DecidableEq, Repr

/-- The Lookouts' state. -/
structure Safety where
  /-- Lookout A. -/
  a : Isl := {}
  /-- Lookout B. -/
  b : Isl := {}
  /-- Events that have not yet been acted on, oldest first. -/
  events : List LookoutEvent := []
  /-- Events passed to the safety application of Lookout A: code, instance and island time. -/
  appRecords : List (Nat × Nat × Nat) := []
  /-- The self-test of each core. -/
  tests : SMap CoreTest := []
  /-- Slices run. -/
  slices : Nat := 0
  /-- Shed requests written since RUN reached ON. -/
  shedSeq : Nat := 0
  /-- The frame that the last shed request names. -/
  shedFrame : Nat := 0
  /-- The stages shed for it. -/
  shedMask : Nat := 0
  /-- The last trajectory record that Lookout B received. -/
  trajectory : List Byte := []
  /-- The last fallback record that Lookout B received. -/
  fallback : List Byte := []
  /-- Why Lookout B streams (values of REASON in Table 12-8). -/
  streams : List Nat := []
  /-- The REASON that its frames carry. -/
  reason : Nat := 0
  /-- The SEQ of the next frame. -/
  streamSeq : Nat := 0
  /-- HORIZON_EXPIRED has been logged for this record. -/
  expired : Bool := false
  /-- The last frame that Lookout B sent. -/
  frame : List Byte := []
  /-- The attestation report under way (R401): its bytes without the signature. -/
  report : Option (List Byte) := none
deriving DecidableEq, Repr

/-! ### Power and temperature (chapter 15) -/

/-- The Warden's power and thermal control. -/
structure Power where
  /-- Divisors that wait for a bundle boundary (R29), by region. -/
  pending : SMap Nat := []
  /-- Divisors whose voltage raise waits for VR_SETTLE_US (R461), by region. -/
  raising : SMap Nat := []
  /-- P_iter of the last iterations in µW, newest first. -/
  window : List Nat := []
  /-- Consecutive failed reads of each rail (R458). -/
  failedReads : SMap Nat := []
  /-- Iterations since the last step down (R465). -/
  sinceStep : Nat := 10
  /-- Iterations over the cap. -/
  overCount : Nat := 0
  /-- Saved power by region in µW. -/
  saved : SMap Int := []
  /-- The region whose change is to be measured, with its power then. -/
  measuring : Option (Nat × Nat) := none
  /-- The region to step up, with its count. -/
  stepUp : Option (Nat × Nat) := none
  /-- Iterations in a row that a region has been cool (R470). -/
  cool : SMap Nat := []
  /-- Iterations in a row that its OC_ALERT pin has read high (R463). -/
  ocHigh : SMap Nat := []
  /-- A coolant report has been accepted and is fresh (R467). -/
  fresh : Bool := false
  /-- The confirmation was present in this stay in Overnight and has lapsed, and 0x0E0A has been logged. -/
  lapsed : Bool := false
  /-- THERM_TRIP_N is low. -/
  trip : Bool := false
  /-- Codes logged in this management period (R484). -/
  logged : List Nat := []
  /-- AGE_FLOOR in mV (R477). -/
  ageFloor : Nat := 0
  /-- Iterations since the last measurement (R476). -/
  sinceAge : Nat := 0
  /-- Milliseconds of the minute under way with RUN ON. -/
  poweredMs : Nat := 0
  /-- Milliseconds of the minute under way with a junction sensor at 110 °C or above. -/
  hotMs : Nat := 0
deriving DecidableEq, Repr

/-! ### The whole device -/

/-- The block's own state: everything but the queue of waiting commands. -/
structure Device where
  /-- The object dictionary's registers; an unlisted key reads as the entry's default. -/
  dict : SMap Nat := []
  /-- BLOB entries; an unlisted key reads as its default bytes. -/
  blobs : SMap (List Byte) := []
  /-- Staged values (R37): the value an entry will take at an apply mark. -/
  staged : SMap Nat := []
  /-- Keys staged since the last issued bundle (R37: not yet a full cycle). -/
  stagedNew : List Nat := []
  /-- What the device keeps for each requester, by its number. -/
  reqs : SMap ReqState := []
  /-- The error log. -/
  log : Log := {}
  /-- The rings, by number. -/
  rings : SMap Ring := []
  /-- Host memory as the device has written it. -/
  host : SMap Byte := []
  /-- Inputs, Trailhead, transitions and restarts. -/
  boot : Boot := {}
  /-- The loader. -/
  loader : Loader := {}
  /-- The bundle stream. -/
  strm : Stream := {}
  /-- The 64 cores. -/
  cores : SMap Core := []
  /-- The memory system. -/
  mem : Memory := {}
  /-- The Hamper's free ring. -/
  hamper : Hamper := {}
  /-- The chip links. -/
  links : Links := {}
  /-- The guest site. -/
  guest : Guest := {}
  /-- The Lookouts. -/
  safety : Safety := {}
  /-- The 64 stream slots. -/
  slots : SMap Slot := []
  /-- The world engine's jobs. -/
  world : World := {}
  /-- Fusion. -/
  fusion : Fusion := {}
  /-- Planning. -/
  planning : Planning := {}
  /-- The tenant's job. -/
  job : Job := {}
  /-- Power and temperature. -/
  power : Power := {}
  /-- Counted events not yet logged, by code * 256 + instance (R178, R278): logged at the end of the management
  period. -/
  tallies : SMap Nat := []
  /-- MSI-X vectors raised, a bit each (Table 2-10). -/
  msix : Nat := 0
  /-- How many free values have been drawn (the model's own field). -/
  draws : Nat := 0
deriving DecidableEq, Repr

/-- The state of the machine: the block, and the commands that wait, first in, first out. -/
structure State where
  /-- Commands that wait, first in, first out. -/
  pending : List Instr
  /-- The block. -/
  dev : Device
deriving DecidableEq, Repr

/-- The machine right after reset: every input inactive, every entry at its default, every store empty, no command
waiting. -/
def State.reset : State := { pending := [], dev := {} }

end Sys2Proof.Machine
end

