-- ==== Sys2Proof/Machine/Ops.lean ====
section
/-!
DEFINITION. The named operations over the block's state that every meaning is built from: reading and writing the
dictionary's registers, counting, function states, the log, free values. Each changes one field of `Device`.
-/

namespace Sys2Proof.Machine

/-! ### Running a meaning -/

/-- A meaning's outcome: the block's next state, the queue of commands untouched. -/
def State.run (s : State) (f : Device → Device) : Host.Outcome State Fault Refusal :=
  .next { s with dev := f s.dev }

/-! ### The dictionary's registers -/

/-- The value in effect of the register at key `k` (R43: its default where nothing has changed it). -/
def Device.rd (d : Device) (k : Nat) : Nat := SMap.getD d.dict k (dictDefault k)

/-- Set the register at key `k`. -/
def Device.wr (d : Device) (k v : Nat) : Device := { d with dict := SMap.put d.dict k v (dictDefault k) }

/-- Set several registers. -/
def Device.wrAll (d : Device) (l : List (Nat × Nat)) : Device := l.foldl (fun d p => d.wr p.1 p.2) d

/-- Add `n` to a saturating counter of `w` bits. -/
def Device.addSat (d : Device) (w k n : Nat) : Device := d.wr k (satTo w (d.rd k + n))

/-- Count one event in a saturating 32-bit counter. -/
def Device.bump (d : Device) (k : Nat) : Device := d.addSat 32 k 1

/-- Count one event in a wrapping 32-bit counter. -/
def Device.bumpWrap (d : Device) (k : Nat) : Device := d.wr k (wrapTo 32 (d.rd k + 1))

/-- The bytes of a BLOB that nothing has written: the stated default, else zeros of the declared length. -/
def blobDefault (k : Nat) : List Byte :=
  if k = Reg.ORDERING_CODE then [0x4E, 0x4B, 0x44, 0x2D, 0x44, 0x58, 0x36, 0x34, 0x2D, 0x4C, 0x51]
  else if k = Reg.VENDOR_NAME then [0x4E, 0x6F, 0x6B, 0x6F, 0x67, 0x6F, 0x72]
  else if k = Reg.SHED_ORDER then List.replicate 16 0xFF
  else match entryAt k with
    | some e => (match e.type with | .blob n => zeros n | _ => [])
    | none => []

/-- The bytes of the BLOB at key `k`. -/
def Device.blob (d : Device) (k : Nat) : List Byte :=
  match SMap.find d.blobs k with
  | some b => b
  | none => blobDefault k

/-- Set the BLOB at key `k`. -/
def Device.wrBlob (d : Device) (k : Nat) (b : List Byte) : Device :=
  { d with blobs := SMap.put d.blobs k b (blobDefault k) }

/-- Stage a write of `v` to the entry at `k` (R37): a later write replaces the staged value (R48). -/
def Device.stage (d : Device) (k v : Nat) : Device :=
  { d with staged := SMap.insert d.staged k v, stagedNew := if d.stagedNew.contains k then d.stagedNew else k :: d.stagedNew }

/-- No write to the entry at `k` waits any more. -/
def Device.unstage (d : Device) (k : Nat) : Device :=
  { d with staged := SMap.erase d.staged k, stagedNew := d.stagedNew.filter (· != k) }

/-- A full cycle has passed since every staged write (R37). -/
def Device.stagedCycle (d : Device) : Device := { d with stagedNew := [] }

/-- What the entry at `k` reads: a staged value while one waits (R37), or one written while RUN reads FAULT (R85). -/
def Device.shown (d : Device) (k : Nat) : Nat :=
  match (SMap.find d.staged k).or (SMap.find d.boot.parked k) with
  | some v => v
  | none => d.rd k

/-- The temperature of a stack, in °C. -/
def Device.stackTemp (d : Device) (s : Nat) : Int := toI32 (d.rd (Reg.STACK_TEMP_C s))

/-! ### Function states (Table 2-13) -/

/-- The value of a function state entry. -/
def FnState.code : FnState → Nat
  | .off => 0 | .starting => 1 | .on => 2 | .draining => 3 | .fault => 4

/-- The function state an entry's value names. -/
def FnState.ofCode : Nat → FnState
  | 0 => .off | 1 => .starting | 2 => .on | 3 => .draining | _ => .fault

/-- The index of a STREAM entry. -/
def RingId.index : RingId → Nat
  | .programUpload => 0x3000 | .capture => 0x5001 | .replay => 0x5002 | .fusionOut => 0x6003
  | .trajOut => 0x6803 | .latticeUpload => 0x6901 | .jobIn => 0x8005 | .jobOut => 0x8006 | .ckpt => 0x8007

/-- Every ring. -/
def RingId.all : List RingId :=
  [.programUpload, .capture, .replay, .fusionOut, .trajOut, .latticeUpload, .jobIn, .jobOut, .ckpt]

/-- The key of a ring's subindex (Table 2-10). -/
def RingId.reg (r : RingId) (subindex : Nat) : Nat := key r.index subindex

/-- The key of a function's state entry. -/
def FnId.stateKey : FnId → Nat
  | .run => Reg.RUN_STATE
  | .fieldNet => Reg.FN_STATE
  | .hamper => Reg.HAMPER_STATE
  | .scrub => Reg.SCRUB_STATE
  | .slot n => Reg.SLOT_STATE n.val
  | .fusion => Reg.FUSION_STATE
  | .planning => Reg.PLAN_STATE
  | .job => Reg.JOB_STATE
  | .link p => Reg.LINK_STATE p.val
  | .guest => Reg.GUEST_STATE
  | .ring r => r.reg 0

/-- The key of a function's enable entry; RUN has none (R85). -/
def FnId.enableKey : FnId → Option Nat
  | .run => none
  | .fieldNet => some Reg.FN_ENABLE
  | .hamper => some Reg.HAMPER_ENABLE
  | .scrub => some Reg.SCRUB_ENABLE
  | .slot n => some (Reg.SLOT_ENABLE n.val)
  | .fusion => some Reg.FUSION_ENABLE
  | .planning => some Reg.PLAN_ENABLE
  | .job => some Reg.JOB_ENABLE
  | .link p => some (Reg.LINK_ENABLE p.val)
  | .guest => some Reg.GUEST_ENABLE
  | .ring r => some (r.reg 1)

/-- The state of a function. -/
def Device.fn (d : Device) (f : FnId) : FnState := .ofCode (d.rd f.stateKey)

/-- Set the state of a function. -/
def Device.setFn (d : Device) (f : FnId) (st : FnState) : Device := d.wr f.stateKey st.code

/-- Set a function's enable entry. -/
def Device.setEnable (d : Device) (f : FnId) (v : Nat) : Device :=
  match f.enableKey with
  | some k => d.wr k v
  | none => d

/-- A function goes OFF: its state reads OFF and its enable reads 0 (Table 2-13). -/
def Device.fnOff (d : Device) (f : FnId) : Device := (d.setFn f .off).setEnable f 0

/-! ### Personality and transitions -/

/-- The value of PERSONALITY_NOW. -/
def Personality.code : Personality → Nat
  | .drive => 0 | .overnight => 1 | .service => 2 | .bivouac => 3

/-- The personality a value names. -/
def Personality.ofCode : Nat → Personality
  | 0 => .drive | 1 => .overnight | 2 => .service | _ => .bivouac

/-- The personality the device runs in. -/
def Device.personality (d : Device) : Personality := .ofCode (d.rd Reg.PERSONALITY_NOW)

/-- Enter a personality. -/
def Device.setPersonality (d : Device) (p : Personality) : Device := d.wr Reg.PERSONALITY_NOW p.code

/-- The value of TRANSITION. -/
def Transition.code : Transition → Nat
  | .none => 0 | .enterOvernight => 1 | .yielding => 2 | .enterService => 3 | .leaveService => 4
  | .warmRestart => 5 | .regionRestart => 6

/-- The transition a value names. -/
def Transition.ofCode : Nat → Transition
  | 0 => .none | 1 => .enterOvernight | 2 => .yielding | 3 => .enterService | 4 => .leaveService
  | 5 => .warmRestart | _ => .regionRestart

/-- The transition in progress. -/
def Device.transition (d : Device) : Transition := .ofCode (d.rd Reg.TRANSITION)

/-- Set the transition in progress. -/
def Device.setTransition (d : Device) (t : Transition) : Device := d.wr Reg.TRANSITION t.code

/-! ### The error log (R74, R485) -/

/-- The LEVEL of a code: 0 cell, 1 block, 2 region, 3 chip, 4 transport, 5 Lookout (R485). -/
def levelOf (c : Code) : Nat :=
  match c / 256 with
  | 0x01 => 4
  | 0x02 => 3
  | 0x03 => if c = 0x0310 ∨ c = 0x0311 ∨ c = 0x0312 ∨ c = 0x0319 then 1 else 3
  | 0x04 => if c = 0x0409 ∨ c = 0x040A then 0 else 1
  | 0x05 => 1
  | 0x06 => if c = 0x060C ∨ c = 0x060D then 3 else 1
  | 0x07 => 3
  | 0x08 => 2
  | 0x09 => 2
  | 0x0A => 2
  | 0x0B => if c = 0x0B01 ∨ c = 0x0B05 ∨ c = 0x0B06 then 1 else if c = 0x0B11 then 3 else 5
  | _ => 3

/-- The record of an event detected now (Table 2-15); MGMT_PERIOD and SEQ are taken when it is stored. -/
def Device.record (d : Device) (c : Code) (inst d0 d1 d2 : Nat) : LogRecord :=
  { status := c, inst := inst % 256, level := levelOf c, personality := d.rd Reg.PERSONALITY_NOW
    bundle := d.strm.count, epoch := d.rd Reg.RESTART_EPOCH
    d0 := wrapTo 32 d0, d1 := wrapTo 32 d1, d2 := wrapTo 32 d2 }

/-- A detecting unit sends a record to the Warden. -/
def Device.logEv (d : Device) (c : Code) (inst : Nat) (d0 : Nat := 0) (d1 : Nat := 0) (d2 : Nat := 0) : Device :=
  { d with log := { d.log with inbox := d.log.inbox ++ [d.record c inst d0 d1 d2] } }

/-- Count `n` events of a code and instance for the management period's log record (R178, R278). -/
def Device.tally (d : Device) (c : Code) (inst : Nat) (n : Nat := 1) : Device :=
  { d with tallies := SMap.put d.tallies (c * 256 + inst % 256) (SMap.getD d.tallies (c * 256 + inst % 256) 0 + n) 0 }

/-- Count an event in its saturating counter and for the period's log record. -/
def Device.countEv (d : Device) (c : Code) (inst k : Nat) : Device := (d.bump k).tally c inst

/-- A start-up code (Table 3-7): logged, and kept in TRAILHEAD_STATUS when it is the start's first failure. -/
def Device.thCode (d : Device) (c : Code) (d0 : Nat) (d1 : Nat := 0) : Device :=
  (if d.rd Reg.TRAILHEAD_STATUS = 0 then d.wr Reg.TRAILHEAD_STATUS c else d).logEv c 0 d0 d1

/-! ### Requesters -/

/-- A requester's number in log records: its place in Table 2-4 (assumption 6). -/
def Requester.num : Requester → Nat
  | .lookoutA => 0 | .lookoutB => 1 | .fn0 => 2 | .fn1 => 3 | .fn2 => 4 | .node n => 5 + n.val

/-- A requester's privilege level (Table 2-4). -/
def Requester.level : Requester → Nat
  | .lookoutA => 0 | .lookoutB => 0 | .fn0 => 1 | .fn1 => 2 | .fn2 => 3 | .node _ => 2

/-- The requester reaches the dictionary over the field network: it has no mailbox (R49). -/
def Requester.isNode : Requester → Bool
  | .node _ => true
  | _ => false

/-- What the device keeps for a requester. -/
def Device.req (d : Device) (r : Requester) : ReqState := SMap.getD d.reqs r.num {}

/-- Change what the device keeps for a requester. -/
def Device.setReq (d : Device) (r : Requester) (q : ReqState) : Device :=
  { d with reqs := SMap.put d.reqs r.num q {} }

/-- What the device keeps for a ring. -/
def RingId.num (r : RingId) : Nat := r.index
def Device.ring (d : Device) (r : RingId) : Ring := SMap.getD d.rings r.num {}

/-- Change what the device keeps for a ring. -/
def Device.setRing (d : Device) (r : RingId) (x : Ring) : Device :=
  { d with rings := SMap.put d.rings r.num x {} }

/-- Write bytes into host memory. -/
def Device.hostWrite (d : Device) (addr : Nat) (bytes : List Byte) : Device :=
  { d with host := SMap.putList d.host addr 0 bytes }

/-! ### Free values -/

/-- The next free value of `w` bits. -/
def Device.freeVal (d : Device) (w : Nat) : Nat := (Config.draw w d.draws).toNat

/-- A free value has been drawn. -/
def Device.drawn (d : Device) : Device := { d with draws := d.draws + 1 }

/-- A change of the start-up and restart state. -/
def Device.onBoot (d : Device) (f : Boot → Boot) : Device := { d with boot := f d.boot }

/-- A change of the loader. -/
def Device.onLoader (d : Device) (f : Loader → Loader) : Device := { d with loader := f d.loader }

/-- A change of the bundle stream. -/
def Device.onStrm (d : Device) (f : Stream → Stream) : Device := { d with strm := f d.strm }

/-- Change planning's state. -/
def Device.onPlanning (d : Device) (f : Planning → Planning) : Device := { d with planning := f d.planning }

/-- Apply `f` to each item of a list in order. -/
def Device.each {α : Type} (d : Device) (l : List α) (f : Device → α → Device) : Device := l.foldl f d

end Sys2Proof.Machine
end

