-- ==== Sys2Proof/Machine/CoreOps.lean ====
section
/-!
DEFINITION. The operations over one core that every engine shares: local memory with its poison marks (R134),
scalar registers, semaphores (R146, R147), and what a fault does (R21 to R24, R153).
-/

namespace Sys2Proof.Machine

/-! ### Cores and local memory -/

/-- Core `c`. -/
def Device.core (d : Device) (c : Nat) : Core := SMap.getD d.cores c {}

/-- Replace core `c`. -/
def Device.setCore (d : Device) (c : Nat) (k : Core) : Device := { d with cores := SMap.put d.cores c k {} }

/-- Change core `c`. -/
def Device.onCore (d : Device) (c : Nat) (f : Core → Core) : Device := d.setCore c (f (d.core c))

/-- Bytes of local memory (4 MiB per core). -/
def lmSize : Nat := 4194304

/-- `n` bytes of local memory from `a`. -/
def Core.read (k : Core) (a n : Nat) : List Byte := SMap.getList k.lm a 0 n

/-- A little-endian number of `n` bytes at `a`. -/
def Core.readNat (k : Core) (a n : Nat) : Nat := leNat (k.read a n)

/-- The granules that `n` bytes from `a` touch. -/
def granulesOf (a n : Nat) : List Nat :=
  if n = 0 then [] else (List.range ((a + n - 1) / 32 - a / 32 + 1)).map (· + a / 32)

/-- A granule of the range carries a poison mark. -/
def Core.poisonedIn (k : Core) (a n : Nat) : Bool := (granulesOf a n).any (fun g => SMap.getD k.poison g false)

/-- The first poisoned granule of the range. -/
def Core.firstPoison (k : Core) (a n : Nat) : Option Nat := (granulesOf a n).find? (fun g => SMap.getD k.poison g false)

/-- Mark or unmark granule `g`. -/
def Core.mark (k : Core) (g : Nat) (b : Bool) : Core := { k with poison := SMap.put k.poison g b false }

/-- Write bytes to local memory: a full-granule write clears the mark, a partial one leaves it (R134). -/
def Core.write (k : Core) (a : Nat) (bytes : List Byte) : Core :=
  let k1 := { k with lm := SMap.putList k.lm a 0 bytes }
  (granulesOf a bytes.length).foldl
    (fun k g => if a ≤ g * 32 ∧ g * 32 + 32 ≤ a + bytes.length then k.mark g false else k) k1

/-- Write bytes whose source carried poison: the touched granules are marked (R22). -/
def Core.writePoison (k : Core) (a : Nat) (bytes : List Byte) : Core :=
  (granulesOf a bytes.length).foldl (fun k g => k.mark g true) { k with lm := SMap.putList k.lm a 0 bytes }

/-- Local memory with each 64-byte line taken from one of the memories given: `pick` chooses for a line (R135). -/
def mixLines (ms : List (SMap Byte)) (pick : Nat → Nat) : SMap Byte :=
  (List.zipIdx ms).foldl (fun acc p =>
    (p.1.filter (fun e => pick (e.1 / 64) % ms.length == p.2)).foldl (fun m e => SMap.put m e.1 e.2 0) acc) []

/-- Local memory as it will stand once the operations under way have written their results. -/
def Core.soon (k : Core) : SMap Byte :=
  ((k.teRuns.map (·.result.writes) ++ k.veRun.toList.map (·.2.writes)).flatten.foldl (fun k w => k.write w.1 w.2) k).lm

/-- `n` free values have been drawn. -/
def Device.drew (d : Device) (n : Nat) : Device := { d with draws := d.draws + n }

/-- Core `c` as an engine reads its local memory: of a line that an operation under way writes, the old or the new data
(R135). The marks are those now held. -/
def Device.seen (d : Device) (c : Nat) : Core :=
  let k := d.core c
  if k.soon = k.lm then k else { k with lm := mixLines [k.lm, k.soon] (fun l => (Config.draw 8 (d.draws + l)).toNat) }

/-- What a read of core `c` chose has been drawn. -/
def Device.looked (d : Device) (c : Nat) : Device :=
  if (d.core c).soon = (d.core c).lm then d else d.drew 65536

/-- A scalar register. -/
def Core.sreg (k : Core) (r : Nat) : Nat := SMap.getD k.sregs r 0

/-- Write a scalar register, modulo 2^32. -/
def Core.setSreg (k : Core) (r v : Nat) : Core := { k with sregs := SMap.put k.sregs r (wrapTo 32 v) 0 }

/-- A semaphore's count. -/
def Core.sem (k : Core) (n : Nat) : Nat := SMap.getD k.sems n 0

/-- Set a semaphore's count. -/
def Core.setSem (k : Core) (n v : Nat) : Core := { k with sems := SMap.put k.sems n v 0 }

/-- The participant count P_b of barrier `b` (R148). -/
def Core.bar (k : Core) (b : Nat) : Nat := SMap.getD k.bars b 0

/-- The operations of a DMA channel. -/
def Core.chan (k : Core) (ch : Nat) : List DeOp := SMap.getD k.chans ch []

/-- Replace the operations of a DMA channel. -/
def Core.setChan (k : Core) (ch : Nat) (l : List DeOp) : Core := { k with chans := SMap.put k.chans ch l [] }

/-- The read transactions in flight of a core (R141): source CORE or DEVICE, until the data is written. -/
def Core.readsOut (k : Core) : Nat :=
  (k.chans.map (fun p => (p.2.map (fun o => if o.desc.srcSpace = 0 then 0 else o.flights.length)).sum)).sum

/-- The writes of a channel that await acknowledgement (R141): destination outside the core, from the issue of the
write. -/
def Core.writesOut (k : Core) (ch : Nat) : Nat :=
  ((k.chan ch).map (fun o => if o.desc.dstSpace = 0 then 0 else (o.flights.filter (·.writing)).length)).sum

/-- Write bytes of which the granules `bad` are poisoned at their source (R22, R134). -/
def Core.writeBad (k : Core) (a : Nat) (bytes : List Byte) (bad : List Nat) : Core :=
  bad.foldl (fun k g => ((granulesOf (a + 32 * g) (min 32 (bytes.length - 32 * g))).foldl (fun k g => k.mark g true) k))
    (k.write a bytes)

/-! ### Core states -/

/-- Values of CORE_STATE (Table 5-18). -/
def coreRunning : Nat := 0
def coreHalted : Nat := 1
def coreQuarantined : Nat := 2
def coreNotPlaced : Nat := 3
def coreTesting : Nat := 4

/-- The core takes part in the stream: placed, neither halted nor quarantined. -/
def Device.active (d : Device) (c : Nat) : Bool :=
  bitAt d.strm.coreMask c && (d.rd (Reg.CORE_STATE c) == coreRunning || d.rd (Reg.CORE_STATE c) == coreTesting)

/-- The cores of the running variant. -/
def Device.placed (d : Device) : List Nat := bitList d.strm.coreMask 64

/-! ### Regions, restarts and the Lookouts -/

/-- A region's bit in demands and masks: A to D 0 to 3, world 4, port A 5, port B 6. -/
def Region.num : Region → Nat
  | .A => 0 | .B => 1 | .C => 2 | .D => 3 | .world => 4 | .portA => 5 | .portB => 6

/-- The region of a bit. -/
def Region.ofNum : Nat → Region
  | 0 => .A | 1 => .B | 2 => .C | 3 => .D | 4 => .world | 5 => .portA | _ => .portB

/-- An event crosses to Lookout A (R353). -/
def Device.tellA (d : Device) (e : LookoutEvent) : Device :=
  { d with safety := { d.safety with events := d.safety.events ++ [e] } }

/-- The functions of SAFETY_FN_MASK that are not ON or not placed (R353). -/
def Device.functionsDown (d : Device) : Nat :=
  (List.range 32).foldl (fun m i =>
    if bitAt (d.rd Reg.SAFETY_FN_MASK) i && !(d.fn .run == .on && d.rd (Reg.FUNC_PLACED i) == 1) then setBit m i true else m) 0

/-- Lookout A is told which functions that feed the vehicle are down. -/
def Device.tellFunctions (d : Device) : Device :=
  if d.rd Reg.SAFETY_FN_MASK = 0 then d else d.tellA (.functions d.functionsDown)

/-- A chip-level error: a chip warm restart is demanded (Table 1-4). The first demand stands. -/
def Device.demandChip (d : Device) (c : Code) : Device :=
  d.onBoot fun b => if b.chipDemand.isSome then b else { b with chipDemand := some c }

/-- Every watchdog disarms (R376). -/
def Device.disarmAll (d : Device) : Device := d.each (List.range 16) fun d s => d.wr (Reg.WD_STATE s) 0

/-- A region fault (Table 1-4, R23, R97): the bundle counter stops, and with it the stage watchdogs (R376), and a region
restart is demanded. It becomes a chip
warm restart when another region has stopped and not yet restarted, when a transition is in progress, or when the region
is port region B, which is never restarted on its own. -/
def Device.regionFault (d : Device) (r : Region) (c : Code) : Device :=
  let d1 := (d.onStrm fun s => { s with running := false }).disarmAll
  let other := d.boot.regionDemand - (if bitAt d.boot.regionDemand r.num then 2 ^ r.num else 0)
  let clash := other != 0 || (match d.boot.restarting with | some x => x != r | none => false)
  let busy := d.transition != .none && d.transition != .regionRestart
  if r = .portB ∨ clash ∨ busy then d1.demandChip c
  else d1.onBoot fun b => { b with regionDemand := setBit b.regionDemand r.num true }

/-- The region is stopped for a restart. -/
def Device.regionStopped (d : Device) (r : Region) : Bool := bitAt d.boot.regionDemand r.num || d.boot.restarting == some r

/-- The attachments of I/O die A are stopped (R23): USB4, its SerDes lanes, CAN XL 0. -/
def Device.dieAStopped (d : Device) : Bool := d.regionStopped .portA

/-- The host reaches nothing: USB4 is stopped with die A, and no PCIe link lies on die B (R23, R420). -/
def Device.hostCut (d : Device) : Bool := d.dieAStopped && !(List.range 6).any (fun g => d.rd (Reg.LANE_ROLE_ACTIVE (6 + g)) == 3)

/-! ### Core faults (R153) -/

/-- FAULT_DETAIL (Table 5-16). -/
def faultDetail (engine chan sem granule : Nat) : Nat :=
  engine * 2 ^ 29 + chan * 2 ^ 25 + sem * 2 ^ 17 + granule % 2 ^ 17

/-- Abandon what a halted core has not started (R153): queues empty, started operations stay. -/
def Core.abandon (k : Core) : Core :=
  { k with teQueue := [], veQueue := [],
           chans := k.chans.map (fun p => (p.1, p.2.filter (fun o => o.phase != .queued)))
           |>.filter (fun p => p.2 != []) }

/-- A core fault: the code is logged; the first one halts the core at the faulting bundle, writes the fault record and
stops the region (R153, Table 1-4). Of several faults of one cycle the record carries the first in the order of the ENGINE
codes SYNC, TE, VE, DE, SE, inbound; R153 gives the network plane no place, and it comes last (DESIGN CHOICE, log 103). A
quarantined core raises none (R25). -/
def Device.coreFault (d : Device) (c : Nat) (code : Code) (detail : Nat) : Device :=
  if d.rd (Reg.CORE_STATE c) = coreQuarantined then d else
  let d1 := d.logEv code c detail
  let rank := detail / 2 ^ 29 + 1
  if d.rd (Reg.CORE_STATE c) = coreHalted then
    if rank < SMap.getD d.strm.faults c 0 then
      (d1.wrAll [(Reg.CORE_FAULT_CODE c, code), (Reg.CORE_FAULT_DETAIL c, detail)]).onStrm fun s =>
        { s with faults := SMap.put s.faults c rank 0 }
    else d1
  else
  let addr := d.strm.skid.headD d.strm.nextAddr
  let d2 := d1.wrAll [(Reg.CORE_STATE c, coreHalted), (Reg.CORE_FAULT_CODE c, code), (Reg.CORE_FAULT_BUNDLE c, d.strm.count),
    (Reg.CORE_FAULT_ADDR c, addr), (Reg.CORE_FAULT_DETAIL c, detail)]
  let d3 := ((d2.bump (Reg.CORE_FAULTS c)).onCore c Core.abandon).onStrm fun s => { s with faults := SMap.put s.faults c rank 0 }
  (d3.tellA (.coreFault c code)).regionFault (Region.ofNum (c / 16)) code

/-! ### Semaphores -/

/-- Forget effects older than three cycles and age the rest (R110). -/
def ageRecent (l : List (Nat × RecentEffect)) : List (Nat × RecentEffect) :=
  (l.filter (fun p => p.1 != 1)).map (fun p => (p.1 - 1, p.2))

/-- Note an effect that the judging of R110 does not yet see. -/
def Device.recent (d : Device) (e : RecentEffect) : Device :=
  d.onStrm fun s => { s with recent := (3, e) :: s.recent }

/-- A completion or an inbound transfer raises a semaphore by 1 (Table 5-13); past 65,535 the core halts (R147).
`engine` and `chan` are those of Table 5-16. -/
def Device.raiseSem (d : Device) (c sem engine chan : Nat) : Device :=
  let v := (d.core c).sem sem
  if 65535 ≤ v then d.coreFault c St.SEM_OVERFLOW (faultDetail engine chan sem 0)
  else (d.onCore c fun k => k.setSem sem (v + 1)).recent (.raise c sem 1)

/-- A SYNC ADD of `n` (R146, R147). -/
def Device.syncAdd (d : Device) (c sem n : Nat) : Device :=
  let v := (d.core c).sem sem
  if 65535 < v + n then d.coreFault c St.SEM_OVERFLOW (faultDetail 0 0 sem 0)
  else d.onCore c fun k => k.setSem sem (v + n)

/-- A SYNC SUB of `n`: an underflow is not applied and halts the core (R147). -/
def Device.syncSub (d : Device) (c sem n : Nat) : Device :=
  let v := (d.core c).sem sem
  if v < n then d.coreFault c St.SEM_UNDERFLOW (faultDetail 0 0 sem 0)
  else d.onCore c fun k => k.setSem sem (v - n)

/-- The semaphore of barrier `b` (R148). -/
def barSem (b : Nat) : Nat := 248 + b

/-- A barrier arrival (R148). -/
def Device.barArrive (d : Device) (c b : Nat) : Device :=
  if (d.core c).bar b = 0 then d.coreFault c St.SEM_BARRIER_UNSET (faultDetail 0 0 (barSem b) 0)
  else d.syncAdd c (barSem b) 1

/-- An issued BAR_WAIT subtracts P_b (R148). -/
def Device.barLeave (d : Device) (c b : Nat) : Device :=
  if (d.core c).bar b = 0 then d.coreFault c St.SEM_BARRIER_UNSET (faultDetail 0 0 (barSem b) 0)
  else d.syncSub c (barSem b) ((d.core c).bar b)

/-- Events of local-memory ECC that an access met (R134): granule, and whether it was uncorrectable. -/
def Device.lmEcc (d : Device) (c : Nat) (l : List (Nat × Bool)) : Device :=
  d.each l fun d p =>
    if p.2 then
      ((d.bump (Reg.CORE_ECC_POISONED c)).onCore c fun k => k.mark p.1 true).logEv St.LM_ECC_POISONED c p.1
    else (d.bump (Reg.CORE_ECC_CORRECTED c)).logEv St.LM_ECC_CORRECTED c p.1

/-! ### The Hamper's end (R215) -/

/-- A draining Hamper with no walk under way reads OFF. -/
def Device.settleHamper (d : Device) : Device :=
  if d.fn .hamper = .draining ∧ d.cores.all (fun p => p.2.chans.all (fun c => c.2.all (fun o => o.walk.isNone || o.phase == .queued)))
  then d.fnOff .hamper else d

/-! ### Self-test records (R365 to R371) -/

/-- Change the Lookouts' state. -/
def Device.onSafety (d : Device) (f : Safety → Safety) : Device := { d with safety := f d.safety }

/-- The self-test record of core `c`. -/
def Device.test (d : Device) (c : Nat) : CoreTest := SMap.getD d.safety.tests c {}

/-- Change it. -/
def Device.onTest (d : Device) (c : Nat) (f : CoreTest → CoreTest) : Device :=
  d.onSafety fun s => { s with tests := SMap.put s.tests c (f (SMap.getD s.tests c {})) {} }

/-- The slice to start in a window (R366): A when it is pending for a mismatch, else the pending one that ran longer ago. -/
def CoreTest.next (t : CoreTest) : Option Nat :=
  if t.forMismatch then some 0
  else if t.pendingA ∧ (!t.pendingB ∨ t.lastA ≤ t.lastB) then some 0
  else if t.pendingB then some 1 else none

/-- The core has a test deadline (R371). -/
def Device.tested (d : Device) (c : Nat) : Bool := bitAt d.strm.coreMask c && d.rd (Reg.CORE_STATE c) != coreQuarantined

/-- A slice is deferred (R366). -/
def Device.deferSlice (d : Device) (c : Nat) : Device :=
  ((d.bump Reg.SLICES_DEFERRED).logEv St.SLICE_DEFERRED c).onTest c fun t => { t with granted := false }

end Sys2Proof.Machine
end

