-- ==== Sys2Proof/Machine/Memory.lean ====
section
/-!
DEFINITION. The memory system (chapter 8): the device address map (R217, R218, R225), DRAM mapping (R230, R231), the
floor cache (R221 to R224, R228), line reads and writes with their errors (R240 to R242), log detail words (R245), and
the regulation of a master port (R249 to R253).
-/

namespace Sys2Proof.Machine

/-! ### The address map (Table 8-1) -/

def drivePartEnd : Nat := 0x0600000000
def dramEnd : Nat := 0x3000000000
def lockedBase : Nat := 0x4000000000
def lockedSize : Nat := 0x10000000
def waySize : Nat := 0x1000000

/-- Change the memory system. -/
def Device.onMem (d : Device) (f : Memory → Memory) : Device := { d with mem := f d.mem }

/-- The floor cache runs as one partition (R226). -/
def Device.unified (d : Device) : Bool := d.rd Reg.FC_MODE == 1

/-- PART_i is valid; LOCKED; its ways. -/
def partValid (v : Nat) : Bool := bitAt v 31
def partLocked (v : Nat) : Bool := bitAt v 30
def partWays (v : Nat) : Nat := v % 2 ^ 16

/-- The ways of valid LOCKED partitions. -/
def Device.lockedWays (d : Device) : Nat :=
  (List.range 8).foldl (fun w i =>
    let v := d.rd (Reg.PART i)
    if partValid v && partLocked v then Nat.lor w (partWays v) else w) 0

/-- The code that refuses an access to device address `a`; 0 where the map backs it (R218, R225, R226). -/
def Device.mapCode (d : Device) (a : Nat) : Code :=
  if a < drivePartEnd then (if d.rd Reg.DRIVE_SEALED = 1 then St.MEM_SEALED else 0)
  else if a < dramEnd then 0
  else if lockedBase ≤ a ∧ a < lockedBase + lockedSize then
    if d.unified then St.MEM_UNMAPPED
    else if bitAt d.lockedWays ((a - lockedBase) / waySize) then 0 else St.MEM_LOCKED_UNBACKED
  else St.MEM_UNMAPPED

/-! ### DRAM location (R230, R231) -/

/-- Parity of the lowest `n` bits. -/
def parity (v n : Nat) : Bool := popCount v n % 2 == 1

/-- The mask of bank-address bit i in use: the configured one, or the default where the masks are not independent. -/
def Device.mapMask (d : Device) (i : Nat) : Nat :=
  if d.rd Reg.MAP_IN_USE = 1 then dictDefault (Reg.MAP_MASK i) else d.rd (Reg.MAP_MASK i)

/-- A DRAM location. -/
structure Location where
  stack : Nat
  channel : Nat
  bank : Nat
  row : Nat
  column : Nat
deriving DecidableEq, Repr

/-- The location of a DRAM address (R230). -/
def Device.locate (d : Device) (a : Nat) : Location :=
  let u := a / 256
  let e := u / 3 * 256 + a % 256
  let ba := (List.range 12).foldl (fun n i => if parity (Nat.land e (d.mapMask i)) 36 then n + 2 ^ i else n) 0
  ⟨field ba 2 0, 8 * (u % 3) + field ba 5 3, field ba 11 6, field e 35 23, field e 10 6⟩

/-- The masks restricted to e[22:11] are linearly independent over GF(2) (R231): no nonempty choice of them has an even
number of ones in every column. -/
def independentMasks (masks : List Nat) : Bool :=
  elim (masks.map (fun m => m / 2 ^ 11 % 2 ^ 12)) 12
where
  /-- Gaussian elimination, from the highest column down: each step needs a vector with that column set. -/
  elim (l : List Nat) : Nat → Bool
    | 0 => true
    | n + 1 =>
      match l.find? (fun v => bitAt v n) with
      | none => false
      | some p => elim ((l.erase p).map (fun v => if bitAt v n then Nat.xor v p else v)) n

/-! ### Log records (R245) -/

/-- The floor cache's own codes, whose location fields read 0. -/
def isFcCode (c : Code) : Bool := c == St.FC_LOCKED_UNCORRECTABLE || c == St.MEM_LOCKED_UNBACKED

/-- DETAIL1 and DETAIL2 of Table 8-3; `specific` is DETAIL2[31:16]. -/
def Device.memDetail1 (d : Device) (c : Code) (a : Nat) : Nat :=
  let slice := if c = St.MEM_UNMAPPED ∨ c = St.MEM_SEALED then 0 else (Config.homeSlice (a / 64)).val
  let l := d.locate a
  let loc := if a < dramEnd && !isFcCode c then l.stack * 2 ^ 29 + l.channel * 2 ^ 24 + l.bank * 2 ^ 18 + l.column * 2 ^ 13 else 0
  loc + slice * 2 ^ 5 + (if 2 ^ 40 ≤ a then 4 else 0) + a / 2 ^ 38 % 4
def Device.memDetail2 (d : Device) (c : Code) (a specific : Nat) : Nat :=
  specific * 2 ^ 16 + (if a < dramEnd && !isFcCode c then (d.locate a).row else 0)

/-- Log a memory code for `port`. -/
def Device.logMem (d : Device) (c : Code) (port a : Nat) (specific : Nat := 0) : Device :=
  d.logEv c port (a / 64) (d.memDetail1 c a) (d.memDetail2 c a specific)

/-! ### Ports -/

/-- The unit ports of Table 8-4. -/
def portWorld : Nat := 64
def portIngestA : Nat := 65
def portIngestB : Nat := 66
def portVehicle : Nat := 67
def portLookout (i : Island) : Nat := match i with | .A => 68 | .B => 69
def portHost : Nat := 70
def portTenant : Nat := 71
def portLink (p : Nat) : Nat := 72 + p
def portGuest : Nat := 76
def portWarden : Nat := 77
def portLoader : Nat := 78

/-- The regulation state of a port. -/
def Device.mport (d : Device) (p : Nat) : MemPort := SMap.getD d.mem.ports p {}

/-- Change a port's regulation state. -/
def Device.onPort (d : Device) (p : Nat) (f : MemPort → MemPort) : Device :=
  d.onMem fun m => { m with ports := SMap.put m.ports p (f (SMap.getD m.ports p {})) {} }

/-! ### The floor cache (R221 to R224) -/

/-- The floor-cache set of a line. -/
def cacheSet (line : Nat) : Nat := (Config.homeSlice line).val * 8192 + (Config.homeSet line).val

/-- The line hits (R224: a lookup searches every CACHED way). -/
def Device.cached (d : Device) (line : Nat) : Bool := (SMap.getD d.mem.cache (cacheSet line) []).any (·.line == line)

/-- Drop a line from the floor cache. -/
def Device.dropLine (d : Device) (line : Nat) : Device :=
  d.onMem fun m =>
    { m with cache := SMap.put m.cache (cacheSet line) ((SMap.getD m.cache (cacheSet line) []).filter (·.line != line)) [] }

/-- The line becomes the most recently used of its set. -/
def Device.touchLine (d : Device) (line : Nat) : Device :=
  d.onMem fun m =>
    let l := SMap.getD m.cache (cacheSet line) []
    { m with cache := SMap.put m.cache (cacheSet line) (l.filter (·.line == line) ++ l.filter (·.line != line)) [] }

/-- The ways that a port's allocations use (R224, R226). A locked way holds no DRAM line (R225): a request allocates
nothing where partition 0 is not a valid CACHED one (DESIGN CHOICE, log 105). -/
def Device.allocWays (d : Device) (port : Nat) : Nat :=
  if d.unified then 0xFFFF else
  let p := d.rd (Reg.PORT_CACHE_PARTITION port)
  let v := d.rd (Reg.PART (if p = 0xFF then 0 else p))
  if partValid v && !partLocked v then partWays v else 0

/-- A request that allocates: its ALLOCATE flag, or a unit's port with a partition (R224). -/
def Device.allocates (d : Device) (port : Nat) (flag : Bool) : Bool :=
  flag || (decide (64 ≤ port) && d.rd (Reg.PORT_CACHE_PARTITION port) != 0xFF)

/-- Allocate a line into the ways: a way that holds nothing, else the least recently used of them (R224). -/
def Device.allocLine (d : Device) (port line : Nat) : Device :=
  let ways := bitList (d.allocWays port) 16
  let l := SMap.getD d.mem.cache (cacheSet line) []
  match (ways.find? (fun w => !l.any (·.way == w))).or
      ((l.filter (fun x => ways.contains x.way)).getLast?.map (·.way)) with
  | none => d
  | some w => d.onMem fun m => { m with cache := SMap.put m.cache (cacheSet line) (⟨w, line⟩ :: l.filter (·.way != w)) [] }

/-! ### One line -/

/-- Raw bytes of memory at a backed address. -/
def Memory.bytes (m : Memory) (a n : Nat) : List Byte :=
  if a < lockedBase then SMap.getList m.dram a 0 n else SMap.getList m.locked a 0 n

/-- Store raw bytes. -/
def Memory.store (m : Memory) (a : Nat) (l : List Byte) : Memory :=
  if a < lockedBase then { m with dram := SMap.putList m.dram a 0 l } else { m with locked := SMap.putList m.locked a 0 l }

/-- Memory stands in its canonical form: addresses rise strictly, and no cell is listed that reads as an unlisted one. -/
def Memory.wf (m : Memory) : Bool :=
  SMap.wf (fun _ => 0) m.dram && SMap.wf (fun _ => 0) m.locked && SMap.wf (fun _ => false) m.poison

/-- The line holds poison. -/
def Memory.poisoned (m : Memory) (line : Nat) : Bool := SMap.getD m.poison line false

/-- Set or clear a line's poison. A line that was not poisoned has no producer until one is named (R22). -/
def Memory.setPoison (m : Memory) (line : Nat) (b : Bool) : Memory :=
  { m with poison := SMap.put m.poison line b false
           producers := if b && m.poisoned line then m.producers else SMap.erase m.producers line }

/-- A channel is declared failed (R237, R241): a chip-level error. -/
def Device.channelFail (d : Device) (stack channel : Nat) : Device :=
  ((d.logEv St.DRAM_CHANNEL_FAIL 0xFE 0 (stack * 2 ^ 29 + channel * 2 ^ 24)).demandChip St.DRAM_CHANNEL_FAIL).onMem fun m =>
    { m with failedStack := some stack }

/-- A command/address parity retry that fails (R241): the third in a channel within 1 ms fails the channel. Within a
management period all failures count; `close` brings those of the period before in. -/
def Device.caFail (d : Device) (port a : Nat) (close : Bool) : Device :=
  let l := d.locate a
  let k := l.stack * 24 + l.channel
  let n := SMap.getD d.mem.caFails k 0 + 1
  let old := if close then SMap.getD d.mem.caOld k 0 else 0
  let d1 := ((d.bump (Reg.STACK_CA_RETRIES l.stack)).logMem St.DRAM_CA_FAILED port a).onMem fun m =>
    { m with caFails := SMap.put m.caFails k n 0 }
  if 3 ≤ n + old then d1.channelFail l.stack l.channel else d1

/-- A correction that a DRAM read made (R240): counted, and the period's first is kept for the log. -/
def Device.dramCorrected (d : Device) (port a symbol : Nat) : Device :=
  let s := (d.locate a).stack
  let rec1 := d.record St.DRAM_ECC_CORRECTED port (a / 64) (d.memDetail1 St.DRAM_ECC_CORRECTED a)
    (d.memDetail2 St.DRAM_ECC_CORRECTED a symbol)
  (d.bump (Reg.STACK_ECC_CORRECTED s)).onMem fun m =>
    if (SMap.find m.corrections s).isSome then m else { m with corrections := SMap.insert m.corrections s rec1 }

/-- An uncorrectable line (R240): counted at its stack where DRAM holds it, logged, and stored as poison. -/
def Device.dramUncorrectable (d : Device) (port a : Nat) : Device :=
  ((((if a < dramEnd then d.bump (Reg.STACK_ECC_UNCORRECTABLE (d.locate a).stack) else d)).logMem St.DRAM_ECC_UNCORRECTABLE port a).onMem
    fun m => m.setPoison (a / 64) true).dropLine (a / 64)

/-- Read one line from DRAM: the code of the error response, 0 for none (R240 to R242). -/
def Device.dramRead (d : Device) (port a : Nat) (f : Option MemFault) : Device × Code :=
  match f with
  | some (.caFailed close) => (d.caFail port a close, St.DRAM_CA_FAILED)
  | f =>
    let d1 := if f = some .caRetried then d.bump (Reg.STACK_CA_RETRIES (d.locate a).stack) else d
    if d1.mem.poisoned (a / 64) then (d1.bump (Reg.STACK_ECC_UNCORRECTABLE (d.locate a).stack), St.MEM_POISON_READ)
    else
      match f with
      | some .dramUncorrectable => (d1.dramUncorrectable port a, St.DRAM_ECC_UNCORRECTABLE)
      | some (.dramCorrected s) => (d1.dramCorrected port a s.val, 0)
      | _ => (d1, 0)

/-- A line read from DRAM without an error is allocated where the request allocates (R224). -/
def takeLine (r : Device × Code) (port line : Nat) (alloc : Bool) : Device × Code :=
  if r.2 = 0 ∧ r.1.allocates port alloc then (r.1.allocLine port line, 0) else r

/-- Read one line, at device address `a` (a multiple of 64), of a backed range: the code of the error response. -/
def Device.readLine (d : Device) (port a : Nat) (alloc : Bool) (f : Option MemFault) : Device × Code :=
  let line := a / 64
  if lockedBase ≤ a then
    match f with
    | some .fcUncorrectable => ((d.logMem St.FC_LOCKED_UNCORRECTABLE port a).demandChip St.FC_LOCKED_UNCORRECTABLE, St.FC_LOCKED_UNCORRECTABLE)
    | some .fcCorrected => (d.bump Reg.FC_ECC_CORRECTED, if d.mem.poisoned line then St.MEM_POISON_READ else 0)
    | _ => (d, if d.mem.poisoned line then St.MEM_POISON_READ else 0)
  else if d.cached line then
    let d1 := (d.addSat 64 Reg.FC_HITS 1).touchLine line
    match f with
    | some .fcCorrected => (d1.bump Reg.FC_ECC_CORRECTED, 0)
    | some .fcUncorrectable => takeLine (((d1.bump Reg.FC_ECC_REFETCHED).dropLine line).dramRead port a none) port line alloc
    | _ => (d1, 0)
  else takeLine ((d.addSat 64 Reg.FC_MISSES 1).dramRead port a f) port line alloc

/-- Write bytes inside one line of a backed range: the code of the error response (R242). -/
def Device.writeLine (d : Device) (port a : Nat) (bytes : List Byte) (poison alloc : Bool) (f : Option MemFault) :
    Device × Code :=
  let line := a / 64
  let full := a % 64 = 0 ∧ bytes.length = 64
  let isDram := a < lockedBase
  let parity : Option Bool := match f with
    | some (.caFailed close) => if isDram then some close else none
    | _ => none
  match parity with
  | some close => (d.caFail port a close, St.DRAM_CA_FAILED)
  | none =>
  let d0 := if isDram ∧ f = some .caRetried then d.bump (Reg.STACK_CA_RETRIES (d.locate a).stack) else d
  let d1 := match f with
    | some (.dramCorrected s) => if isDram ∧ ¬ full then d0.dramCorrected port a s.val else d0
    | _ => d0
  let d2 := if isDram then (if d.cached line then (d1.addSat 64 Reg.FC_HITS 1).touchLine line else d1.addSat 64 Reg.FC_MISSES 1) else d1
  if ¬ full ∧ (d2.mem.poisoned line ∨ (isDram ∧ f = some .dramUncorrectable)) then
    (d2.dramUncorrectable port a, St.DRAM_ECC_UNCORRECTABLE)
  else
    let d3 := d2.onMem fun m => (m.store a bytes).setPoison line (poison || (m.poisoned line && !decide full))
    if poison then (d3.dropLine line, 0)
    else if isDram ∧ !d3.cached line ∧ d.allocates port alloc then (d3.allocLine port line, 0)
    else (d3, 0)

/-! ### Accesses of any length -/

/-- The result of a read: the data, whether it is poisoned, and the code of the error response lowest in address. -/
structure ReadResult where
  dev : Device
  data : List Byte := []
  /-- Granules that arrive poisoned, as offsets into the data divided by 32. -/
  bad : List Nat := []
  code : Code := 0

/-- Pieces of a range that lie in one line each, with the line's number in the range. -/
def linePieces (a : Nat) : Nat → Nat → Nat → List (Nat × Nat × Nat)
  | 0, _, _ => []
  | fuel + 1, n, i =>
    if n = 0 then [] else
    let k := min n (64 - a % 64)
    (i, a, k) :: linePieces (a + k) fuel (n - k) (i + 1)

/-- The fault that line `i` of an access meets. -/
def MemEnv.at (e : MemEnv) (i : Nat) : Option MemFault := (e.faults.find? (fun p => p.1 = i)).map (·.2)

/-- Log a refused transaction once, at its first byte or at a 4,096-byte boundary (R218). -/
def Device.refuse (d : Device) (c : Code) (port a start : Nat) : Device :=
  if a = start ∨ a % 4096 = 0 then d.logMem c port a else d

/-- Read `n` bytes at device address `a` for `port`, line by line. -/
def Device.rawRead (d : Device) (port a n : Nat) (alloc : Bool) (e : MemEnv) : ReadResult :=
  (linePieces a (n / 64 + 2) n 0).foldl
    (fun r p =>
      let c := r.dev.mapCode p.2.1
      let off := r.data.length
      let gs := (List.range ((off + p.2.2 - 1) / 32 - off / 32 + 1)).map (· + off / 32)
      if c ≠ 0 then
        ⟨r.dev.refuse c port p.2.1 a, r.data ++ zeros p.2.2, r.bad ++ gs, if r.code = 0 then c else r.code⟩
      else
        let x := r.dev.readLine port (p.2.1 / 64 * 64) alloc (e.at p.1)
        ⟨x.1, r.data ++ x.1.mem.bytes p.2.1 p.2.2, if x.2 = 0 then r.bad else r.bad ++ gs, if r.code = 0 then x.2 else r.code⟩)
    { dev := d }

/-- Some granule of the bytes `off` to `off + n` of the data is poisoned at its source. -/
def badIn (bad : List Nat) (off n : Nat) : Bool := bad.any (fun g => off < 32 * g + 32 && 32 * g < off + n)

/-- Write bytes at device address `a` for `port`, line by line; `bad` lists the granules of the data that are poisoned at its
source. The code is that of the error response lowest in address. -/
def Device.rawWrite (d : Device) (port a : Nat) (bytes : List Byte) (bad : List Nat) (alloc : Bool) (e : MemEnv) :
    Device × Code :=
  (linePieces a (bytes.length / 64 + 2) bytes.length 0).foldl
    (fun r p =>
      let c := r.1.mapCode p.2.1
      if c ≠ 0 then (r.1.refuse c port p.2.1 a, if r.2 = 0 then c else r.2)
      else
        let x := r.1.writeLine port p.2.1 (slice bytes (p.2.1 - a) p.2.2) (badIn bad (p.2.1 - a) p.2.2) alloc
          (e.at p.1)
        (x.1, if r.2 = 0 then x.2 else r.2))
    (d, 0)

/-- A number of `n` bytes that memory holds. -/
def Device.memNat (d : Device) (a n : Nat) : Nat := leNat (d.mem.bytes a n)

/-- Memory takes a number of `n` bytes. -/
def Device.setMemNat (d : Device) (a n v : Nat) : Device := d.onMem fun m => m.store a (leBytes v n)

/-! ### Regulation (R249 to R253) -/

/-- The class target in CLK_FABRIC cycles. -/
def Device.latTarget (d : Device) (p : Nat) : Nat :=
  match d.rd (Reg.PORT_CLASS p) with
  | 0 => d.rd Reg.LAT_TARGET_RT | 1 => d.rd Reg.LAT_TARGET_PT | 2 => d.rd Reg.LAT_TARGET_BE | _ => d.rd Reg.LAT_TARGET_MG

/-- The boost of a measured latency against a target (R251). -/
def boost (lat t : Nat) : Nat :=
  if 2 * lat < t then 0 else if 4 * lat < 3 * t then 1 else if lat < t then 2 else 3

/-- The priority that a port's request is issued with (Table 8-5). -/
def Device.priority (d : Device) (p : Nat) : Nat :=
  let m := d.mport p
  let b := boost m.lat (d.latTarget p)
  match d.rd (Reg.PORT_CLASS p) with
  | 0 => if m.panic then 7 else 6
  | 1 => 2 + b
  | 2 => b
  | _ => 1 + b

/-- The histogram bin of a latency (R254). -/
def latencyBin (n : Nat) : Nat :=
  if n < 64 then 0 else if n < 128 then 1 else if n < 256 then 2 else if n < 512 then 3 else if n < 1024 then 4
  else if n < 2048 then 5 else if n < 4096 then 6 else 7

/-- L + (sample − L) ÷ 16, the quotient truncated towards zero (R251). -/
def updateLat (l sample : Nat) : Nat := if l ≤ sample then l + (sample - l) / 16 else l - (l - sample) / 16

/-- FLAGS conditions (Table 8-6). -/
def flagBudget : Nat := 0
def flagRow : Nat := 1
def flagPanic : Nat := 2
def flagAllowance : Nat := 3
def flagDeadline : Nat := 4

/-- The conditions of a port now, as FLAGS[4:0]; the reader gives ALLOWANCE and DEADLINE, which are about requests
outstanding. -/
def MemPort.conditions (m : MemPort) (full due : Bool) : Nat :=
  bit1 m.stopped + 2 * bit1 (m.throttled != []) + 4 * bit1 m.panic + 8 * bit1 full + 16 * bit1 due

/-- Note that a condition held in this management period. -/
def MemPort.note (m : MemPort) (bit : Nat) : MemPort := { m with period := setBit m.period bit true }

/-- A port has a panic buffer (Table 8-4). -/
def hasPanicBuffer (p : Nat) : Bool := 65 ≤ p && p ≤ 69

/-- The buffer level of an RT port raises or lowers panic (R253). -/
def Device.panicLevel (d : Device) (p level : Nat) : Device :=
  if !hasPanicBuffer p || d.rd (Reg.PORT_CLASS p) != 0 then d else
  let m := d.mport p
  if !m.panic && decide (d.rd (Reg.PORT_PANIC_ON p) ≤ level) then
    d.onPort p fun m => ({ m with panic := true, panics := satTo 32 (m.panics + 1) }).note flagPanic
  else if m.panic && decide (level ≤ d.rd (Reg.PORT_PANIC_OFF p)) then d.onPort p fun m => { m with panic := false }
  else d

/-- The port's budget stops its issue (R249): no issue in panic is stopped. -/
def MemPort.exhaustedNow (m : MemPort) : Bool := m.budget != 0 && decide (m.budget ≤ m.bytes) && !m.panic

/-- Issue stopped by budget. -/
def Device.budgetStop (d : Device) (p : Nat) : Device :=
  d.onPort p fun m =>
    ({ m with stopped := true, exhausted := if m.stopped then m.exhausted else satTo 32 (m.exhausted + 1) }).note flagBudget

/-- The bytes of an issued transaction count against the window (R249). -/
def Device.issued (d : Device) (p n : Nat) : Device := d.onPort p fun m => { m with bytes := m.bytes + n }

/-- The completion of a request for address `a`: L, the histogram, the largest latency, and for an RT request whose
deadline field had reached 0 a miss (R251, R252, R254). -/
def Device.completed (d : Device) (p a deadline : Nat) (e : MemEnv) : Device :=
  let rt := d.rd (Reg.PORT_CLASS p) == 0
  d.onPort p fun m =>
    let m1 := { m with lat := updateLat m.lat e.latency, latMax := max m.latMax e.latency,
                       hist := SMap.put m.hist (latencyBin e.latency) (satTo 32 (SMap.getD m.hist (latencyBin e.latency) 0 + 1)) 0 }
    if rt && decide (deadline ≤ e.waited) then
      ({ m1 with misses := satTo 32 (m1.misses + 1), lateAddr := a }).note flagDeadline
    else m1

/-- The deadline field that a request of the port is issued with (R252). -/
def Device.deadline (d : Device) (p : Nat) : Nat := d.rd (Reg.PORT_DEADLINE_CYCLES p)

/-- A port's next window begins: budget and length are taken anew (R249, R255). -/
def Device.newWindow (d : Device) (p : Nat) : Device :=
  let b := d.rd (Reg.PORT_BUDGET_BYTES p)
  d.onPort p fun m => { m with budget := b, bytes := 0, lastBytes := m.bytes, stopped := false }

/-- A range under zeroisation touches the access (R233): the request waits. -/
def Device.zeroWait (d : Device) (a n : Nat) : Bool := d.mem.zeroing.any (fun z => a < z.1 + z.2 && z.1 < a + n)

/-- A request of `n` bytes is issued where the budget lets it, else it waits for the port's next window, which begins
(R249). The units whose command spans the wait issue so (DESIGN CHOICE, log 105). -/
def Device.portIssue (d : Device) (p n : Nat) : Device :=
  if (d.mport p).exhaustedNow then ((d.budgetStop p).newWindow p).issued p n else d.issued p n

/-! ### Row activations (R238) -/

/-- The number of a row, over all stacks. -/
def Location.rowKey (l : Location) : Nat := ((l.stack * 24 + l.channel) * 64 + l.bank) * 8192 + l.row

/-- A request of `port` at address `a` activates its row. -/
def Device.activate (d : Device) (port a : Nat) : Device :=
  if dramEnd ≤ a then d else
  let k := (d.locate a).rowKey
  let n := SMap.getD d.mem.activations k 0 + 1
  d.onMem fun m =>
    if d.rd Reg.ROW_DISTURB_THRESHOLD ≤ n then
      { m with activations := SMap.put m.activations k 0 0, disturbed := m.disturbed ++ [(k, port, a, n)] }
    else { m with activations := SMap.put m.activations k n 0 }

/-- The row activation that an access makes. -/
def Device.rowOpened (d : Device) (port a : Nat) (e : MemEnv) : Device := if e.activates then d.activate port a else d

/-! ### Requests of a port -/

/-- A read request of `port` that has been issued: served and completed. -/
def Device.memRead (d : Device) (port a n : Nat) (alloc : Bool) (e : MemEnv) (due : Option Nat := none) : ReadResult :=
  let r := (d.rowOpened port a e).rawRead port a n alloc e
  { r with dev := r.dev.completed port a (due.getD (d.deadline port)) e }

/-- A write request of `port` that has been issued: served and completed. -/
def Device.memWrite (d : Device) (port a : Nat) (bytes : List Byte) (bad : List Nat) (alloc : Bool) (e : MemEnv)
    (due : Option Nat := none) : Device × Code :=
  let w := (d.rowOpened port a e).rawWrite port a bytes bad alloc e
  (w.1.completed port a (due.getD (d.deadline port)) e, w.2)

/-- The memory environment of the lines after the first `n` of an access. -/
def MemEnv.skip (e : MemEnv) (n : Nat) : MemEnv :=
  { e with faults := (e.faults.filter (fun p => n ≤ p.1)).map (fun p => (p.1 - n, p.2)) }

/-- Issue a read, or a write, and serve it. -/
def Device.portRead (d : Device) (port a n : Nat) (alloc : Bool) (e : MemEnv) : ReadResult :=
  (d.portIssue port n).memRead port a n alloc e
def Device.portWrite (d : Device) (port a : Nat) (bytes : List Byte) (bad : List Nat) (alloc : Bool) (e : MemEnv) : Device × Code :=
  (d.portIssue port bytes.length).memWrite port a bytes bad alloc e

/-- The atomic operations of a page walk or of the Warden on words of its tables: each is issued, meets its line at the home
slice and allocates it (R221, R224, R227); line `i` of them meets the fault that the environment gives line `i`. The code
is the first error response. How many a walk or an edit takes the spec leaves open: DESIGN CHOICE, log 105. -/
def Device.tableAccess (d : Device) (port : Nat) (addrs : List Nat) (e : MemEnv) : Device × Code :=
  (List.zipIdx addrs).foldl
    (fun r p =>
      let x := (r.1.portIssue port 64).readLine port (p.1 / 64 * 64) true (e.at p.2)
      (x.1.completed port p.1 (d.deadline port) e, if r.2 = 0 then x.2 else r.2))
    (d.rowOpened port (addrs.headD dramEnd) e, 0)

end Sys2Proof.Machine
end

