-- ==== Sys2Proof/Machine/PowerOps.lean ====
section
/-!
DEFINITION. The CLK_ARITH divisor and the voltage of a compute region (R29, R459 to R461), and the counting and logging of
power events (R484).
-/

namespace Sys2Proof.Machine

/-- Change power and thermal control. -/
def Device.onPower (d : Device) (f : Power → Power) : Device := { d with power := f d.power }

/-- A power event: counted in 0x2209, logged at most once per code in a management period. -/
def Device.ptEvent (d : Device) (code : Code) (d0 : Nat) : Device :=
  let d1 := d.bump (Reg.PT_EVENTS (code % 256 - 1))
  if d.power.logged.contains code then d1
  else (d1.logEv code 0 d0).onPower fun p => { p with logged := code :: p.logged }

/-- The ceiling of region `r` by personality (R460). -/
def Device.divCeiling (d : Device) (r : Nat) : Nat :=
  if d.personality = .overnight then d.rd (Reg.ARITH_DIV_OVERNIGHT r) else d.rd (Reg.ARITH_DIV_DRIVE r)

/-- A hardware throttle holds region `r`. -/
def Device.throttled (d : Device) (r : Nat) : Bool := bitAt (d.rd Reg.HW_THROTTLE) r || bitAt (d.rd Reg.HW_THROTTLE) (4 + r)

/-- The effective divisor (R460), never /2 where ageing has withdrawn it (R476). -/
def Device.divEffective (d : Device) (r : Nat) : Nat :=
  max (max (d.divCeiling r) (d.rd (Reg.DIV_POWER r)))
    (max (max (d.rd (Reg.DIV_THERMAL r)) (if d.throttled r then 4 else 2)) (if bitAt (d.rd Reg.DIV2_ALLOWED) r then 2 else 3))

/-- The divisor that the region has or is about to take. -/
def Device.divTaken (d : Device) (r : Nat) : Nat := SMap.getD d.power.pending r (d.rd (Reg.ARITH_DIV_NOW r))

/-- The voltage for a divisor in mV (R459). -/
def Device.vfMv (d : Device) (r div : Nat) : Nat := d.rd (Reg.VF_MV (div - 2)) + d.rd (Reg.AGE_MV r)

/-- The region's divisor changes at the next bundle boundary. -/
def Device.divTake (d : Device) (r div : Nat) : Device := d.onPower fun p => { p with pending := SMap.insert p.pending r div }

/-- Write VOUT_COMMAND of a compute rail. -/
def Device.setVout (d : Device) (r mv : Nat) : Device := d.wr (Reg.VDD_CMP_SET_MV r) mv

/-- The effective divisor of region `r` is acted on (R461): slower at once, with the lower voltage unless a hardware path
acts; faster once a raised voltage has settled. -/
def Device.divUpdate (d : Device) (r : Nat) (hardware : Bool) : Device :=
  let target := d.divEffective r
  let now := d.divTaken r
  if now < target then
    let d1 := (d.divTake r target).onPower fun p => { p with raising := SMap.erase p.raising r }
    if hardware then d1 else d1.setVout r (d.vfMv r target)
  else if target < now then
    if (SMap.find d.power.raising r).isSome then d
    else (d.setVout r (d.vfMv r target)).onPower fun p => { p with raising := SMap.insert p.raising r target }
  else
    let d1 := d.onPower fun p => { p with raising := SMap.erase p.raising r }
    if hardware ∨ d.rd (Reg.VDD_CMP_SET_MV r) ≤ d.vfMv r now then d1 else d1.setVout r (d.vfMv r now)

/-- VR_SETTLE_US after a raise (R461): READ_VOUT within 15 mV lets the divisor change. -/
def Device.vrSettled (d : Device) (r readMv : Nat) : Device :=
  match SMap.find d.power.raising r with
  | none => d
  | some target =>
    let set := d.rd (Reg.VDD_CMP_SET_MV r)
    let d1 := d.onPower fun p => { p with raising := SMap.erase p.raising r }
    if readMv ≤ set + 15 ∧ set ≤ readMv + 15 then (if d.divEffective r = target then d1.divTake r target else d1)
    else d1.ptEvent St.VR_FAULT r

/-- The divisor changes at a bundle boundary; the region's engines accept nothing for 8 CLK_FABRIC cycles (R29). -/
def Device.divChange (d : Device) (r : Nat) : Device :=
  match SMap.find d.power.pending r with
  | none => d
  | some v =>
    ((d.onPower fun p => { p with pending := SMap.erase p.pending r }).wr (Reg.ARITH_DIV_NOW r) v).onStrm fun s =>
      { s with divChange := SMap.put s.divChange r 8 0 }

end Sys2Proof.Machine
end

