-- ==== Sys2Proof/Machine/LinkOps.lean ====
section
/-!
DEFINITION. What carries data into cores and between devices (chapters 5 and 14): inbound endpoints (R151, R152, R438),
placement epochs (R437, R439), chip-link packets, credits and routing (R427 to R433), and the local delivery of a
request.
-/

namespace Sys2Proof.Machine

/-! ### Inbound endpoints -/

/-- Fields of EP_BIND and of an endpoint window (Table 5-18). -/
def bindValid (v : Nat) : Bool := bitAt v 31
def bindGuest (v : Nat) : Bool := bitAt v 30
def bindChannel (v : Nat) : Nat := field v 23 16
def bindSem (v : Nat) : Nat := field v 15 8
def windowBase (v : Nat) : Nat := field v 31 15 * 32
def windowSize (v : Nat) : Nat := field v 14 0 * 64

/-- The window entry of an endpoint. -/
def Device.epWindow (d : Device) (c ep : Nat) : Nat :=
  if ep = 3 then d.rd (Reg.EP_WORLD_WINDOW c) else d.rd (Reg.EP_WINDOW c ep)

/-- The endpoint takes a write of `n` bytes at an offset: it is open, and the range lies in its window (R152). -/
def Device.epTakes (d : Device) (c ep off n : Nat) : Bool :=
  (ep == 3 || bindValid (d.rd (Reg.EP_BIND c ep))) && windowSize (d.epWindow c ep) != 0 &&
    off + n ≤ windowSize (d.epWindow c ep)

/-- A transfer is dropped whole (R152): counted and logged once. Writes of it that had landed stay in the window (DESIGN
CHOICE, log 103). -/
def Device.inboundDrop (d : Device) (c ep : Nat) : Device :=
  (d.bump (Reg.CORE_INBOUND_DROPS c)).logEv St.INBOUND_DROP c (faultDetail 5 ep 0 0)

/-- Two packets belong to one transfer (R438). -/
def OpenTransfer.same (a b : OpenTransfer) : Bool := { a with dropped := false } == { b with dropped := false }

/-- Write into an endpoint's window; the last write of a transfer raises its semaphore (R151). -/
def Device.epLand (d : Device) (c : Nat) (x : EpWrite) : Device :=
  let d1 := d.onCore c fun k => k.writeBad (windowBase (d.epWindow c x.ep) + x.off) x.data x.bad
  if x.last then d1.raiseSem c x.sem 5 x.ep else d1

/-- A write arrives at an endpoint; while the core runs a slice it waits there (R367). -/
def Device.epWrite (d : Device) (c ep off : Nat) (data : List Byte) (bad : List Nat) (last : Bool) (sem : Nat) : Device :=
  let x : EpWrite := ⟨ep, off, data, bad, last, sem⟩
  if d.rd (Reg.CORE_STATE c) = coreTesting then d.onCore c fun k => { k with epWaits := k.epWaits ++ [x] } else d.epLand c x

/-- The writes that waited for a slice to end are written (R367). -/
def Device.epRelease (d : Device) (c : Nat) : Device :=
  ((d.onCore c fun k => { k with epWaits := [] }).each (d.core c).epWaits fun d x => d.epLand c x)

/-- The semaphore of a bound endpoint. -/
def Device.epSem (d : Device) (c ep : Nat) : Nat := bindSem (d.rd (Reg.EP_BIND c ep))

/-- The core and endpoint bound to a channel, guest or chip link (R437). -/
def Device.boundTo (d : Device) (guest : Bool) (channel : Nat) : Option (Nat × Nat) :=
  ((List.range 192).find? (fun i =>
    let v := d.rd (Reg.EP_BIND (i / 3) (i % 3))
    bindValid v && bindGuest v == guest && bindChannel v == channel)).map (fun i => (i / 3, i % 3))

/-! ### Placement epochs (R437, R439) -/

/-- The entry that holds a channel's epoch, and the channel's key in the table of retired epochs. -/
def chanEpochKey (guest : Bool) (channel : Nat) : Nat := if guest then Reg.GUEST_CHAN_EPOCH channel else Reg.CHAN_EPOCH channel
def chanKey (guest : Bool) (channel : Nat) : Nat := channel + if guest then 256 else 0

/-- Change the chip links. -/
def Device.onLinks (d : Device) (f : Links → Links) : Device := { d with links := f d.links }

/-- Abandon every open transfer of a channel without its semaphore (R439). -/
def Device.abandonChannel (d : Device) (guest : Bool) (channel : Nat) : Device :=
  match d.boundTo guest channel with
  | none => d
  | some (c, ep) => d.onCore c fun k =>
      { k with transfers := SMap.put k.transfers ep ((SMap.getD k.transfers ep []).filter (fun t => t.channel != channel)) [] }

/-- A CHAN_EPOCH write takes effect: the old epoch retires and open transfers are abandoned (R439). -/
def Device.applyEpoch (d : Device) (guest : Bool) (channel v : Nat) : Device :=
  let k := chanEpochKey guest channel
  let old := d.rd k
  if v = old then d else
  ((d.wr k v).abandonChannel guest channel).onLinks fun l =>
    { l with retired := SMap.put l.retired (chanKey guest channel)
                          (setBit (SMap.getD l.retired (chanKey guest channel) 0) (old % 16) true) 0 }

/-- The epoch is retired for the channel and not yet free (R439). -/
def Device.epochRetired (d : Device) (guest : Bool) (channel e : Nat) : Bool :=
  bitAt (SMap.getD d.links.retired (chanKey guest channel) 0) (e % 16)

/-- A retired epoch becomes free again. -/
def Device.freeEpoch (d : Device) (guest : Bool) (channel e : Nat) : Device :=
  d.onLinks fun l => { l with retired := SMap.put l.retired (chanKey guest channel)
                                          (setBit (SMap.getD l.retired (chanKey guest channel) 0) (e % 16) false) 0 }

/-- A staged write takes effect at the apply mark (R37), with what the entry's own rule adds. -/
def Device.applyEntry (d : Device) (k v : Nat) : Device :=
  if k / 256 = 0x9002 then d.applyEpoch false (k % 256) v
  else if k / 256 = 0x9201 then d.applyEpoch true (k % 256) v
  else if k / 256 = 0x2101 then (d.wr k v).divUpdate (k % 4) false
  else d.wr k v

/-! ### Channel transfers (R437, R438) -/

/-- A CHAN_XFER or CH_XFER packet as it reaches the endpoint's checks. -/
structure ChanWrite where
  guest : Bool
  channel : Nat
  epoch : Nat
  dev : Nat
  core : Nat
  chan : Nat
  off : Nat
  data : List Byte
  bad : List Nat
  last : Bool

/-- The transfer that a packet belongs to. -/
def ChanWrite.transfer (w : ChanWrite) : OpenTransfer := { dev := w.dev, core := w.core, chan := w.chan, channel := w.channel }

/-- The endpoint's list of open transfers after a write of transfer `t`: closed by its last write, otherwise open. -/
def keepTransfer (l : List OpenTransfer) (t : OpenTransfer) (dropped last : Bool) : List OpenTransfer :=
  l.filter (fun x => !x.same t) ++ (if last then [] else [{ t with dropped := dropped }])

/-- A write of transfer `t` falls outside the window (R152): the transfer is dropped, and what remains of it will be. -/
def Device.dropTransfer (d : Device) (c ep : Nat) (t : OpenTransfer) (last : Bool) : Device :=
  let l := SMap.getD (d.core c).transfers ep []
  let d1 := if l.any (fun x => x.same t && x.dropped) then d else d.inboundDrop c ep
  d1.onCore c fun k => { k with transfers := SMap.put k.transfers ep (keepTransfer l t true last) [] }

/-- The endpoint whose binding names the channel without VALID (R152): the first in core and endpoint order (DESIGN CHOICE,
log 103). -/
def Device.closedBinding (d : Device) (guest : Bool) (channel : Nat) : Option (Nat × Nat) :=
  ((List.range 192).find? (fun i =>
    let v := d.rd (Reg.EP_BIND (i / 3) (i % 3))
    !bindValid v && bindGuest v == guest && bindChannel v == channel)).map (fun i => (i / 3, i % 3))

/-- Check and write a channel packet: the answer's code, or none while it waits at the endpoint for a slice to end or for
a transfer to close (R367, R437, R438). A packet of a transfer already dropped is refused as the offending one was. -/
def Device.chanWrite (d : Device) (w : ChanWrite) : Device × Option Code :=
  if d.fn .run ≠ .on then (d, some St.RECEIVER_RESTARTING) else
  match d.boundTo w.guest w.channel with
  | none =>
    (match d.closedBinding w.guest w.channel with
      | some (c, ep) => d.inboundDrop c ep
      | none => d, some St.CHAN_REFUSED)
  | some (c, ep) =>
    let l := SMap.getD (d.core c).transfers ep []
    let t := w.transfer
    if d.regionStopped (Region.ofNum (c / 16)) then (d, some St.RECEIVER_RESTARTING)
    else if !d.epTakes c ep w.off w.data.length || l.any (fun x => x.same t && x.dropped) then
      (d.dropTransfer c ep t w.last, some St.CHAN_REFUSED)
    else if d.rd (chanEpochKey w.guest w.channel) % 16 ≠ w.epoch then (d, some St.EPOCH_STALE)
    else
      if d.rd (Reg.CORE_STATE c) = coreTesting ∨ (!l.contains t && decide (16 ≤ l.length)) then (d, none)
      else
        let d1 := d.onCore c fun k => { k with transfers := SMap.put k.transfers ep (keepTransfer l t false w.last) [] }
        (d1.epWrite c ep w.off w.data w.bad w.last (d.epSem c ep), some 0)

/-- A memory write from a peer: inside LINK_WINDOW, under R218, through `port` (R428). A core's own write to its device has
counted its bytes at issue. -/
def Device.linkMemWrite (d : Device) (port a : Nat) (data : List Byte) (bad : List Nat) (e : MemEnv) : Device × Code :=
  let base := d.rd Reg.LINK_WINDOW_BASE
  let size := d.rd Reg.LINK_WINDOW_SIZE
  if size = 0 ∨ a < base ∨ base + size < a + data.length then (d, St.INBOUND_WINDOW_REFUSED)
  else (if port < 64 then d else d.issued port data.length).memWrite port a data bad false e

/-! ### Packets (Table 14-4) -/

/-- Packet types. -/
def pktMemWrite : Nat := 0x1
def pktChanXfer : Nat := 0x2
def pktAnswer : Nat := 0x8
def pktCredit : Nat := 0xC
def pktThrottle : Nat := 0xD

/-- A request packet; a control packet. -/
def LinkPacket.isRequest (p : LinkPacket) : Bool := p.typ == pktMemWrite || p.typ == pktChanXfer
def LinkPacket.isControl (p : LinkPacket) : Bool := p.typ == pktCredit || p.typ == pktThrottle

/-- Poisoned granules of the payload, from the POISON field. -/
def LinkPacket.bad (p : LinkPacket) : List Nat := bitList p.poison 8

/-- The POISON field of a list of granules. -/
def poisonField (bad : List Nat) : Nat := bad.foldl (fun p g => setBit p g true) 0

/-- Credits that a packet needs (R432). -/
def LinkPacket.credits (p : LinkPacket) : Nat := (32 + p.data.length + 63) / 64

/-- A chip-link port. -/
def Device.linkPort (d : Device) (p : Nat) : LinkPort := SMap.getD d.links.ports p {}

/-- Change a chip-link port. -/
def Device.onLinkPort (d : Device) (p : Nat) (f : LinkPort → LinkPort) : Device :=
  d.onLinks fun l => { l with ports := SMap.put l.ports p (f (SMap.getD l.ports p {})) {} }

/-- LINK_PHASE values. -/
def phaseDown : Nat := 0
def phaseTraining : Nat := 1
def phaseUp : Nat := 2
def phaseRetraining : Nat := 3
def phaseFailed : Nat := 4

/-- The port may put the packet on the wire now: credit for its lane, no throttle for a request. Control packets need no
credit. -/
def LinkPort.maySend (l : LinkPort) (p : LinkPacket) : Bool :=
  if p.isControl then true
  else if p.isRequest then p.credits ≤ l.reqCredit && !l.throttled
  else p.credits ≤ l.ansCredit

/-- Put a packet on the wire: its SEQ, its credits, its place in the replay buffer. -/
def LinkPort.transmit (l : LinkPort) (p : LinkPacket) : LinkPort :=
  let q := { p with seq := l.txSeq }
  { l with txSeq := (l.txSeq + 1) % 4096, wire := some q, replay := l.replay ++ [q]
           reqCredit := if p.isRequest then l.reqCredit - p.credits else l.reqCredit
           ansCredit := if p.isRequest || p.isControl then l.ansCredit else l.ansCredit - p.credits }

/-- Send what may be sent of the waiting packets, in order within each lane. -/
def LinkPort.flush (l : LinkPort) : List LinkPacket → LinkPort
  | [] => l
  | p :: t =>
    if l.maySend p && !l.queue.any (fun q => q.isRequest == p.isRequest && !p.isControl) then LinkPort.flush (l.transmit p) t
    else LinkPort.flush { l with queue := l.queue ++ [p] } t

/-- Try again what waits at a port whose link is up. -/
def Device.flushLink (d : Device) (p : Nat) : Device :=
  if d.rd (Reg.LINK_PHASE p) ≠ phaseUp then d else
  d.onLinkPort p fun l => LinkPort.flush { l with queue := [] } l.queue

/-- A packet joins the port's queue, and leaves at once if it may. -/
def Device.linkSend (d : Device) (p : Nat) (x : LinkPacket) : Device :=
  (d.onLinkPort p fun l => { l with queue := l.queue ++ [x] }).flushLink p

/-- The port that a packet for device `dev` leaves by: its ROUTE entry is VALID and names a port that is ON (R430). -/
def Device.routePort (d : Device) (dev : Nat) : Option Nat :=
  let r := d.rd (Reg.ROUTE dev)
  if bitAt r 7 ∧ r % 8 < 4 ∧ d.rd (Reg.LINK_STATE (r % 8)) = FnState.on.code then some (r % 8) else none

/-- Count a packet that cannot proceed (R430), at the port its route names or else at the port it came by. -/
def Device.unreachable (d : Device) (dev : Nat) (from? : Option Nat) : Device :=
  let r := d.rd (Reg.ROUTE dev)
  if bitAt r 7 ∧ r % 8 < 4 then d.countEv St.LINK_UNREACHABLE (r % 8) (Reg.LINK_UNREACHABLE (r % 8))
  else match from? with
    | some p => d.countEv St.LINK_UNREACHABLE p (Reg.LINK_UNREACHABLE p)
    | none => d

/-- The device's own ID (R426). -/
def Device.ownId (d : Device) : Nat := d.rd Reg.DEVICE_ID % 64

/-- Send a control or answer packet towards `dev`; one that has no way is dropped (R430). -/
def Device.sendAnswer (d : Device) (x : LinkPacket) : Device :=
  match d.routePort x.dstDev with
  | some p => d.linkSend p { x with hops := d.rd Reg.HOP_LIMIT }
  | none => d.unreachable x.dstDev none

/-- Answer a request packet (Table 14-6). -/
def Device.answerRequest (d : Device) (x : LinkPacket) (code : Code) : Device :=
  d.sendAnswer { typ := pktAnswer, vl := 1, srcDev := x.srcDev, dstDev := x.srcDev, srcCore := x.srcCore, srcChan := x.srcChan
                 tag := x.tag, status := code }

/-- The request as this device, its destination, checks and performs it; none while it waits. `port` is the master port
that carries it. -/
def Device.deliver (d : Device) (port : Nat) (x : LinkPacket) (e : MemEnv) : Device × Option Code :=
  if x.typ = pktMemWrite then
    let r := d.linkMemWrite port x.addr x.data x.bad e
    (r.1, some r.2)
  else
    d.chanWrite { guest := false, channel := x.channel, epoch := x.epoch, dev := x.srcDev, core := x.srcCore, chan := x.srcChan
                  off := x.addr, data := x.data, bad := x.bad, last := x.last }

end Sys2Proof.Machine
end

