-- ==== Sys2Proof/Machine/Float.lean ====
section
/-!
DEFINITION. The number formats of chapter 6: element encodings (Tables 6-1, 6-2), exact values, one-rounding
conversions (R171, Table 6-7) and stochastic rounding (R174). A finite value is a sign, a numerator, a denominator and a
power of two, so sums, products and quotients are exact before the one rounding that the rules name.
-/

namespace Sys2Proof.Machine

/-- An exact value: a NaN, an infinity, a signed zero, or (−1)^neg · num / den · 2^e with num and den positive. -/
inductive Num where
  | nan
  | inf (neg : Bool)
  | zero (neg : Bool)
  | fin (neg : Bool) (num den : Nat) (e : Int)
deriving DecidableEq, Repr

/-- A power of two whose exponent may be negative, as numerator and denominator. -/
def pow2Num (e : Int) : Nat := 2 ^ e.toNat
def pow2Den (e : Int) : Nat := 2 ^ (-e).toNat

/-- The value of a signed numerator over a denominator times 2^e. -/
def Num.ofRatio (n : Int) (den : Nat) (e : Int) : Num :=
  if n = 0 then .zero false else .fin (decide (n < 0)) n.natAbs den e

/-- The negation of a value. -/
def Num.neg : Num → Num
  | .nan => .nan
  | .inf s => .inf (!s)
  | .zero s => .zero (!s)
  | .fin s n d e => .fin (!s) n d e

/-- The sign bit. -/
def Num.isNeg : Num → Bool
  | .nan => false
  | .inf s => s
  | .zero s => s
  | .fin s _ _ _ => s

/-- The magnitude. -/
def Num.abs : Num → Num
  | .nan => .nan
  | .inf _ => .inf false
  | .zero _ => .zero false
  | .fin _ n d e => .fin false n d e

/-- The value is finite, zero included. -/
def Num.finite : Num → Bool
  | .zero _ => true
  | .fin _ _ _ _ => true
  | _ => false

/-- The product (R165: 0 times an infinity is a NaN). -/
def Num.mul : Num → Num → Num
  | .nan, _ => .nan
  | _, .nan => .nan
  | .inf _, .zero _ => .nan
  | .zero _, .inf _ => .nan
  | .inf s, .inf t => .inf (s != t)
  | .inf s, .fin t _ _ _ => .inf (s != t)
  | .fin s _ _ _, .inf t => .inf (s != t)
  | .zero s, .zero t => .zero (s != t)
  | .zero s, .fin t _ _ _ => .zero (s != t)
  | .fin s _ _ _, .zero t => .zero (s != t)
  | .fin s n d e, .fin t n' d' e' => .fin (s != t) (n * n') (d * d') (e + e')

/-- The signed numerator of a finite value. -/
def Num.signed : Num → Int
  | .fin s n _ _ => if s then -(n : Int) else n
  | _ => 0

/-- The sum (R165: opposite infinities give a NaN; an exact zero is +0). -/
def Num.add : Num → Num → Num
  | .nan, _ => .nan
  | _, .nan => .nan
  | .inf s, .inf t => if s == t then .inf s else .nan
  | .inf s, _ => .inf s
  | _, .inf t => .inf t
  | .zero _, .zero _ => .zero false
  | .zero _, x => x
  | x, .zero _ => x
  | .fin s n d e, .fin t n' d' e' =>
    let lo := min e e'
    let a := (if s then -(n : Int) else n) * d' * pow2Num (e - lo)
    let b := (if t then -(n' : Int) else n') * d * pow2Num (e' - lo)
    Num.ofRatio (a + b) (d * d') lo

/-- The quotient by a positive finite value. -/
def Num.divPos (x : Num) (y : Num) : Num :=
  match x, y with
  | .fin s n d e, .fin _ n' d' e' => .fin s (n * d') (d * n') (e - e')
  | x, _ => x

/-- `x < y` for values that are not NaNs; −0 counts as below +0 (Table 6-6). -/
def Num.lt : Num → Num → Bool
  | .nan, _ => false
  | _, .nan => false
  | .inf s, .inf t => s && !t
  | .inf s, _ => s
  | _, .inf t => !t
  | .zero s, .zero t => s && !t
  | .zero _, .fin t _ _ _ => !t
  | .fin s _ _ _, .zero _ => s
  | .fin s n d e, .fin t n' d' e' =>
    let lo := min e e'
    let a := (if s then -(n : Int) else n) * d' * pow2Num (e - lo)
    let b := (if t then -(n' : Int) else n') * d * pow2Num (e' - lo)
    decide (a < b)

/-- `x > y` as an IEEE 754 comparison: the zeros are equal. -/
def Num.gt (x y : Num) : Bool :=
  match x, y with
  | .zero _, .zero _ => false
  | _, _ => Num.lt y x

/-- The larger of two values; a NaN gives a NaN (Table 6-6). -/
def Num.max (x y : Num) : Num :=
  match x, y with
  | .nan, _ => .nan
  | _, .nan => .nan
  | _, _ => if Num.lt x y then y else x

/-- The smaller of two values; a NaN gives a NaN (Table 6-6). -/
def Num.min (x y : Num) : Num :=
  match x, y with
  | .nan, _ => .nan
  | _, .nan => .nan
  | _, _ => if Num.lt y x then y else x

/-- ⌊log₂ (n / d · 2^e)⌋ for positive n and d. -/
def floorLog2 (n d : Nat) (e : Int) : Int :=
  let g : Int := (Nat.log2 n : Int) - (Nat.log2 d : Int)
  -- g or g - 1
  if d * pow2Num g ≤ n * pow2Den g then g + e else g - 1 + e

/-- A rounding: to nearest even, or stochastic with the draw `r` of 0 to 65,535 (R174). -/
inductive Rounding where
  | nearest
  | stochastic (r : Nat)
deriving DecidableEq, Repr

/-- Round n / d · 2^e to a multiple of 2^q: the multiple (R171, R174). -/
def roundMultiple (rnd : Rounding) (n d : Nat) (e q : Int) : Nat :=
  let a := n * pow2Num (e - q)
  let b := d * pow2Den (e - q)
  let lo := a / b
  let rem := a % b
  if rem = 0 then lo else
  match rnd with
  | .nearest => if 2 * rem < b then lo else if b < 2 * rem then lo + 1 else lo + lo % 2
  | .stochastic r => if 65536 ≤ 65536 * rem / b + r then lo + 1 else lo

/-- A floating-point element: exponent bits, mantissa bits, bias. -/
structure FloatFmt where
  ebits : Nat
  mbits : Nat
  bias : Nat
  /-- The largest finite magnitude code. -/
  top : Nat
  /-- The magnitude code of infinity, where the format has one. -/
  inf : Option Nat
  /-- The magnitude code written for a NaN. -/
  nan : Nat
  /-- Beyond the largest finite value: infinity (true) or saturated (false). -/
  overflowInf : Bool
deriving DecidableEq, Repr

/-- Tables 6-2 and 6-7. -/
def fp32 : FloatFmt := ⟨8, 23, 127, 0x7F7FFFFF, some 0x7F800000, 0x7FC00000, true⟩
def bf16 : FloatFmt := ⟨8, 7, 127, 0x7F7F, some 0x7F80, 0x7FC0, true⟩
def fp16 : FloatFmt := ⟨5, 10, 15, 0x7BFF, some 0x7C00, 0x7E00, true⟩
def e5m2 : FloatFmt := ⟨5, 2, 15, 0x7B, some 0x7C, 0x7F, false⟩
def e4m3 : FloatFmt := ⟨4, 3, 7, 0x7E, none, 0x7F, false⟩
def e3m2 : FloatFmt := ⟨3, 2, 3, 0x1F, none, 0x1F, false⟩
def e2m3 : FloatFmt := ⟨2, 3, 1, 0x1F, none, 0x1F, false⟩
def e2m1 : FloatFmt := ⟨2, 1, 1, 0x7, none, 0x7, false⟩

/-- The value an element code spells (R157). -/
def FloatFmt.decode (f : FloatFmt) (v : Nat) : Num :=
  let mag := v % 2 ^ (f.ebits + f.mbits)
  let neg := bitAt v (f.ebits + f.mbits)
  if f.inf = some mag then .inf neg
  else if f.top < mag then .nan
  else
    let ex := mag / 2 ^ f.mbits
    let m := mag % 2 ^ f.mbits
    if mag = 0 then .zero neg
    else if ex = 0 then .fin neg m 1 (1 - (f.bias : Int) - f.mbits)
    else .fin neg (2 ^ f.mbits + m) 1 ((ex : Int) - f.bias - f.mbits)

/-- An encoded element: its code, and whether it saturated (0x0504). -/
structure Encoded where
  code : Nat
  sat : Bool := false
deriving DecidableEq, Repr

/-- The sign bit over a magnitude code; a zero result is +0 (R165). -/
def FloatFmt.signed (f : FloatFmt) (neg : Bool) (mag : Nat) : Nat :=
  if neg && mag != 0 then mag + 2 ^ (f.ebits + f.mbits) else mag

/-- The magnitude code of the multiple `n` of 2^q, where q is the unit of its binade. -/
def FloatFmt.magnitude (f : FloatFmt) (n : Nat) (q : Int) : Nat :=
  let full := 2 ^ (f.mbits + 1)
  let n' := if full ≤ n then n / 2 else n
  let q' := if full ≤ n then q + 1 else q
  if n' < 2 ^ f.mbits then n'
  else (q' + f.mbits + f.bias).toNat * 2 ^ f.mbits + (n' - 2 ^ f.mbits)

/-- The rounded code of an exact value (R171, Table 6-7). -/
def FloatFmt.encode (f : FloatFmt) (rnd : Rounding) (x : Num) : Encoded :=
  match x with
  | .nan => ⟨f.nan, false⟩
  | .inf s =>
    match f.inf with
    | some c => ⟨f.signed s c, false⟩
    | none => ⟨f.signed s f.top, true⟩
  | .zero _ => ⟨0, false⟩
  | .fin s n d e =>
    let q := max (floorLog2 n d e - f.mbits) (1 - (f.bias : Int) - f.mbits)
    let mag := f.magnitude (roundMultiple rnd n d e q) q
    if f.top < mag then
      match f.overflowInf, f.inf with
      | true, some c => ⟨f.signed s c, false⟩
      | _, _ => ⟨f.signed s f.top, true⟩
    else ⟨f.signed s mag, false⟩

/-- Two's complement of `w` bits, saturated; a NaN gives 0 (Table 6-7). -/
def encodeInt (w : Nat) (rnd : Rounding) (x : Num) : Encoded :=
  let top : Nat := 2 ^ (w - 1) - 1
  match x with
  | .nan => ⟨0, false⟩
  | .inf s => ⟨if s then top + 1 else top, true⟩
  | .zero _ => ⟨0, false⟩
  | .fin s n d e =>
    let k := roundMultiple rnd n d e 0
    if s then (if top + 1 < k then ⟨top + 1, true⟩ else ⟨ofInt w (-(k : Int)), false⟩)
    else if top < k then ⟨top, true⟩ else ⟨k, false⟩

/-- Format codes of Table 6-1 that a block scale goes with. -/
def isMx (f : Nat) : Bool := 7 ≤ f && f ≤ 12
def isNk (f : Nat) : Bool := f == 13 || f == 14

/-- Bits of one element (Table 6-1). -/
def elementBits (f : Nat) : Nat :=
  match f with
  | 1 => 4 | 12 => 4 | 14 => 4 | 10 => 6 | 11 => 6 | 4 => 16 | 5 => 16 | 6 => 32 | _ => 8

/-- The value of an element's bits in a format, block scale apart (Tables 6-1, 6-2, 6-4). -/
def elementValue (f v : Nat) : Num :=
  match f with
  | 0 => .ofRatio (signExt 8 v) 1 0
  | 1 => .ofRatio (signExt 4 v) 1 0
  | 2 => e4m3.decode v
  | 3 => e5m2.decode v
  | 4 => bf16.decode v
  | 5 => fp16.decode v
  | 6 => fp32.decode v
  | 7 => .ofRatio (signExt 8 v) 1 (-6)
  | 8 => e4m3.decode v
  | 9 => e5m2.decode v
  | 10 => e3m2.decode v
  | 11 => e2m3.decode v
  | 12 => e2m1.decode v
  | 13 => e4m3.decode v
  | 14 => e2m1.decode v
  | _ => .nan

/-- An E8M0 block scale (R159, R166). -/
def e8m0 (v : Nat) : Num := if v = 0xFF then .nan else .fin false 1 1 ((v : Int) - 127)

/-- An NK block scale: E4M3 with sign 0 (R159, R166). -/
def nkScale (v : Nat) : Num := if 0x7F ≤ v then .nan else e4m3.decode v

/-- A tile or per-channel scale: finite and greater than 0, otherwise a NaN (R166). -/
def f32Scale (v : Nat) : Num :=
  match fp32.decode v with
  | .fin false n d e => .fin false n d e
  | _ => .nan

/-- Round to FP32: the bits. -/
def toF32 (x : Num) : Nat := (fp32.encode .nearest x).code

/-- The value of FP32 bits. -/
def ofF32 (v : Nat) : Num := fp32.decode v

/-- Convert a value to a VE output format under a rounding (Table 6-7). -/
def encodeVe (f : Nat) (rnd : Rounding) (x : Num) : Encoded :=
  match f with
  | 0 => encodeInt 8 rnd x
  | 1 => encodeInt 4 rnd x
  | 2 => e4m3.encode rnd x
  | 3 => e5m2.encode rnd x
  | 4 => bf16.encode rnd x
  | 5 => fp16.encode rnd x
  | _ => fp32.encode rnd x

/-- One FP32 unit in the last place above or below a positive finite code. -/
def f32Step (code pick : Nat) : Nat := if pick = 0 then code else if pick = 1 then code + 1 else code - 1

/-- The FP32 value, rounded towards zero, of a positive value. -/
def f32Floor (n d : Nat) (e : Int) : Nat :=
  let q := max (floorLog2 n d e - 23) (-149)
  let a := n * pow2Num (e - q)
  let b := d * pow2Den (e - q)
  fp32.magnitude (a / b) q

/-- The distance from the value to the FP32 code is at most `u` units of its last place. -/
def withinUlps (u code : Nat) (n d : Nat) (e : Int) : Bool :=
  let q := max (floorLog2 n d e - 23) (-149)
  match fp32.decode code with
  | .fin false m _ e' =>
    let diff := Num.abs (Num.add (.fin false m 1 e') (.fin true n d e))
    !Num.lt (.fin false u 1 q) diff
  | _ => false

/-- RECIP of an FP32 operand, within 1 ULP (Table 6-6); which of the allowed values is open. -/
def recipF32 (a : Nat) : Nat :=
  match ofF32 a with
  | .nan => 0x7FC00000
  | .inf _ => 0
  | .zero s => if s then 0xFF800000 else 0x7F800000
  | .fin s n d e =>
    let lo := f32Floor d n (-e)
    let c := f32Step lo (Config.recipPick (BitVec.ofNat 32 a)).val
    let r := if withinUlps 1 c d n (-e) then c else lo
    if 0x7F7FFFFF < r then fp32.signed s 0x7F800000 else fp32.signed s r

/-- RSQRT of an FP32 operand, within 1 ULP (Table 6-6); which of the allowed values is open. -/
def rsqrtF32 (a : Nat) : Nat :=
  match ofF32 a with
  | .nan => 0x7FC00000
  | .inf s => if s then 0x7FC00000 else 0
  | .zero s => if s then Config.rsqrtMinusZero.toNat else 0x7F800000
  | .fin true _ _ _ => 0x7FC00000
  | .fin false n d e =>
    -- 1/√x = √(2^160 · d / n') · 2^(-80 - e'/2), where n' · 2^e' is the numerator with an even power of two
    let ee := if e % 2 = 0 then e else e - 1
    let nn := if e % 2 = 0 then n else 2 * n
    let root := Nat.sqrt (d * 2 ^ 160 / nn)
    let lo := f32Floor root 1 (-80 - ee / 2)
    let pick := (Config.rsqrtPick (BitVec.ofNat 32 a)).val
    if root * root * nn = d * 2 ^ 160 then f32Step lo pick
    else if pick = 0 then lo else lo + 1

/-- Fraction bits of the fixed-point number that stands for e^x. -/
def expBits : Nat := 320

/-- e^x · 2^expBits for x = n / d · 2^e or its negation, far closer than an ULP of FP32: sixty terms of the series of
e^(x / 256), squared eight times. -/
def expFix (neg : Bool) (n d : Nat) (e : Int) : Nat :=
  let one : Int := 2 ^ expBits
  let y : Int := (if neg then -1 else 1) * ((n * pow2Num e * 2 ^ expBits / (d * pow2Den e * 256) : Nat) : Int)
  let s := (List.range 60).foldl (fun (acc : Int × Int) (j : Nat) => let t := acc.1 * y / (one * (j + 1)); (t, acc.2 + t))
    (one, one)
  (List.range 8).foldl (fun r _ => r * r / 2 ^ expBits) s.2.toNat

/-- The FP32 codes within 2 ULP of a positive value (Table 6-6). -/
def withinTwo (n d : Nat) (e : Int) : List Nat :=
  let lo := f32Floor n d e
  ((List.range 9).map (fun i => lo + i - 4)).filter (fun c => withinUlps 2 c n d e)

/-- EXP of a value from −87.3 to 88.7: some code within 2 ULP, which one being open. -/
def expWithin (a fix : Nat) : Nat :=
  let l := withinTwo fix 1 (-(expBits : Int))
  l.getD ((Config.expF32 (BitVec.ofNat 32 a)).toNat % l.length) (f32Floor fix 1 (-(expBits : Int)))

/-- EXP of an FP32 operand (Table 6-6): the special cases are stated, the value is within 2 ULP from −87.3 to 88.7, and
between that range and the special cases it is open. -/
def expF32 (a : Nat) : Nat :=
  match ofF32 a with
  | .nan => 0x7FC00000
  | x =>
    -- 88.72 = 8872 / 100 and -103.28 = -10328 / 100
    if Num.lt (.fin false 8872 100 0) x then 0x7F800000
    else if Num.lt x (.fin true 10328 100 0) then 0
    else if Num.lt x (.fin true 873 10 0) || Num.lt (.fin false 887 10 0) x then (Config.expF32 (BitVec.ofNat 32 a)).toNat
    else
      match x with
      | .fin s n d e => expWithin a (expFix s n d e)
      | _ => expWithin a (2 ^ expBits)

/-! ### Groups and sums -/

/-- The exact sum of a list of products. -/
def sumExact (l : List Num) : Num := l.foldl Num.add (.zero false)

/-- The pairwise tree of RSUM over a list whose length is a power of two (R170). -/
def sumTree : Nat → List Nat → List Nat
  | 0, l => l
  | n + 1, l => sumTree n (pairs l)
where
  /-- One level of the tree: adjacent results added, each sum correctly rounded. -/
  pairs : List Nat → List Nat
    | a :: b :: t => toF32 (Num.add (ofF32 a) (ofF32 b)) :: pairs t
    | l => l

/-- ⌈log₂ (n / d · 2^e)⌉ for positive n and d. -/
def ceilLog2 (n d : Nat) (e : Int) : Int :=
  let f := floorLog2 n d e
  if n * pow2Num (e - f) = d * pow2Den (e - f) then f else f + 1

/-- The smallest E4M3 value not below the positive value (R173), as its code; 0x7E when none is. -/
def nkScaleFor (x : Num) : Nat :=
  match (List.range 0x7F).find? (fun c => !Num.lt (e4m3.decode c) x) with
  | some c => c
  | none => 0x7E

end Sys2Proof.Machine
end

