-- ==== Sys2Proof/Machine/Slots.lean ====
section
/-!
DEFINITION. The fields of the bundle: lane words (Tables 4-2 to 4-5), the chip slot (Table 4-6) and the engine slots'
operand fields (Tables 5-4, 5-6, 5-8, 5-9, 5-11). Each is a function from the word's bits to the field.
-/

namespace Sys2Proof.Machine

/-! ### Lane word (Table 4-2) -/

def laneTe (w : Nat) : Nat := field w 511 416
def laneVe (w : Nat) : Nat := field w 415 288
def laneDe (w : Nat) : Nat := field w 287 192
def laneSe (w : Nat) : Nat := field w 191 128
def laneSync (w : Nat) : Nat := field w 127 96
def laneNoc (w : Nat) : Nat := field w 95 32
def laneImm (w : Nat) : Nat := field w 31 0

/-! ### Engine slots (Table 4-3), slot-relative -/

def teOp (t : Nat) : Nat := field t 95 90
def teSr (t : Nat) : Bool := bitAt t 89
def teDone (t : Nat) : Option Nat := if bitAt t 88 then some (field t 87 80) else none
def teOperands (t : Nat) : Nat := field t 79 0
def veOp (t : Nat) : Nat := field t 127 120
def veDone (t : Nat) : Option Nat := if bitAt t 119 then some (field t 118 111) else none
def veOperands (t : Nat) : Nat := field t 110 0
def deOp (t : Nat) : Nat := field t 95 90
def deChan (t : Nat) : Nat := field t 89 86
def deDone (t : Nat) : Option Nat := if bitAt t 85 then some (field t 84 77) else none
def deOperands (t : Nat) : Nat := field t 76 0
def seOp (t : Nat) : Nat := field t 63 56
def seRd (t : Nat) : Nat := field t 55 51
def seRa (t : Nat) : Nat := field t 50 46
def seRb (t : Nat) : Nat := field t 45 41
def seImmSel (t : Nat) : Bool := bitAt t 40

/-! ### SYNC slot (Table 4-4) -/

def syncOp (t : Nat) : Nat := field t 31 28
def syncSem (t : Nat) : Nat := field t 27 20
def syncN (t : Nat) : Nat := field t 19 4
def syncBar (t : Nat) : Nat := field t 22 20

/-! ### NOC slot (Table 4-5) -/

def nocOp (t : Nat) : Nat := field t 63 60
def nocSendPeer (t : Nat) : Nat := field t 59 54
def nocRecvPeer (t : Nat) : Nat := field t 53 48
def nocSendAddr (t : Nat) : Nat := field t 47 31
def nocRecvAddr (t : Nat) : Nat := field t 30 14
def nocSends (t : Nat) : Bool := nocOp t == 1 || nocOp t == 3
def nocRecvs (t : Nat) : Bool := nocOp t == 2 || nocOp t == 3

/-! ### Chip slot (Table 4-6) -/

def brOp (w : Nat) : Nat := field w 511 508
def brPred (w : Nat) : Nat := field w 507 504
def brTarget (w : Nat) : Nat := field w 503 490
def rdOp (w : Nat) : Nat := field w 479 478
def rdReg (w : Nat) : Nat := field w 477 473
def rdBit (w : Nat) : Nat := field w 472 468
def rdCore (w : Nat) : Nat := field w 467 462
def rdPred (w : Nat) : Nat := field w 461 458
def lpOp (w : Nat) : Nat := field w 447 446
def lpCount (w : Nat) : Nat := field w 445 430
def lpEnd (w : Nat) : Nat := field w 429 416
def whOp (w : Nat) : Nat := field w 415 412
def whClass (w : Nat) : Nat := field w 411 408
def whJob (w : Nat) : Nat := field w 407 400
def whCore (w : Nat) : Nat := field w 399 394
def whSem (w : Nat) : Nat := field w 393 386
def whArg (w : Nat) : Nat := field w 385 354
def wdEn (w : Nat) : Bool := bitAt w 351
def wdStage (w : Nat) : Nat := field w 350 347
def twEn (w : Nat) : Bool := bitAt w 335
def twCore (w : Nat) : Nat := field w 334 329
def twLen (w : Nat) : Nat := field w 328 321
def applyBit (w : Nat) : Bool := bitAt w 319
def haltBit (w : Nat) : Bool := bitAt w 318

/-! ### TE operands (Tables 5-4 and 5-6) -/

def tileA (o : Nat) : Nat := field o 79 63
def tileB (o : Nat) : Nat := field o 62 46
def tileK (o : Nat) : Nat := field o 45 34
def tileFmtA (o : Nat) : Nat := field o 33 30
def tileFmtB (o : Nat) : Nat := field o 29 26
def tileAcc (o : Nat) : Bool := bitAt o 25
def tileSet (o : Nat) : Nat := field o 24 24
def tileSparse (o : Nat) : Bool := bitAt o 23
def tileMeta (o : Nat) : Nat := field o 22 6
def drainDst (o : Nat) : Nat := field o 79 63
def drainFmt (o : Nat) : Nat := field o 62 59
def drainRnd (o : Nat) : Bool := bitAt o 58
def drainSet (o : Nat) : Nat := field o 57 57
def drainKeep (o : Nat) : Bool := bitAt o 56

/-! ### ATTN_STEP operands (Table 7-8) -/

def attnMode (o : Nat) : Nat := field o 79 78
def attnQ (o : Nat) : Nat := field o 77 61
def attnFrame (o : Nat) : Nat := field o 60 44
def attnRec (o : Nat) : Nat := field o 43 27
def attnHead (o : Nat) : Nat := field o 26 22
def attnRows (o : Nat) : Nat := if field o 21 15 = 0 then 128 else field o 21 15
def attnReg (o : Nat) : Nat := field o 14 10

/-! ### VE operands (Table 5-8) -/

def veSrcA (o : Nat) : Nat := field o 110 94
def veSrcB (o : Nat) : Nat := field o 93 77
def veDst (o : Nat) : Nat := field o 76 60
def veLen (o : Nat) : Nat := if field o 59 48 = 0 then 4096 else field o 59 48
def veFmtIn (o : Nat) : Nat := field o 47 44
def veFmtOut (o : Nat) : Nat := field o 43 40
def veRnd (o : Nat) : Bool := bitAt o 39
def veBImm (o : Nat) : Bool := bitAt o 38

/-! ### DE operands (Table 5-11) -/

def deDescLine (o : Nat) : Nat := field o 76 61

end Sys2Proof.Machine
end

