-- ==== Sys2Proof/Machine/Scalar.lean ====
section
/-!
DEFINITION. The scalar engine (Tables 5-9 and 5-10, R139): each operation's effect at the issue of its bundle, and the
completion of a scalar load or store.
-/

namespace Sys2Proof.Machine

/-- The second operand: the IMM word when IMM_SEL is 1, otherwise RB (Table 5-10). -/
def Device.seB (d : Device) (c rb : Nat) (immSel : Bool) (imm : Nat) : Nat :=
  if immSel then imm else (d.core c).sreg rb

/-- Write RD from RA and b. -/
def Device.seWrite (d : Device) (c rd ra rb : Nat) (immSel : Bool) (imm : Nat) (f : Nat → Nat → Nat) : Device :=
  d.onCore c fun k => k.setSreg rd (f (k.sreg ra) (if immSel then imm else k.sreg rb))

/-- Addition and subtraction modulo 2^32 (Table 5-10). -/
def add32 (a b : Nat) : Nat := wrapTo 32 (a + b)
def sub32 (a b : Nat) : Nat := wrapTo 32 (a + 2 ^ 32 - b % 2 ^ 32)
def shl32 (a b : Nat) : Nat := wrapTo 32 (a * 2 ^ (b % 32))
def shr32 (a b : Nat) : Nat := a / 2 ^ (b % 32)

/-- The address of a scalar load or store. -/
def Device.seAddr (d : Device) (c ra rb : Nat) (immSel : Bool) (imm : Nat) : Nat := add32 ((d.core c).sreg ra) (d.seB c rb immSel imm)

/-- The fault of an SE slot: a load or store whose address is not a multiple of 4 inside local memory (0x0408, Tables 5-10,
5-17). -/
def Device.seFault (d : Device) (c op ra rb : Nat) (immSel : Bool) (imm : Nat) : Option (Code × Nat) :=
  let a := d.seAddr c ra rb immSel imm
  if (op = 0x10 ∨ op = 0x11) ∧ (a % 4 ≠ 0 ∨ lmSize < a + 4) then some (St.OPERAND_INVALID, faultDetail 4 0 0 (a / 32)) else none

/-- A scalar load or store begins its bank access, or halts its core. -/
def Device.seAccess (d : Device) (c rd ra rb : Nat) (immSel : Bool) (imm : Nat) (load : Bool) : Device :=
  let a := d.seAddr c ra rb immSel imm
  match d.seFault c (if load then 0x10 else 0x11) ra rb immSel imm with
  | some f => d.coreFault c f.1 f.2
  | none => d.onCore c fun k => { k with loads := k.loads ++ [⟨load, rd, a, k.sreg rd⟩] }

/-- BARCFG: the participant count of a barrier (R148). -/
def Device.seBarcfg (d : Device) (c rd rb : Nat) (immSel : Bool) (imm : Nat) : Device :=
  let b := d.seB c rb immSel imm
  (d.onCore c fun k => { k with bars := SMap.put k.bars (rd % 8) (b % 256) 0 }).recent (.barcfg c (rd % 8) ((d.core c).bar (rd % 8)))

/-- SEMRD: the semaphore as it stands at the end of the cycle (R139). -/
def Device.seSemrd (d : Device) (c rd rb : Nat) (immSel : Bool) (imm : Nat) : Device :=
  let b := d.seB c rb immSel imm
  d.onCore c fun k => k.setSreg rd (k.sem (b % 256))

/-- The effect of an SE slot at the issue of its bundle. -/
def Device.seIssue (d : Device) (c op rd ra rb : Nat) (immSel : Bool) (imm : Nat) : Device :=
  match op with
  | 0x01 => d.seWrite c rd ra rb immSel imm add32
  | 0x02 => d.seWrite c rd ra rb immSel imm sub32
  | 0x03 => d.seWrite c rd ra rb immSel imm Nat.land
  | 0x04 => d.seWrite c rd ra rb immSel imm Nat.lor
  | 0x05 => d.seWrite c rd ra rb immSel imm Nat.xor
  | 0x06 => d.seWrite c rd ra rb immSel imm shl32
  | 0x07 => d.seWrite c rd ra rb immSel imm shr32
  | 0x08 => d.seWrite c rd ra rb immSel imm (fun a b => if a < b then 1 else 0)
  | 0x09 => d.seWrite c rd ra rb immSel imm (fun a b => if a = b then 1 else 0)
  | 0x0A => d.seWrite c rd ra rb immSel imm (fun _ b => b)
  | 0x10 => d.seAccess c rd ra rb immSel imm true
  | 0x11 => d.seAccess c rd ra rb immSel imm false
  | 0x20 => d.seBarcfg c rd rb immSel imm
  | 0x21 => d.seSemrd c rd rb immSel imm
  | _ => d

/-- The oldest bank access of the SE completes: a load writes its register, unless the granule is poisoned, which
halts the core (R22); a store writes its word (R139). -/
def Device.seComplete (d : Device) (c : Nat) (ecc : List (Nat × Bool)) : Device :=
  match (d.core c).loads with
  | [] => d
  | x :: rest =>
    let d1 := (d.lmEcc c ecc).onCore c fun k => { k with loads := rest }
    if x.load then
      if (d1.core c).poisonedIn x.addr 4 then d1.coreFault c St.POISON_CONSUMED (faultDetail 4 0 0 (x.addr / 32))
      else ((d1.looked c).onCore c fun k => k.setSreg x.rd ((d1.seen c).readNat x.addr 4)).recent (.loaded c x.rd)
    else d1.onCore c fun k => k.write x.addr (leBytes x.value 4)

/-! ### The commands -/

/-- A slot action of a core that takes part in the stream; a halted, quarantined or unplaced core's slots take no
effect (R153). -/
def Device.ifActive (d : Device) (c : Nat) (f : Device → Device) : Device := if d.active c then f d else d

/-- SE ADD (Table 5-10). -/
def execSeAdd (core : CoreNo) (rd ra rb : SReg) (immSel : Bool) (imm : BitVec 32) (s : State) :
    Host.Outcome State Fault Refusal :=
  s.run fun d => d.ifActive core fun d => d.seWrite core rd ra rb immSel imm.toNat add32

/-- SE SUB (Table 5-10). -/
def execSeSub (core : CoreNo) (rd ra rb : SReg) (immSel : Bool) (imm : BitVec 32) (s : State) :
    Host.Outcome State Fault Refusal :=
  s.run fun d => d.ifActive core fun d => d.seWrite core rd ra rb immSel imm.toNat sub32

/-- SE AND (Table 5-10). -/
def execSeAnd (core : CoreNo) (rd ra rb : SReg) (immSel : Bool) (imm : BitVec 32) (s : State) :
    Host.Outcome State Fault Refusal :=
  s.run fun d => d.ifActive core fun d => d.seWrite core rd ra rb immSel imm.toNat Nat.land

/-- SE OR (Table 5-10). -/
def execSeOr (core : CoreNo) (rd ra rb : SReg) (immSel : Bool) (imm : BitVec 32) (s : State) :
    Host.Outcome State Fault Refusal :=
  s.run fun d => d.ifActive core fun d => d.seWrite core rd ra rb immSel imm.toNat Nat.lor

/-- SE XOR (Table 5-10). -/
def execXor (core : CoreNo) (rd ra rb : SReg) (immSel : Bool) (imm : BitVec 32) (s : State) :
    Host.Outcome State Fault Refusal :=
  s.run fun d => d.ifActive core fun d => d.seWrite core rd ra rb immSel imm.toNat Nat.xor

/-- SE SHL (Table 5-10). -/
def execShl (core : CoreNo) (rd ra rb : SReg) (immSel : Bool) (imm : BitVec 32) (s : State) :
    Host.Outcome State Fault Refusal :=
  s.run fun d => d.ifActive core fun d => d.seWrite core rd ra rb immSel imm.toNat shl32

/-- SE SHR (Table 5-10). -/
def execShr (core : CoreNo) (rd ra rb : SReg) (immSel : Bool) (imm : BitVec 32) (s : State) :
    Host.Outcome State Fault Refusal :=
  s.run fun d => d.ifActive core fun d => d.seWrite core rd ra rb immSel imm.toNat shr32

/-- SE SLTU (Table 5-10). -/
def execSltu (core : CoreNo) (rd ra rb : SReg) (immSel : Bool) (imm : BitVec 32) (s : State) :
    Host.Outcome State Fault Refusal :=
  s.run fun d => d.ifActive core fun d => d.seWrite core rd ra rb immSel imm.toNat (fun a b => if a < b then 1 else 0)

/-- SE SEQ (Table 5-10). -/
def execSeq (core : CoreNo) (rd ra rb : SReg) (immSel : Bool) (imm : BitVec 32) (s : State) :
    Host.Outcome State Fault Refusal :=
  s.run fun d => d.ifActive core fun d => d.seWrite core rd ra rb immSel imm.toNat (fun a b => if a = b then 1 else 0)

/-- SE MOV (Table 5-10). -/
def execMov (core : CoreNo) (rd rb : SReg) (immSel : Bool) (imm : BitVec 32) (s : State) :
    Host.Outcome State Fault Refusal :=
  s.run fun d => d.ifActive core fun d => d.seWrite core rd rb rb immSel imm.toNat (fun _ b => b)

/-- SE LD32 (Table 5-10, R139). -/
def execLd32 (core : CoreNo) (rd ra rb : SReg) (immSel : Bool) (imm : BitVec 32) (s : State) :
    Host.Outcome State Fault Refusal :=
  s.run fun d => d.ifActive core fun d => d.seAccess core rd ra rb immSel imm.toNat true

/-- SE ST32 (Table 5-10, R139). -/
def execSt32 (core : CoreNo) (rd ra rb : SReg) (immSel : Bool) (imm : BitVec 32) (s : State) :
    Host.Outcome State Fault Refusal :=
  s.run fun d => d.ifActive core fun d => d.seAccess core rd ra rb immSel imm.toNat false

/-- SE BARCFG (Table 5-10, R148). -/
def execBarcfg (core : CoreNo) (bar : BarNo) (rb : SReg) (immSel : Bool) (imm : BitVec 32) (s : State) :
    Host.Outcome State Fault Refusal :=
  s.run fun d => d.ifActive core fun d => d.seBarcfg core bar rb immSel imm.toNat

/-- SE SEMRD (Table 5-10, R139). -/
def execSemrd (core : CoreNo) (rd rb : SReg) (immSel : Bool) (imm : BitVec 32) (s : State) :
    Host.Outcome State Fault Refusal :=
  s.run fun d => d.ifActive core fun d => d.seSemrd core rd rb immSel imm.toNat

end Sys2Proof.Machine
end

