-- ==== Sys2Proof/Machine/Queues.lean ====
section
/-!
DEFINITION. The engine queues (Table 5-1): an operation enters its engine's queue when its bundle issues (R130, R131,
R487).
-/

namespace Sys2Proof.Machine

/-- Queue depths (Table 5-1). -/
def teDepth : Nat := 4
def veDepth : Nat := 8
def deDepth : Nat := 4
def loadDepth : Nat := 2

/-- A TE operation enters the TE queue, with the address and the bundle counter of the bundle that issues. -/
def Device.tePush (d : Device) (c op : Nat) (sr : Bool) (done : Option Nat) (operands : Nat) : Device :=
  let o : TeOp := ⟨op, sr, done, operands, d.strm.skid.headD d.strm.nextAddr, d.strm.count⟩
  d.onCore c fun k => { k with teQueue := k.teQueue ++ [o] }

/-- A VE operation enters the VE queue. -/
def Device.vePush (d : Device) (c : Nat) (o : VeOp) : Device :=
  d.onCore c fun k => { k with veQueue := k.veQueue ++ [o] }

/-- A DE operation enters its channel's queue, with the bundle that issues. -/
def Device.dePush (d : Device) (c ch : Nat) (o : DeOp) : Device :=
  let o1 := { o with bundle := d.strm.count, addr := d.strm.skid.headD d.strm.nextAddr }
  d.onCore c fun k => k.setChan ch (k.chan ch ++ [o1])

/-- Room freed in the last three cycles, which R110 does not count. -/
def Stream.recentRoom (s : Stream) (c q : Nat) : Nat :=
  (s.recent.filter (fun p => p.2 == .room c q)).length

/-- A semaphore's judged value: external raises of the last three cycles are not seen (R110, R111). -/
def Device.judgedSem (d : Device) (c sem : Nat) : Nat :=
  (d.core c).sem sem -
    (d.strm.recent.map (fun p => match p.2 with
      | .raise c' s n => if c' = c ∧ s = sem then n else 0
      | _ => 0)).sum

/-- A barrier's judged participant count: what it was before the sets of the last three cycles (R110). -/
def Device.judgedBar (d : Device) (c b : Nat) : Nat :=
  ((d.strm.recent.filterMap (fun p => match p.2 with
    | .barcfg c' b' old => if c' = c ∧ b' = b then some old else none
    | _ => none)).getLast?).getD ((d.core c).bar b)

/-- Judged occupancy of the queues. -/
def Device.teFull (d : Device) (c : Nat) : Bool := teDepth ≤ (d.core c).teQueue.length + d.strm.recentRoom c 0
def Device.veFull (d : Device) (c : Nat) : Bool := veDepth ≤ (d.core c).veQueue.length + d.strm.recentRoom c 1
def Device.deFull (d : Device) (c ch : Nat) : Bool :=
  deDepth ≤ ((d.core c).chan ch).length + d.strm.recentRoom c (2 + ch)

/-- Registers whose load is in flight, or was within the judging delay. -/
def Device.loading (d : Device) (c : Nat) : List Nat :=
  ((d.core c).loads.filter (·.load)).map (·.rd) ++
    d.strm.recent.filterMap (fun p => match p.2 with | .loaded c' r => if c' = c then some r else none | _ => none)

/-- The registers an SE operation reads. -/
def seReads (op rd ra rb : Nat) (immSel : Bool) : List Nat :=
  let b := if immSel then [] else [rb]
  match op with
  | 0x0A => b
  | 0x20 => b
  | 0x21 => b
  | 0x11 => rd :: ra :: b
  | _ => ra :: b

/-- The SE slot must wait (R131): it reads a register whose load is in flight, or it is a load and two are in flight. -/
def Device.seWaits (d : Device) (c op rd ra rb : Nat) (immSel : Bool) : Bool :=
  (seReads op rd ra rb immSel).any (fun r => (d.loading c).contains r) ||
    (op == 0x10 && loadDepth ≤ (d.loading c).length)

/-! ### The commands -/

/-- TE MATMUL_TILE enters the queue (Table 5-3, R136). -/
def execMatmulTile (core : CoreNo) (sr : Bool) (done : Option SemNo) (operands : BitVec 80) (s : State) :
    Host.Outcome State Fault Refusal :=
  s.run fun d => d.ifActive core fun d => d.tePush core 0x01 sr (done.map (·.val)) operands.toNat

/-- TE CONV_TILE enters the queue (Table 5-3, R136). -/
def execConvTile (core : CoreNo) (sr : Bool) (done : Option SemNo) (operands : BitVec 80) (s : State) :
    Host.Outcome State Fault Refusal :=
  s.run fun d => d.ifActive core fun d => d.tePush core 0x02 sr (done.map (·.val)) operands.toNat

/-- TE DRAIN enters the queue (Table 5-3, R137). -/
def execDrain (core : CoreNo) (sr : Bool) (done : Option SemNo) (operands : BitVec 80) (s : State) :
    Host.Outcome State Fault Refusal :=
  s.run fun d => d.ifActive core fun d => d.tePush core 0x03 sr (done.map (·.val)) operands.toNat

/-- VE ADD enters the queue (Table 5-7). -/
def execVeAdd (core : CoreNo) (done : Option SemNo) (operands : BitVec 111) (imm : BitVec 32) (s : State) :
    Host.Outcome State Fault Refusal :=
  s.run fun d => d.ifActive core fun d => d.vePush core ⟨0x01, done.map (·.val), operands.toNat, imm.toNat⟩

/-- VE SUB enters the queue (Table 5-7). -/
def execVeSub (core : CoreNo) (done : Option SemNo) (operands : BitVec 111) (imm : BitVec 32) (s : State) :
    Host.Outcome State Fault Refusal :=
  s.run fun d => d.ifActive core fun d => d.vePush core ⟨0x02, done.map (·.val), operands.toNat, imm.toNat⟩

/-- VE MUL enters the queue (Table 5-7). -/
def execMul (core : CoreNo) (done : Option SemNo) (operands : BitVec 111) (imm : BitVec 32) (s : State) :
    Host.Outcome State Fault Refusal :=
  s.run fun d => d.ifActive core fun d => d.vePush core ⟨0x03, done.map (·.val), operands.toNat, imm.toNat⟩

/-- VE FMA enters the queue (Table 5-7). -/
def execFma (core : CoreNo) (done : Option SemNo) (operands : BitVec 111) (imm : BitVec 32) (s : State) :
    Host.Outcome State Fault Refusal :=
  s.run fun d => d.ifActive core fun d => d.vePush core ⟨0x04, done.map (·.val), operands.toNat, imm.toNat⟩

/-- VE MAX enters the queue (Table 5-7). -/
def execMax (core : CoreNo) (done : Option SemNo) (operands : BitVec 111) (imm : BitVec 32) (s : State) :
    Host.Outcome State Fault Refusal :=
  s.run fun d => d.ifActive core fun d => d.vePush core ⟨0x05, done.map (·.val), operands.toNat, imm.toNat⟩

/-- VE MIN enters the queue (Table 5-7). -/
def execMin (core : CoreNo) (done : Option SemNo) (operands : BitVec 111) (imm : BitVec 32) (s : State) :
    Host.Outcome State Fault Refusal :=
  s.run fun d => d.ifActive core fun d => d.vePush core ⟨0x06, done.map (·.val), operands.toNat, imm.toNat⟩

/-- VE CMP_GT enters the queue (Table 5-7). -/
def execCmpGt (core : CoreNo) (done : Option SemNo) (operands : BitVec 111) (imm : BitVec 32) (s : State) :
    Host.Outcome State Fault Refusal :=
  s.run fun d => d.ifActive core fun d => d.vePush core ⟨0x07, done.map (·.val), operands.toNat, imm.toNat⟩

/-- VE EXP enters the queue (Table 5-7). -/
def execExp (core : CoreNo) (done : Option SemNo) (operands : BitVec 111) (imm : BitVec 32) (s : State) :
    Host.Outcome State Fault Refusal :=
  s.run fun d => d.ifActive core fun d => d.vePush core ⟨0x10, done.map (·.val), operands.toNat, imm.toNat⟩

/-- VE RECIP enters the queue (Table 5-7). -/
def execRecip (core : CoreNo) (done : Option SemNo) (operands : BitVec 111) (imm : BitVec 32) (s : State) :
    Host.Outcome State Fault Refusal :=
  s.run fun d => d.ifActive core fun d => d.vePush core ⟨0x11, done.map (·.val), operands.toNat, imm.toNat⟩

/-- VE RSQRT enters the queue (Table 5-7). -/
def execRsqrt (core : CoreNo) (done : Option SemNo) (operands : BitVec 111) (imm : BitVec 32) (s : State) :
    Host.Outcome State Fault Refusal :=
  s.run fun d => d.ifActive core fun d => d.vePush core ⟨0x12, done.map (·.val), operands.toNat, imm.toNat⟩

/-- VE RSUM enters the queue (Table 5-7). -/
def execRsum (core : CoreNo) (done : Option SemNo) (operands : BitVec 111) (imm : BitVec 32) (s : State) :
    Host.Outcome State Fault Refusal :=
  s.run fun d => d.ifActive core fun d => d.vePush core ⟨0x20, done.map (·.val), operands.toNat, imm.toNat⟩

/-- VE RMAX enters the queue (Table 5-7). -/
def execRmax (core : CoreNo) (done : Option SemNo) (operands : BitVec 111) (imm : BitVec 32) (s : State) :
    Host.Outcome State Fault Refusal :=
  s.run fun d => d.ifActive core fun d => d.vePush core ⟨0x21, done.map (·.val), operands.toNat, imm.toNat⟩

/-- VE CONVERT enters the queue (Table 5-7, R171). -/
def execConvert (core : CoreNo) (done : Option SemNo) (operands : BitVec 111) (imm : BitVec 32) (s : State) :
    Host.Outcome State Fault Refusal :=
  s.run fun d => d.ifActive core fun d => d.vePush core ⟨0x30, done.map (·.val), operands.toNat, imm.toNat⟩

/-- DE XFER enters its channel's queue (Table 5-11, R487). -/
def execXfer (core : CoreNo) (chan : Fin 16) (done : Option SemNo) (descLine : BitVec 16) (s : State) :
    Host.Outcome State Fault Refusal :=
  s.run fun d => d.ifActive core fun d =>
    d.dePush core chan.val { op := 0x01, done := done.map (·.val), operands := descLine.toNat * 2 ^ 61 }

/-- DE PREFETCH enters its channel's queue (Table 5-11). -/
def execPrefetch (core : CoreNo) (chan : Fin 16) (done : Option SemNo) (descLine : BitVec 16) (s : State) :
    Host.Outcome State Fault Refusal :=
  s.run fun d => d.ifActive core fun d =>
    d.dePush core chan.val { op := 0x02, done := done.map (·.val), operands := descLine.toNat * 2 ^ 61 }

/-- DE FENCE enters its channel's queue (Table 5-11, R487). -/
def execFence (core : CoreNo) (chan : Fin 16) (done : Option SemNo) (s : State) :
    Host.Outcome State Fault Refusal :=
  s.run fun d => d.ifActive core fun d =>
    d.dePush core chan.val { op := 0x03, done := done.map (·.val), operands := 0 }

end Sys2Proof.Machine
end

