-- ==== Sys2Proof/Machine/Engine.lean ====
section
/-!
DEFINITION. What the tensor and vector engines share: packed elements in local memory (R158), the stop that a bad
operand gives (R153), quarantine (R370), the accumulator sets, and the writing of results.
-/

namespace Sys2Proof.Machine

/-- The element with index `i` of a packed array of `bits`-bit elements at byte `base` (R158). -/
def Core.element (k : Core) (bits base i : Nat) : Nat :=
  let o := bits * i
  k.readNat (base + o / 8) ((o % 8 + bits + 7) / 8) / 2 ^ (o % 8) % 2 ^ bits

/-- Elements packed into bytes, lowest index in the lowest bits (R158), as a little-endian number. -/
def packNat (bits : Nat) : List Nat → Nat
  | [] => 0
  | v :: t => v % 2 ^ bits + 2 ^ bits * packNat bits t

/-- Pack groups of `n` elements, which fill whole bytes (R158). -/
def packGroups (bits n : Nat) (l : List Nat) : Nat → List Byte
  | 0 => []
  | g + 1 => leBytes (packNat bits (l.take n)) (bits * n / 8) ++ packGroups bits n (l.drop n) g

/-- Pack a list whose length is a multiple of 8. -/
def pack (bits : Nat) (l : List Nat) : List Byte := packGroups bits 8 l (l.length / 8)

/-- An operation whose operands stop its core: the code, and the granule involved. -/
structure Stop where
  code : Code
  granule : Nat := 0
deriving DecidableEq, Repr

/-- What an operation reads or writes: byte address and length. -/
abbrev Span := Nat × Nat

/-- A span lies inside local memory. -/
def inLocal (s : Span) : Bool := s.1 + s.2 ≤ lmSize

/-- The stop of a set of ranges: past the end of local memory (0x0408), then a poisoned granule that is read (0x0404,
R22). -/
def Core.rangeStop (k : Core) (reads writes : List Span) : Option Stop :=
  match (reads ++ writes).find? (fun s => !inLocal s) with
  | some s => some ⟨St.OPERAND_INVALID, s.1 / 32⟩
  | none => (reads.findSome? (fun s => k.firstPoison s.1 s.2)).map (fun g => ⟨St.POISON_CONSUMED, g⟩)

/-- The contents of an accumulator set. -/
def Core.accSet (k : Core) (set : Nat) : SMap Nat := if set = 0 then k.acc0 else k.acc1

/-- Replace an accumulator set. -/
def Core.setAcc (k : Core) (set : Nat) (m : SMap Nat) : Core :=
  if set = 0 then { k with acc0 := m } else { k with acc1 := m }

/-- A set's contents from its 8,192 elements in order: zero elements are not listed. -/
def accOf (l : List Nat) : SMap Nat := (List.zipIdx l).filterMap (fun p => if p.1 = 0 then none else some (p.2, p.1))

/-- Put a core out of service (R25, R370): it is quarantined until the next cold Trailhead, and a core of the running
variant needs a new variant, hence a chip warm restart. -/
def Device.quarantine (d : Device) (c : Nat) (code : Code) : Device :=
  let d1 := d.wrAll [(Reg.QUARANTINE_MASK, setBit (d.rd Reg.QUARANTINE_MASK) c true), (Reg.CORE_STATE c, coreQuarantined)]
  if bitAt d.strm.coreMask c then d1.demandChip code else d1

/-- The core with an operation's results in its local memory, accumulators, row state and registers. -/
def Core.applied (k : Core) (r : EngineResult) : Core :=
  let k1 := r.writes.foldl (fun k w => k.write w.1 w.2) k
  let k2 := r.sets.foldl (fun k s => k.setAcc s.1 s.2) k1
  let k3 := match r.attn with | some a => { k2 with rows := a.1, nodeInc := a.2 } | none => k2
  let k4 := match r.anc with | some a => { k3 with anc := a } | none => k3
  match r.reg with | some p => k4.setSreg p.1 p.2 | none => k4

/-- Results reach local memory, the accumulators and the registers; the events are counted (R178). -/
def Device.applyResult (d : Device) (c : Nat) (r : EngineResult) : Device :=
  let d1 := d.onCore c fun k => k.applied r
  let d2 := ((d1.addSat 32 (Reg.NAN_RESULTS c) r.nans).addSat 32 (Reg.INF_RESULTS c) r.infs).addSat 32 (Reg.SATURATIONS c) r.sats
  (((d2.tally St.ARITH_NAN c r.nans).tally St.ARITH_INF c r.infs).tally St.ARITH_SATURATED c r.sats).addSat 32
    (Reg.HAMPER_EVENTS 7) r.incomplete

/-- A completion raises its DONE_SEM, if it has one (Table 5-13). -/
def Device.raiseDone (d : Device) (c engine chan : Nat) (done : Option Nat) : Device :=
  match done with
  | some s => d.raiseSem c s engine chan
  | none => d

/-- An operation with this RND rounds stochastically: STOCHASTIC_ALLOWED is not 0 (R176). -/
def Device.stirs (d : Device) (rnd : Bool) : Bool := rnd && d.rd Reg.STOCHASTIC_ALLOWED == 1

/-- How an operation of core `k` rounds its result number `i`: a stochastic rounding draws r from the core's own generator
(R174 to R176). -/
def Device.rounding (d : Device) (k : Core) (rnd : Bool) (i : Nat) : Rounding :=
  if d.stirs rnd then .stochastic (Config.generatorDraw k.lfsr i).toNat else .nearest

/-- The generator after an operation with this RND has drawn for its `n` results (R175). -/
def Device.stir (d : Device) (c n : Nat) (rnd : Bool) : Device :=
  if d.stirs rnd then d.onCore c fun k => { k with lfsr := (Config.generatorAfter k.lfsr n).toNat } else d

/-- A result as its operation starts: with local memory and the setting of R176 as they then stand. -/
def Device.begun (d : Device) (k : Core) (r : EngineResult) : EngineResult :=
  { r with before := k.lm, allowed := d.rd Reg.STOCHASTIC_ALLOWED == 1 }

/-- Since the operation's start no other engine has changed local memory, and none is writing it. -/
def Core.quiet (k : Core) (r : EngineResult) : Bool := r.before == k.lm && k.soon == k.lm

/-- The result with which an operation of core `c` completes: the one formed at its start, unless another engine has
written or is writing meanwhile. Then each line it read held the data of its start, the present data or the data being
written (R135), and `f` forms the result anew, under the setting of its start (R176). -/
def Device.finalResult (d : Device) (c : Nat) (r : EngineResult) (f : Device → Core → EngineResult) : EngineResult :=
  let k := d.core c
  if k.quiet r then r
  else f (d.wr Reg.STOCHASTIC_ALLOWED (bit1 r.allowed))
    { k with lm := mixLines [r.before, k.lm, k.soon] (fun l => (Config.draw 8 (d.draws + 16384 + l)).toNat) }

/-- What was chosen for the result has been drawn. -/
def Device.finalDraw (d : Device) (c : Nat) (r : EngineResult) : Device :=
  if (d.core c).quiet r then d else d.drew 81920

end Sys2Proof.Machine
end

