-- ==== Sys2Proof/Machine/Tensor.lean ====
section
/-!
DEFINITION. The tensor engine's tile operations and DRAIN (Tables 5-3 to 5-6, chapter 6): judging of operands and
records, expansion of operands (R157 to R163, R166), accumulation (R164, R165), and the drain's conversions (R171 to
R173).
-/

namespace Sys2Proof.Machine

/-! ### Operand records (Table 6-5) -/

/-- The operand record at byte `a` breaks Table 6-5. -/
def Core.recordBad (k : Core) (a : Nat) : Bool :=
  k.readNat a 4 % 4 != 0 || k.readNat (a + 4) 4 % 4 != 0 || k.readNat (a + 20) 2 / 4 != 0 || k.readNat (a + 22) 42 != 0

/-- One operand of a tile operation: its format, where its elements lie, and its scales. -/
structure Operand where
  fmt : Nat
  base : Nat
  /-- Elements of one k: 128 for A, 64 for B. -/
  width : Nat
  scales : Nat
  chan : Bool
  tile : Nat
deriving DecidableEq, Repr

/-- The block index of k in a format (R161). -/
def blockOf (fmt k : Nat) : Nat := if isMx fmt then k / 32 else k / 16

/-- The block scale bytes that an operand of K steps of k uses. -/
def Operand.scaleSpan (o : Operand) (kk : Nat) : List Span :=
  if isMx o.fmt then [(o.scales, o.width * (kk / 32))]
  else if isNk o.fmt then [(o.scales, o.width * (kk / 16))]
  else if o.chan && o.fmt ≤ 1 then [(o.scales, 4 * o.width)]
  else []

/-- The scale of index `i` at step k: block or channel scale (R161, R166). A_CHAN or B_CHAN set for an operand that is not
INT8 or INT4 has no effect: Table 6-5 does not say whether it breaks the record (DESIGN CHOICE, log 103). -/
def Core.operandScale (c : Core) (o : Operand) (k i : Nat) : Num :=
  if isMx o.fmt then e8m0 (c.readNat (o.scales + o.width * blockOf o.fmt k + i) 1)
  else if isNk o.fmt then nkScale (c.readNat (o.scales + o.width * blockOf o.fmt k + i) 1)
  else if o.chan && o.fmt ≤ 1 then f32Scale (c.readNat (o.scales + 4 * i) 4)
  else .fin false 1 1 0

/-- The expanded value of a raw element (R161). -/
def Core.expand (c : Core) (o : Operand) (k i raw : Nat) : Num :=
  ((elementValue o.fmt raw).mul (c.operandScale o k i)).mul (f32Scale o.tile)

/-- The operand meets a condition of R166: an unusable block, channel or tile scale. -/
def Core.badScales (c : Core) (o : Operand) (kk : Nat) : Bool :=
  f32Scale o.tile == .nan ||
  (if isMx o.fmt then (c.read o.scales (o.width * (kk / 32))).any (fun b => e8m0 b.toNat == .nan)
   else if isNk o.fmt then (c.read o.scales (o.width * (kk / 16))).any (fun b => nkScale b.toNat == .nan)
   else if o.chan && o.fmt ≤ 1 then (List.range o.width).any (fun i => f32Scale (c.readNat (o.scales + 4 * i) 4) == .nan)
   else false)

/-! ### Convolution addressing (Table 5-5) -/

/-- The im2col record at byte `a` breaks Table 5-5, or its K is not `kk`. -/
def Core.im2colBad (c : Core) (a kk : Nat) : Bool :=
  let kw := c.readNat (a + 10) 1
  let kh := c.readNat (a + 11) 1
  let st := c.readNat (a + 12) 1
  kw == 0 || 15 < kw || kh == 0 || 15 < kh || st % 16 == 0 || st / 16 == 0 || 7 < c.readNat (a + 13) 1 ||
    c.readNat (a + 20) 44 != 0 || kh * kw * c.readNat (a + 8) 2 != kk

/-- The input map's index of output pixel `i` at step k, none on the zero border. -/
def Core.im2colIndex (c : Core) (a i k : Nat) : Option Nat :=
  let w := c.readNat (a + 4) 2
  let h := c.readNat (a + 6) 2
  let ch := c.readNat (a + 8) 2
  let kw := c.readNat (a + 10) 1
  let st := c.readNat (a + 12) 1
  let pad := c.readNat (a + 13) 1
  let ow := c.readNat (a + 18) 2
  let p := c.readNat (a + 14) 2 + i
  let x := p % ow * (st % 16) + k / ch % kw
  let y := (c.readNat (a + 16) 2 + p / ow) * (st / 16) + k / ch / kw
  if pad ≤ x ∧ x < w + pad ∧ pad ≤ y ∧ y < h + pad then some (((y - pad) * w + (x - pad)) * ch + k % ch) else none

/-! ### One tile operation -/

/-- A tile operation with its operands read: enough to work out every product. -/
structure Tile where
  kk : Nat
  conv : Bool
  a : Operand
  b : Operand
  /-- B's 2:4 metadata, when SPARSE_B is set. -/
  sparse : Option Nat
  acc : Bool
  set : Nat
deriving DecidableEq, Repr

/-- The tile operation that the operand bits and the record name. -/
def Core.tile (c : Core) (conv : Bool) (o : Nat) : Tile :=
  let m := tileMeta o * 32
  let flags := c.readNat (m + 20) 2
  { kk := 32 * tileK o, conv := conv
    a := ⟨tileFmtA o, tileA o * 32, 128, c.readNat m 4, bitAt flags 0, c.readNat (m + 12) 4⟩
    b := ⟨tileFmtB o, tileB o * 32, 64, c.readNat (m + 4) 4, bitAt flags 1, c.readNat (m + 16) 4⟩
    sparse := if tileSparse o then some (c.readNat (m + 8) 4) else none
    acc := tileAcc o, set := tileSet o }

/-- The 16-bit class (Table 6-1). -/
def is16 (f : Nat) : Bool := f == 4 || f == 5

/-- TE input formats (Table 6-1) with the pairing rule of R156. -/
def tileFormatsOk (fa fb : Nat) : Bool := fa != 6 && fa != 15 && fb != 6 && fb != 15 && is16 fa == is16 fb

/-- The raw element of A in row i at step k; the border of a convolution is 0. -/
def Core.rawA (c : Core) (t : Tile) (k i : Nat) : Nat :=
  if t.conv then
    match c.im2colIndex t.a.base i k with
    | some n => c.element (elementBits t.a.fmt) (c.readNat t.a.base 4) n
    | none => 0
  else c.element (elementBits t.a.fmt) t.a.base (k * 128 + i)

/-- The metadata nibble of column j of the group of four that k lies in (R162). -/
def Core.nibble (c : Core) (m q j : Nat) : Nat := c.readNat (m + 32 * q + j / 2) 1 / (if j % 2 = 0 then 1 else 16) % 16

/-- The raw element of B in column j at step k, none where 2:4 sparsity keeps none (R162). -/
def Core.rawB (c : Core) (t : Tile) (k j : Nat) : Option Nat :=
  match t.sparse with
  | none => some (c.element (elementBits t.b.fmt) t.b.base (k * 64 + j))
  | some m =>
    let n := c.nibble m (k / 4) j
    if n % 4 = k % 4 then some (c.element (elementBits t.b.fmt) t.b.base (2 * (k / 4) * 64 + j))
    else if n / 4 = k % 4 then some (c.element (elementBits t.b.fmt) t.b.base ((2 * (k / 4) + 1) * 64 + j))
    else none

/-- The product of A[k][i] and B[k][j], exact (R164). An element that sparsity drops is exactly zero. -/
def Core.product (c : Core) (t : Tile) (k i j : Nat) : Num :=
  let a := c.expand t.a k i (c.rawA t k i)
  let b := match c.rawB t k j with
    | some raw => c.expand t.b k j raw
    | none => ((Num.zero false).mul (c.operandScale t.b k j)).mul (f32Scale t.b.tile)
  a.mul b

/-- The exact sum of the products of group g of `n` steps. -/
def Core.group (c : Core) (t : Tile) (n g i j : Nat) : Num :=
  sumExact ((List.range n).map (fun k => c.product t (g * n + k) i j))

/-- The accumulator element after every group, from its starting value (R164). In the 8-bit and 4-bit classes the group sum
is rounded only with the addition, as R164 says: a sum beyond the FP32 range is then infinite (R165) unless the accumulator
brings it back (DESIGN CHOICE, log 103). -/
def Core.accumulate (c : Core) (t : Tile) (start i j : Nat) : Nat :=
  let wide := is16 t.a.fmt
  let n := if wide then 8 else 32
  (List.range (t.kk / n)).foldl
    (fun acc g =>
      let s := c.group t n g i j
      toF32 ((ofF32 acc).add (if wide then ofF32 (toF32 s) else s))) start

/-- Ranges that a tile operation reads beyond its record. -/
def Core.tileReads (c : Core) (t : Tile) : List Span :=
  let bitsA := elementBits t.a.fmt
  let bitsB := elementBits t.b.fmt
  let mapElems := c.readNat (t.a.base + 4) 2 * c.readNat (t.a.base + 6) 2 * c.readNat (t.a.base + 8) 2
  [(if t.conv then (c.readNat t.a.base 4, (mapElems * bitsA + 7) / 8) else (t.a.base, t.kk * 16 * bitsA)),
   (t.b.base, (if t.sparse.isSome then t.kk / 2 else t.kk) * 8 * bitsB)] ++
    t.a.scaleSpan t.kk ++ t.b.scaleSpan t.kk ++
    (match t.sparse with | some m => [(m, 8 * t.kk)] | none => [])

/-- An even granule (Table 5-4). -/
def evenGranule (g : Nat) : Bool := g % 2 == 0

/-- The first granule of metadata whose nibble has its first position not below its second (R163). -/
def Core.badNibble (c : Core) (t : Tile) : Option Nat :=
  match t.sparse with
  | none => none
  | some m =>
    ((List.range (t.kk / 4 * 64)).find? (fun n =>
      let b := c.nibble m (n / 64) (n % 64)
      b / 4 ≤ b % 4)).map (fun n => (m + 32 * (n / 64) + n % 64 / 2) / 32)

/-- Why a tile operation stops its core when it starts, if it does: the records first, then the ranges they name. -/
def Core.tileStop (c : Core) (conv : Bool) (o : Nat) : Option Stop :=
  let a := tileA o * 32
  let m := tileMeta o * 32
  if !(evenGranule (tileA o) && evenGranule (tileB o) && evenGranule (tileMeta o)) || tileK o == 0 ||
      !tileFormatsOk (tileFmtA o) (tileFmtB o) then some ⟨St.OPERAND_INVALID, tileA o⟩ else
  match c.rangeStop ((m, 64) :: (if conv then [(a, 64)] else [])) [] with
  | some s => some s
  | none =>
    if c.recordBad m then some ⟨St.OPERAND_INVALID, m / 32⟩
    else if conv && c.im2colBad a (32 * tileK o) then some ⟨St.OPERAND_INVALID, a / 32⟩
    else
      let t := c.tile conv o
      match c.rangeStop (c.tileReads t) [] with
      | some s => some s
      | none => (c.badNibble t).map (fun g => ⟨St.SPARSE_META_INVALID, g⟩)

/-- An FP32 code is a NaN; an infinity. -/
def f32Nan (v : Nat) : Bool := ofF32 v == .nan
def f32Inf (v : Nat) : Bool :=
  match ofF32 v with
  | .inf _ => true
  | _ => false

/-- Elements of a set that become NaN, and that become infinite, where they were not (R165). -/
def newNans (old new : List Nat) : Nat := ((List.zip old new).filter (fun p => f32Nan p.2 && !f32Nan p.1)).length
def newInfs (old new : List Nat) : Nat := ((List.zip old new).filter (fun p => f32Inf p.2 && !f32Inf p.1)).length

/-- The 8,192 elements of a set in order. -/
def accList (m : SMap Nat) : List Nat := SMap.getList m 0 0 8192

/-- The integer path of R360, as far as formats and scales decide it. -/
def Tile.integers (t : Tile) : Bool :=
  t.a.fmt ≤ 1 && t.b.fmt ≤ 1 && !t.a.chan && !t.b.chan && t.a.tile == 0x3F800000 && t.b.tile == 0x3F800000

/-- The result of a tile operation. Where an im2col record names an output of width 0 the spec gives no pixel order, so
every element is a free value. -/
def Device.tileResult (d : Device) (c : Core) (t : Tile) : EngineResult :=
  let old := if t.acc then accList (c.accSet t.set) else List.replicate 8192 0
  let new :=
    if t.conv && c.readNat (t.a.base + 18) 2 == 0 then (List.range 8192).map (fun n => (Config.draw 32 (d.draws + n)).toNat)
    else (List.zipIdx old).map (fun p => c.accumulate t p.1 (p.2 / 64) (p.2 % 64))
  { sets := [(t.set, accOf new)], nans := newNans old new, infs := newInfs old new, intPath := t.integers }

/-! ### DRAIN (Tables 5-6, 6-8) -/

/-- Bytes that a DRAIN writes, padding included (Table 6-8). -/
def drainBytes (f : Nat) : Nat :=
  match f with
  | 0x6 => 32768 | 0x4 => 16384 | 0x5 => 16384 | 0x1 => 4096
  | 0x7 => 8448 | 0x8 => 8448 | 0x9 => 8448 | 0xA => 6400 | 0xB => 6400 | 0xC => 4352
  | 0xD => 8736 | 0xE => 4640 | _ => 8192

/-- The element format of a block-scaled format, and the exponent of its largest power of two (R173). -/
def elementFmt (f : Nat) : FloatFmt :=
  match f with
  | 0x8 => e4m3 | 0x9 => e5m2 | 0xA => e3m2 | 0xB => e2m3 | 0xD => e4m3 | _ => e2m1
def elementEmax (f : Nat) : Int :=
  match f with
  | 0x8 => 8 | 0x9 => 15 | 0xA => 4 | 0xB => 2 | 0xC => 2 | _ => 0

/-- The largest finite magnitude of a list (R173): infinities and NaNs do not enter. -/
def largestMag (l : List Num) : Num :=
  l.foldl (fun m x => if x.finite && Num.lt m x.abs then x.abs else m) (.zero false)

/-- What a block drains to: its elements, its scale byte, and the events counted. -/
structure Block where
  elems : List Nat
  scale : Nat
  nans : Nat := 0
  infs : Nat := 0
  sats : Nat := 0
deriving DecidableEq, Repr

/-- Encode one element of a block-scaled format after the division by its scales. -/
def encodeElement (f : Nat) (rnd : Rounding) (x : Num) : Encoded :=
  if f = 7 then encodeInt 8 rnd (x.mul (.fin false 1 1 6)) else (elementFmt f).encode rnd x

/-- A block whose scale is a NaN pattern: the spec states no element codes, so they are free values. -/
def Device.freeBlock (d : Device) (f i scale nans infs n : Nat) : Block :=
  ⟨(List.range n).map (fun j => (Config.draw 8 (d.draws + i + j)).toNat % 2 ^ elementBits f), scale, nans, infs, 0⟩

/-- One MX block of 32 values; `i` numbers its first element (R173). A block with both a NaN and an infinity counts one
0x0502 event and no 0x0503 (DESIGN CHOICE, log 103). -/
def Device.mxBlock (d : Device) (c : Core) (f : Nat) (rnd : Bool) (i : Nat) (l : List Num) : Block :=
  if l.any (· == .nan) then d.freeBlock f i 0xFF 1 0 32
  else if l.any (fun x => !x.finite) then d.freeBlock f i 0xFF 0 1 32
  else
    match largestMag l with
    | .fin _ n dd e =>
      let s : Int := max (-127) (min 127 (floorLog2 n dd e - elementEmax f))
      let es := (List.zipIdx l).map (fun p => encodeElement f (d.rounding c rnd (i + p.2)) (p.1.divPos (.fin false 1 1 s)))
      ⟨es.map (·.code), (s + 127).toNat, 0, 0, (es.filter (·.sat)).length⟩
    | _ => ⟨List.replicate 32 0, 0, 0, 0, 0⟩

/-- The largest element magnitude of an NK format. -/
def nkMax (f : Nat) : Num := if f = 0xD then .fin false 448 1 0 else .fin false 6 1 0

/-- The exponent of the NK tile scale over the whole set, none when no finite value is nonzero (R173). -/
def nkTile (f : Nat) (l : List Num) : Option Int :=
  match (largestMag l).divPos ((nkMax f).mul (.fin false 448 1 0)) with
  | .fin _ n dd e => some (ceilLog2 n dd e)
  | _ => none

/-- One NK block of 16 values under tile scale 2^t (R173). -/
def Device.nkBlock (d : Device) (k : Core) (f : Nat) (rnd : Bool) (t : Int) (i : Nat) (l : List Num) : Block :=
  if l.any (· == .nan) then d.freeBlock f i 0x7F 1 0 16
  else if l.any (fun x => !x.finite) then d.freeBlock f i 0x7F 0 1 16
  else
    match largestMag l with
    | .fin s n dd e =>
      let c := nkScaleFor ((Num.fin s n dd e).divPos ((nkMax f).mul (.fin false 1 1 t)))
      let sc := (e4m3.decode c).mul (.fin false 1 1 t)
      let es := (List.zipIdx l).map (fun p => (elementFmt f).encode (d.rounding k rnd (i + p.2)) (p.1.divPos sc))
      ⟨es.map (·.code), c, 0, 0, 0⟩
    | _ => ⟨List.replicate 16 0, 0, 0, 0, 0⟩

/-- Cut a list into pieces of `n`, with the index of each piece's first item. -/
def chunks {α : Type} (n : Nat) : Nat → Nat → List α → List (Nat × List α)
  | 0, _, _ => []
  | g + 1, i, l => (i, l.take n) :: chunks n g (i + n) (l.drop n)

/-- The FP32 bits of the NK tile scale; below the FP32 range the spec states none. -/
def tileScaleBits (t : Option Int) : Nat :=
  match t with
  | none => 0x3F800000
  | some t => if t < -149 then (Config.tinyTileScale t).toNat else toF32 (.fin false 1 1 t)

/-- The bytes a DRAIN writes, and its events (R171 to R173). -/
def Device.drainResult (d : Device) (c : Core) (vals : List Nat) (f : Nat) (rnd : Bool) : List Byte × Block :=
  let l := vals.map ofF32
  let bits := elementBits f
  if isMx f then
    let bs := (chunks 32 256 0 l).map (fun p => d.mxBlock c f rnd p.1 p.2)
    (pack bits (bs.map (·.elems)).flatten ++ leBytesOf (bs.map (·.scale)), total bs)
  else if isNk f then
    let t := nkTile f l
    let bs := (chunks 16 512 0 l).map (fun p => d.nkBlock c f rnd (t.getD 0) p.1 p.2)
    (padTo (pack bits (bs.map (·.elems)).flatten ++ leBytesOf (bs.map (·.scale)) ++ leBytes (tileScaleBits t) 4) (drainBytes f),
     total bs)
  else
    let es := (List.zipIdx l).map (fun p => encodeVe f (d.rounding c rnd p.2) p.1)
    (pack bits (es.map (·.code)), ⟨[], 0, 0, 0, (es.filter (·.sat)).length⟩)
where
  /-- Block scales, one byte each. -/
  leBytesOf (l : List Nat) : List Byte := l.map (BitVec.ofNat 8)
  /-- The events of all blocks. -/
  total (bs : List Block) : Block :=
    ⟨[], 0, (bs.map (·.nans)).sum, (bs.map (·.infs)).sum, (bs.map (·.sats)).sum⟩

/-- Why a DRAIN stops its core when it starts (R172). -/
def Core.drainStop (c : Core) (o : Nat) : Option Stop :=
  if !evenGranule (drainDst o) || drainFmt o == 15 then some ⟨St.OPERAND_INVALID, drainDst o⟩
  else c.rangeStop [] [(drainDst o * 32, drainBytes (drainFmt o))]

/-- The result of a DRAIN. -/
def Device.drain (d : Device) (c : Core) (o : Nat) : EngineResult :=
  let r := d.drainResult c (accList (c.accSet (drainSet o))) (drainFmt o) (drainRnd o)
  { writes := [(drainDst o * 32, r.1)], sets := if drainKeep o then [] else [(drainSet o, [])]
    nans := r.2.nans, infs := r.2.infs, sats := r.2.sats }

end Sys2Proof.Machine
end

