-- ==== Sys2Proof/Machine/Attention.lean ====
section
/-!
DEFINITION. The fused attention step of the tensor engine (R196 to R207): the attention record, frames as the TE reads
them, which keys a row attends (R198, R199), STEP and INIT_STEP (R200), FINISH (R203), and ACCEPT (R204, R205).
-/

namespace Sys2Proof.Machine

/-- The attention record (Table 7-9). -/
structure AttnRec where
  scale : Nat
  dim : Nat
  heads : Nat
  group : Nat
  fmtQ : Nat
  qScales : Nat
  qTile : Nat
  qPos : Nat
  causal : Bool
  tree : Bool
  nodeBase : Nat
  parents : Nat
  stats : Nat
  nodes : Nat
deriving DecidableEq, Repr

/-- The record at byte `a`. -/
def Core.readRec (c : Core) (a : Nat) : AttnRec :=
  { scale := c.readNat a 4, dim := c.readNat (a + 4) 1, heads := c.readNat (a + 5) 1, group := c.readNat (a + 6) 1
    fmtQ := c.readNat (a + 7) 1, qScales := c.readNat (a + 8) 4, qTile := c.readNat (a + 12) 4, qPos := c.readNat (a + 16) 4
    causal := bitAt (c.readNat (a + 20) 1) 0, tree := bitAt (c.readNat (a + 20) 1) 1, nodeBase := c.readNat (a + 21) 1
    parents := c.readNat (a + 24) 4, stats := c.readNat (a + 28) 4, nodes := c.readNat (a + 32) 1 }

/-- The node of row r (R198). -/
def AttnRec.node (r : AttnRec) (row : Nat) : Nat := r.nodeBase + row / r.group

/-- The record at byte `a` breaks Table 7-9, for an operation of `mode` on `rows` rows. -/
def Core.attnRecBad (c : Core) (a mode rows : Nat) : Bool :=
  let r := c.readRec a
  f32Scale r.scale == .nan || !([32, 64, 96, 128].contains r.dim) || r.group == 0 || 128 < r.group ||
    !([0x2, 0x8, 0xD].contains r.fmtQ) || 32 < r.heads || 2048 < 2 * r.heads * r.dim || c.readNat (a + 20) 1 / 4 != 0 || (r.causal && r.tree) || 127 < r.nodeBase ||
    c.readNat (a + 22) 2 != 0 || c.readNat (a + 33) 31 != 0 || (mode == 2 && r.stats % 4 != 0) ||
    (r.tree && (r.nodes == 0 || 64 < r.nodes || r.nodes < r.node (rows - 1)))

/-! ### Frames (Table 7-7) -/

/-- A frame header. -/
structure FrameHead where
  pos : Nat
  mask : Nat
  status : Nat
  format : Nat
  node0 : Nat
deriving DecidableEq, Repr

/-- The frame header at byte `a`. -/
def Core.frameHead (c : Core) (a : Nat) : FrameHead :=
  ⟨c.readNat a 4, c.readNat (a + 4) 2, c.readNat (a + 6) 1, c.readNat (a + 7) 1, c.readNat (a + 19) 1⟩

/-- Frame status values (Table 7-7). -/
def frameOk : Nat := 0
def frameRecompute : Nat := 1
def frameBeyond : Nat := 2
def frameConflict : Nat := 3
def frameLocal : Nat := 4
def frameCancelled : Nat := 5

/-- The frame carries keys. -/
def FrameHead.live (h : FrameHead) : Bool := h.status == frameOk || h.status == frameLocal

/-- The frame is missing its keys (R199). -/
def FrameHead.missing (h : FrameHead) : Bool :=
  h.status == frameRecompute || h.status == frameConflict || h.status == frameCancelled

/-- Elements of a token row (R179), its element bytes and its block-scale bytes (Table 7-1). -/
def rowElems (h dim : Nat) : Nat := 2 * h * dim
def elemBytes (fmt e : Nat) : Nat := if fmt = 0xE then e / 2 else e
def scaleBytes (e : Nat) : Nat := e / 16

/-- The bytes of a page: 9E + 128 in NK4, 17E + 128 in NK8 (Table 7-1). -/
def pageBytes (fmt e : Nat) : Nat := 16 * (elemBytes fmt e + scaleBytes e) + 128

/-- The value of element `i` of token `t` in a page at byte `p` (R180, R182). -/
def Core.pageElement (c : Core) (p fmt e t i : Nat) : Num :=
  let be := elemBytes fmt e
  let bs := scaleBytes e
  let raw := c.element (if fmt = 0xE then 4 else 8) (p + t * be) i
  ((elementValue (if fmt = 0xE then 14 else 13) raw).mul (nkScale (c.readNat (p + 16 * be + t * bs + i / 16) 1))).mul
    (f32Scale (c.readNat (p + 16 * (be + bs) + 4 * (i / 64)) 4))

/-- A block scale or tile scale that the step reads is unusable (R166). -/
def Core.pageScalesBad (c : Core) (p fmt e : Nat) (ts : List Nat) (lo n : Nat) : Bool :=
  let be := elemBytes fmt e
  let bs := scaleBytes e
  (List.range n).any (fun j =>
    f32Scale (c.readNat (p + 16 * (be + bs) + 4 * ((lo + j) / 64)) 4) == .nan ||
      ts.any (fun t => nkScale (c.readNat (p + 16 * be + t * bs + (lo + j) / 16) 1) == .nan))

/-! ### Which keys a row attends (Table 7-10) -/

/-- Table 7-10 lets row `row` attend token `t` of a frame at positions from `pos`, for a frame of status LOCAL or not. -/
def attends (r : AttnRec) (anc : SMap Nat) (h : FrameHead) (isLocal : Bool) (row t : Nat) : Bool :=
  let n := r.node row
  if r.causal then h.pos + t ≤ r.qPos + n
  else if r.tree then
    if isLocal then bitAt (SMap.getD anc n 0) (h.node0 + t) else h.pos + t < r.qPos
  else true

/-- The tokens of the frame that the row attends (R198). -/
def attended (r : AttnRec) (anc : SMap Nat) (h : FrameHead) (row : Nat) : List Nat :=
  if h.live then (List.range 16).filter (fun t => bitAt h.mask t && attends r anc h (h.status == frameLocal) row t) else []

/-- The row's node becomes incomplete (R199). -/
def rowIncomplete (r : AttnRec) (anc : SMap Nat) (h : FrameHead) (row : Nat) : Bool :=
  h.missing && (List.range 16).any (fun t => bitAt h.mask t && attends r anc h false row t)

/-! ### The tree (R204) -/

/-- The parent vector of N nodes at byte `a` is invalid: a parent byte not below its own node. -/
def Core.parentsBad (c : Core) (a n : Nat) : Bool := (List.range n).any (fun i => i + 1 ≤ c.readNat (a + i) 1)

/-- The ancestor sets anc(0) to anc(n), each as bits over nodes. -/
def Core.ancestors (c : Core) (a : Nat) : Nat → SMap Nat
  | 0 => [(0, 1)]
  | n + 1 =>
    let m := Core.ancestors c a n
    m ++ [(n + 1, SMap.getD m (c.readNat (a + n) 1) 0 + 2 ^ (n + 1))]

/-! ### STEP and INIT_STEP (R200) -/

/-- The value of Q's row `row` at dimension k. -/
def Core.qValue (c : Core) (r : AttnRec) (q k row : Nat) : Num :=
  c.expand ⟨r.fmtQ, q, 128, r.qScales, false, r.qTile⟩ k row (c.element 8 q (k * 128 + row))

/-- The dot product of a query row and a key, in groups of 32 dimensions (R164, R200). -/
def Core.dot (c : Core) (r : AttnRec) (q page fmt head row t : Nat) : Nat :=
  let e := rowElems r.heads r.dim
  (List.range (r.dim / 32)).foldl
    (fun acc g =>
      toF32 ((ofF32 acc).add (sumExact ((List.range 32).map (fun j =>
        (c.qValue r q (g * 32 + j) row).mul (c.pageElement page fmt e t (head * r.dim + g * 32 + j))))))) 0

/-- exp of a difference, as the exponent unit gives it (R200, Table 6-6). -/
def expDiff (a b : Nat) : Nat := expF32 (toF32 ((ofF32 a).add (ofF32 b).neg))

/-- What a step does to one row: alpha, the weights p of the tokens attended, and the new m and l. -/
structure RowStep where
  alpha : Nat
  weights : List (Nat × Num)
  state : RowState
deriving DecidableEq, Repr

/-- Minus infinity, and one, in binary32. -/
def f32MinusInf : Nat := 0xFF800000
def f32One : Nat := 0x3F800000

/-- A row's step over the scores of its attended tokens. -/
def rowStep (s : RowState) (scores : List (Nat × Nat)) : RowStep :=
  let mNew := toF32 (scores.foldl (fun m p => Num.max m (ofF32 p.2)) (ofF32 s.m))
  let alpha := if s.m = mNew then f32One else if s.m = f32MinusInf then 0 else expDiff s.m mNew
  let ps := scores.map (fun p => (p.1, e4m3.decode (e4m3.encode .nearest (ofF32 (expDiff p.2 mNew))).code))
  let l := ps.foldl (fun l p => toF32 ((ofF32 l).add p.2)) (toF32 ((ofF32 alpha).mul (ofF32 s.l)))
  ⟨alpha, ps, ⟨mNew, l⟩⟩

/-- The row state that an INIT_STEP gives every row. -/
def initRow : RowState := ⟨f32MinusInf, 0⟩

/-- The result of a STEP (`init` false) or an INIT_STEP. -/
def Core.attnStep (c : Core) (init : Bool) (o : Nat) : EngineResult :=
  let r := c.readRec (attnRec o * 32)
  let h := c.frameHead (attnFrame o * 32)
  let page := attnFrame o * 32 + 64
  let e := rowElems r.heads r.dim
  let rows := attnRows o
  let head := attnHead o
  let anc := if init && r.tree then c.ancestors r.parents r.nodes else if init then [] else c.anc
  let oldState (row : Nat) : RowState := if init then initRow else SMap.getD c.rows row {}
  let steps := (List.range 128).map (fun row =>
    let ts := if row < rows then attended r anc h row else []
    if ts = [] then none
    else some (rowStep (oldState row) (ts.map (fun t =>
      (t, toF32 ((ofF32 r.scale).mul (ofF32 (c.dot r (attnQ o * 32) page h.format head row t))))))))
  let newSet (set : Nat) : List Nat × List Nat :=
    let old := if init then List.replicate 8192 0 else accList (c.accSet set)
    (old, (List.zipIdx old).map (fun p =>
      let dim := 64 * set + p.2 % 64
      match steps.getD (p.2 / 64) none with
      | none => p.1
      | some st =>
        if r.dim ≤ dim then p.1
        else toF32 ((ofF32 (toF32 ((ofF32 st.alpha).mul (ofF32 p.1)))).add
          (sumExact (st.weights.map (fun w =>
            w.2.mul (c.pageElement page h.format e w.1 (r.heads * r.dim + head * r.dim + dim))))))))
  let s0 := newSet 0
  let s1 := newSet 1
  let state := (List.range 128).map (fun row => match steps.getD row none with | some st => st.state | none => oldState row)
  let inc := (List.range rows).foldl (fun b row => if rowIncomplete r anc h row then setBit b (r.node row) true else b)
    (if init then 0 else c.nodeInc)
  { sets := [(0, accOf s0.2), (1, accOf s1.2)]
    attn := some ((List.zipIdx state).filterMap (fun p => if p.1 = {} then none else some (p.2, p.1)), inc)
    anc := if init then some anc else none
    nans := newNans s0.1 s0.2 + newNans s1.1 s1.2, infs := newInfs s0.1 s0.2 + newInfs s1.1 s1.2 }

/-- A step meets a scale condition of R166 in what it reads: the scales of all 128 rows of Q and of every masked token of
the frame, attended or not (DESIGN CHOICE, log 103). -/
def Core.attnBadScales (c : Core) (o : Nat) : Bool :=
  let r := c.readRec (attnRec o * 32)
  let h := c.frameHead (attnFrame o * 32)
  let ts := (List.range 16).filter (bitAt h.mask)
  h.live && (c.badScales ⟨r.fmtQ, attnQ o * 32, 128, r.qScales, false, r.qTile⟩ r.dim ||
    c.pageScalesBad (attnFrame o * 32 + 64) h.format (rowElems r.heads r.dim) ts (attnHead o * r.dim) r.dim ||
    c.pageScalesBad (attnFrame o * 32 + 64) h.format (rowElems r.heads r.dim) ts (r.heads * r.dim + attnHead o * r.dim) r.dim)

/-! ### FINISH (R203) -/

/-- A quotient within 1 ULP of o / l (R201); which of the allowed values is open. -/
def divF32 (o l pick : Nat) : Nat :=
  match ofF32 o, ofF32 l with
  | .fin s n d e, .fin false n' d' e' =>
    let lo := f32Floor (n * d') (d * n') (e - e')
    let r := if pick % 2 = 0 then lo else lo + 1
    fp32.signed s (min r 0x7F800000)
  | x, .inf _ => match x with | .nan => 0x7FC00000 | .inf _ => 0x7FC00000 | _ => 0
  | .nan, _ => 0x7FC00000
  | _, .nan => 0x7FC00000
  | .inf s, y => fp32.signed (s != y.isNeg) 0x7F800000
  | .zero _, _ => 0
  | .fin s n d e, .fin true n' d' e' => fp32.signed (!s) (f32Floor (n * d') (d * n') (e - e'))
  | .fin s _ _ _, .zero t => fp32.signed (s != t) 0x7F800000

/-- The result of a FINISH. -/
def Device.attnFinish (d : Device) (c : Core) (o : Nat) : EngineResult :=
  let r := c.readRec (attnRec o * 32)
  let rows := attnRows o
  let newSet (set : Nat) : List Nat × List Nat :=
    let old := accList (c.accSet set)
    (old, (List.zipIdx old).map (fun p =>
      let row := p.2 / 64
      let l := (SMap.getD c.rows row {}).l
      if rows ≤ row then p.1
      else if bitAt c.nodeInc (r.node row) then 0x7FC00000
      else if ofF32 l = .zero (ofF32 l).isNeg then 0
      else divF32 p.1 l (Config.draw 1 (d.draws + 8192 * set + p.2)).toNat))
  let s0 := newSet 0
  let s1 := newSet 1
  let bad := ((List.range rows).filter (fun row => bitAt c.nodeInc (r.node row))).length
  let stats := (List.range rows).map (fun row =>
    let s := SMap.getD c.rows row {}
    leBytes s.m 4 ++ leBytes s.l 4)
  { writes := [(r.stats, stats.flatten ++ leBytes c.nodeInc 16)]
    sets := [(0, accOf s0.2), (1, accOf s1.2)]
    nans := 128 * bad + finiteNans c r rows s0 + finiteNans c r rows s1
    infs := newInfs s0.1 s0.2 + newInfs s1.1 s1.2
    incomplete := 128 * bad }
where
  /-- Elements of complete rows that become NaN. -/
  finiteNans (c : Core) (r : AttnRec) (rows : Nat) (s : List Nat × List Nat) : Nat :=
    ((List.zipIdx (List.zip s.1 s.2)).filter (fun p =>
      decide (p.2 / 64 < rows) && !bitAt c.nodeInc (r.node (p.2 / 64)) && f32Nan p.1.2 && !f32Nan p.1.1)).length

/-! ### ACCEPT (R205, Tables 7-12 and 7-13) -/

/-- What the walk over the tree knows of one node. -/
structure NodeState where
  usable : Bool
  ok : Bool
  depth : Nat
deriving DecidableEq, Repr

/-- Node n of the ACCEPT record at byte `a` is incomplete. -/
def Core.nodeIncomplete (c : Core) (a n : Nat) : Bool :=
  f32Nan (c.readNat (c.readNat (a + 8) 4 + 4 * n) 4) ||
    (bitAt (c.readNat (a + 17) 1) 0 && bitAt (c.readNat (c.readNat (a + 20) 4) 16) n)

/-- The states of nodes 0 to n. -/
def Core.acceptNodes (c : Core) (a : Nat) : Nat → List NodeState
  | 0 => [⟨!c.nodeIncomplete a 0, !c.nodeIncomplete a 0, 0⟩]
  | n + 1 =>
    let l := Core.acceptNodes c a n
    let p := c.readNat (c.readNat (a + 12) 4 + n) 1
    let ps := l.getD p ⟨false, false, 0⟩
    let ok := ps.ok && ps.usable && c.readNat (c.readNat a 4 + 4 * n) 4 == c.readNat (c.readNat (a + 4) 4 + 4 * p) 4
    l ++ [⟨ok && !c.nodeIncomplete a (n + 1), ok, ps.depth + 1⟩]

/-- The deepest accepted node; ties keep the lower node. -/
def bestNode (l : List NodeState) : Nat :=
  (List.zipIdx l).foldl (fun b p => if p.1.ok && (l.getD b ⟨false, false, 0⟩).depth < p.1.depth then p.2 else b) 0

/-- The path from the root to node n, the root left out, deepest last. -/
def Core.pathTo (c : Core) (parents : Nat) : Nat → Nat → List Nat
  | 0, _ => []
  | fuel + 1, n => if n = 0 then [] else Core.pathTo c parents fuel (c.readNat (parents + n - 1) 1) ++ [n]

/-- The result of an ACCEPT. -/
def Core.attnAccept (c : Core) (o : Nat) : EngineResult :=
  let a := attnQ o * 32
  let n := c.readNat (a + 16) 1
  let l := c.acceptNodes a n
  let best := bestNode l
  let b := l.getD best ⟨false, false, 0⟩
  let root := l.getD 0 ⟨false, false, 0⟩
  let path := c.pathTo (c.readNat (a + 12) 4) 64 best
  let word := bit1 root.ok * 2 ^ 31 + bit1 b.usable * 2 ^ 30 + bit1 (decide (1 ≤ b.depth)) * 2 ^ 29 + b.depth * 2 ^ 16 + best
  { writes := [(c.readNat (a + 24) 4, (path.map (BitVec.ofNat 8)) ++ List.replicate (64 - path.length) 0xFF)]
    reg := some (attnReg o, word) }

/-- The ACCEPT record at byte `a` breaks Table 7-12. -/
def Core.acceptBad (c : Core) (a : Nat) : Bool :=
  let n := c.readNat (a + 16) 1
  n == 0 || 64 < n || c.readNat (a + 17) 1 / 2 != 0 || c.readNat (a + 18) 2 != 0 || c.readNat (a + 28) 36 != 0

/-! ### Judging at the start (R197, R204, R205) -/

/-- Why an ACCEPT stops its core. -/
def Core.acceptStop (c : Core) (o : Nat) : Option Stop :=
  let a := attnQ o * 32
  if !evenGranule (attnQ o) then some ⟨St.OPERAND_INVALID, attnQ o⟩ else
  match c.rangeStop [(a, 64)] [] with
  | some s => some s
  | none =>
    if c.acceptBad a then some ⟨St.TREE_INVALID, attnQ o⟩ else
    let n := c.readNat (a + 16) 1
    let inc : List Span := if bitAt (c.readNat (a + 17) 1) 0 then [(c.readNat (a + 20) 4, 16)] else []
    match c.rangeStop ([(c.readNat a 4, 4 * n), (c.readNat (a + 4) 4, 4 * (n + 1)), (c.readNat (a + 8) 4, 4 * (n + 1)),
        (c.readNat (a + 12) 4, 64)] ++ inc) [(c.readNat (a + 24) 4, 64)] with
    | some s => some s
    | none => if c.parentsBad (c.readNat (a + 12) 4) n then some ⟨St.TREE_INVALID, c.readNat (a + 12) 4 / 32⟩ else none

/-- Why a STEP, INIT_STEP or FINISH stops its core; `jobDim` is the job's HEAD_DIM. -/
def Core.attnStop (c : Core) (jobDim o : Nat) : Option Stop :=
  let mode := attnMode o
  let step := mode != 2
  let ra := attnRec o * 32
  let fa := attnFrame o * 32
  if !evenGranule (attnRec o) || (step && !(evenGranule (attnQ o) && evenGranule (attnFrame o))) then
    some ⟨St.OPERAND_INVALID, attnRec o⟩ else
  match c.rangeStop ((ra, 64) :: (if step then [(fa, 64)] else [])) [] with
  | some s => some s
  | none =>
    let r := c.readRec ra
    let h := c.frameHead fa
    let rows := attnRows o
    if c.attnRecBad ra mode rows || r.heads ≤ attnHead o then some ⟨St.ATTN_RECORD_INVALID, attnRec o⟩
    else if step && h.format != 0xE && h.format != 0xD then some ⟨St.ATTN_RECORD_INVALID, attnFrame o⟩
    else if step && h.status != frameLocal && r.dim != jobDim then some ⟨St.ATTN_RECORD_INVALID, attnRec o⟩
    else
      let q : Operand := ⟨r.fmtQ, attnQ o * 32, 128, r.qScales, false, r.qTile⟩
      let reads : List Span :=
        if step && h.live then
          (attnQ o * 32, 128 * r.dim) :: (fa + 64, pageBytes h.format (rowElems r.heads r.dim)) :: q.scaleSpan r.dim
        else []
      let par : List Span := if mode == 1 && r.tree then [(r.parents, 64)] else []
      let wr : List Span := if step then [] else [(r.stats, 8 * rows + 16)]
      match c.rangeStop (reads ++ par) wr with
      | some s => some s
      | none => if mode == 1 && r.tree && c.parentsBad r.parents r.nodes then some ⟨St.TREE_INVALID, r.parents / 32⟩ else none

/-- Why an operation with opcode 0x10 stops its core. -/
def Core.attnOpStop (c : Core) (jobDim o : Nat) : Option Stop :=
  if attnMode o = 3 then c.acceptStop o else c.attnStop jobDim o

/-- The result of an operation with opcode 0x10. -/
def Device.attnResult (d : Device) (c : Core) (o : Nat) : EngineResult :=
  match attnMode o with
  | 0 => c.attnStep false o
  | 1 => c.attnStep true o
  | 2 => d.attnFinish c o
  | _ => c.attnAccept o

end Sys2Proof.Machine
end

