-- ==== Sys2Proof/Machine/Stream.lean ====
section
/-!
DEFINITION. The bundle stream (chapter 4): dispatch and the next address (R117), the conditions of issue and HOLD
(R110 to R113), the issue of a bundle in every core at once, reductions (R116), the network plane (R119, R120), apply
marks (R37), HALT (R109) and the stream's own status events.
-/

namespace Sys2Proof.Machine

/-! ### The next address (R117) -/

/-- The end of the loop bodies that close at address `a`: the next address and the loops left. -/
def loopEnd (a : Nat) : List Loop → Option Nat × List Loop
  | [] => (none, [])
  | l :: rest =>
    if l.last = a then
      if 1 < l.left then (some l.start, { l with left := l.left - 1 } :: rest) else loopEnd a rest
    else (none, l :: rest)

/-- What follows the address `a` whose chip slot is `w`: the next address with the loop levels, or the code of the
stream fault (R117). `preds` are the predicates visible to the bundle. -/
def nextAddress (len preds : Nat) (loops : List Loop) (a w : Nat) : Except Code (Nat × List Loop) :=
  let taken := brOp w == 3 || (brOp w == 1 && bitAt preds (brPred w)) || (brOp w == 2 && !bitAt preds (brPred w))
  if taken then .ok (brTarget w, [])
  else if lpOp w = 1 then
    if 4 ≤ loops.length then .error St.PG_LOOP_FAULT
    else
      match loops with
      | l :: _ => if l.last < lpEnd w then .error St.PG_LOOP_FAULT else .ok (a + 1, newLoop :: loops)
      | [] => .ok (a + 1, [newLoop])
  else
    match loopEnd a loops with
    | (some n, ls) => .ok (n, ls)
    | (none, ls) => if a + 1 = len then .error St.PG_END_OF_STREAM else .ok (a + 1, ls)
where
  /-- The level that an LP_START pushes; a count of 0 means 65,536. -/
  newLoop : Loop := { start := a + 1, last := lpEnd w, left := if lpCount w = 0 then 65536 else lpCount w }

/-- The predicates visible to the bundle with issue index `i` (R116). -/
def Stream.predsAt (s : Stream) (i : Nat) : Nat :=
  s.reductions.foldl (fun p r => if r.visible ≤ i then setBit p r.pred r.value else p) s.preds

/-- The length of the stream. -/
def Device.streamLen (d : Device) : Nat := d.rd Reg.STREAM_LENGTH_LOADED

/-- A stream fault (R118): every compute region of the core mask stops, which Table 1-4 escalates to a chip warm
restart. -/
def Device.streamFault (d : Device) (c : Code) (addr : Nat) : Device :=
  ((d.logEv c 0 addr).onStrm fun s => { s with running := false }).demandChip c

/-- Take the outcome of the next-address procedure for the bundle dispatched at `a`. -/
def Device.follow (d : Device) (a w preds : Nat) : Device :=
  match nextAddress d.streamLen preds d.strm.loops a w with
  | .ok (n, ls) => d.onStrm fun s => { s with nextAddr := n, loops := ls }
  | .error c => d.streamFault c a

/-- Dispatch the next bundle into the skid buffer (R110, R117); after a HALT nothing more is dispatched (R109). -/
def Device.dispatch (d : Device) : Device :=
  if d.strm.noMore || !d.strm.running then d else
  let a := d.strm.nextAddr
  let w := (SMap.getD d.strm.chip a 0).toNat
  let preds := d.strm.predsAt (d.strm.index + d.strm.skid.length)
  let d1 := d.onStrm fun s => { s with skid := s.skid ++ [a] }
  if haltBit w then d1.onStrm fun s => { s with noMore := true } else d1.follow a w preds

/-- Dispatch at most `n` bundles, until the skid buffer holds `room`. -/
def Device.fillSkid (d : Device) (room : Nat) : Nat → Device
  | 0 => d
  | n + 1 => if d.strm.skid.length < room then Device.fillSkid d.dispatch room n else d

/-! ### The conditions of issue (Table 4-7) -/

/-- The core is inside its self-test window at issue index `i` (R122). -/
def Device.inWindow (d : Device) (c i : Nat) : Bool := decide (i < SMap.getD d.strm.windows c 0)

/-- The hold causes that core `c` asserts for its lane word `w`, as HOLD_CAUSES bits (Table 4-7). -/
def Device.coreHold (d : Device) (c w : Nat) : Nat :=
  if !d.active c || d.inWindow c d.strm.index then 0 else
  let y := laneSync w
  let semWait := syncOp y == 1 && decide (d.judgedSem c (syncSem y) < syncN y)
  let barWait := syncOp y == 5 && decide (d.judgedSem c (barSem (syncBar y)) < d.judgedBar c (syncBar y))
  let t := laneTe w; let v := laneVe w; let e := laneDe w; let x := laneSe w
  let full := (teOp t != 0 && d.teFull c) || (veOp v != 0 && d.veFull c) || (deOp e != 0 && d.deFull c (deChan e)) ||
    (seOp x != 0 && d.seWaits c (seOp x) (seRd x) (seRa x) (seRb x) (seImmSel x))
  let div := SMap.getD d.strm.divChange (c / 16) 0 != 0 && (teOp t != 0 || veOp v != 0 || seOp x != 0)
  bit1 semWait + 2 * bit1 barWait + 4 * bit1 full + 16 * bit1 div

/-- A core's lane word at an address. -/
def Device.lane (d : Device) (c a : Nat) : Nat := (SMap.getD d.strm.lanes (c * 16384 + a) 0).toNat

/-- The chip slot at an address. -/
def Device.chipSlot (d : Device) (a : Nat) : Nat := (SMap.getD d.strm.chip a 0).toNat

/-- The handoff queue is full for a SUBMIT, room freed in the last three cycles not counted (R106, R110). -/
def Device.handoffFull (d : Device) : Bool :=
  16 ≤ d.strm.handoff.length + (d.strm.recent.filter (fun p => p.2 == .handoff)).length

/-- The bundle at address `a` grants a window to core `c`, which begins with this bundle (R122). -/
def Device.grantsTo (d : Device) (a c : Nat) : Bool := twEn (d.chipSlot a) && twCore (d.chipSlot a) == c

/-- The hold causes of the bundle at address `a`, core by core; a core in its window, the granting bundle's too, asserts
none (R122). -/
def Device.holds (d : Device) (a : Nat) : List (Nat × Nat) :=
  (d.placed.map (fun c => (c, if d.grantsTo a c then 0 else d.coreHold c (d.lane c a)))).filter (fun p => p.2 != 0)

/-- The floor holds for a SUBMIT. -/
def Device.floorHold (d : Device) (a : Nat) : Bool := whOp (d.chipSlot a) == 1 && d.handoffFull

/-- One CLK_FABRIC cycle passes: recent effects age, and the cycles of a divisor change run (R29, R110). -/
def Device.cycle (d : Device) : Device :=
  d.onStrm fun s => { s with recent := ageRecent s.recent, faults := [],
                             divChange := (s.divChange.map (fun p => (p.1, p.2 - 1))).filter (fun p => p.2 != 0) }

/-- A cycle in which HOLD stops issue (R110, R112): only the hold's own counters change. -/
def Device.holdCycle (d : Device) (l : List (Nat × Nat)) (floor : Bool) : Device :=
  let causes := l.foldl (fun acc p => Nat.lor acc p.2) (if floor then 8 else 0)
  let cores := l.foldl (fun acc p => setBit acc p.1 true) 0
  let begins := d.strm.holdCycles = 0
  let d1 := if begins then
      (d.bump Reg.HOLD_EVENTS).each (l.filter (fun p => bitAt p.2 2)) (fun d p => d.bump (Reg.CORE_QUEUE_HOLDS p.1))
    else d
  let n := d.strm.holdCycles + 1
  ((d1.addSat 64 Reg.HOLD_CYCLES 1).wrAll
    [(Reg.HOLD_CAUSES, causes), (Reg.HOLD_CORES, cores),
     (Reg.LONGEST_HOLD_CYCLES, max (d1.rd Reg.LONGEST_HOLD_CYCLES) (satTo 32 n))]).onStrm fun s => { s with holdCycles := n }

/-! ### A core's part of an issued bundle -/

/-- The fault that the SYNC slot would take (R147, R148). -/
def Device.syncFault (d : Device) (c y : Nat) : Option (Code × Nat) :=
  let v := (d.core c).sem (syncSem y)
  let b := syncBar y
  let bv := (d.core c).sem (barSem b)
  match syncOp y with
  | 2 => if 65535 < v + syncN y then some (St.SEM_OVERFLOW, faultDetail 0 0 (syncSem y) 0) else none
  | 3 => if v < syncN y then some (St.SEM_UNDERFLOW, faultDetail 0 0 (syncSem y) 0) else none
  | 4 => if (d.core c).bar b = 0 then some (St.SEM_BARRIER_UNSET, faultDetail 0 0 (barSem b) 0)
         else if 65535 < bv + 1 then some (St.SEM_OVERFLOW, faultDetail 0 0 (barSem b) 0) else none
  | 5 => if (d.core c).bar b = 0 then some (St.SEM_BARRIER_UNSET, faultDetail 0 0 (barSem b) 0) else none
  | _ => none

/-- The flits that reach core `c` in the bundle with issue index `i` (R119). -/
def Device.arriving (d : Device) (c i : Nat) : List Flit := d.strm.flits.filter (fun f => f.dst == c && f.arrives == i)

/-- The fault of the network plane at core `c` (R120). -/
def nocFault (arr : List Flit) (z : Nat) : Option (Code × Nat) :=
  let granule := if nocRecvs z then nocRecvAddr z else 0
  match arr with
  | [] => if nocRecvs z then some (St.PG_NOC_MISMATCH, faultDetail 6 0 0 granule) else none
  | [f] => if nocRecvs z ∧ nocRecvPeer z = f.src then none else some (St.PG_NOC_MISMATCH, faultDetail 6 0 0 granule)
  | _ => some (St.PG_NOC_COLLISION, faultDetail 6 0 0 granule)

/-- The latency of the network plane in issued bundles (R119). -/
def nocLatency (src dst : Nat) : Nat := if src / 16 = dst / 16 then 4 else 8

/-- Core `c` sends a 32-byte flit to `peer` (R119), with the granule's poison mark. -/
def Device.nocSend (d : Device) (c peer granule : Nat) : Device :=
  let f : Flit := { src := c, dst := peer, data := (d.seen c).read (granule * 32) 32,
                    poisoned := (d.core c).poisonedIn (granule * 32) 32, arrives := d.strm.index + nocLatency c peer }
  (d.looked c).onStrm fun s => { s with flits := s.flits ++ [f] }

/-- Core `c` writes an arriving flit. -/
def Device.nocWrite (d : Device) (c granule : Nat) (f : Flit) : Device :=
  d.onCore c fun k => if f.poisoned then k.writePoison (granule * 32) f.data else k.write (granule * 32) f.data

/-- The SYNC slot's action, once no fault stands against it. -/
def Device.syncIssue (d : Device) (c y : Nat) : Device :=
  match syncOp y with
  | 2 => d.syncAdd c (syncSem y) (syncN y)
  | 3 => d.syncSub c (syncSem y) (syncN y)
  | 4 => d.barArrive c (syncBar y)
  | 5 => d.barLeave c (syncBar y)
  | _ => d

/-- The network slot's action. -/
def Device.nocIssue (d : Device) (c z : Nat) (arr : List Flit) : Device :=
  let d1 := if nocSends z then d.nocSend c (nocSendPeer z) (nocSendAddr z) else d
  match arr with
  | [f] => d1.nocWrite c (nocRecvAddr z) f
  | _ => d1

/-- The engine slots' operations enter their queues, and the SE acts (R130, R139). -/
def Device.engineIssue (d : Device) (c w : Nat) : Device :=
  let t := laneTe w; let v := laneVe w; let e := laneDe w; let x := laneSe w
  let d1 := if teOp t = 0 then d else d.tePush c (teOp t) (teSr t) (teDone t) (teOperands t)
  let d2 := if veOp v = 0 then d1 else d1.vePush c ⟨veOp v, veDone v, veOperands v, laneImm w⟩
  let d3 := if deOp e = 0 then d2 else d2.dePush c (deChan e) { op := deOp e, done := deDone e, operands := deOperands e }
  d3.seIssue c (seOp x) (seRd x) (seRa x) (seRb x) (seImmSel x) (laneImm w)

/-- The fault of a lane word's SYNC or test window: in a window a word that is not empty (R122), else the SYNC slot's. -/
def Device.laneFault (d : Device) (c w : Nat) : Option (Code × Nat) :=
  if d.inWindow c d.strm.index then (if w = 0 then none else some (St.PG_TEST_WINDOW_CONFLICT, faultDetail 0 0 0 0))
  else d.syncFault c (laneSync w)

/-- The fault of a lane word's SE slot: a load or store whose address is out of range. -/
def Device.loadFault (d : Device) (c w : Nat) : Option (Code × Nat) :=
  if d.inWindow c d.strm.index then none
  else let x := laneSe w; d.seFault c (seOp x) (seRa x) (seRb x) (seImmSel x) (laneImm w)

/-- The faults of a lane word, in the order of R153. -/
def Device.issueFaults (d : Device) (c w : Nat) (arr : List Flit) : List (Code × Nat) :=
  (d.laneFault c w).toList ++ (d.loadFault c w).toList ++ (nocFault arr (laneNoc w)).toList

/-- A core's part of an issued bundle. A fault of the test window, the SYNC or SE slot or the network plane makes the core's
slots take no effect; the first is recorded and the others logged (R153). A flit that arrives in a test window finds no
RECV (R120). -/
def Device.coreIssue (d : Device) (c w : Nat) : Device :=
  let arr := d.arriving c d.strm.index
  if !d.active c then d else
    match d.issueFaults c w arr with
    | [] => ((d.syncIssue c (laneSync w)).nocIssue c (laneNoc w) arr).engineIssue c w
    | l => (if (nocFault arr (laneNoc w)).isSome then d.bump Reg.NOC_FAULTS else d).each l fun d f => d.coreFault c f.1 f.2

/-! ### The chip slot's part -/

/-- The sampled bit of a core's scalar register. -/
def Device.sample (d : Device) (c reg bit : Nat) : Bool := bitAt ((d.core c).sreg reg) bit

/-- The value of a reduction over the cores of the mask (R116): 1 AND, 2 OR, 3 SELECT. -/
def Device.reduce (d : Device) (op reg bit core : Nat) : Bool :=
  match op with
  | 1 => d.placed.all (fun c => d.sample c reg bit)
  | 2 => d.placed.any (fun c => d.sample c reg bit)
  | _ => d.sample core reg bit

/-- A reduction enters its pipeline: visible to the 16th issued bundle after this one (R116). -/
def Device.pushReduction (d : Device) (op reg bit core pred : Nat) : Device :=
  let v := d.reduce op reg bit core
  d.onStrm fun s => { s with reductions := s.reductions ++ [⟨pred, v, s.index + 16⟩] }

/-- Every write that was staged a full cycle before takes effect (R37); the others wait for the next mark. -/
def Device.applyStaged (d : Device) : Device :=
  let ready := d.staged.filter (fun p => !d.stagedNew.contains p.1)
  let d1 := d.each ready fun d p => d.applyEntry p.1 p.2
  { d1 with staged := d.staged.filter (fun p => d.stagedNew.contains p.1) }

/-- An apply mark issues (R37, R108). -/
def Device.applyMark (d : Device) : Device :=
  (d.applyStaged.bumpWrap Reg.APPLY_MARKS).onStrm fun s => { s with sinceApply := 0 }

/-- A grant opens a window of TW_LEN × 4,096 issued bundles from the granting bundle; a longer one that is open stays
(R122). A window too short for the slice that would start defers it (R366). -/
def Device.grantWindow (d : Device) (c len : Nat) : Device :=
  let d1 := d.onStrm fun s => { s with windows := SMap.put s.windows c (max (SMap.getD s.windows c 0) (s.index + len * 4096)) 0 }
  if !d.tested c || d.rd (Reg.CORE_STATE c) != coreRunning || (d.test c).next == none then d1
  else if len < 59 then d1.deferSlice c
  else d1.onTest c fun t => { t with granted := true }

/-- A job enters the handoff queue (R106). -/
def Device.submit (d : Device) (j : WorldJob) : Device := d.onStrm fun s => { s with handoff := s.handoff ++ [j] }

/-- Every engine of every core is idle: nothing of the stream's work is outstanding (R154). -/
def Device.enginesIdle (d : Device) : Bool :=
  d.cores.all (fun p => p.2.teQueue == [] && p.2.teRuns == [] && p.2.veQueue == [] && p.2.veRun == none &&
    p.2.loads == [] && p.2.chans == [])

/-- RUN's drain ends: RUN reads OFF and every placed core that ran reads HALTED (R154). -/
def Device.runOff (d : Device) : Device :=
  let d1 := d.each d.placed fun d c => if d.active c then d.wr (Reg.CORE_STATE c) coreHalted else d
  (d1.setFn .run .off).onStrm fun s => { s with running := false, skid := [], noMore := true }

/-- RUN leaves DRAINING for OFF when its last engine work has completed (R109); a draining Hamper settles with it. -/
def Device.settleRun (d : Device) : Device :=
  let d1 := d.settleHamper
  if d1.fn .run = .draining ∧ d1.enginesIdle then d1.runOff else d1

/-- The stream stops: flits are discarded and counted, RUN drains (R109). -/
def Device.stopStream (d : Device) : Device :=
  let d1 := d.addSat 32 Reg.FLITS_DISCARDED d.strm.flits.length
  ((d1.onStrm fun s => { s with running := false, noMore := true, skid := [], flits := [] }).setFn .run .draining).tellFunctions.settleRun

/-- HALT (R109): RUN drains with 0x0315. -/
def Device.haltStream (d : Device) : Device := (d.logEv St.PG_HALT 0).stopStream

/-- The chip slot's effects at issue, the branch and loop fields apart (they act at dispatch). -/
def Device.chipIssue (d : Device) (w : Nat) : Device :=
  let d1 := if whOp w = 1 then d.submit ⟨whClass w, whJob w, whCore w, whSem w, whArg w⟩ else d
  let d2 := if wdEn w then d1.onStrm fun s => { s with kicks := s.kicks ++ [wdStage w] } else d1
  if applyBit w then d2.applyMark else d2.onStrm fun s => { s with sinceApply := if d.staged = [] then 0 else s.sinceApply + 1 }

/-- The bundle at the head of the skid buffer issues in every core at once (R110, R114, R116). -/
def Device.issue (d : Device) (a : Nat) : Device :=
  let i := d.strm.index
  let w := d.chipSlot a
  let visible := d.strm.predsAt i
  let d0 := d.onStrm fun s => { s with preds := visible, reductions := s.reductions.filter (fun r => i < r.visible), holdCycles := 0 }
  let d1 := if rdOp w = 0 then d0 else d0.pushReduction (rdOp w) (rdReg w) (rdBit w) (rdCore w) (rdPred w)
  let d2 := if twEn w then d1.grantWindow (twCore w) (twLen w) else d1
  let d3 := d2.each d.placed fun d c => d.coreIssue c (d.lane c a)
  let d4 := d3.chipIssue w
  let taken := brOp w == 3 || (brOp w == 1 && bitAt visible (brPred w)) || (brOp w == 2 && !bitAt visible (brPred w))
  let d5 := if taken then d4.bumpWrap Reg.BRANCHES_TAKEN else d4
  let d6 := (d5.wr Reg.ISSUE_ADDR a).onStrm fun s =>
    { s with flits := s.flits.filter (fun f => f.arrives != i), skid := s.skid.tail,
             count := min (s.count + 1) (2 ^ 48 - 1), index := s.index + 1 }
  if haltBit w then d6.stagedCycle.haltStream else d6.stagedCycle

/-- Core `c` sends a granule in the bundle at `a`, no fault standing against it. -/
def Device.sends (d : Device) (a c : Nat) : Bool :=
  let w := d.lane c a
  d.active c && !d.grantsTo a c && d.issueFaults c w (d.arriving c d.strm.index) == [] && nocSends (laneNoc w)

/-- ECC events that the bundle's SENDs meet as they read their granules (R134). Which cores' reads meet one, and whether it is
uncorrectable, is free. -/
def Device.sendEcc (d : Device) (a : Nat) : Device :=
  let l := (List.range 64).filter (d.sends a)
  if l = [] then d else
  let v := d.freeVal 128
  d.drawn.each l fun e c => if bitAt v (2 * c) then e.lmEcc c [(nocSendAddr (laneNoc (d.lane c a)), bitAt v (2 * c + 1))] else e

/-- One CLK_FABRIC cycle of the stream: a hold, in which nothing is dispatched (Table 4-8), or the dispatch of a bundle and
the issue of the one at the head of the skid buffer. A stream that has just started first dispatches three. -/
def Device.bundleCycle (d : Device) : Device :=
  if !d.strm.running then d.cycle else
  let d1 := d.fillSkid 3 3
  if !d1.strm.running then d1.cycle else
  match d1.strm.skid with
  | [] => d1.cycle
  | a :: _ =>
    let l := d1.holds a
    let f := d1.floorHold a
    if l = [] ∧ !f then
      let d2 := d1.fillSkid 4 1
      if d2.strm.running then ((d2.sendEcc a).issue a).cycle else d2.cycle
    else (d1.holdCycle l f).cycle.stagedCycle

/-- The stream starts at an address (R127, R121): the plane, the reductions, the predicates, the loops and the handoff
queue are clear before the first bundle issues. Writes staged while it stood have waited their cycle (R37). -/
def Device.startStream (d : Device) (a : Nat) : Device :=
  d.stagedCycle.onStrm fun s =>
    { s with running := true, skid := [], nextAddr := a, noMore := false, loops := [], preds := 0, reductions := [],
             flits := [], handoff := [], recent := [], holdCycles := 0, sinceApply := 0, kicks := [], faults := [] }

/-! ### The commands -/

/-- BUNDLE_ISSUE (R110): one CLK_FABRIC cycle of the stream. -/
def execBundleIssue (s : State) : Host.Outcome State Fault Refusal := s.run Device.bundleCycle

/-- The faults of a hold that has lasted longer than HOLD_LIMIT_US (R113). -/
def Device.holdTimeout (d : Device) : Device :=
  match d.strm.skid with
  | [] => d
  | a :: _ =>
    if d.strm.holdCycles = 0 then d else
    let l := d.holds a
    if l = [] then
      if d.floorHold a then (d.logEv St.PG_HOLD_TIMEOUT 0).regionFault .world St.PG_HOLD_TIMEOUT else d
    else d.each l fun d p => d.coreFault p.1 St.PG_HOLD_TIMEOUT (faultDetail 0 0 0 0)

/-- PG_HOLD_TIMEOUT (R113). -/
def execPgHoldTimeout (s : State) : Host.Outcome State Fault Refusal := s.run Device.holdTimeout

/-- PG_APPLY_LATE (R108): 8,000,000 bundles have issued without an apply mark while a write was staged. -/
def execPgApplyLate (s : State) : Host.Outcome State Fault Refusal :=
  s.run fun d => if 8000000 ≤ d.strm.sinceApply ∧ d.staged ≠ [] then d.logEv St.PG_APPLY_LATE 0 else d

/-- PG_COUNTER_WARN (R115). -/
def execPgCounterWarn (s : State) : Host.Outcome State Fault Refusal :=
  s.run fun d => if 2 ^ 47 ≤ d.strm.count ∧ d.rd Reg.COUNTER_WARN = 0
    then (d.wr Reg.COUNTER_WARN 1).logEv St.PG_COUNTER_WARN 0 else d

/-- PG_COUNTER_SATURATED (R115): logged once. -/
def execPgCounterSaturated (s : State) : Host.Outcome State Fault Refusal :=
  s.run fun d => if d.strm.count = 2 ^ 48 - 1 ∧ d.strm.saturated = false
    then (d.logEv St.PG_COUNTER_SATURATED 0).onStrm fun s => { s with saturated := true } else d

/-- A chip slot word with only branch fields. -/
def branchWord (op pred target : Nat) : Nat := op * 2 ^ 508 + pred * 2 ^ 504 + target * 2 ^ 490

/-- A chip slot word with only loop fields. -/
def loopWord (count last : Nat) : Nat := 1 * 2 ^ 446 + count * 2 ^ 430 + last * 2 ^ 416

/-- BR_TRUE of the bundle dispatched at `addr` (R117). -/
def execBrTrue (addr : BundleAddr) (pred : PredNo) (target : BundleAddr) (s : State) :
    Host.Outcome State Fault Refusal :=
  s.run fun d => d.follow addr (branchWord 1 pred target) (d.strm.predsAt d.strm.index)

/-- BR_FALSE of the bundle dispatched at `addr` (R117). -/
def execBrFalse (addr : BundleAddr) (pred : PredNo) (target : BundleAddr) (s : State) :
    Host.Outcome State Fault Refusal :=
  s.run fun d => d.follow addr (branchWord 2 pred target) (d.strm.predsAt d.strm.index)

/-- JUMP (R117). -/
def execJump (target : BundleAddr) (s : State) : Host.Outcome State Fault Refusal :=
  s.run fun d => d.onStrm fun s => { s with nextAddr := target, loops := [] }

/-- LP_START of the bundle dispatched at `addr` (R117). -/
def execLpStart (addr : BundleAddr) (count : BitVec 16) (last : BundleAddr) (s : State) :
    Host.Outcome State Fault Refusal :=
  s.run fun d => d.follow addr (loopWord count.toNat last) 0

/-- RD_AND (R116). -/
def execRdAnd (reg : SReg) (bit : Fin 32) (pred : PredNo) (s : State) : Host.Outcome State Fault Refusal :=
  s.run fun d => d.pushReduction 1 reg bit 0 pred

/-- RD_OR (R116). -/
def execRdOr (reg : SReg) (bit : Fin 32) (pred : PredNo) (s : State) : Host.Outcome State Fault Refusal :=
  s.run fun d => d.pushReduction 2 reg bit 0 pred

/-- RD_SELECT (R116). -/
def execRdSelect (reg : SReg) (bit : Fin 32) (core : CoreNo) (pred : PredNo) (s : State) :
    Host.Outcome State Fault Refusal :=
  s.run fun d => d.pushReduction 3 reg bit core pred

/-- APPLY_MARK (R37). -/
def execApplyMark (s : State) : Host.Outcome State Fault Refusal := s.run Device.applyMark

/-- HALT (R109), while the stream runs. -/
def execHalt (s : State) : Host.Outcome State Fault Refusal :=
  s.run fun d => if d.strm.running then d.haltStream else d

/-- TEST_WINDOW_GRANT (R122). -/
def execTestWindowGrant (core : CoreNo) (len : Fin 256) (s : State) : Host.Outcome State Fault Refusal :=
  s.run fun d => if len.val = 0 then d else d.grantWindow core len

/-- WAIT_GE (R110): while the judged count is below N the core asserts HOLD, with cause bit 0. -/
def execWaitGe (core : CoreNo) (sem : SemNo) (n : BitVec 16) (s : State) : Host.Outcome State Fault Refusal :=
  s.run fun d => d.ifActive core fun d =>
    if d.judgedSem core sem < n.toNat then d.holdCycle [(core.val, 1)] false else d

/-- SYNC ADD (R146, R147). -/
def execAdd (core : CoreNo) (sem : SemNo) (n : BitVec 16) (s : State) : Host.Outcome State Fault Refusal :=
  s.run fun d => d.ifActive core fun d => d.syncAdd core sem n.toNat

/-- SYNC SUB (R146, R147). -/
def execSub (core : CoreNo) (sem : SemNo) (n : BitVec 16) (s : State) : Host.Outcome State Fault Refusal :=
  s.run fun d => d.ifActive core fun d => d.syncSub core sem n.toNat

/-- BAR_ARRIVE (R148). -/
def execBarArrive (core : CoreNo) (bar : BarNo) (s : State) : Host.Outcome State Fault Refusal :=
  s.run fun d => d.ifActive core fun d => d.barArrive core bar

/-- BAR_WAIT (R148): holds while the arrivals are below P_b, then subtracts P_b. -/
def execBarWait (core : CoreNo) (bar : BarNo) (s : State) : Host.Outcome State Fault Refusal :=
  s.run fun d => d.ifActive core fun d =>
    if d.judgedSem core (barSem bar) < d.judgedBar core bar then d.holdCycle [(core.val, 2)] false
    else d.barLeave core bar

/-- SEND (R119). -/
def execSend (core peer : CoreNo) (granule : SentGranule) (s : State) : Host.Outcome State Fault Refusal :=
  s.run fun d => d.ifActive core fun d =>
    (d.lmEcc core (granule.ecc.toList.map (fun b => (granule.granule.val, b)))).nocSend core peer granule.granule

/-- Receive in the bundle now issuing: the flit is written, or the core faults (R119, R120); the arriving flits leave
the plane. -/
def Device.nocReceive (d : Device) (c peer granule : Nat) : Device :=
  let z := 2 * 2 ^ 60 + peer * 2 ^ 48 + granule * 2 ^ 14
  let arr := d.arriving c d.strm.index
  let d1 := match nocFault arr z with
    | none => d.nocIssue c z arr
    | some f => (d.bump Reg.NOC_FAULTS).coreFault c f.1 f.2
  d1.onStrm fun s => { s with flits := s.flits.filter (fun f => !(f.dst == c && f.arrives == s.index)) }

/-- RECV (R119, R120). -/
def execRecv (core peer : CoreNo) (granule : Granule) (s : State) : Host.Outcome State Fault Refusal :=
  s.run fun d => d.ifActive core fun d => d.nocReceive core peer granule

/-- SEND and RECV in one slot (R119, R120): the arrival is judged first, and a core that faults sends nothing. -/
def execSendAndRecv (core sendPeer recvPeer : CoreNo) (sendGranule : SentGranule) (recvGranule : Granule) (s : State) :
    Host.Outcome State Fault Refusal :=
  s.run fun d => d.ifActive core fun d =>
    match nocFault (d.arriving core d.strm.index) (2 * 2 ^ 60 + recvPeer * 2 ^ 48 + recvGranule * 2 ^ 14) with
    | none =>
      let d1 := d.lmEcc core (sendGranule.ecc.toList.map (fun b => (sendGranule.granule.val, b)))
      (d1.nocSend core sendPeer sendGranule.granule).nocReceive core recvPeer
        recvGranule
    | some _ => d.nocReceive core recvPeer recvGranule

/-- The oldest scalar access of a core completes (R139). -/
def execSeLoadComplete (core : CoreNo) (ecc : List (Granule × Bool)) (s : State) : Host.Outcome State Fault Refusal :=
  s.run fun d => (d.seComplete core (ecc.map (fun p => (p.1.val, p.2)))).settleRun

end Sys2Proof.Machine
end

