-- ==== Sys2Proof/Machine/TensorRun.lean ====
section
/-!
DEFINITION. Start and completion of tensor-engine operations: which operation may start (R130, R137, R196), the
load-step hint (R462), accumulator chains and replay (R356 to R361, R409), and the comparators (R364).
-/

namespace Sys2Proof.Machine

/-- Opcodes of the TE (Table 5-3). -/
def opMatmul : Nat := 0x01
def opConv : Nat := 0x02
def opDrain : Nat := 0x03
def opAttn : Nat := 0x10

/-- A tile operation. -/
def TeOp.isTile (o : TeOp) : Bool := o.op == opMatmul || o.op == opConv

/-- The set that a tile operation or a DRAIN uses. -/
def TeOp.set (o : TeOp) : Nat := if o.op = opDrain then drainSet o.operands else tileSet o.operands

/-- Two operations may run at once: a DRAIN of one set and a tile operation on the other (R137). -/
def TeOp.alongside (a b : TeOp) : Bool :=
  a.set != b.set && ((a.op == opDrain && b.isTile) || (a.isTile && b.op == opDrain))

/-! ### Chains (R356 to R358, R409) -/

/-- The operation starts a chain (a tile operation whose ACC is 0, or an INIT_STEP). -/
def TeOp.startsChain (o : TeOp) : Bool :=
  (o.isTile && !tileAcc o.operands) || (o.op == opAttn && attnMode o.operands == 1)

/-- The operation writes accumulators and is not a DRAIN, so replay can govern it (R357). -/
def TeOp.inChain (o : TeOp) : Bool := o.isTile || (o.op == opAttn && attnMode o.operands != 3)

/-- The sets of the operation's chain. -/
def TeOp.sets (o : TeOp) : List Nat := if o.isTile then [tileSet o.operands] else [0, 1]

/-- A transform is allowed for the operation (Table 12-4). -/
def transformAllowed (o : TeOp) (integers : Bool) (t : Nat) : Bool :=
  match t with
  | 0 => o.isTile
  | 2 => o.isTile && integers
  | _ => true

/-- The transform that a chain takes: the first from `next` on, in the order of Table 12-4, that is enabled and
allowed. -/
def pickTransform (enabled next : Nat) (o : TeOp) (integers : Bool) : Nat :=
  (((List.range 4).map (fun i => (next + i) % 4)).find? (fun t => bitAt enabled t && transformAllowed o integers t)).getD 1

/-- The region runs in Split mode (R356). -/
def Device.isSplit (d : Device) (c : Nat) : Bool := bitAt (d.rd Reg.REGION_MODE_ACTIVE) (c / 16)

/-- Start the chain of operation `o` on core `c` (R357, R358, R409). -/
def Device.startChain (d : Device) (c : Nat) (o : TeOp) (integers : Bool) : Device :=
  let k := d.core c
  let governed := o.sr && !d.isSplit c
  let n := d.rd Reg.SPOT_N
  let spot := !governed && d.personality == .overnight && decide (2 ≤ n) && (k.spotCount + 1) % n == 0
  let t := pickTransform (d.rd (Reg.TRANSFORMS (c / 16))) k.nextTransform o integers
  let ch : Chain := { replayed := governed || spot, spot := spot, transform := t }
  d.onCore c fun k =>
    { k with chains := o.sets.foldl (fun m s => SMap.put m s ch {}) k.chains
             nextTransform := if ch.replayed then (t + 1) % 4 else k.nextTransform
             spotCount := if governed then k.spotCount else k.spotCount + 1 }

/-- The chain that governs an operation, when it is replayed. -/
def Core.replayOf (k : Core) (o : TeOp) : Option Chain :=
  let ch := SMap.getD k.chains (o.sets.headD 0) {}
  if o.inChain && ch.replayed then some ch else none

/-! ### Start -/

/-- Why an operation stops its core at its start. -/
def Device.teStop (d : Device) (k : Core) (o : TeOp) : Option Stop :=
  if o.op = opMatmul then k.tileStop false o.operands
  else if o.op = opConv then k.tileStop true o.operands
  else if o.op = opDrain then k.drainStop o.operands
  else k.attnOpStop (d.rd Reg.HEAD_DIM) o.operands

/-- An operation's result, from what it reads at its start. -/
def Device.teResult (d : Device) (k : Core) (o : TeOp) : EngineResult :=
  if o.isTile then d.tileResult k (k.tile (o.op == opConv) o.operands)
  else if o.op = opDrain then d.drain k o.operands
  else d.attnResult k o.operands

/-- The operation meets a scale condition of R166. -/
def Core.teBadScales (k : Core) (o : TeOp) : Bool :=
  if o.isTile then
    let t := k.tile (o.op == opConv) o.operands
    k.badScales t.a t.kk || k.badScales t.b t.kk
  else if o.op = opAttn ∧ attnMode o.operands < 2 then k.attnBadScales o.operands
  else false

/-- The head of the queue, taken out of it, starts or stops its core. -/
def Device.teBegin (d : Device) (c : Nat) (o : TeOp) : Device :=
  let k := d.core c
  let d1 := (d.onCore c fun k => { k with teQueue := k.teQueue.tail, hint := .ready }).recent (.room c 0)
  match d.teStop k o with
  | some st =>
    let d2 := if st.code = St.SPARSE_META_INVALID then d1.bump Reg.SPARSE_META_FAULTS else d1
    d2.coreFault c st.code (faultDetail 1 0 0 st.granule)
  | none =>
    let r := d.teResult k o
    let d2 := if o.startsChain then d1.startChain c o r.intPath else d1
    let d3 := if k.teBadScales o then d2.countEv St.ARITH_SCALE_INVALID c (Reg.SCALE_INVALID c) else d2
    let d4 := d3.onCore c fun k' => { k' with teRuns := k'.teRuns ++ [⟨o, d.begun k r, k'.replayOf o⟩] }
    (d4.stir c 8192 (o.op == opDrain && drainRnd o.operands)).drew 16384

/-- The operation at the head of the TE queue starts when nothing holds it back: an operation under way that it must
wait for, a divisor change (R29), or the load-step hint (R462). -/
def Device.teStart (d : Device) (c : Nat) (ecc : List (Nat × Bool)) : Device :=
  match (d.core c).teQueue with
  | [] => d
  | o :: _ =>
    if !(d.core c).teRuns.all (fun r => o.alongside r.op) || SMap.getD d.strm.divChange (c / 16) 0 != 0 then d
    else if (d.core c).hint != .ready && d.rd Reg.LOADHINT_LEAD_NS != 0 then d.onCore c fun k => { k with hint := .waiting }
    else ((d.lmEcc c ecc).onCore c fun k => { k with hint := .ready }).teBegin c o

/-- The TE counts in the level of its region's hint: busy, in its hold time, or waiting for the level to include it. -/
def Core.hinting (k : Core) : Bool := k.hint != .idle || k.teRuns != []

/-- The level that LOADHINT_x shows for region `r`, ⌈7n ÷ 16⌉ (R462). -/
def Device.loadHint (d : Device) (r : Nat) : Nat :=
  (7 * ((List.range 16).filter (fun i => (d.core (16 * r + i)).hinting)).length + 15) / 16

/-- The pins LOADHINT_x[2:0], in Gray code. -/
def Device.loadHintPins (d : Device) (r : Nat) : Nat := Nat.xor (d.loadHint r) (d.loadHint r / 2)

/-! ### Comparison (R360, R361, R364) -/

/-- The place of an element in the order of comparison, and its code in the mismatch record (Table 12-6). -/
def ReplayElement.order : ReplayElement → Nat
  | .acc s i => 8192 * s.val + i.val
  | .m r => 16384 + r.val
  | .l r => 16512 + r.val
def ReplayElement.code : ReplayElement → Nat
  | .acc _ i => i.val
  | .m r => 0x2000 + r.val
  | .l r => 0x2080 + r.val

/-- The original value of an element. -/
def EngineResult.original (r : EngineResult) (e : ReplayElement) : Nat :=
  let rows := match r.attn with | some a => a.1 | none => []
  match e with
  | .acc s i => SMap.getD (((r.sets.find? (fun p => p.1 = s.val)).map (·.2)).getD []) i.val 0
  | .m row => (SMap.getD rows row.val {}).m
  | .l row => (SMap.getD rows row.val {}).l

/-- The operation wrote the element. -/
def EngineResult.wrote (r : EngineResult) (e : ReplayElement) : Bool :=
  match e with
  | .acc s _ => r.sets.any (fun p => p.1 = s.val)
  | _ => r.attn.isSome

/-- Every value that the band of the element is taken from. -/
def EngineResult.peers (r : EngineResult) (e : ReplayElement) : List Nat :=
  match e with
  | .acc s _ => accList (((r.sets.find? (fun p => p.1 = s.val)).map (·.2)).getD [])
  | .m _ => (List.range 128).map (fun i => r.original (.m (Fin.ofNat 128 i)))
  | .l _ => (List.range 128).map (fun i => r.original (.l (Fin.ofNat 128 i)))

/-- An integer below 2^24 in magnitude. -/
def smallInt (v : Nat) : Bool :=
  match ofF32 v with
  | .zero _ => true
  | .fin _ n d e => n * pow2Num e % (d * pow2Den e) == 0 && n * pow2Num e < d * pow2Den e * 2 ^ 24
  | _ => false

/-- The band of an element (R360). -/
def EngineResult.band (r : EngineResult) (ulp : Nat) (replays : List Nat) (e : ReplayElement) : Num :=
  let l := r.peers e
  if r.intPath && l.all smallInt && replays.all smallInt then .zero false
  else
    match largestMag (l.map ofF32) with
    | .fin _ n d x => .fin false ulp 1 (floorLog2 n d x - 23)
    | _ => .fin false ulp 1 (-149)

/-- An element passes (R360). -/
def passes (band : Num) (a a' : Nat) : Bool :=
  let x := ofF32 a
  let y := ofF32 a'
  (x == .nan && y == .nan) || (!x.finite && x == y) ||
    (x.finite && y.finite && !Num.lt band (x.add y.neg).abs)

/-- The failing element that comes first, with its replay value and band. `replay` lists the elements whose replayed
value, after the inverse, is not the original's bits. -/
def EngineResult.mismatch (r : EngineResult) (ulp : Nat) (replay : List (ReplayElement × Nat)) :
    Option (ReplayElement × Nat × Num) :=
  let bad := (replay.filter (fun p => r.wrote p.1)).filterMap (fun p =>
    let b := r.band ulp (replay.map (·.2)) p.1
    if passes b (r.original p.1) p.2 then none else some (p.1, p.2, b))
  bad.foldl (fun best x => match best with
    | none => some x
    | some y => if x.1.order < y.1.order then some x else some y) none

/-- The mismatch record (Table 12-6). -/
def Device.mismatchRecord (d : Device) (c : Nat) (run : TeRun) (t : Nat) (m : ReplayElement × Nat × Num) : List Byte :=
  leBytes c 1 ++ leBytes t 1 ++ leBytes m.1.code 2 ++ leBytes run.op.addr 2 ++ zeros 2 ++ leBytes run.op.bundle 8 ++
    leBytes (run.result.original m.1) 4 ++ leBytes m.2.1 4 ++ leBytes (toF32 m.2.2) 4 ++ leBytes (d.rd Reg.FRAME_COUNT) 4

/-- A mismatch (R361): counted and logged, MISMATCH_SEM raised after DONE_SEM, Lookout A told. -/
def Device.mismatch (d : Device) (c : Nat) (run : TeRun) (ch : Chain) (m : ReplayElement × Nat × Num) : Device :=
  let d1 := ((d.bump (Reg.MISMATCHES c)).logEv St.REPLAY_MISMATCH c m.1.code ch.transform).wrBlob Reg.LAST_MISMATCH
    (d.mismatchRecord c run ch.transform m)
  let d2 := if d.fn .job = .on ∨ d.fn .job = .draining then d1.bump Reg.SPOT_MISMATCHES else d1
  let d3 := d2.onTest c fun t => { t with mismatches := t.mismatches ++ [d.rd Reg.FRAME_COUNT] }
  (d3.raiseSem c (d3.rd (Reg.MISMATCH_SEM (c / 16))) 1 0).tellA (.mismatch c)

/-- The two copies of the block-level comparator disagree: the core halts and is quarantined at once (R364). -/
def Device.comparatorDisagree (d : Device) (c : Nat) : Device :=
  (d.coreFault c St.COMPARATOR_DISAGREE (faultDetail 1 0 0 0)).quarantine c St.COMPARATOR_DISAGREE

/-- The comparison that ends a replayed operation. -/
def Device.compare (d : Device) (c : Nat) (run : TeRun) (ch : Chain) (replay : List (ReplayElement × Nat)) (disagree : Bool) :
    Device :=
  let d1 := d.addSat 64 (Reg.REPLAYED_OPS (c / 16)) 1
  let d2 := match run.result.mismatch (d.rd (Reg.BAND_ULP (c / 16))) replay with
    | some m => d1.mismatch c run ch m
    | none => d1
  if disagree then d2.comparatorDisagree c else d2

/-- Remove the item at an index. -/
def dropAt {α : Type} : List α → Nat → List α
  | [], _ => []
  | _ :: t, 0 => t
  | h :: t, n + 1 => h :: dropAt t n

/-- An operation under way completes: its results are written, DONE_SEM rises, then the comparison acts (R149, R359). -/
def Device.teComplete (d : Device) (c which : Nat) (replay : List (ReplayElement × Nat)) (disagree : Bool) : Device :=
  match (d.core c).teRuns[which]? with
  | none => d
  | some begun =>
    let d0 := d.onCore c fun k => { k with teRuns := dropAt k.teRuns which }
    let run := { begun with result := d0.finalResult c begun.result fun d k => d.teResult k begun.op }
    let d1 := (d0.finalDraw c begun.result).applyResult c run.result
    let d2 := d1.raiseDone c 1 0 run.op.done
    let d3 := match run.replay with
      | some ch => d2.compare c run ch replay disagree
      | none => d2
    d3.settleRun

/-! ### The commands -/

/-- The operand bits of an opcode 0x10 operation in a mode. -/
def attnOperands (mode low : Nat) : Nat := mode * 2 ^ 78 + low

/-- ATTN_STEP enters the TE queue (Table 7-8). -/
def execAttnStep (core : CoreNo) (sr : Bool) (done : Option SemNo) (operands : BitVec 78) (s : State) :
    Host.Outcome State Fault Refusal :=
  s.run fun d => d.ifActive core fun d => d.tePush core opAttn sr (done.map (·.val)) (attnOperands 0 operands.toNat)

/-- INIT_STEP enters the TE queue (Table 7-8). -/
def execInitStep (core : CoreNo) (sr : Bool) (done : Option SemNo) (operands : BitVec 78) (s : State) :
    Host.Outcome State Fault Refusal :=
  s.run fun d => d.ifActive core fun d => d.tePush core opAttn sr (done.map (·.val)) (attnOperands 1 operands.toNat)

/-- FINISH enters the TE queue (Table 7-8, R203). -/
def execFinish (core : CoreNo) (sr : Bool) (done : Option SemNo) (operands : BitVec 78) (s : State) :
    Host.Outcome State Fault Refusal :=
  s.run fun d => d.ifActive core fun d => d.tePush core opAttn sr (done.map (·.val)) (attnOperands 2 operands.toNat)

/-- ACCEPT enters the TE queue (Table 7-8, R205). -/
def execAccept (core : CoreNo) (sr : Bool) (done : Option SemNo) (operands : BitVec 78) (s : State) :
    Host.Outcome State Fault Refusal :=
  s.run fun d => d.ifActive core fun d => d.tePush core opAttn sr (done.map (·.val)) (attnOperands 3 operands.toNat)

/-- TE_OPERATION_START (R130). -/
def execTeOperationStart (core : CoreNo) (ecc : List (Granule × Bool)) (s : State) : Host.Outcome State Fault Refusal :=
  s.run fun d => d.teStart core (ecc.map (fun p => (p.1.val, p.2)))

/-- TE_OPERATION_COMPLETE (R149). -/
def execTeOperationComplete (core : CoreNo) (which : Fin 2) (replay : List (ReplayElement × BitVec 32)) (disagree : Bool)
    (s : State) : Host.Outcome State Fault Refusal :=
  s.run fun d => d.teComplete core which (replay.map (fun p => (p.1, p.2.toNat))) disagree

/-- LOADHINT_LEAD (R462): the level has shown the waiting TE for LOADHINT_LEAD_NS. -/
def execLoadhintLead (core : CoreNo) (s : State) : Host.Outcome State Fault Refusal :=
  s.run fun d => d.onCore core fun k => if k.hint = .waiting then { k with hint := .ready } else k

/-- LOADHINT_HOLD (R462): LOADHINT_HOLD_NS after its last completion the TE stops counting as busy. -/
def execLoadhintHold (core : CoreNo) (s : State) : Host.Outcome State Fault Refusal :=
  s.run fun d => d.onCore core fun k => if k.teRuns = [] ∧ k.hint = .ready then { k with hint := .idle } else k

end Sys2Proof.Machine
end

