-- ==== Sys2Proof/Machine/Dma.lean ====
section
/-!
DEFINITION. The DMA engine (R140 to R144, R149, R487): descriptors and their judging, transactions and allowances, the
port's weighted round robin, read returns, write acknowledgements and completion of XFER, PREFETCH and FENCE.
-/

namespace Sys2Proof.Machine

/-- Opcodes of the DE (Table 5-11). -/
def opXfer : Nat := 0x01
def opPrefetch : Nat := 0x02
def opFence : Nat := 0x03
def opWalk : Nat := 0x08

/-- Spaces of a descriptor (Table 5-12). -/
def spaceLocal : Nat := 0
def spaceCore : Nat := 1
def spaceDevice : Nat := 2
def spaceRemote : Nat := 3

/-! ### Descriptors (Table 5-12, R140) -/

/-- The descriptor at byte `a`. -/
def Core.desc (k : Core) (a : Nat) : Desc :=
  { src := k.readNat a 8, dst := k.readNat (a + 8) 8, rowBytes := k.readNat (a + 16) 4, rows := k.readNat (a + 20) 4
    srcStride := k.readNat (a + 24) 4, dstStride := k.readNat (a + 28) 4, srcSpace := k.readNat (a + 32) 1 % 16
    dstSpace := k.readNat (a + 33) 1 % 16, srcUnit := k.readNat (a + 34) 1, dstUnit := k.readNat (a + 35) 1
    allocate := bitAt (k.readNat (a + 36) 2) 0 }

/-- The last byte of a range of rows, plus one. -/
def rowsEnd (base stride rows rowBytes : Nat) : Nat := base + (rows - 1) * stride + rowBytes

/-- A REMOTE destination breaks Table 14-5. -/
def remoteBad (dst : Nat) : Bool :=
  1 < field dst 63 62 || field dst 61 56 != 0 || field dst 51 48 != 0 ||
    (field dst 63 62 == 0 && (field dst 55 52 != 0 || field dst 47 40 != 0)) ||
    (field dst 63 62 == 1 && field dst 39 24 != 0)

/-- The descriptor at byte `a` is invalid for the operation (R140, R427). -/
def Core.descBad (k : Core) (op a : Nat) : Bool :=
  let t := k.desc a
  let reserved := k.readNat (a + 32) 1 / 16 != 0 || k.readNat (a + 33) 1 / 16 != 0 || k.readNat (a + 36) 2 / 2 != 0 ||
    k.readNat (a + 38) 26 != 0 || (t.srcSpace != spaceCore && t.srcUnit != 0) ||
    (t.dstSpace != spaceCore && t.dstSpace != spaceRemote && t.dstUnit != 0) ||
    ((t.srcSpace == spaceCore && 63 < t.srcUnit) || ((t.dstSpace == spaceCore || t.dstSpace == spaceRemote) && 63 < t.dstUnit))
  let spaces := spaceDevice < t.srcSpace || spaceRemote < t.dstSpace
  let sizes := t.rowBytes == 0 || 4194304 < t.rowBytes || t.rows == 0 || 65536 < t.rows
  let ends := (t.srcSpace < spaceDevice && lmSize < rowsEnd t.src t.srcStride t.rows t.rowBytes) ||
    (op == opXfer && t.dstSpace < spaceDevice && lmSize < rowsEnd t.dst t.dstStride t.rows t.rowBytes)
  let prefetch := op == opPrefetch &&
    (t.srcSpace != spaceDevice || t.dst != 0 || t.dstStride != 0 || t.dstSpace != 0 || t.dstUnit != 0)
  reserved || spaces || sizes || ends || prefetch || (t.dstSpace == spaceRemote && remoteBad t.dst)

/-! ### Operations and their transactions -/

/-- Every transaction of the operation has been issued. -/
def DeOp.issuedAll (o : DeOp) : Bool := o.phase == .running && o.desc.rows ≤ o.row

/-- The next transaction (R141): at most 256 bytes, inside one 256-byte block of the source and one 4,096-byte page of a
device destination (R218). A page walk has its own list of them (R192). -/
def DeOp.next (o : DeOp) : Option InFlight :=
  match o.walk with
  | some w => w.todo.head?
  | none =>
  if o.phase != .running || o.desc.rows ≤ o.row then none else
  let t := o.desc
  let src := t.src + o.row * t.srcStride + o.off
  let dst := t.dst + o.row * t.dstStride + o.off
  let n := min (t.rowBytes - o.off) (256 - src % 256)
  let len := if o.op == opXfer && t.dstSpace == spaceDevice then min n (4096 - dst % 4096) else n
  some { src := src, dst := dst, len := len, last := o.row + 1 = t.rows && o.off + len = t.rowBytes }

/-- The operation after its next transaction has been issued. -/
def DeOp.advance (o : DeOp) (len : Nat) : DeOp :=
  match o.walk with
  | some w => { o with walk := some { w with todo := w.todo.tail } }
  | none =>
  if o.off + len = o.desc.rowBytes then { o with row := o.row + 1, off := 0 } else { o with off := o.off + len }

/-- The operation reads outside the core; writes outside the core (R141). -/
def DeOp.reads (o : DeOp) : Bool := o.desc.srcSpace != spaceLocal
def DeOp.writes (o : DeOp) : Bool := o.op != opPrefetch && o.desc.dstSpace != spaceLocal

/-- Replace the operation at an index of a channel. -/
def Device.setOp (d : Device) (c ch i : Nat) (o : DeOp) : Device := d.onCore c fun k => k.setChan ch ((k.chan ch).set i o)

/-- The first operation of a channel that still has transactions to issue. -/
def Core.issuing (k : Core) (ch : Nat) : Option (Nat × DeOp) :=
  ((List.zipIdx (k.chan ch)).find? (fun p => p.1.next.isSome)).map (fun p => (p.2, p.1))

/-- A flight of a channel that satisfies a condition: operation index, operation, flight index, flight. -/
def Core.flightsOf (k : Core) (ch : Nat) (f : DeOp → InFlight → Bool) : List (Nat × DeOp × Nat × InFlight) :=
  ((List.zipIdx (k.chan ch)).map (fun p =>
    ((List.zipIdx p.1.flights).filter (fun q => f p.1 q.1)).map (fun q => (p.2, p.1, q.2, q.1)))).flatten

/-- Data that has arrived and waits for the write's grant. -/
def Core.writable (k : Core) (ch : Nat) : Option (Nat × DeOp × Nat × InFlight) :=
  if 64 ≤ k.writesOut ch then none
  else (k.flightsOf ch (fun o x => o.writes && x.arrived && !x.writing)).head?

/-- The next transaction of a channel needs a grant of the port and its counts allow it (R141, R142). -/
def Core.issuable (k : Core) (ch : Nat) : Bool :=
  match k.issuing ch with
  | none => false
  | some (_, o) =>
    (o.reads || o.writes) && (!o.reads || decide (k.readsOut < 192)) && (!o.writes || decide (k.writesOut ch < 64))

/-- The channel has something ready for a grant. -/
def Core.chanReady (k : Core) (ch : Nat) : Bool := (k.writable ch).isSome || k.issuable ch

/-- `n` bytes from `src` to `dst` cut into transactions: at most 256 bytes, inside one 256-byte block of the source and, for a
device destination, one 4,096-byte page (R141, R218). -/
def pieces (device : Bool) : Nat → Nat → Nat → Nat → List InFlight
  | 0, _, _, _ => []
  | f + 1, src, dst, n =>
    if n = 0 then [] else
    let m := min (min n (256 - src % 256)) (if device then 4096 - dst % 4096 else n)
    { src := src, dst := dst, len := m, last := false } :: pieces device f (src + m) (dst + m) (n - m)

/-! ### Acknowledgement (R143, R144, R429) -/

/-- A write of a core's channel is answered: success, a discard that counts as one, or an error response (R144). -/
def Device.writeAnswered (d : Device) (c ch : Nat) (code : Code) : Device :=
  if code = 0 then d
  else if code = St.EPOCH_STALE ∨ code = St.RECEIVER_RESTARTING then d.bump Reg.DISCARD_ANSWERS
  else d.coreFault c St.DE_WRITE_ERROR (faultDetail 3 ch 0 0)

/-- An answer code that makes the operation's DONE_SEM not rise (R144). -/
def isWriteError (code : Code) : Bool := code != 0 && code != St.EPOCH_STALE && code != St.RECEIVER_RESTARTING

/-- Take a flight out of its operation; after an error response DONE_SEM is not raised. -/
def DeOp.land (o : DeOp) (j : Nat) (code : Code) : DeOp :=
  { o with flights := dropAt o.flights j, done := if isWriteError code then none else o.done }

/-- A chip-link request is answered (R429): the sending DE's flight lands. An answer with an unknown tag is discarded. -/
def Device.requestAnswered (d : Device) (tag : Nat) (code : Code) : Device :=
  match d.links.requests.find? (fun r => r.tag = tag) with
  | none => d
  | some r =>
    let d1 := d.onLinks fun l => { l with requests := l.requests.filter (fun x => x.tag != tag) }
    let d2 := match r.epoch with
      | some e => d1.wr (Reg.OUT_INFLIGHT e) (d1.rd (Reg.OUT_INFLIGHT e) - 1)
      | none => d1
    match ((d2.core r.core).flightsOf r.chan (fun _ x => x.tag == some tag)).head? with
    | none => d2
    | some (i, o, j, _) => (d2.setOp r.core r.chan i (o.land j code)).writeAnswered r.core r.chan code

/-! ### Issue (R141, R142) -/

/-- The packet that carries a REMOTE write (R427, Table 14-4). -/
def remotePacket (d : Device) (c ch tag dst dstUnit : Nat) (x : InFlight) : LinkPacket :=
  let chan := field dst 63 62 = 1
  { typ := if chan then pktChanXfer else pktMemWrite, last := decide chan && x.last, poison := poisonField x.bad
    hops := d.rd Reg.HOP_LIMIT, epoch := field dst 55 52, srcDev := d.ownId, dstDev := dstUnit
    addr := if chan then field x.dst 23 0 else field x.dst 39 0, channel := field dst 47 40, srcCore := c, srcChan := ch
    tag := tag, data := x.data }

/-- The port issues a transaction of `n` bytes: it takes its place in the order of issue, its priority and its deadline field
(R222, R251, R252). -/
def Device.stamp (d : Device) (c : Nat) (x : InFlight) : Device × InFlight :=
  ((d.issued c x.len).onCore c fun k => { k with issueNo := k.issueNo + 1 },
   { x with no := (d.core c).issueNo, prio := d.priority c, deadline := d.deadline c })

/-- Issue the write of a flight whose data is at hand. A REMOTE write to another device becomes a packet; one that has no
way is answered with 0x0D07 (R430). -/
def Device.issueWrite (d : Device) (c ch i : Nat) (o : DeOp) (j : Nat) (x0 : InFlight) : Device :=
  let d0 := (d.stamp c x0).1
  let x := (d.stamp c x0).2
  if o.desc.dstSpace ≠ spaceRemote ∨ o.desc.dstUnit = d.ownId then
    d0.setOp c ch i { o with flights := o.flights.set j { x with writing := true } }
  else
    let tag := d.links.nextTag
    let p := remotePacket d c ch tag o.desc.dst o.desc.dstUnit x
    match d.routePort o.desc.dstUnit with
    | none =>
      (((d0.setOp c ch i (o.land j St.LINK_UNREACHABLE)).unreachable o.desc.dstUnit none).writeAnswered c ch St.LINK_UNREACHABLE)
    | some port =>
      let e := if p.typ = pktChanXfer then some p.epoch else none
      let d1 := (d0.setOp c ch i { o with flights := o.flights.set j { x with writing := true, tag := some tag } }).onLinks
        fun l => { l with requests := l.requests ++ [⟨tag, c, ch, port, e⟩], nextTag := (tag + 1) % 65536 }
      let d2 := match e with
        | some e => d1.wr (Reg.OUT_INFLIGHT e) (d1.rd (Reg.OUT_INFLIGHT e) + 1)
        | none => d1
      d2.linkSend port p

/-- The poisoned granules of `n` bytes of local memory from `a`, counted from its start. -/
def Core.badOf (k : Core) (a n : Nat) : List Nat :=
  (List.range ((n + 31) / 32)).filter (fun g => k.poisonedIn (a + 32 * g) (min 32 (n - 32 * g)))

/-- The channel's next transaction is issued. -/
def Device.issueNext (d : Device) (c ch : Nat) : Device :=
  match (d.core c).issuing ch with
  | none => d
  | some (i, o) =>
    match o.next with
    | none => d
    | some x =>
      let o1 := o.advance x.len
      if o.reads then
        let y := d.stamp c x
        let d1 := y.1.setOp c ch i { o1 with flights := o1.flights ++ [y.2] }
        d1.wr (Reg.CORE_READS_PEAK c) (max (d1.rd (Reg.CORE_READS_PEAK c)) (d1.core c).readsOut)
      else
        let y := if x.arrived then x
          else { x with data := (d.seen c).read x.src x.len, bad := (d.core c).badOf x.src x.len, arrived := true }
        let d1 := d.looked c
        if o.writes then
          let o2 := { o1 with flights := o1.flights ++ [y] }
          (d1.setOp c ch i o2).issueWrite c ch i o2 o1.flights.length y
        else (d1.setOp c ch i o1).onCore c fun k => k.writeBad x.dst y.data y.bad

/-- The next transaction of the channel lies between two addresses of the core's own memory: it needs no grant. -/
def Core.localNext (k : Core) (ch : Nat) : Bool :=
  match k.issuing ch with
  | some (_, o) => !o.reads && !o.writes
  | none => false

/-- The weight of a channel (R142). -/
def Device.weight (d : Device) (c ch : Nat) : Nat := d.rd (Reg.CHAN_WEIGHT c ch)

/-- The channel that the port grants next, and the grants it then has left (R142). -/
def Device.grantee (d : Device) (c : Nat) : Option (Nat × Nat) :=
  let k := d.core c
  if k.rrLeft ≠ 0 ∧ k.chanReady k.rrChan ∧ d.weight c k.rrChan ≠ 0 then some (k.rrChan, k.rrLeft - 1)
  else
    (((List.range 16).map (fun i => (k.rrChan + 1 + i) % 16)).find? (fun ch => d.weight c ch != 0 && k.chanReady ch)).map
      (fun ch => (ch, d.weight c ch - 1))

/-- One grant of the core's port: to the write of data that has arrived, otherwise to the next transaction. -/
def Device.grant (d : Device) (c : Nat) : Device :=
  match d.grantee c with
  | none => d
  | some (ch, left) =>
    if (d.mport c).exhaustedNow then d.budgetStop c else
    let d1 := d.onCore c fun k => { k with rrChan := ch, rrLeft := left }
    match (d1.core c).writable ch with
    | some (i, o, j, x) => d1.issueWrite c ch i o j x
    | none => d1.issueNext c ch

/-- The next grant issues a transaction that reads its payload from the core's own memory. -/
def Device.grantsLocalRead (d : Device) (c : Nat) : Bool :=
  match d.grantee c with
  | none => false
  | some (ch, _) =>
    !(d.mport c).exhaustedNow && ((d.core c).writable ch).isNone &&
      (match (d.core c).issuing ch with
       | some (_, o) => !o.reads
       | none => false)

/-- ECC events that the grant's read of local memory meets (R134). -/
def Device.grantEcc (d : Device) (c : Nat) (ecc : List (Nat × Bool)) : Device := if d.grantsLocalRead c then d.lmEcc c ecc else d

/-! ### Returns and acknowledgements -/

/-- The core whose local memory the transaction reads, when its source is one: ECC events of the read are its own
(R134). -/
def DeOp.eccCore (o : DeOp) (c : Nat) : Nat := if o.desc.srcSpace = spaceCore then o.desc.srcUnit else c

/-- The device address of a transaction's outstanding access, if it has one: of its read, or of its write that has been
issued. -/
def DeOp.accessAt (o : DeOp) (x : InFlight) : Option Nat :=
  if o.reads && o.desc.srcSpace == spaceDevice && !x.arrived then some x.src
  else if x.writing && x.tag == none && o.writes && o.desc.dstSpace == spaceDevice then some x.dst
  else if x.writing && x.tag == none && o.desc.dstSpace == spaceRemote && field o.desc.dst 63 62 == 0 then some (field x.dst 39 0)
  else none

/-- An earlier transaction of the core's port to one of the lines is outstanding (R222): two requests of one port to the same
line complete in issue order. -/
def Core.lineBusy (k : Core) (no a n : Nat) : Bool :=
  (List.range 16).any fun ch => (k.chan ch).any fun o => o.flights.any fun x =>
    decide (x.no < no) && (match o.accessAt x with
      | some b => decide (b / 64 ≤ (a + n - 1) / 64) && decide (a / 64 ≤ (b + x.len - 1) / 64)
      | none => false)

/-- A transaction's access to device memory waits: for an earlier one to its line (R222), or for a zeroisation (R233). -/
def Device.deWaits (d : Device) (c : Nat) (o : DeOp) (x : InFlight) : Bool :=
  match o.accessAt x with
  | some a => (d.core c).lineBusy x.no a x.len || d.zeroWait a x.len
  | none => false

/-- The data of a read transaction (R143): bytes, poisoned granules, and whether it was an error response. -/
def Device.fetch (d : Device) (c : Nat) (o : DeOp) (x : InFlight) (e : MemEnv) : ReadResult :=
  if o.desc.srcSpace = spaceCore then
    { dev := (d.looked o.desc.srcUnit).completed c 0 x.deadline e, data := (d.seen o.desc.srcUnit).read x.src x.len
      bad := (d.core o.desc.srcUnit).badOf x.src x.len }
  else d.memRead c x.src x.len (o.desc.allocate || o.op == opPrefetch) e (some x.deadline)

/-- The read transaction number `which` of a channel returns. `ecc` are the local-memory ECC events that it meets: in the
source core's memory for a CORE source, else in the core's own as the data is written (R134). -/
def Device.readReturn (d : Device) (c ch which : Nat) (ecc : List (Nat × Bool)) (e : MemEnv) : Device :=
  match ((d.core c).flightsOf ch (fun o x => o.reads && !x.arrived))[which]? with
  | none => d
  | some (i, o, j, x) =>
    if d.deWaits c o x then d else
    let r := (d.lmEcc (o.eccCore c) (if o.desc.srcSpace = spaceCore then ecc else [])).fetch c o x e
    let d1 := if r.code = 0 then r.dev
      else (r.dev.bump (Reg.CORE_DE_READ_ERRORS c)).logEv St.DE_READ_ERROR c (faultDetail 3 ch 0 0) r.code
    let d3 := if o.desc.srcSpace = spaceCore then d1 else d1.lmEcc c ecc
    if o.op = opPrefetch then d3.setOp c ch i { o with flights := dropAt o.flights j }
    else if o.writes then d3.setOp c ch i { o with flights := o.flights.set j { x with data := r.data, bad := r.bad, arrived := true } }
    else (d3.setOp c ch i { o with flights := dropAt o.flights j }).onCore c fun k => k.writeBad x.dst r.data r.bad

/-- Perform a write at its destination: the answer's code, none while the destination makes it wait. -/
def Device.perform (d : Device) (c ch : Nat) (o : DeOp) (x : InFlight) (e : MemEnv) : Device × Option Code :=
  if o.desc.dstSpace = spaceCore then
    ((d.onCore o.desc.dstUnit fun k => k.writeBad x.dst x.data x.bad).completed c 0 x.deadline e, some 0)
  else if o.desc.dstSpace = spaceDevice then
    let r := d.memWrite c x.dst x.data x.bad o.desc.allocate e (some x.deadline)
    let lines := if r.2 = 0 then x.bad.map (fun g => (x.dst + 32 * g) / 64) else []
    (r.1.onMem fun m => { m with producers := lines.foldl (fun p l => SMap.insert p l ⟨c, o.bundle, o.addr⟩) m.producers }, some r.2)
  else
    let p := remotePacket d c ch 0 o.desc.dst o.desc.dstUnit x
    match d.deliver c p e with
    | (d1, some code) => (if p.typ = pktMemWrite then d1 else d1.completed c 0 x.deadline e, some code)
    | r => r

/-- The write number `which` of a channel is acknowledged, or answered with an error; a write that left by a link is
answered by its packet. -/
def Device.writeAck (d : Device) (c ch which : Nat) (e : MemEnv) : Device :=
  match ((d.core c).flightsOf ch (fun _ x => x.writing && x.tag == none))[which]? with
  | none => d
  | some (i, o, j, x) =>
    if d.deWaits c o x then d else
    match d.perform c ch o x e with
    | (d1, none) => d1
    | (d1, some code) => (d1.setOp c ch i (o.land j code)).writeAnswered c ch code

/-- ACK_TIMEOUT_US passes with a write unacknowledged (R144). -/
def Device.ackTimeout (d : Device) (c ch : Nat) : Device :=
  if (d.core c).writesOut ch = 0 then d else d.coreFault c St.DE_ACK_TIMEOUT (faultDetail 3 ch 0 0)

/-! ### Completion (R487) -/

/-- The operation at an index may complete: a FENCE once it is the oldest, the others once nothing of them is
outstanding. -/
def DeOp.finished (o : DeOp) (i : Nat) : Bool :=
  if o.op = opFence then o.phase == .running && i == 0 else o.issuedAll && o.flights == []

/-- Take a completed operation out of its channel and raise its DONE_SEM. -/
def Device.opDone (d : Device) (c ch i : Nat) (o : DeOp) : Device :=
  (((d.onCore c fun k => k.setChan ch (dropAt (k.chan ch) i)).recent (.room c (2 + ch))).raiseDone c 3 ch o.done).settleRun

/-! ### The commands -/

/-- DE_TRANSACTION_ISSUE (R141, R142): a grant of the core's port, or with `chan` a transaction of that channel between
two addresses of the core's own memory. -/
def execDeTransactionIssue (core : CoreNo) (chan : DeGrant) (s : State) : Host.Outcome State Fault Refusal :=
  s.run fun d =>
    let ecc := chan.ecc.map (fun p => (p.1.val, p.2))
    match chan.chan with
    | none => (d.grantEcc core ecc).grant core
    | some ch => if (d.core core).localNext ch then (d.lmEcc core ecc).issueNext core ch else d

/-- DE_READ_RETURN (R143). -/
def execDeReadReturn (core : CoreNo) (chan : Fin 16) (which : Fin 192) (ecc : List (Granule × Bool)) (env : MemEnv) (s : State) :
    Host.Outcome State Fault Refusal :=
  s.run fun d => d.readReturn core chan which (ecc.map (fun p => (p.1.val, p.2))) env

/-- DE_WRITE_ACK (R149, R144). -/
def execDeWriteAck (core : CoreNo) (chan : Fin 16) (which : Fin 64) (env : MemEnv) (s : State) :
    Host.Outcome State Fault Refusal :=
  s.run fun d => d.writeAck core chan which env

/-- DE_ACK_TIMEOUT (R144). -/
def execDeAckTimeout (core : CoreNo) (chan : Fin 16) (s : State) : Host.Outcome State Fault Refusal :=
  s.run fun d => d.ackTimeout core chan

/-- INBOUND_TRANSFER (R151, R152): a write of a transfer to an endpoint; endpoint 3 takes world-engine results, whose
semaphore the job names. A transfer to a core that runs a slice waits (R367). -/
def execInboundTransfer (core : CoreNo) (ep : Fin 4) (offset : BitVec 22) (data : List Byte) (poison : Bool) (last : Bool) (sem : SemNo)
    (s : State) : Host.Outcome State Fault Refusal :=
  s.run fun d =>
    let t : OpenTransfer := { dev := 65, core := 0, chan := 0, channel := 256 + ep }
    if !d.epTakes core ep offset.toNat data.length ||
        (SMap.getD (d.core core).transfers ep []).any (fun x => x.same t && x.dropped) then d.dropTransfer core ep t last
    else d.epWrite core ep offset.toNat data (if poison then List.range (data.length / 32 + 1) else []) last
      (if ep.val = 3 then sem.val else d.epSem core ep)

end Sys2Proof.Machine
end

