-- ==== Sys2Proof/Machine/MemoryCmds.lean ====
section
/-!
DEFINITION. The commands of the memory system (chapter 8): regulated accesses, the BAR4 aperture, atomic operations,
refresh and row disturbance, retraining, the patrol scrubber, zeroisation and regulation windows.
-/

namespace Sys2Proof.Machine

/-! ### Row disturbance (R238, R239) -/

/-- The oldest row at its threshold (its count is cleared): its neighbours are refreshed, which only time shows, the event
is logged, and the port is throttled in the stack unless its class is RT or MG. -/
def Device.rowDisturb (d : Device) : Device :=
  match d.mem.disturbed with
  | [] => d
  | (_, port, a, n) :: rest =>
    let s := (d.locate a).stack
    let d1 := (((d.onMem fun m => { m with disturbed := rest }).bump
      (Reg.STACK_ROW_DISTURB_EVENTS s)).logMem St.DRAM_ROW_DISTURB port a (n / 16))
    let cls := d.rd (Reg.PORT_CLASS port)
    if cls = 0 ∨ cls = 3 ∨ 78 < port then d1
    else d1.onPort port fun m =>
      { m with throttled := s :: m.throttled.filter (· != s), throttles := satTo 32 (m.throttles + 1) }.note flagRow

/-! ### Regulated accesses -/

/-- Put the answer of an access on the port. -/
def Device.answer (d : Device) (port : Nat) (a : MemAnswer) : Device := d.onPort port fun m => { m with answer := a }

/-- A transaction of a master port that is issued: served, counted and answered. -/
def Device.serve (d : Device) (port a n : Nat) (write : Option (List Byte)) (poison alloc : Bool) (e : MemEnv) : Device :=
  let prio := d.priority port
  let d1 := d.issued port n
  match write with
  | some bytes =>
    let w := d1.memWrite port a bytes (if poison then List.range (bytes.length / 32 + 1) else []) alloc e
    w.1.answer port { code := w.2, priority := prio }
  | none =>
    let r := d1.memRead port a n alloc e
    r.dev.answer port { data := r.data, poison := r.bad != [], code := r.code, priority := prio }

/-- The buffer level that an access finds raises or lowers panic first (R253). -/
def Device.atLevel (d : Device) (port : Nat) (e : MemEnv) : Device :=
  match e.level with
  | some l => d.panicLevel port l.val
  | none => d

/-- A request waits at its issue point: for a zeroisation (R233), or for its port's next window (R249). -/
def Device.portWaits (d : Device) (port a n : Nat) (e : MemEnv) : Bool :=
  (d.atLevel port e).zeroWait a n || ((d.atLevel port e).mport port).exhaustedNow

/-- A request at a master port's issue point (R233, R249): it waits for a zeroisation, or stops at its budget, or is
issued. -/
def Device.portAccess (d : Device) (port a n : Nat) (write : Option (List Byte)) (poison alloc : Bool) (e : MemEnv) : Device :=
  let d1 := d.atLevel port e
  if d1.zeroWait a n then d1
  else if (d1.mport port).exhaustedNow then d1.budgetStop port
  else d1.serve port a n write poison alloc e

/-- FLOOR_CACHE_ACCESS (R221). -/
def execFloorCacheAccess (port : Fin 79) (addr : BitVec 64) (len : Fin 4097) (write : Option (List Byte)) (poison alloc : Bool)
    (env : MemEnv) (s : State) : Host.Outcome State Fault Refusal :=
  s.run fun d => d.portAccess port addr.toNat len write poison alloc env

/-- BAR4_ACCESS (R220, Table 8-2): a read answered with an error is a Completer Abort, a write answered with one is
dropped. Functions 1 and 2 read 0 there, and each of their writes is a privilege drop (R50). Other requesters have no
BAR4. -/
def execBar4Access (req : Requester) (offset : Fin 1073741824) (write : Option (List Byte)) (len : Fin 4097) (env : MemEnv)
    (s : State) : Host.Outcome State Fault Refusal :=
  s.run fun d =>
    if req = .fn1 ∨ req = .fn2 then
      (match write with
        | some _ => (d.bump Reg.PRIV_DROPS).logEv St.DICT_PRIV_DROP req.num
        | none => d.setReq req { d.req req with answer := some 0 })
    else if req ≠ .fn0 then d else
    let d1 := d.portAccess portHost (d.rd Reg.APERTURE_BASE + offset.val) len write false false env
    let a := (d1.mport portHost).answer
    if d.portWaits portHost (d.rd Reg.APERTURE_BASE + offset.val) len env then d1 else
    match write with
    | some _ => d1
    | none => d1.setReq .fn0 { d1.req .fn0 with answer := if a.code = 0 then some (leNat a.data) else none }

/-! ### Atomic operations (R227) -/

/-- The value that an atomic operation stores; a width of `w` bytes, to which the operand is cut. -/
def AtomicOp.apply (o : AtomicOp) (w old v : Nat) : Nat :=
  match o with
  | .add => wrapTo (8 * w) (old + v)
  | .and => Nat.land old (wrapTo (8 * w) v)
  | .or => Nat.lor old (wrapTo (8 * w) v)
  | .min => Nat.min old (wrapTo (8 * w) v)
  | .max => Nat.max old (wrapTo (8 * w) v)
  | .swap => wrapTo (8 * w) v

/-- An atomic operation of `port` on a word of `w` bytes: `f` gives the value to store, none to store nothing. Unaligned
words, and words outside DRAM and the locked ways, are answered with 0x0712. -/
def Device.atomic (d : Device) (port a w : Nat) (e : MemEnv) (f : Nat → Option Nat) : Device :=
  if (63 < port ∧ port ≠ portWarden) ∨ d.zeroWait a w then d
  else if (d.mport port).exhaustedNow then d.budgetStop port else
  let d1 := d.issued port 64
  let refused (d : Device) (c : Code) : Device := (d.logMem c port a).answer port { code := c }
  let c := d.mapCode a
  if a % w ≠ 0 ∨ c = St.MEM_UNMAPPED ∨ c = St.MEM_LOCKED_UNBACKED then refused d1 St.MEM_ATOMIC_INVALID
  else if c ≠ 0 then refused d1 c
  else
    let r := d1.memRead port a w true e
    let old := leNat r.data
    if r.code ≠ 0 then r.dev.answer port { code := r.code, poison := true }
    else
      match f old with
      | none => r.dev.answer port { data := r.data }
      | some v => (r.dev.setMemNat a w v).answer port { data := r.data }

/-- The width of an atomic operation's word in bytes. -/
def atomicWidth (wide : Bool) : Nat := if wide then 8 else 4

/-- ATOMIC_READ (R227). -/
def execAtomicRead (port : Fin 79) (addr : BitVec 64) (acc : AtomicAccess) (s : State) : Host.Outcome State Fault Refusal :=
  s.run fun d => d.atomic port addr.toNat (atomicWidth acc.wide) acc.env (fun _ => none)

/-- ATOMIC_ADD (R227). -/
def execAtomicAdd (port : Fin 79) (addr : BitVec 64) (acc : AtomicAccess) (value : BitVec 64) (s : State) :
    Host.Outcome State Fault Refusal :=
  s.run fun d => d.atomic port addr.toNat (atomicWidth acc.wide) acc.env (fun old => some (AtomicOp.add.apply (atomicWidth acc.wide) old value.toNat))

/-- ATOMIC_AND (R227). -/
def execAtomicAnd (port : Fin 79) (addr : BitVec 64) (acc : AtomicAccess) (value : BitVec 64) (s : State) :
    Host.Outcome State Fault Refusal :=
  s.run fun d => d.atomic port addr.toNat (atomicWidth acc.wide) acc.env (fun old => some (AtomicOp.and.apply (atomicWidth acc.wide) old value.toNat))

/-- ATOMIC_OR (R227). -/
def execAtomicOr (port : Fin 79) (addr : BitVec 64) (acc : AtomicAccess) (value : BitVec 64) (s : State) :
    Host.Outcome State Fault Refusal :=
  s.run fun d => d.atomic port addr.toNat (atomicWidth acc.wide) acc.env (fun old => some (AtomicOp.or.apply (atomicWidth acc.wide) old value.toNat))

/-- ATOMIC_MIN (R227). -/
def execAtomicMin (port : Fin 79) (addr : BitVec 64) (acc : AtomicAccess) (value : BitVec 64) (s : State) :
    Host.Outcome State Fault Refusal :=
  s.run fun d => d.atomic port addr.toNat (atomicWidth acc.wide) acc.env (fun old => some (AtomicOp.min.apply (atomicWidth acc.wide) old value.toNat))

/-- ATOMIC_MAX (R227). -/
def execAtomicMax (port : Fin 79) (addr : BitVec 64) (acc : AtomicAccess) (value : BitVec 64) (s : State) :
    Host.Outcome State Fault Refusal :=
  s.run fun d => d.atomic port addr.toNat (atomicWidth acc.wide) acc.env (fun old => some (AtomicOp.max.apply (atomicWidth acc.wide) old value.toNat))

/-- ATOMIC_SWAP (R227). -/
def execAtomicSwap (port : Fin 79) (addr : BitVec 64) (acc : AtomicAccess) (value : BitVec 64) (s : State) :
    Host.Outcome State Fault Refusal :=
  s.run fun d => d.atomic port addr.toNat (atomicWidth acc.wide) acc.env (fun old => some (AtomicOp.swap.apply (atomicWidth acc.wide) old value.toNat))

/-- ATOMIC_COMPARE_AND_SWAP (R227). -/
def execAtomicCompareAndSwap (port : Fin 79) (addr : BitVec 64) (acc : AtomicAccess) (expected value : BitVec 64) (s : State) :
    Host.Outcome State Fault Refusal :=
  s.run fun d => d.atomic port addr.toNat (atomicWidth acc.wide) acc.env (fun old =>
    if old = wrapTo (8 * atomicWidth acc.wide) expected.toNat then some (wrapTo (8 * atomicWidth acc.wide) value.toNat) else none)

/-! ### Refresh, retraining, scrubbing, zeroisation -/

/-- REFRESH (R235, R238): a per-bank refresh of a row begins its next refresh window. -/
def execRefresh (stack : Fin 8) (channel : Fin 24) (bank : Fin 64) (row : Fin 8192) (s : State) :
    Host.Outcome State Fault Refusal :=
  s.run fun d => d.onMem fun m =>
    { m with activations := SMap.put m.activations (Location.rowKey ⟨stack, channel, bank, row, 0⟩) 0 0 }

/-- TRAIN_STATE values (Table 8-9). -/
def trainUntrained : Nat := 0
def trainTrained : Nat := 1
def trainRestored : Nat := 2
def trainRetraining : Nat := 3
def trainFailed : Nat := 4

/-- Channel `k` (stack · 24 + channel) failed in an earlier iteration and is to be retried (R237). -/
def Device.retryDue (d : Device) (k : Nat) : Bool :=
  SMap.getD d.mem.retrainFails k 0 != 0 && decide (SMap.getD d.mem.retryFrom k 0 ≤ d.mem.elapsed)

/-- A periodic retraining of channel `k` is due: its period has passed, or the stack's temperature has moved (R236). -/
def Device.retrainDue (d : Device) (k : Nat) : Bool :=
  let moved := d.stackTemp (k / 24) - SMap.getD d.mem.trainedTemp k 0
  let delta : Int := d.rd Reg.RETRAIN_TEMP_DELTA_C
  SMap.getD d.mem.retrainFails k 0 == 0 &&
    (decide (SMap.getD d.mem.trainedAt k 0 + d.rd Reg.RETRAIN_PERIOD_MS ≤ d.mem.elapsed) ||
      decide (delta ≤ moved) || decide (moved ≤ -delta))

/-- The channel of stack `s` that the Warden retrains next, where none of the stack retrains: one to be retried first, then
the lowest that is due. -/
def Device.retrainNext (d : Device) (s : Nat) : Device :=
  let all := (List.range 24).map (· + 24 * s)
  if all.any d.mem.retraining.contains then d else
  match (all.find? d.retryDue).or (all.find? d.retrainDue) with
  | some k => (d.onMem fun m => { m with retraining := m.retraining ++ [k] }).wr (Reg.STACK_TRAIN_STATE s) trainRetraining
  | none => d

/-- A retraining ends (R236, R237): the next channel of its stack that is due begins; one that has just failed waits for
the next iteration. -/
def Device.retrained (d : Device) (stack channel : Nat) (ok : Bool) : Device :=
  let k := stack * 24 + channel
  if !d.mem.retraining.contains k then d else
  let fails := SMap.getD d.mem.retrainFails k 0 + 1
  let d1 := (d.onMem fun m =>
    { m with retraining := m.retraining.filter (· != k)
             retrainFails := SMap.put m.retrainFails k (if ok then 0 else fails) 0
             retryFrom := SMap.put m.retryFrom k (if ok then 0 else m.elapsed + 1) 0 }).wr (Reg.STACK_TRAIN_STATE stack) trainTrained
  if ok then
    ((d1.bumpWrap (Reg.STACK_RETRAINS stack)).onMem fun m =>
      { m with trainedAt := SMap.put m.trainedAt k m.elapsed 0
               trainedTemp := SMap.put m.trainedTemp k (d.stackTemp stack) 0 }).retrainNext stack
  else
    let d2 := (d1.bump (Reg.STACK_RETRAIN_FAILS stack)).logEv St.DRAM_RETRAIN_FAIL 0xFE 0 (stack * 2 ^ 29 + channel * 2 ^ 24)
    if 3 ≤ fails then (d2.channelFail stack channel).wr (Reg.STACK_TRAIN_STATE stack) trainFailed
    else d2.retrainNext stack

/-- RETRAINING_COMPLETE (R237). -/
def execRetrainingComplete (stack : Fin 8) (channel : Fin 24) (ok : Bool) (s : State) : Host.Outcome State Fault Refusal :=
  s.run fun d => d.retrained stack channel ok

/-- DRAM_ROW_DISTURB (R238). -/
def execDramRowDisturb (s : State) : Host.Outcome State Fault Refusal := s.run Device.rowDisturb

/-- ROW_THROTTLE_END (R239). -/
def execRowThrottleEnd (port : Fin 79) (stack : Fin 8) (s : State) : Host.Outcome State Fault Refusal :=
  s.run fun d => d.onPort port fun m => { m with throttled := m.throttled.filter (· != stack.val) }

/-- The patrol scrubber reads its next line (R243), sealed lines included. -/
def Device.patrol (d : Device) (f : Option MemFault) : Device :=
  if d.fn .scrub ≠ .on then d else
  let r := d.dramRead 0xFF (64 * d.mem.scrubLine) f
  let next := d.mem.scrubLine + 1
  if 64 * next = dramEnd then (r.1.onMem fun m => { m with scrubLine := 0 }).bumpWrap Reg.SCRUB_PASSES
  else r.1.onMem fun m => { m with scrubLine := next }

/-- PATROL_SCRUB (R243). -/
def execPatrolScrub (fault : Option MemFault) (s : State) : Host.Outcome State Fault Refusal :=
  s.run fun d => d.patrol fault

/-- A range's contents become zeros through the current key; requests to it wait until the end (R233). -/
def Device.zeroise (d : Device) (base size : Nat) : Device :=
  (d.onMem fun m =>
    { m with dram := SMap.keep m.dram (fun a => a < base || base + size ≤ a)
             poison := SMap.keep m.poison (fun l => l * 64 < base || base + size ≤ l * 64)
             zeroing := m.zeroing ++ [(base, size)] }).wr Reg.ZEROISE_BUSY 1

/-- The locked window is zeroed (R225). -/
def Device.zeroLocked (d : Device) : Device :=
  d.onMem fun m => { m with locked := [], poison := SMap.keep m.poison (fun l => l * 64 < lockedBase) }

/-- The oldest zeroisation completes. -/
def Device.zeroiseDone (d : Device) : Device :=
  match d.mem.zeroing with
  | [] => d
  | _ :: rest =>
    let d1 := d.onMem fun m => { m with zeroing := rest }
    if rest = [] then d1.wr Reg.ZEROISE_BUSY 0 else d1

end Sys2Proof.Machine
end

