-- ==== Sys2Proof/Machine/Links.lean ====
section
/-!
DEFINITION. Chip links (chapter 14): ports and their training, arriving packets, forwarding and answers, credits,
resending and retrains, draining and failing, inbound transfers and placement epochs.
-/

namespace Sys2Proof.Machine

/-! ### Ports (R421, R425, R435) -/

/-- Pair `i` of lane groups took the role CHIP_LINK at step 8. -/
def Device.linkPair (d : Device) (i : Nat) : Bool := d.rd (Reg.LANE_ROLE_ACTIVE (2 * i)) == 1

/-- Chip-link port `p` exists: more than `p` pairs took the role. -/
def Device.linkExists (d : Device) (p : Nat) : Bool := p < ((List.range 6).filter d.linkPair).length

/-- Port `p` lies on I/O die A, whose attachments are stopped (R23, R421). -/
def Device.linkCut (d : Device) (p : Nat) : Bool :=
  d.dieAStopped && (((List.range 6).filter d.linkPair)[p]?).any (fun i => decide (i < 3))

/-- The port's enable is 1 while it is OFF: it trains, if the lane roles give it. -/
def Device.linkStart (d : Device) (p : Fin 4) : Device :=
  if d.fn (.link p) = .off ∧ d.linkExists p then
    (((d.setFn (.link p) .starting).wr (Reg.LINK_PHASE p) phaseTraining).wr (Reg.LINK_PEER_ID p) 0xFF).onLinkPort p fun _ => {}
  else d

/-- A request of this device, or of another that this device forwards, is answered with `code`. -/
def Device.refuseRequest (d : Device) (x : LinkPacket) (code : Code) : Device :=
  if x.srcDev = d.ownId then d.requestAnswered x.tag code else d.answerRequest x code

/-- This device's own requests that left by the port are answered with `code`. -/
def Device.endRequests (d : Device) (p : Nat) (code : Code) : Device :=
  d.each (d.links.requests.filter (fun r => r.port = p)) fun d r => d.requestAnswered r.tag code

/-- A draining port with nothing of its own left to send or to be answered reads OFF; its lanes stop transmitting. -/
def Device.linkSettle (d : Device) (p : Fin 4) : Device :=
  if d.fn (.link p) = .draining ∧ (d.linkPort p).queue = [] ∧ (d.linkPort p).held = [] ∧
      !d.links.requests.any (fun r => r.port = p) then
    (d.fnOff (.link p)).wr (Reg.LINK_PHASE p) phaseDown
  else d

/-- The port's enable is written 0 (R435). -/
def Device.linkDrain (d : Device) (p : Fin 4) : Device := (d.setFn (.link p) .draining).linkSettle p

/-- The drain limit of a port (R435): its unanswered requests are answered to their senders with 0x0101. -/
def Device.linkCancel (d : Device) (p : Fin 4) : Device :=
  if d.fn (.link p) ≠ .draining then d else
  (((d.endRequests p St.FN_CANCELLED).onLinkPort p fun _ => {}).fnOff (.link p)).wr (Reg.LINK_PHASE p) phaseDown

/-- A port faults: its state, its phase, and the enable of a port that was draining. -/
def Device.linkFault (d : Device) (p : Fin 4) (code : Code) : Device :=
  let d1 := ((d.setFn (.link p) .fault).wr (Reg.LINK_PHASE p) phaseFailed).logEv code p
  if d.fn (.link p) = .draining then d1.setEnable (.link p) 0 else d1

/-- A full retrain has failed (R434): every request in the port's buffers is answered with 0x0D07. -/
def Device.linkFail (d : Device) (p : Fin 4) : Device :=
  let l := d.linkPort p
  let mine := d.links.requests.filter (fun r => r.port = p.val)
  let others := (l.replay ++ l.queue ++ l.held).filter (fun x => x.isRequest && x.srcDev != d.ownId)
  let d1 := ((d.linkFault p St.LINK_FAILED).onLinkPort p fun _ => {}).endRequests p St.LINK_UNREACHABLE
  let d2 := d1.each others fun d x => d.refuseRequest x St.LINK_UNREACHABLE
  d2.each (List.range (mine.length + others.length)) fun d _ => d.countEv St.LINK_UNREACHABLE p (Reg.LINK_UNREACHABLE p)

/-! ### Arriving packets (R430, R432, R433, R440) -/

/-- The packet that an arrival of type `typ` carries. -/
def LinkArrival.packet (typ : Nat) (x : LinkArrival) : LinkPacket :=
  { typ := typ, last := bitAt x.flags.toNat 0, vl := bit1 (bitAt x.flags.toNat 1), poison := x.poison.toNat
    hops := x.hopsEpoch.toNat % 16, epoch := x.hopsEpoch.toNat / 16, srcDev := x.srcDev.toNat % 64
    dstDev := x.dstDev.toNat % 64, addr := x.addr.toNat, channel := x.channel.toNat, srcCore := x.srcCore.toNat
    srcChan := x.srcChan.toNat % 16, tag := x.tag.toNat, status := x.status.toNat, seq := x.seq.toNat % 4096
    data := x.payload }

/-- The packet breaks Table 14-4: undefined TYPE, a reserved bit, LEN over 256 or against the payload (Table 14-8). -/
def LinkArrival.malformed (x : LinkArrival) : Bool :=
  x.undefinedType || x.flags.toNat / 4 != 0 || x.srcDev.toNat / 64 != 0 || x.dstDev.toNat / 64 != 0 ||
    decide (256 < x.len.toNat) || x.payload.length != x.len.toNat || x.srcChan.toNat / 16 != 0 || x.byte19 != 0 ||
    x.seq.toNat / 4096 != 0 || x.bytes26 != 0

/-- The lane of a packet: 0 request, 1 answer. -/
def LinkPacket.laneOf (x : LinkPacket) : Nat := if x.isRequest then 0 else 1

/-- The peer has the credits that the packet needs (R432); a control packet needs none. -/
def LinkPort.credited (l : LinkPort) (x : LinkPacket) : Bool :=
  x.isControl || decide (x.credits ≤ if x.isRequest then l.peerReq else l.peerAns)

/-- Use the peer's credits for a packet received. -/
def LinkPort.useCredit (l : LinkPort) (x : LinkPacket) : LinkPort :=
  if x.isControl then l else if x.isRequest then { l with peerReq := l.peerReq - x.credits }
  else { l with peerAns := l.peerAns - x.credits }

/-- The space of a packet is freed: its credits return to the peer in a CREDIT packet (R432). -/
def Device.freeCredit (d : Device) (p : Nat) (x : LinkPacket) : Device :=
  if x.isControl then d else
  (d.onLinkPort p fun l =>
    if x.isRequest then { l with peerReq := l.peerReq + x.credits } else { l with peerAns := l.peerAns + x.credits }).linkSend p
    { typ := pktCredit, vl := 1, srcDev := d.ownId, dstDev := d.rd (Reg.LINK_PEER_ID p) % 64, status := x.credits
      lane := x.laneOf }

/-- Count what an arrival's answer code counts (Tables 14-8 and 14-12). -/
def Device.countAnswer (d : Device) (p : Nat) (x : LinkPacket) (code : Code) : Device :=
  if code = St.EPOCH_STALE ∨ code = St.RECEIVER_RESTARTING then d.countEv code p (Reg.LINK_EPOCH_DISCARDS p)
  else if code = St.INBOUND_WINDOW_REFUSED then d.tally code p
  else if code = St.CHAN_REFUSED ∧ (d.boundTo false x.channel).isNone then d.tally code p
  else d

/-- A request at its destination is checked, performed and answered, or waits in the receive buffer with its credits
held: for a slice to end (R367), a transfer to close (R438), a zeroisation to end (R233), its port's budget (R249). -/
def Device.linkPerform (d : Device) (p : Nat) (x : LinkPacket) (e : MemEnv) : Device × Bool :=
  if (x.typ = pktMemWrite ∧ d.zeroWait x.addr x.data.length) then (d, false)
  else if (d.mport (portLink p)).exhaustedNow then (d.budgetStop (portLink p), false)
  else
    match d.deliver (portLink p) x e with
    | (d1, none) => (d1, false)
    | (d1, some code) =>
      let d2 := if x.typ = pktMemWrite then d1
        else (d1.issued (portLink p) x.data.length).completed (portLink p) 0 (d1.deadline (portLink p)) e
      (((d2.countAnswer p x code).refuseRequest x code).freeCredit p x, true)

/-- Try the packets that wait in a port's receive buffer, in order. -/
def Device.retryPort (d : Device) (p : Nat) : Device :=
  d.each (d.linkPort p).held fun d x =>
    let r := d.linkPerform p x {}
    if r.2 then r.1.onLinkPort p fun l => { l with held := l.held.erase x } else r.1

/-- Forward a packet that is not for this device (R430). -/
def Device.linkForward (d : Device) (p : Nat) (x : LinkPacket) : Device :=
  let d0 := d.freeCredit p x
  match (if x.hops = 0 then none else d0.routePort x.dstDev) with
  | some q => (d0.addSat 64 (Reg.LINK_FORWARDED q) 1).linkSend q { x with hops := x.hops - 1 }
  | none =>
    let d1 := d0.unreachable x.dstDev (some p)
    if x.isRequest then d1.refuseRequest x St.LINK_UNREACHABLE else d1

/-- A packet of type `typ` arrives at a port: link-level checks, then the packet's own effect `here`, if it is for this
device. A packet whose SEQ is not the next one is discarded: a duplicate, or one that its sender resends. -/
def Device.linkArrive (d : Device) (p : Fin 4) (typ : Nat) (a : LinkArrival) (here : Device → LinkPacket → Device) : Device :=
  let x := a.packet typ
  if d.rd (Reg.LINK_PHASE p) ≠ phaseUp ∨ d.linkCut p then d
  else if !a.crcOk then
    (d.countEv St.LINK_CRC_RETRY p (Reg.LINK_CRC_RETRIES p)).onLinkPort p fun l => { l with nak := some x.seq }
  else if x.seq ≠ (d.linkPort p).rxSeq then d
  else if !(d.linkPort p).credited x then
    (d.countEv St.LINK_CREDIT_OVERRUN p (Reg.LINK_CREDIT_OVERRUNS p)).linkSend p
      { typ := pktThrottle, vl := 1, srcDev := d.ownId, dstDev := d.rd (Reg.LINK_PEER_ID p) % 64
        status := d.rd Reg.LINK_THROTTLE_US }
  else
    let d1 := d.onLinkPort p fun l => { l.useCredit x with rxSeq := (l.rxSeq + 1) % 4096 }
    if a.malformed then
      let d2 := (d1.countEv St.LINK_MALFORMED p (Reg.LINK_MALFORMED p)).freeCredit p x
      if !a.undefinedType && x.isRequest then d2.refuseRequest x St.LINK_MALFORMED else d2
    else if x.dstDev ≠ d.ownId then d1.linkForward p x
    else (here d1 x).linkSettle p

/-- A request for this device. -/
def Device.linkRequest (d : Device) (p : Nat) (x : LinkPacket) (e : MemEnv) : Device :=
  let r := d.linkPerform p x e
  if r.2 then (if x.last then r.1.retryPort p else r.1) else r.1.onLinkPort p fun l => { l with held := l.held ++ [x] }

/-- An answer for this device (R429). -/
def Device.linkAnswer (d : Device) (p : Nat) (x : LinkPacket) : Device :=
  (d.requestAnswered x.tag x.status).freeCredit p x

/-- Packets of the replay buffer that credits returned for a lane acknowledge: up to the last one that they cover. -/
def acked (lane : Nat) : Nat → List LinkPacket → Nat
  | _, [] => 0
  | n, x :: t =>
    if x.isControl ∨ x.laneOf ≠ lane then (let m := acked lane n t; if m = 0 then 0 else m + 1)
    else if x.credits ≤ n then acked lane (n - x.credits) t + 1 else 0

/-- A CREDIT packet (R432): the lane's credits rise, and the packets they cover leave the replay buffer. -/
def Device.linkCredit (d : Device) (p : Nat) (lane n : Nat) : Device :=
  (d.onLinkPort p fun l =>
    let l1 := { l with replay := l.replay.drop (acked lane n l.replay) }
    if lane = 0 then { l1 with reqCredit := min 512 (l1.reqCredit + n) } else { l1 with ansCredit := min 128 (l1.ansCredit + n) }).flushLink p

/-! ### Resending and retrains (R433, R434) -/

/-- Resend the replay buffer from the packet with sequence number `seq`. -/
def LinkPort.resendFrom (l : LinkPort) (seq : Nat) : LinkPort :=
  let again := l.replay.dropWhile (fun x => x.seq != seq)
  if again = [] then l else { l with wire := again.getLast? }

/-- Resend the whole replay buffer. -/
def LinkPort.resend (l : LinkPort) : LinkPort := if l.replay = [] then l else { l with wire := l.replay.getLast? }

/-- A retrain ends (R434). -/
def Device.linkRetrained (d : Device) (p : Fin 4) (ok : Bool) : Device :=
  if d.rd (Reg.LINK_PHASE p) ≠ phaseRetraining then d
  else if ok then
    ((((d.wr (Reg.LINK_PHASE p) phaseUp).countEv St.LINK_RETRAINED p (Reg.LINK_RETRAINS p)).onLinkPort p fun l =>
      { l.resend with failed := 0, full := false }).flushLink p).linkSettle p
  else if (d.linkPort p).full then d.linkFail p
  else d.onLinkPort p fun l => { l with failed := l.failed + 1, full := decide (2 ≤ l.failed) }

/-! ### The commands -/

/-- LINK_MGMT (R425): the peer's identity. The lanes that carry it have trained. -/
def execLinkMgmt (port : PortNo) (systemId : BitVec 32) (deviceId : BitVec 6) (s : State) : Host.Outcome State Fault Refusal :=
  s.run fun d =>
    if d.fn (.link port) ≠ .starting ∨ d.linkCut port then d else
    let expect := d.rd (Reg.LINK_PEER_EXPECT port)
    if systemId.toNat ≠ d.rd Reg.SYSTEM_ID ∨ deviceId.toNat = d.ownId ∨ (bitAt expect 7 ∧ deviceId.toNat ≠ expect % 64) then
      d.linkFault port St.LINK_PEER_MISMATCH
    else ((d.setFn (.link port) .on).wr (Reg.LINK_PHASE port) phaseUp).wr (Reg.LINK_PEER_ID port) deviceId.toNat

/-- LINK_TRAIN_TIMEOUT (R425). -/
def execLinkTrainTimeout (port : PortNo) (s : State) : Host.Outcome State Fault Refusal :=
  s.run fun d => if d.fn (.link port) = .starting then d.linkFault port St.LINK_TRAIN_TIMEOUT else d

/-- MEM_WRITE (R428). -/
def execMemWrite (port : PortNo) (x : LinkArrival) (env : MemEnv) (s : State) : Host.Outcome State Fault Refusal :=
  s.run fun d => d.linkArrive port pktMemWrite x fun d y => d.linkRequest port y env

/-- CHAN_XFER (R437). -/
def execChanXfer (port : PortNo) (x : LinkArrival) (env : MemEnv) (s : State) : Host.Outcome State Fault Refusal :=
  s.run fun d => d.linkArrive port pktChanXfer x fun d y => d.linkRequest port y env

/-- ANSWER (R429). -/
def execAnswer (port : PortNo) (x : LinkArrival) (s : State) : Host.Outcome State Fault Refusal :=
  s.run fun d => d.linkArrive port pktAnswer x fun d y => d.linkAnswer port y

/-- CREDIT (R432). -/
def execCredit (port : PortNo) (x : LinkArrival) (lane : Fin 2) (s : State) : Host.Outcome State Fault Refusal :=
  s.run fun d => d.linkArrive port pktCredit x fun d y => d.linkCredit port lane y.status

/-- THROTTLE (R440): the port sends no request until LINK_THROTTLE_END. -/
def execThrottle (port : PortNo) (x : LinkArrival) (s : State) : Host.Outcome State Fault Refusal :=
  s.run fun d => d.linkArrive port pktThrottle x fun d _ => d.onLinkPort port fun l => { l with throttled := true }

/-- LINK_THROTTLE_END (R440): the replay is resent, and the requests that wait leave. -/
def execLinkThrottleEnd (port : PortNo) (s : State) : Host.Outcome State Fault Refusal :=
  s.run fun d => (d.onLinkPort port fun l =>
    if l.throttled then { l.resend with throttled := false } else l).flushLink port

/-- LINK_NEGATIVE_ACK (R433): the peer names the SEQ of a packet whose CRC failed. -/
def execLinkNegativeAck (port : PortNo) (seq : BitVec 12) (s : State) : Host.Outcome State Fault Refusal :=
  s.run fun d =>
    if d.rd (Reg.LINK_PHASE port) ≠ phaseUp then d else
    (d.countEv St.LINK_CRC_RETRY port (Reg.LINK_CRC_RETRIES port)).onLinkPort port fun l => l.resendFrom seq.toNat

/-- FAST_RETRAIN (R434). -/
def execFastRetrain (port : PortNo) (s : State) : Host.Outcome State Fault Refusal :=
  s.run fun d => if d.rd (Reg.LINK_PHASE port) = phaseUp then d.wr (Reg.LINK_PHASE port) phaseRetraining else d

/-- LINK_RETRAINED (R434). -/
def execLinkRetrained (port : PortNo) (ok : Bool) (s : State) : Host.Outcome State Fault Refusal :=
  s.run fun d => d.linkRetrained port ok

end Sys2Proof.Machine
end

