-- ==== Sys2Proof/Machine/Rings.lean ====
section
/-!
DEFINITION. DMA rings (R68 to R70, R486, Tables 2-10 to 2-13): starting and draining a ring, what it has been given,
completions in descriptor order.
-/

namespace Sys2Proof.Machine

/-- Subindexes of a STREAM entry (Table 2-10). -/
def ringBase : Nat := 0x02
def ringEntries : Nat := 0x03
def ringCplBase : Nat := 0x04
def ringHead : Nat := 0x06
def ringTail : Nat := 0x07
def ringMsix : Nat := 0x0A
def ringLastStatus : Nat := 0x0B

/-- The ring's doorbell slot, its instance in log records. -/
def Device.ringSlot (d : Device) (r : RingId) : Nat := d.rd (r.reg 0x05)

/-- The device writes into the ring's descriptors. -/
def Device.fromDevice (d : Device) (r : RingId) : Bool := d.rd (r.reg 0x08) == 1

/-- Change a ring. -/
def Device.onRing (d : Device) (r : RingId) (f : Ring → Ring) : Device := d.setRing r (f (d.ring r))

/-- Descriptors given and not yet taken: TAIL ahead of HEAD, modulo twice the entries. -/
def Device.ringPosted (d : Device) (r : RingId) : Nat :=
  let m := 2 * d.rd (r.reg ringEntries)
  (d.rd (r.reg ringTail) + m - d.rd (r.reg ringHead)) % m

/-- The ring takes descriptors: it is ON or DRAINING. -/
def Device.ringLive (d : Device) (r : RingId) : Bool :=
  (d.fn (.ring r) == .on || d.fn (.ring r) == .draining) && !d.hostCut

/-- A ring enters STARTING (R486). -/
def Device.ringStart (d : Device) (r : RingId) : Device :=
  let d1 := (d.wrAll [(r.reg ringHead, 0), (r.reg ringTail, 0)]).setRing r {}
  if d.rd (r.reg ringEntries) = 0 then (d1.setFn (.ring r) .fault).logEv St.RING_CONFIG_INVALID (d.ringSlot r)
  else d1.setFn (.ring r) .on

/-- A draining ring with nothing outstanding and every completion delivered reads OFF. -/
def Device.ringSettle (d : Device) (r : RingId) : Device :=
  if d.fn (.ring r) = .draining ∧ d.ringPosted r = 0 ∧ (d.ring r).owed = [] then d.fnOff (.ring r) else d

/-- A ring is disabled. -/
def Device.ringDrain (d : Device) (r : RingId) : Device := (d.setFn (.ring r) .draining).ringSettle r

/-- The bytes of a completion record (Table 2-12). -/
def completionBytes (c : Completion) (phase : Nat) : List Byte :=
  leBytes c.tag 4 ++ leBytes c.status 2 ++ [BitVec.ofNat 8 phase, 0] ++ leBytes c.bytes 4 ++ leBytes c.detail 4

/-- Write one completion record at the next place of the completion ring. -/
def Device.writeCompletion (d : Device) (r : RingId) (c : Completion) : Device :=
  let n := d.rd (r.reg ringEntries)
  let w := (d.ring r).written
  let phase := if w / n % 2 = 0 then 1 else 0
  ((d.hostWrite (d.rd (r.reg ringCplBase) + 16 * (w % n)) (completionBytes c phase)).onRing r fun x =>
    { x with written := x.written + 1 })

/-- Deliver every completion that is owed, in order; the ring's MSI-X vector is raised. -/
def Device.deliverOwed (d : Device) (r : RingId) : Device :=
  let l := (d.ring r).owed
  if l = [] then d else
  let d1 := (d.each l fun d c => d.writeCompletion r c).onRing r fun x => { x with owed := [] }
  { d1 with msix := setBit d1.msix (d.rd (r.reg ringMsix) % 64) true }

/-- A descriptor completes (R69): always recorded in LAST_STATUS, with a completion record when its status is not 0 or the
host wants one. `full` says that the host's completion ring has no room now. -/
def Device.ringComplete (d : Device) (r : RingId) (wanted full : Bool) (c : Completion) : Device :=
  let d1 := d.wr (r.reg ringLastStatus) c.status
  let d2 := if c.status ≠ 0 ∨ wanted then d1.onRing r fun x => { x with owed := x.owed ++ [c] } else d1
  if full then d2 else d2.deliverOwed r

/-- The next descriptor has been taken: HEAD moves on. -/
def Device.ringTake (d : Device) (r : RingId) : Device :=
  d.wr (r.reg ringHead) ((d.rd (r.reg ringHead) + 1) % (2 * d.rd (r.reg ringEntries)))

/-- FLAGS bits of a descriptor (Table 2-11). -/
def Descriptor.wanted (x : Descriptor) : Bool := bitAt x.flags.toNat 0
def Descriptor.lastOfGroup (x : Descriptor) : Bool := bitAt x.flags.toNat 1

/-- The descriptor is usable (R69). -/
def Descriptor.usable (x : Descriptor) (addrOk : Bool) : Bool :=
  addrOk && x.flags.toNat < 4 && x.len.toNat != 0 && x.len.toNat ≤ 16777216

/-- A poisoned word reaches a host ring: the core whose transfer brought it faults, at the bundle that issued that transfer
(R22). -/
def Device.producerFault (d : Device) (p : Producer) : Device :=
  let d1 := d.coreFault p.core St.POISON_CONSUMED (faultDetail 3 0 0 0)
  if d.rd (Reg.CORE_STATE p.core) = coreHalted ∨ d.rd (Reg.CORE_STATE p.core) = coreQuarantined then d1
  else d1.wrAll [(Reg.CORE_FAULT_BUNDLE p.core, p.bundle), (Reg.CORE_FAULT_ADDR p.core, p.addr)]

/-- `n` bytes of memory from `a` are copied to a host ring: poison among them is traced to its producer. -/
def Device.ringSource (d : Device) (a n : Nat) : Device :=
  let l := d.mem.producers.filter (fun p => decide (a < 64 * p.1 + 64) && decide (64 * p.1 < a + n) && d.mem.poisoned p.1)
  d.each l fun d p => d.producerFault p.2

/-- Give a FROM_DEVICE ring an item to deliver. -/
def Device.ringPush (d : Device) (r : RingId) (x : RingItem) : Device := d.onRing r fun y => { y with items := y.items ++ [x] }

/-- Deliver from the oldest item into a descriptor of a FROM_DEVICE ring: as many bytes as fit. The last descriptor of an
item that closes a group is marked so in its FLAGS. -/
def Device.ringFill (d : Device) (r : RingId) (x : Descriptor) (full : Bool) : Device :=
  match (d.ring r).items with
  | [] => d
  | it :: rest =>
    let now := it.bytes.take x.len.toNat
    let left := it.bytes.drop x.len.toNat
    let items := if left = [] then rest else { it with bytes := left } :: rest
    let at? := d.rd (r.reg ringBase) + 32 * (d.rd (r.reg ringHead) % d.rd (r.reg ringEntries)) + 16
    let d1 := (d.hostWrite x.addr.toNat now).onRing r fun y => { y with items := items }
    let d2 := if left = [] ∧ it.last then d1.hostWrite at? (leBytes (setBit x.flags.toNat 1 true) 2) else d1
    ((d2.ringTake r).ringComplete r x.wanted full ⟨x.tag.toNat, 0, now.length, it.detail⟩).ringSettle r

/-- An unusable descriptor: logged, completed with 0x0114, and the ring goes on (R69, Table 2-14). -/
def Device.ringBad (d : Device) (r : RingId) (x : Descriptor) (full : Bool) (detail : Nat := 0) : Device :=
  ((((d.logEv St.RING_DESC_FAULT (d.ringSlot r)).ringTake r).ringComplete r x.wanted full
    ⟨x.tag.toNat, St.RING_DESC_FAULT, 0, detail⟩)).ringSettle r

/-- A descriptor of a TO_DEVICE ring has been handled by its owner. -/
def Device.ringDone (d : Device) (r : RingId) (x : Descriptor) (full : Bool) (status : Code) (bytes detail : Nat) : Device :=
  ((d.ringTake r).ringComplete r x.wanted full ⟨x.tag.toNat, status, bytes, detail⟩).ringSettle r

/-- The drain limit of a ring passes (R70): what is outstanding is cancelled, with the tags of its descriptors. -/
def Device.ringCancel (d : Device) (r : RingId) (tags : List (BitVec 32)) (full : Bool) : Device :=
  if d.fn (.ring r) ≠ .draining then d else
  let n := d.ringPosted r
  let d1 := d.each (List.range n) fun d i =>
    (d.ringTake r).ringComplete r true true ⟨(tags.getD i 0).toNat, St.FN_CANCELLED, 0, 0⟩
  let d2 := d1.onRing r fun x => { x with items := [], limitPassed := true }
  (if full then d2 else d2.deliverOwed r).ringSettle r

/-- A second drain limit has passed: undeliverable completions are discarded and the ring reads OFF (R70). -/
def Device.ringDiscard (d : Device) (r : RingId) : Device :=
  let x := d.ring r
  if d.fn (.ring r) = .draining ∧ x.limitPassed then
    let d1 := ((d.addSat 32 Reg.CPL_DISCARDED x.owed.length).each x.owed fun d c => d.logEv St.RING_CPL_DISCARDED (d.ringSlot r) c.tag)
    (d1.onRing r fun y => { y with owed := [] }).fnOff (.ring r)
  else d

/-- A fault of a ring's owner: each item outstanding completes with the owner's code (Table 2-13). -/
def Device.ringFault (d : Device) (r : RingId) (code : Code) (tags : List (BitVec 32)) : Device :=
  let draining := d.fn (.ring r) == .draining
  let d1 := d.each (List.range (d.ringPosted r)) fun d i =>
    (d.ringTake r).ringComplete r true false ⟨(tags.getD i 0).toNat, code, 0, 0⟩
  let d2 := (d1.onRing r fun x => { x with items := [] }).setFn (.ring r) .fault
  if draining then d2.wr (r.reg 1) 0 else d2

end Sys2Proof.Machine
end

