-- ==== Sys2Proof/Machine/Ingest.lean ====
section
/-!
DEFINITION. Sensor ingest (chapter 9): stream slots and their configuration check, stamps and vehicle time, sample
buffers and records, checks, dropouts, capture and replay.
-/

namespace Sys2Proof.Machine

/-- Slot `n`. -/
def Device.slot (d : Device) (n : Nat) : Slot := SMap.getD d.slots n {}

/-- Change slot `n`. -/
def Device.onSlot (d : Device) (n : Nat) (f : Slot → Slot) : Device :=
  { d with slots := SMap.put d.slots n (f (d.slot n)) {} }

/-- The state of slot `n`. -/
def Device.slotState (d : Device) (n : Nat) : FnState := .ofCode (d.rd (Reg.SLOT_STATE n))

/-- Set the state of slot `n`, and its bit of SLOTS_ACTIVE. -/
def Device.setSlotState (d : Device) (n : Nat) (st : FnState) : Device :=
  (d.wr (Reg.SLOT_STATE n) st.code).wr Reg.SLOTS_ACTIVE (setBit (d.rd Reg.SLOTS_ACTIVE) n (st != .off))

/-- Source kinds (Table 9-1). -/
def kindCsi : Nat := 1
def kindEth : Nat := 2
def kindSpi : Nat := 3
def kindCan : Nat := 4
def kindReplay : Nat := 5

/-- Flags of a sample record (Table 9-5). -/
def fUsable : Nat := 0
def fReplayed : Nat := 1
def fStampMissing : Nat := 2
def fUnmapped : Nat := 3
def fRegress : Nat := 4
def fPattern : Nat := 5
def fSelf : Nat := 6
def fTruncated : Nat := 7
def fCrc : Nat := 8
def fShape : Nat := 9
def fMem : Nat := 10
def fDropout : Nat := 11
def fCancelled : Nat := 12
def fGap : Nat := 13

/-- Fields of the selector entries (Table 9-9). -/
def selVc (v : Nat) : Nat := field v 20 16
def selImage (v : Nat) : Nat := field v 13 8
def selPattern (v : Nat) : Nat := field v 5 0
def spiBytes (v : Nat) : Nat := field v 23 16
def stampWidth (v : Nat) : Nat := field v 31 24
def stampOffset (v : Nat) : Nat := field v 15 0
def shapeLines (v : Nat) : Nat := field v 31 16
def shapeBytes (v : Nat) : Nat := field v 15 0

/-! ### Bindings (R257, R258) -/

/-- The lane groups with the role 25GBASE-KR, ascending: four ports each. -/
def Device.ethGroups (d : Device) : List Nat := (List.range 12).filter (fun g => d.rd (Reg.LANE_ROLE_ACTIVE g) == 2)

/-- The master port that writes samples of a source (Table 9-1). -/
def Device.ingestPort (d : Device) (kind port : Nat) : Nat :=
  if kind = kindReplay then portHost
  else if kind = kindCan then (if port = 0 then portIngestA else portIngestB)
  else if kind = kindEth ∧ port < 8 then
    (match d.ethGroups[port / 4]? with
     | some g => if g < 6 then portIngestA else portIngestB
     | none => portIngestB)
  else portIngestB

/-- What a slot is bound to: its kind, port and the selector entries of its kind. -/
def Device.binding (d : Device) (n : Nat) : List Nat :=
  let k := d.rd (Reg.SLOT_SOURCE_KIND n)
  [k, d.rd (Reg.SLOT_SOURCE_PORT n)] ++
    (if k = kindCsi then [selVc (d.rd (Reg.SLOT_CSI_SELECT n)), selImage (d.rd (Reg.SLOT_CSI_SELECT n))]
     else if k = kindEth then [d.rd (Reg.SLOT_ETH_SRC_MAC n), d.rd (Reg.SLOT_ETH_FLOW n)]
     else if k = kindCan then [leNat (d.blob (Reg.SLOT_CAN_ID_SET n))]
     else [])

/-- The match and mask pairs of a slot with a mask that is not 0. -/
def Device.canPairs (d : Device) (n : Nat) : List (Nat × Nat) :=
  let b := d.blob (Reg.SLOT_CAN_ID_SET n)
  ((List.range 4).map (fun i => (leAt b (4 * i) 2, leAt b (4 * i + 2) 2))).filter (fun p => p.2 != 0)

/-- An identifier meets a pair (R258). -/
def pairMatches (ident : Nat) (p : Nat × Nat) : Bool := Nat.land ident p.2 == Nat.land p.1 p.2

/-- The dictionary node of 0x1108 that a CAN identifier on a controller names. -/
def Device.canNode (d : Device) (bus ident : Nat) : Option Nat :=
  (List.range 8).find? (fun n =>
    let v := d.rd (Reg.NODE_CFG n)
    bitAt v 31 && field v 29 28 == bus && field v 10 0 == ident)

/-- The dictionary node that a source MAC on a 10BASE-T1S MAC names. -/
def Device.t1sNode (d : Device) (mac peer : Nat) : Option Nat :=
  (List.range 8).find? (fun n =>
    let v := d.rd (Reg.NODE_CFG n)
    bitAt v 31 && field v 29 28 == 2 + mac && d.rd (Reg.NODE_PEER_MAC n) == peer)

/-- Slot `n` takes data: it is ON or DRAINING. -/
def Device.slotLive (d : Device) (n : Nat) : Bool := d.slotState n == .on || d.slotState n == .draining

/-- The lowest-numbered live slot of a kind and port that satisfies `p` (R258). -/
def Device.boundSlot (d : Device) (kind port : Nat) (p : Nat → Bool) : Option Nat :=
  (List.range 64).find? (fun n =>
    d.slotLive n && d.rd (Reg.SLOT_SOURCE_KIND n) == kind && d.rd (Reg.SLOT_SOURCE_PORT n) == port && p n)

/-- The live slots of a kind and port that satisfy `p`. -/
def Device.boundSlots (d : Device) (kind port : Nat) (p : Nat → Bool) : List Nat :=
  (List.range 64).filter (fun n =>
    d.slotLive n && d.rd (Reg.SLOT_SOURCE_KIND n) == kind && d.rd (Reg.SLOT_SOURCE_PORT n) == port && p n)

/-- Data that matches no slot is discarded and counted (R258). -/
def Device.unbound (d : Device) : Device := d.countEv St.UNBOUND_DATA 0 Reg.UNBOUND_FRAMES

/-! ### The configuration check (R259) -/

/-- A range lies in the work area (Table 8-1). -/
def inWorkArea (a n : Nat) : Bool := drivePartEnd ≤ a && a + n ≤ dramEnd

/-- Two ranges overlap. -/
def rangesMeet (a n b m : Nat) : Bool := a < b + m && b < a + n && n != 0 && m != 0

/-- Ports a kind may name (Table 9-1). -/
def kindPorts (k : Nat) : Nat :=
  if k = kindCsi then 16 else if k = kindEth then 10 else if k = kindSpi then 2 else if k = kindCan then 2 else 1

/-- CSI-2 data types of Table 9-2 that a slot may store: RAW8 to RAW16, YUV422 8-bit, user-defined. The codes are CSI-2's
own (PRESUMED, log 109); Table 9-2 gives those of the user-defined types, and the example that of RAW12. -/
def imageType (dt : Nat) : Bool := dt == 0x1E || (decide (0x2A ≤ dt) && decide (dt ≤ 0x2E)) || (decide (0x30 ≤ dt) && decide (dt ≤ 0x37))

/-- The receiver's width and rate are those that Table 9-2 gives its PHY. -/
def Device.receiverOk (d : Device) (rx : Nat) : Bool :=
  let width := d.rd (Reg.RX_WIDTH rx)
  let rate := d.rd (Reg.RX_RATE rx)
  decide (80 ≤ rate) && (if d.rd (Reg.RX_PHY rx) = 0 then [1, 2, 4].contains width && decide (rate ≤ 2500)
    else [1, 2, 3].contains width && decide (rate ≤ 1460))

/-- The first subindex that fails the configuration check of slot `n`, if any. A receiver outside Table 9-2 fails at
SOURCE_PORT, which names it (DESIGN CHOICE, log 106). -/
def Device.slotFault (d : Device) (n : Nat) : Option Nat :=
  let k := d.rd (Reg.SLOT_SOURCE_KIND n)
  let port := d.rd (Reg.SLOT_SOURCE_PORT n)
  let others := (List.range 64).filter (fun m => m != n && d.slotState m != .off)
  let spi := d.rd (Reg.SLOT_SPI_CFG n)
  let base := d.rd (Reg.SLOT_BUF_BASE n)
  let size := d.rd (Reg.SLOT_BUF_BYTES n)
  let count := d.rd (Reg.SLOT_BUF_COUNT n)
  let rec_ := d.rd (Reg.SLOT_REC_BASE n)
  let w := stampWidth (d.rd (Reg.SLOT_STAMP_FIELD n))
  let shape := d.rd (Reg.SLOT_SHAPE n)
  let patt := d.rd (Reg.SLOT_PATTERN_KIND n)
  let pbytes := d.rd (Reg.SLOT_PATTERN_BYTES n)
  let checks : List (Nat × Bool) :=
    [(0x02, k == 0 || decide (kindReplay < k) || others.any (fun m => d.binding m == d.binding n)),
     (0x03, decide (kindPorts k ≤ port) || (k == kindCsi && !d.receiverOk (port % 16)) || (k == kindSpi && others.any (fun m =>
        d.rd (Reg.SLOT_SOURCE_KIND m) == kindSpi && d.rd (Reg.SLOT_SOURCE_PORT m) == port))),
     (0x04, k == kindCsi && (!imageType (selImage (d.rd (Reg.SLOT_CSI_SELECT n))) ||
        (d.rd (Reg.RX_PHY (port % 16)) == 0 && decide (15 < selVc (d.rd (Reg.SLOT_CSI_SELECT n)))))),
     (0x07, k == kindCan && (List.range 8).any (fun x =>
        let v := d.rd (Reg.NODE_CFG x)
        bitAt v 31 && field v 29 28 == port && (d.canPairs n).any (pairMatches (field v 10 0)))),
     (0x08, k == kindSpi && (decide (spiBytes spi < 4) || decide (field spi 7 0 < 2))),
     (0x09, decide (w < 1) || decide (8 < w)),
     (0x0B, !inWorkArea base (size * count)),
     (0x0C, decide (size < 4096)),
     (0x0E, !inWorkArea rec_ (64 * count) || rangesMeet rec_ (64 * count) base (size * count)),
     (0x12, k == kindEth && (decide (shapeBytes shape < 1) || decide (4096 < shapeBytes shape))),
     (0x14, k == kindCsi && patt != 0 && (decide (pbytes < 4) || decide (4096 < pbytes)))]
  (checks.find? (·.2)).map (·.1)

/-- DRAIN_LIMIT_US of a slot (R275). -/
def Device.slotDrainLimit (d : Device) (n : Nat) : Nat :=
  min 100000 (d.rd (Reg.SLOT_EXPECTED_US n) + d.rd (Reg.SLOT_SLACK_US n))

/-- A slot starts: it checks its configuration and reaches ON or FAULT (R259). -/
def Device.slotStart (d : Device) (n : Nat) : Device :=
  match d.slotFault n with
  | some sub => ((d.setSlotState n .fault).logEv St.SLOT_CONFIG_INVALID n sub)
  | none => (d.setSlotState n .on).onSlot n fun _ => {}

/-- A slot drains: with no sample in progress it reads OFF at once (R275). -/
def Device.slotSettle (d : Device) (n : Nat) : Device :=
  let x := d.slot n
  if d.slotState n = .draining ∧ x.sample = none ∧ x.ending = [] then
    (d.setSlotState n .off).wr (Reg.SLOT_ENABLE n) 0
  else d

/-- A slot enters DRAINING. -/
def Device.slotDrain (d : Device) (n : Nat) : Device := (d.setSlotState n .draining).slotSettle n

/-! ### Stamps and vehicle time (R261 to R265) -/

/-- One clock mapping bank (Table 9-3). -/
structure ClockBank where
  s0 : Nat
  v0 : Nat
  tick : Nat
  rate : Int
  lo : Int
  hi : Int
  bits : Nat

/-- Read a bank. -/
def clockBank (b : List Byte) : ClockBank :=
  { s0 := leAt b 0 8, v0 := leAt b 8 8, tick := leAt b 16 4, rate := signExt 32 (leAt b 20 4)
    lo := signExt 64 (leAt b 24 8), hi := signExt 64 (leAt b 32 8), bits := leAt b 40 1 }

/-- Why a bank is refused at its commit: a reserved byte, or a field outside its range (Table 9-3). -/
def bankRefused (b : List Byte) : Option Code :=
  let k := clockBank b
  if !zeroAt b 41 7 then some St.DICT_RESERVED_BITS
  else if k.tick = 0 ∨ 4000000000 < k.tick ∨ k.hi < k.lo ∨ k.bits < 8 ∨ 64 < k.bits then some St.DICT_RANGE
  else none

/-- The tick offset of a stamp from a bank's anchor. -/
def ClockBank.offset (k : ClockBank) (s : Nat) : Int := signExt k.bits (ofInt k.bits ((s : Int) - (k.s0 : Int)))

/-- Vehicle time of a tick offset: exact, rounded to the nearest nanosecond, ties upward. -/
def ClockBank.time (k : ClockBank) (off : Int) : Int :=
  let num := off * (k.tick : Int) * ((2 ^ 40 : Int) + k.rate)
  let den : Int := (2 ^ 40 : Int) * 1000000
  (k.v0 : Int) + (2 * num + den) / (2 * den)

/-- Map a stamp on a clock: vehicle time and the commit count of the bank used; none where no bank is valid. Two valid
banks with equal counts: the spec names neither, so a free value picks. -/
def Device.mapStamp (d : Device) (c s : Nat) : Option (Int × Nat) :=
  let try? (b : Nat) : Option (Int × Nat) :=
    let bytes := d.blob (Reg.CLOCK_MAP_BANK c b)
    let k := clockBank bytes
    let off := k.offset s
    if bytes ≠ zeros 48 ∧ k.lo ≤ off ∧ off ≤ k.hi then some (k.time off, d.rd (Reg.CLOCK_BANK_COMMITS c b)) else none
  match try? 0, try? 1 with
  | some x, some y => if x.2 < y.2 then some y else if y.2 < x.2 then some x else if d.freeVal 1 = 0 then some x else some y
  | some x, none => some x
  | none, y => y

/-- The stamp field of `bytes` (R261). -/
def stampIn (fieldWord : Nat) (bytes : List Byte) : Option Nat :=
  if stampOffset fieldWord + stampWidth fieldWord ≤ bytes.length then
    some (leAt bytes (stampOffset fieldWord) (stampWidth fieldWord))
  else none

/-! ### Samples and records (R266, R267) -/

/-- Set a flag; the first condition's code becomes STATUS (R268). -/
def Sample.flag (x : Sample) (bit : Nat) (code : Code) : Sample :=
  { x with flags := setBit x.flags bit true, status := if x.status = 0 then code else x.status }

/-- The buffer of SEQ `q`, and its record. -/
def Device.bufAddr (d : Device) (n q : Nat) : Nat :=
  d.rd (Reg.SLOT_BUF_BASE n) + q % d.rd (Reg.SLOT_BUF_COUNT n) * d.rd (Reg.SLOT_BUF_BYTES n)
def Device.recAddr (d : Device) (n q : Nat) : Nat := d.rd (Reg.SLOT_REC_BASE n) + 64 * (q % d.rd (Reg.SLOT_BUF_COUNT n))

/-- The master port of slot `n`. -/
def Device.slotPort (d : Device) (n : Nat) : Nat :=
  d.ingestPort (d.rd (Reg.SLOT_SOURCE_KIND n)) (d.rd (Reg.SLOT_SOURCE_PORT n))

/-- Write for slot `n`: the code of an error response, 0 if none. -/
def Device.slotWrite (d : Device) (n a : Nat) (bytes : List Byte) (env : MemEnv) : Device × Code :=
  let p := d.slotPort n
  let d1 := match env.level with | some l => d.panicLevel p l.val | none => d
  d1.portWrite p a bytes [] false env

/-- The bytes of a record (Table 9-4). -/
structure SampleRecord where
  seq : Nat
  state : Nat
  slot : Nat
  status : Nat := 0
  vtime : Nat := 0
  stamp : Nat := 0
  bytes : Nat := 0
  units : Nat := 0
  flags : Nat := 0
  frame : Nat := 0
  gen : Nat := 0
  buf : Nat := 0
  bundle : Nat := 0

/-- The record's 64 bytes. -/
def SampleRecord.encode (r : SampleRecord) : List Byte :=
  leBytes r.seq 4 ++ leBytes r.state 1 ++ leBytes r.slot 1 ++ leBytes r.status 2 ++ leBytes r.vtime 8 ++ leBytes r.stamp 8 ++
    leBytes r.bytes 4 ++ leBytes r.units 2 ++ leBytes r.flags 2 ++ leBytes r.frame 4 ++ leBytes r.gen 4 ++ leBytes r.buf 8 ++
    leBytes r.bundle 8 ++ zeros 8

/-- The record of a sample that is FILLING: what is not yet known of it is free; no condition has been met, and reserved bits
read 0 (Tables 9-4, 9-5). -/
def Device.fillingRecord (d : Device) (n q frame : Nat) : SampleRecord :=
  let f := d.freeVal 320
  { seq := q, state := 1, slot := n, vtime := f % 2 ^ 64, stamp := f / 2 ^ 64 % 2 ^ 64, bytes := f / 2 ^ 128 % 2 ^ 32
    units := f / 2 ^ 160 % 2 ^ 16, flags := f / 2 ^ 176 % 2 ^ 14, frame := frame, gen := f / 2 ^ 192 % 2 ^ 32
    buf := d.bufAddr n q, bundle := f / 2 ^ 224 % 2 ^ 64 }

/-- A sample begins: its record is written FILLING. -/
def Device.beginSample (d : Device) (n : Nat) (frame : Nat) (flags : Nat) (env : MemEnv) : Device × Sample :=
  let q := (d.slot n).seq
  let w := (d.drawn.onSlot n fun s => { s with seq := wrapTo 32 (q + 1) }).slotWrite n (d.recAddr n q) (d.fillingRecord n q frame).encode env
  let x : Sample := { seq := q, frameNumber := frame, flags := flags }
  (w.1, if w.2 = 0 then x else x.flag fMem w.2)

/-- Store `bytes` at the end of the sample's data: what the buffer cannot hold, or the port's buffer cannot take (`room`
bytes of them), is discarded to the sample's end (R269). -/
def Device.storeData (d : Device) (n : Nat) (x0 : Sample) (bytes : List Byte) (room : Option Nat) (env : MemEnv) : Device × Sample :=
  let x := { x0 with got := x0.got + bytes.length }
  if x.cut then (d, x) else
  let cap := d.rd (Reg.SLOT_BUF_BYTES n) - 64 - x.bytes
  let take := min cap (match room with | some r => r | none => bytes.length)
  let now := bytes.take take
  let w := d.slotWrite n (d.bufAddr n x.seq + x.bytes) now env
  let p := d.slotPort n
  let d1 := if room.isSome ∧ (p = portIngestA ∨ p = portIngestB)
    then ((w.1.bump (Reg.INGEST_OVERFLOWS (p - portIngestA))).panicLevel p 16) else w.1
  let x1 := { x with bytes := x.bytes + now.length }
  let x2 := if w.2 = 0 then x1 else x1.flag fMem w.2
  (d1, if take < bytes.length then { x2.flag fTruncated St.SAMPLE_TRUNCATED with cut := true } else x2)

/-- Put the sample under reception back into its slot. -/
def Device.putSample (d : Device) (n : Nat) (x : Sample) : Device := d.onSlot n fun s => { s with sample := some x }

/-- The sample's last byte has come: it waits for its completion. -/
def Device.endSample (d : Device) (n : Nat) (x : Sample) : Device :=
  d.onSlot n fun s => { s with sample := none, ending := s.ending ++ [x] }

/-- The self-check block (R271). -/
def checkBlock (seq n : Nat) : List Byte :=
  let head := leBytes 0x43534B4E 4 ++ leBytes seq 4 ++ leBytes n 1 ++ zeros 3 ++
    (List.range 44).map (fun i => BitVec.ofNat 8 (37 * (i + 12) + seq % 256))
  head ++ leBytes (crc32 head) 4 ++ zeros 4

/-- Count the conditions of a completed sample (Table 9-7). -/
def Device.countFlags (d : Device) (n flags : Nat) : Device :=
  let f := fun (d : Device) (p : Nat × Code × Nat) => if bitAt flags p.1 then d.countEv p.2.1 n p.2.2 else d
  d.each [(fPattern, St.PATTERN_FAIL, Reg.SLOT_PATTERN_FAILS n), (fSelf, St.SELF_CHECK_FAIL, Reg.SLOT_SELF_FAILS n),
    (fTruncated, St.SAMPLE_TRUNCATED, Reg.SLOT_TRUNCATIONS n), (fCrc, St.PAYLOAD_CRC, Reg.SLOT_CRC_ERRORS n),
    (fShape, St.SHAPE_ERROR, Reg.SLOT_SHAPE_ERRORS n), (fStampMissing, St.STAMP_MISSING, Reg.SLOT_STAMP_FAULTS n),
    (fUnmapped, St.STAMP_UNMAPPED, Reg.SLOT_STAMP_FAULTS n), (fRegress, St.STAMP_REGRESS, Reg.SLOT_STAMP_FAULTS n),
    (fGap, St.SOURCE_GAP, Reg.SLOT_SOURCE_GAPS n)] f

/-- A frame of a pattern slot completes good or bad (R270): at PATTERN_FAULT_COUNT bad ones in a row the slot informs
Lookout A once. The record that R270 names is the period's, since R278 allows one per code and slot in a period (DEDUCED,
log 106). -/
def Device.patternRun (d : Device) (n flags : Nat) : Device :=
  if d.rd (Reg.SLOT_SOURCE_KIND n) ≠ kindCsi ∨ d.rd (Reg.SLOT_PATTERN_KIND n) = 0 then d
  else if !(bitAt flags fPattern || bitAt flags fSelf) then d.onSlot n fun s => { s with badRun := 0, alarmed := false }
  else
    let run := (d.slot n).badRun + 1
    let hit := decide (d.rd (Reg.SLOT_PATTERN_FAULT_COUNT n) ≤ run) && !(d.slot n).alarmed
    let d1 := d.onSlot n fun s => { s with badRun := run, alarmed := s.alarmed || hit }
    if hit then d1.tellA (.alarm (if bitAt flags fPattern then St.PATTERN_FAIL else St.SELF_CHECK_FAIL) n) else d1

/-- Copy a DONE record and its data, which stands at `src`, to the capture ring (R276); `room` says that its descriptors can
take them. A word that a core left poisoned there faults it (R22). -/
def Device.capture (d : Device) (n : Nat) (record data : List Byte) (src seq : Nat) (room : Bool) : Device :=
  if !bitAt (d.rd Reg.CAPTURE_MASK) n || d.fn (.ring .capture) != .on then d
  else if !room || d.ringPosted .capture = 0 then d.countEv St.CAPTURE_SKIPPED n Reg.CAPTURE_SKIPPED
  else (d.ringSource src data.length).ringPush .capture { bytes := record ++ data, detail := n * 2 ^ 24 + seq % 2 ^ 24 }

/-- Map the sample's stamp and judge its vehicle time (R263, R265): the sample, its time and the commit count used. -/
def Device.timeSample (d : Device) (n : Nat) (x : Sample) : Sample × Option (Int × Nat) :=
  match x.stamp with
  | none => (x.flag fStampMissing St.STAMP_MISSING, none)
  | some s =>
    match d.mapStamp (d.rd (Reg.SLOT_CLOCK_ID n)) s with
    | none => (x.flag fUnmapped St.STAMP_UNMAPPED, none)
    | some (t, gen) =>
      if field x.flags 12 2 ≠ 0 then (x, some (t, gen)) else
      match (d.slot n).lastTime with
      | none => (x, some (t, gen))
      | some prev =>
        if t ≤ prev then (x.flag fRegress St.STAMP_REGRESS, some (t, gen))
        else if 3 * (d.rd (Reg.SLOT_EXPECTED_US n) : Int) * 1000 < 2 * (t - prev) then
          (x.flag fGap St.SOURCE_GAP, some (t, gen))
        else (x, some (t, gen))

/-- Write a record DONE, and set LAST_SEQ: the code of an error response, 0 if none. -/
def Device.doneRecord (d : Device) (n : Nat) (r : SampleRecord) (env : MemEnv) : Device × Code :=
  let w := d.slotWrite n (d.recAddr n r.seq) r.encode env
  (w.1.wr (Reg.SLOT_LAST_SEQ n) r.seq, w.2)

/-- The record of a sample as it is completed (Table 9-4): `t` is its mapped time with the commit count used. Without one
CLOCK_GEN is free, and so is the stamp of a sample that has none. -/
def Device.sampleRecord (d : Device) (n : Nat) (x : Sample) (t : Option (Int × Nat)) : SampleRecord :=
  let free := d.freeVal 96
  { seq := x.seq, state := 2, slot := n, status := x.status
    vtime := (match t with | some p => ofInt 64 p.1 | none => 0)
    stamp := (match x.stamp with | some s => s | none => free % 2 ^ 64)
    bytes := x.bytes, units := x.units, flags := setBit x.flags fUsable (field x.flags 12 2 == 0), frame := x.frameNumber
    gen := (match t with | some p => p.2 | none => free / 2 ^ 64), buf := d.bufAddr n x.seq, bundle := d.strm.count }

/-- A sample is over: its record is written DONE, its conditions are counted, and it is captured (R267, R276, R278). A record
whose write is answered with an error flags the sample (R269): nothing usable was delivered, and the record is not written
again (DESIGN CHOICE, log 106). -/
def Device.closeSample (d : Device) (n : Nat) (x : Sample) (t : Option (Int × Nat)) (room : Bool) (env : MemEnv) : Device × Nat :=
  let r := d.sampleRecord n x t
  let w := d.drawn.doneRecord n r env
  let flags := if w.2 = 0 then r.flags else setBit (setBit r.flags fMem true) fUsable false
  let seen := if w.2 = 0 then r else { r with flags := flags, status := if r.status = 0 then w.2 else r.status }
  let d1 := w.1.countFlags n flags
  (d1.capture n seen.encode (d1.mem.bytes r.buf x.bytes) r.buf x.seq room, flags)

/-- Complete the oldest sample received whole (R267, steps 2 to 5). `corrupt` says that the check block read back differs
from the one inserted. -/
def Device.sampleComplete (d : Device) (n : Nat) (corrupt room : Bool) (env : MemEnv) : Device :=
  match (d.slot n).ending with
  | [] => d
  | x :: rest =>
    let buf := d.bufAddr n x.seq
    let at? := buf + d.rd (Reg.SLOT_BUF_BYTES n) - 64
    let w := d.slotWrite n at? (checkBlock x.seq n) env
    let r := w.1.portRead (d.slotPort n) at? 64 false env
    let code := if w.2 = 0 then r.code else w.2
    let x1 := if code = 0 then x else x.flag fMem code
    let x2 := if code = 0 ∧ (corrupt ∨ r.data ≠ checkBlock x.seq n) then x1.flag fSelf St.SELF_CHECK_FAIL else x1
    let d1 := r.dev
    let t := d1.timeSample n x2
    let c := (d1.onSlot n fun s => { s with ending := rest, dropRun := 0, lost := false }).closeSample n t.1 t.2 room env
    let d2 := c.1.patternRun n c.2
    let d3 := if bitAt c.2 fUsable then
        (d2.onSlot n fun s => { s with lastTime := t.2.map (·.1) }).bumpWrap (Reg.SLOT_SAMPLES n) else d2
    d3.slotSettle n

/-- The drain limit of a slot: the record of the sample in progress completes as cancelled (R275), with STATUS 0x0101. -/
def Device.slotCancel (d : Device) (n : Nat) (room : Bool) (env : MemEnv) : Device :=
  if d.slotState n ≠ .draining then d else
  let l := (d.slot n).ending ++ (match (d.slot n).sample with | some x => [x] | none => [])
  let d1 := d.each l fun d x =>
    let t := d.timeSample n { x with flags := setBit x.flags fCancelled true }
    (d.closeSample n { t.1 with status := St.FN_CANCELLED } t.2 room env).1
  (d1.onSlot n fun s => { s with sample := none, ending := [] }).slotSettle n

/-- A dropout is counted; the DROPOUT_LIMIT-th in a row loses the stream (R273, R274). -/
def Device.countDropout (d : Device) (n : Nat) : Device :=
  let run := (d.slot n).dropRun + 1
  let hit := decide (d.rd (Reg.SLOT_DROPOUT_LIMIT n) ≤ run) && !(d.slot n).lost
  let d1 := (d.onSlot n fun s => { s with dropRun := run, lost := s.lost || hit }).countEv St.DROPOUT n (Reg.SLOT_DROPOUTS n)
  if hit then (d1.logEv St.STREAM_LOST n).tellA (.alarm St.STREAM_LOST n) else d1

/-- A slot's watchdog window passes with no sample completed (R273, R274). Until RUN reaches ON after a chip warm restart a
slot enabled in the snapshot reads OFF, and what it misses counts as dropouts (R101, R274): it has no SEQ then, and DRAM
takes no record (DESIGN CHOICE, log 106). -/
def Device.dropout (d : Device) (n : Nat) (env : MemEnv) : Device :=
  if d.boot.warm ∧ d.slotState n = .off ∧ d.rd (Reg.SLOT_ENABLE n) = 1 then d.countDropout n
  else if d.slotState n ≠ .on then d else
  let q := (d.slot n).seq
  let free := d.freeVal 96
  let r : SampleRecord :=
    { seq := q, state := 2, slot := n, status := St.DROPOUT, stamp := free % 2 ^ 64, flags := 2 ^ fDropout
      gen := free / 2 ^ 64, buf := d.bufAddr n q, bundle := d.strm.count }
  ((d.drawn.onSlot n fun s => { s with seq := wrapTo 32 (q + 1) }).doneRecord n r env).1.countDropout n

/-! ### Sources -/

/-- A header that ECC cannot correct drops the packet (R277); a corrected one is counted. -/
def Device.headerEcc (d : Device) (rx : Nat) (h : HeaderEcc) : Device :=
  match h with
  | .ok => d
  | .corrected => d.bump (Reg.RX_HDR_CORRECTED rx)
  | .bad => d.countEv St.HDR_ECC_DROP rx (Reg.RX_HDR_DROPS rx)

/-- Slots bound to a virtual channel of a receiver. -/
def Device.csiSlots (d : Device) (rx vc : Nat) : List Nat :=
  d.boundSlots kindCsi rx (fun n => selVc (d.rd (Reg.SLOT_CSI_SELECT n)) == vc)

/-- The sources of a port region that is stopped for a restart deliver nothing, nor does any before RUN reaches ON after a
chip warm restart (R23, R101, R274). -/
def Device.ingestStopped (d : Device) (kind port : Nat) : Bool :=
  d.boot.warm || d.regionStopped (if d.ingestPort kind port = portIngestA then .portA else .portB)

/-- A frame is over: the checks that see it whole (R261, R270, R272). -/
def Device.frameChecks (d : Device) (n : Nat) (x : Sample) : Sample :=
  let x1 := if d.rd (Reg.SLOT_PATTERN_KIND n) ≠ 0 ∧ !x.image ∧ !x.pattern then x.flag fPattern St.PATTERN_FAIL else x
  let x2 := if x1.units ≠ shapeLines (d.rd (Reg.SLOT_SHAPE n)) then x1.flag fShape St.SHAPE_ERROR else x1
  if x2.embedded then x2 else x2.flag fStampMissing St.STAMP_MISSING

/-- Frame Start: a frame still open closes as TRUNCATED, which is the first condition it meets then, and a sample begins
(R272). It concerns every slot of its virtual channel, for a slot's frames run from Frame Start to Frame End (Table 9-1),
though a packet goes to one slot only (R258): DESIGN CHOICE, log 106. -/
def Device.frameStart (d : Device) (rx vc frame : Nat) (h : HeaderEcc) (env : MemEnv) : Device :=
  if d.ingestStopped kindCsi rx then d else
  let d0 := d.headerEcc rx h
  if h = .bad then d0 else
  let l := d0.csiSlots rx vc
  if l = [] then d0.unbound else
  d0.each l fun d n =>
    let d1 := match (d.slot n).sample with
      | some x => d.endSample n (d.frameChecks n (x.flag fTruncated St.SAMPLE_TRUNCATED))
      | none => d
    if d1.slotState n = .on then
      let b := d1.beginSample n frame 0 env
      b.1.putSample n b.2
    else d1

/-- The expected content of a pattern packet (R270). -/
def Device.patternOk (d : Device) (n frame : Nat) (payload : List Byte) : Bool :=
  let len := d.rd (Reg.SLOT_PATTERN_BYTES n)
  if d.rd (Reg.SLOT_PATTERN_KIND n) = 1 then payload == (d.blob (Reg.SLOT_PATTERN_BLOB n)).take len && payload.length == len
  else payload == ((List.range (len / 4)).map (fun i => leBytes (Nat.xor (frame * 65536) i) 4)).flatten

/-- One long packet as slot `n` takes it. -/
def Device.csiPacket (d : Device) (n dt : Nat) (payload : List Byte) (crcOk : Bool) (room : Option Nat) (env : MemEnv) : Device :=
  match (d.slot n).sample with
  | none => d
  | some x =>
    let sel := d.rd (Reg.SLOT_CSI_SELECT n)
    let x0 := if crcOk then x else x.flag fCrc St.PAYLOAD_CRC
    if dt = selImage sel then
      let x1 := if d.rd (Reg.SLOT_PATTERN_KIND n) ≠ 0 ∧ !x0.image ∧ !x0.pattern then x0.flag fPattern St.PATTERN_FAIL else x0
      let x2 := if payload.length ≠ shapeBytes (d.rd (Reg.SLOT_SHAPE n)) then x1.flag fShape St.SHAPE_ERROR else x1
      let s := d.storeData n { x2 with image := true, units := x2.units + 1 } payload room env
      s.1.putSample n s.2
    else if dt = 0x12 then
      if x0.embedded then d.putSample n x0
      else
        let st := stampIn (d.rd (Reg.SLOT_STAMP_FIELD n)) payload
        let x1 := { x0 with embedded := true, stamp := st }
        d.putSample n (if st = none then x1.flag fStampMissing St.STAMP_MISSING else x1)
    else if dt = selPattern sel ∧ d.rd (Reg.SLOT_PATTERN_KIND n) ≠ 0 then
      let x1 := { x0 with pattern := true }
      d.putSample n (if x0.pattern || d.patternOk n x0.frameNumber payload then x1 else x1.flag fPattern St.PATTERN_FAIL)
    else d

/-- The slot takes packets of this data type. -/
def Device.takesType (d : Device) (n dt : Nat) : Bool :=
  let sel := d.rd (Reg.SLOT_CSI_SELECT n)
  dt == selImage sel || dt == 0x12 || (dt == selPattern sel && d.rd (Reg.SLOT_PATTERN_KIND n) != 0)

/-- A CSI-2 long packet (R266, R270, R272): it goes to the lowest-numbered slot that its type matches (R258). -/
def Device.longPacket (d : Device) (rx vc dt : Nat) (payload : List Byte) (crcOk : Bool) (h : HeaderEcc) (room : Option Nat)
    (env : MemEnv) : Device :=
  if d.ingestStopped kindCsi rx then d else
  let d0 := d.headerEcc rx h
  if h = .bad then d0 else
  match (d0.csiSlots rx vc).find? (fun n => d0.takesType n dt) with
  | none => d0.unbound
  | some n => d0.csiPacket n dt payload crcOk room env

/-- Frame End: the frame's checks close, and the sample waits for its completion (R270 to R272). -/
def Device.frameEnd (d : Device) (rx vc : Nat) (h : HeaderEcc) : Device :=
  if d.ingestStopped kindCsi rx then d else
  let d0 := d.headerEcc rx h
  if h = .bad then d0 else
  let l := d0.csiSlots rx vc
  if l = [] then d0.unbound else
  d0.each l fun d n =>
    match (d.slot n).sample with
    | none => d
    | some x => d.endSample n (d.frameChecks n x)

/-- A list padded with zero bytes to a multiple of 16. -/
def pad16 (l : List Byte) : List Byte := l ++ zeros ((16 - l.length % 16) % 16)

/-- The 16-byte prefix of a stored frame (R266). -/
def Device.framePrefix (d : Device) (n : Nat) (stamp : Option Nat) (len ident : Nat) : List Byte :=
  let m := match stamp with | some s => d.mapStamp (d.rd (Reg.SLOT_CLOCK_ID n)) s | none => none
  leBytes (match m with | some p => ofInt 64 p.1 | none => 0) 8 ++ leBytes len 2 ++ [if m.isSome then 0 else 1] ++
    leBytes ident 2 ++ zeros 3

/-- An unfragmented IPv4 UDP datagram: the offset of its UDP header. -/
def udpHeader (f : List Byte) : Option Nat :=
  let ihl := leAt f 14 1 % 16
  if beNat (slice f 12 2) = 0x0800 ∧ leAt f 14 1 / 16 = 4 ∧ leAt f 23 1 = 17 ∧ beNat (slice f 20 2) % 2 ^ 14 % 2 ^ 13 = 0 ∧
      !bitAt (beNat (slice f 20 2)) 13 ∧ 14 + 4 * ihl + 8 ≤ f.length
  then some (14 + 4 * ihl) else none

/-- An Ethernet frame matches a slot's selectors (R258). -/
def Device.ethMatches (d : Device) (n : Nat) (f : List Byte) : Bool :=
  let mac := d.rd (Reg.SLOT_ETH_SRC_MAC n)
  let flow := d.rd (Reg.SLOT_ETH_FLOW n)
  let udp := field flow 15 0
  (mac == 0 || mac == beNat (slice f 6 6)) && (field flow 31 16 == 0 || field flow 31 16 == beNat (slice f 12 2)) &&
    (udp == 0 || (match udpHeader f with | some o => beNat (slice f (o + 2) 2) == udp | none => false))

/-- An Ethernet frame, from its destination address to its last payload byte, reaches a slot (R258, R261, R266). -/
def Device.ethFrame (d : Device) (port : Nat) (f : List Byte) (fcsOk : Bool) (room : Option Nat) (env : MemEnv) : Device :=
  if d.ingestStopped kindEth port || (decide (8 ≤ port) && d.rd (Reg.MAC_ADDRESS (port - 8)) == 0) then d
  else if !fcsOk || decide (9216 < f.length) then
    if port < 8 then d.countEv St.FRAME_DROPPED port (Reg.ETH_FRAMES_DROPPED port) else d.tally St.FRAME_DROPPED port
  else match d.boundSlot kindEth port (fun n => d.ethMatches n f) with
  | none => d.unbound
  | some n =>
    if (d.slot n).sample = none ∧ d.slotState n ≠ .on then d else
    let o := if field (d.rd (Reg.SLOT_ETH_FLOW n)) 15 0 = 0 then 14 else (match udpHeader f with | some o => o + 8 | none => 14)
    let st := stampIn (d.rd (Reg.SLOT_STAMP_FIELD n)) (f.drop o)
    let b := match (d.slot n).sample with
      | some x => (d, x)
      | none =>
        let b := d.beginSample n 0 0 env
        (b.1, if st = none then b.2.flag fStampMissing St.STAMP_MISSING else { b.2 with stamp := st })
    let s := b.1.storeData n { b.2 with units := b.2.units + 1 } (pad16 (b.1.framePrefix n st f.length 0 ++ f)) room env
    let x := if d.rd (Reg.SLOT_BUF_BYTES n) - 64 < s.2.got then s.2.flag fShape St.SHAPE_ERROR else s.2
    if shapeBytes (d.rd (Reg.SLOT_SHAPE n)) ≤ x.units then s.1.endSample n x else s.1.putSample n x

/-- A CAN frame reaches a slot (R258, R266, R277). -/
def Device.canFrame (d : Device) (bus ident : Nat) (data : List Byte) (room : Option Nat) (env : MemEnv) : Device :=
  if d.ingestStopped kindCan bus then d else
  match d.boundSlot kindCan bus (fun n => (d.canPairs n).any (pairMatches ident)) with
  | none => d.unbound
  | some n =>
    if d.slotState n ≠ .on then d else
    match stampIn (d.rd (Reg.SLOT_STAMP_FIELD n)) data with
    | none => d.tally St.FRAME_DROPPED n
    | some st =>
      let b := d.beginSample n 0 0 env
      let s := b.1.storeData n { b.2 with units := 1, stamp := some st } (b.1.framePrefix n (some st) data.length ident ++ pad16 data) room env
      s.1.endSample n s.2

/-- A rising SPI_DRDY edge starts a frame read; an edge during a read is ignored (R277). -/
def Device.spiReady (d : Device) (port : Nat) (data : List Byte) (room : Option Nat) (env : MemEnv) : Device :=
  if d.ingestStopped kindSpi port then d else
  match d.boundSlot kindSpi port (fun _ => true) with
  | none => d.unbound
  | some n =>
    if (d.slot n).ending ≠ [] then d.countEv St.SPI_DRDY_OVERRUN n (Reg.SLOT_DRDY_OVERRUNS n)
    else if d.slotState n ≠ .on then d else
    let bytes := padTo data (spiBytes (d.rd (Reg.SLOT_SPI_CFG n)))
    let st := stampIn (d.rd (Reg.SLOT_STAMP_FIELD n)) bytes
    let b := d.beginSample n 0 0 env
    let x := { b.2 with units := 1, stamp := st }
    let s := b.1.storeData n (if st = none then x.flag fStampMissing St.STAMP_MISSING else x) bytes room env
    s.1.endSample n s.2

/-- A descriptor of the replay ring (R276): its bytes join the sample of the slot that OWNER names, and the last of a
group ends it. The result is the completion's status and byte count. -/
def Device.replayData (d : Device) (x : Descriptor) (payload : List Byte) (env : MemEnv) : Device × Code × Nat :=
  let n := leAt x.owner 0 2
  if 64 ≤ n ∨ d.rd (Reg.SLOT_SOURCE_KIND (n % 64)) ≠ kindReplay ∨ !d.slotLive (n % 64) then (d.unbound, St.UNBOUND_DATA, 0)
  else if (d.slot n).sample = none ∧ d.slotState n ≠ .on then (d, St.FN_CANCELLED, 0)
  else
    let b := match (d.slot n).sample with
      | some s => (d, s)
      | none =>
        let b := d.beginSample n 0 (2 ^ fReplayed) env
        (b.1, { b.2 with stamp := some (leAt x.owner 2 8), units := 1 })
    let s := b.1.storeData n b.2 (padTo payload x.len.toNat) none env
    (if x.lastOfGroup then s.1.endSample n s.2 else s.1.putSample n s.2, 0, x.len.toNat)

end Sys2Proof.Machine
end

