-- ==== Sys2Proof/Machine/Safety.lean ====
section
/-!
DEFINITION. The Lookouts (chapter 12): their states, FAULT causes and status messages (R349 to R353), the fallback
stream (R377 to R380), self-test, transients and quarantine (R365 to R371), shed requests (R372, R373) and stage
watchdogs (R374 to R376), and the commands that act on them.
-/

namespace Sys2Proof.Machine

/-! ### The two Lookouts -/

/-- A Lookout's number: 0 A, 1 B. -/
def Island.num : Island → Nat
  | .A => 0 | .B => 1

/-- The other Lookout. -/
def Island.peer : Island → Island
  | .A => .B | .B => .A

/-- A Lookout's own state. -/
def Device.isl (d : Device) (i : Island) : Isl := match i with | .A => d.safety.a | .B => d.safety.b

/-- What LOOKOUT_STATE reads: ROM 0, RUNNING 1, FAULT 2, LOST 3. -/
def Isl.state (x : Isl) : Nat := if x.lost then 3 else if x.halted then 2 else if x.firmware then 1 else 0

/-- Change a Lookout's state, and the entry that shows it. -/
def Device.onIsl (d : Device) (i : Island) (f : Isl → Isl) : Device :=
  let x := f (d.isl i)
  (d.onSafety fun s => match i with | .A => { s with a := x } | .B => { s with b := x }).wr (Reg.LOOKOUT_STATE i.num) x.state

/-- The reset of a Lookout is released. -/
def Device.islReleased (d : Device) (i : Island) : Bool := match i with | .A => d.boot.islA | .B => d.boot.islB

/-- The Lookout executes: it is out of reset, supplied, and its lockstep compare holds. -/
def Device.islUp (d : Device) (i : Island) : Bool := d.islReleased i && !(d.isl i).stopped && !(d.isl i).halted

/-- Its safety firmware runs. -/
def Device.firmware (d : Device) (i : Island) : Bool := d.islUp i && (d.isl i).firmware

/-- Bits of a FAULT cause word (Table 12-2). -/
def causeSelf : Nat := 0
def causeRom : Nat := 1
def causeClock : Nat := 2
def causePeer : Nat := 3
def causeFnDown : Nat := 4
def causeTrailhead : Nat := 5
def causeWarm : Nat := 6
def causeApp : Nat := 7

/-- Set or clear a cause; the FAULT pin is low while any is set (R350). -/
def Device.setCause (d : Device) (i : Island) (bit : Nat) (b : Bool) : Device :=
  d.wr (Reg.FAULT_CAUSE i.num) (setBit (d.rd (Reg.FAULT_CAUSE i.num)) bit b)

/-- The FAULT pin is low. -/
def Device.faultPinLow (d : Device) (i : Island) : Bool := d.rd (Reg.FAULT_CAUSE i.num) != 0

/-! ### The fallback stream (R377 to R380) -/

def reasonRegion : Nat := 1
def reasonWarm : Nat := 2
def reasonReset : Nat := 3
def reasonLookoutA : Nat := 4
def reasonSubstitute : Nat := 5
def reasonBivouac : Nat := 6

/-- A cause to stream arises: the stream starts if it is not under way; RESET takes over its REASON (R378, Table 12-10). -/
def Device.streamFor (d : Device) (reason : Nat) : Device :=
  if d.safety.streams = [] then
    ((d.onSafety fun s => { s with streams := [reason], reason := reason, streamSeq := 0, expired := false }).wr Reg.FALLBACK_STREAMING 1).logEv
      St.FALLBACK_STREAM 1 reason
  else d.onSafety fun s =>
    { s with streams := if s.streams.contains reason then s.streams else s.streams ++ [reason]
             reason := if reason = reasonReset ∨ reason = reasonBivouac then reason else s.reason }

/-- Causes to stream end; without one left, streaming stops. -/
def Device.streamEnd (d : Device) (reasons : List Nat) : Device :=
  let left := d.safety.streams.filter (fun r => !reasons.contains r)
  let d1 := d.onSafety fun s => { s with streams := left, reason := if left.contains s.reason then s.reason else left.headD 0 }
  d1.wr Reg.FALLBACK_STREAMING (bit1 (left != []))

/-- A record with a wrong CRC is discarded at Lookout B (R377). -/
def recordValid (b : List Byte) : Bool := leAt b 60 4 == crc32 (b.take 60 ++ b.drop 64)

/-- No restart and no transition is under way or demanded. -/
def Device.settled (d : Device) : Bool :=
  d.boot.regionDemand == 0 && d.boot.restarting == none && d.boot.chipDemand == none && d.transition == .none

/-- Lookout B receives a trajectory record and the fallback record; `intact` says that the fallback record's bytes arrive
unchanged (R343, R377). The first trajectory after a restart or a cold Trailhead ends the stream (R378). -/
def Device.toLookoutB (d : Device) (traj back : List Byte) (intact : Bool) : Device :=
  if !d.firmware .B then d else
  let noPath := fun (b : List Byte) => bit1 (bitAt (leAt b 8 2) 1)
  let d1 := (d.addSat 32 Reg.NO_CLEAR_PATH_RECORDS (noPath traj + noPath back)).onSafety fun s => { s with trajectory := traj }
  let d2 := if d.settled && d.fn .run == .on && d.personality == .drive then d1.streamEnd [reasonRegion, reasonWarm, reasonReset, reasonBivouac] else d1
  if intact && recordValid back then
    (d2.onSafety fun s => { s with fallback := back, expired := false }).wr Reg.FALLBACK_RECORD_SEQ (leAt back 12 4)
  else d2.logEv St.FALLBACK_RECORD_INVALID 1

/-- A fallback frame (Table 12-8). -/
def Device.frameBytes (d : Device) (record : List Byte) (age flags reason : Nat) : List Byte :=
  let peer := bitAt (d.rd (Reg.FAULT_CAUSE 1)) causePeer
  leBytes 0x42464B4E 4 ++ leBytes d.safety.streamSeq 4 ++ leBytes age 4 ++
    leBytes (flags + (if record = [] then 1 else 0) + 8 * bit1 peer) 2 ++ leBytes reason 1 ++ zeros 1 ++ padTo record 576

/-- Lookout B sends a frame of the stream; `age` is the age of its record in ms (R378, R379). -/
def Device.fallbackFrame (d : Device) (age : Nat) : Device :=
  if d.safety.streams = [] ∨ !d.islUp .B then d else
  let r := d.safety.fallback
  let past := r != [] && decide (leAt r 570 2 ≤ age)
  let f := d.frameBytes r (if r = [] then 0 else age) (2 * bit1 past) d.safety.reason
  let d1 := if past && !d.safety.expired then d.logEv St.FALLBACK_HORIZON_EXPIRED 1 else d
  (d1.onSafety fun s => { s with frame := f, streamSeq := wrapTo 32 (s.streamSeq + 1), expired := s.expired || past }).bumpWrap
    Reg.FALLBACK_FRAMES

/-- FALLBACK_FRAME (R378). -/
def execFallbackFrame (ageMs : BitVec 32) (s : State) : Host.Outcome State Fault Refusal :=
  s.run fun d => d.fallbackFrame ageMs.toNat

/-- The vehicle output has read a DONE record with error twice: Lookout B sends the copy it received (R380). -/
def Device.substitute (d : Device) (age : Nat) : Device :=
  if d.safety.trajectory = [] ∨ !d.firmware .B then d else
  let f := d.frameBytes d.safety.trajectory age 4 reasonSubstitute
  (((d.onSafety fun s => { s with frame := f }).bump Reg.SUBSTITUTE_FRAMES).logEv St.OUTPUT_SUBSTITUTED 1).onPlanning fun p =>
    { p with unsent := [] }

/-- OUTPUT_SUBSTITUTED (R380). -/
def execOutputSubstituted (ageMs : BitVec 32) (s : State) : Host.Outcome State Fault Refusal :=
  s.run fun d => d.substitute ageMs.toNat

/-! ### Status messages between the Lookouts (R351, R352) -/

/-- PEER_STATUS_SEND (R351): a Lookout that executes sends its next count; the floor network carries it. -/
def execPeerStatusSend (i : Island) (s : State) : Host.Outcome State Fault Refusal :=
  s.run fun d => if d.islUp i then d.onIsl i fun x => { x with sent := (x.sent + 1) % 65536, transit := some ((x.sent + 1) % 65536) } else d

/-- A message reaches the Lookout `i`: ten new counts in a row, 1 ms apart, end PEER_LOST. -/
def Device.peerMessage (d : Device) (i : Island) : Device :=
  match (d.isl i.peer).transit with
  | none => d
  | some n =>
    let d1 := d.onIsl i.peer fun x => { x with transit := none }
    if !d1.islUp i || !d1.boot.floorGood || (d1.isl i).seen = some n then d1
    else
      let d2 := d1.onIsl i fun x => { x with seen := some n, valid := min 10 (x.valid + 1) }
      if bitAt (d2.rd (Reg.FAULT_CAUSE i.num)) causePeer ∧ 10 ≤ (d2.isl i).valid then
        let d3 := (d2.setCause i causePeer false).onIsl i.peer fun x => { x with lost := false }
        if i = .B then d3.streamEnd [reasonLookoutA] else d3
      else d2

/-- PEER_STATUS_MESSAGE (R351). -/
def execPeerStatusMessage (i : Island) (s : State) : Host.Outcome State Fault Refusal := s.run fun d => d.peerMessage i

/-- The Lookout `i` declares its peer lost; Lookout B then streams the fallback (R352). -/
def Device.peerLost (d : Device) (i : Island) : Device :=
  if !d.islUp i then d
  else if bitAt (d.rd (Reg.FAULT_CAUSE i.num)) causePeer then d.onIsl i fun x => { x with valid := 0 }
  else
    let d1 := (((d.logEv St.PEER_LOST i.num i.peer.num).setCause i causePeer true).onIsl i fun x => { x with valid := 0 }).onIsl i.peer
      fun x => { x with lost := true }
    if i = .B then d1.streamFor reasonLookoutA else d1

/-- PEER_LOST (R351). -/
def execPeerLost (i : Island) (s : State) : Host.Outcome State Fault Refusal := s.run fun d => d.peerLost i

/-- HEARTBEAT_TOGGLE (R349): a Lookout that executes toggles its pin. -/
def execHeartbeatToggle (i : Island) (s : State) : Host.Outcome State Fault Refusal :=
  s.run fun d => if d.islUp i then d.onIsl i fun x => { x with heartbeat := !x.heartbeat } else d

/-- ISLAND_SELF_FAULT (R350): the firmware halts, the FAULT pin falls, the heartbeat holds its level. -/
def execIslandSelfFault (i : Island) (s : State) : Host.Outcome State Fault Refusal :=
  s.run fun d =>
    if !d.islUp i then d
    else ((d.logEv St.ISLAND_SELF_FAULT i.num).setCause i causeSelf true).onIsl i fun x => { x with halted := true, firmware := false }

/-- ISL_SUPPLY_OR_CRYSTAL_LOSS (R18): that Lookout alone stops. -/
def execIslSupplyOrCrystalLoss (i : Island) (s : State) : Host.Outcome State Fault Refusal :=
  s.run fun d => if d.islReleased i then d.onIsl i fun x => { x with stopped := true, firmware := false, transit := none } else d

/-! ### Self-test (R365 to R371) -/

/-- SLICE_START (R366): in a granted window, when every engine queue of the core is empty and no DE transaction is
outstanding; `inTime` says that this comes within 2 µs of the grant. -/
def Device.sliceStart (d : Device) (c : Nat) (inTime : Bool) : Device :=
  let t := d.test c
  let k := d.core c
  if !t.granted || d.rd (Reg.CORE_STATE c) != coreRunning then d
  else if !inTime then d.deferSlice c
  else if k.teQueue ≠ [] ∨ k.teRuns ≠ [] ∨ k.veQueue ≠ [] ∨ k.veRun.isSome ∨ k.loads ≠ [] ∨ k.chans ≠ [] then d
  else match t.next with
    | none => d
    | some n => (d.onTest c fun t => { t with granted := false, running := some n }).wr (Reg.CORE_STATE c) coreTesting

/-- SLICE_START (R366). -/
def execSliceStart (core : CoreNo) (inTime : Bool) (s : State) : Host.Outcome State Fault Refusal :=
  s.run fun d => d.sliceStart core inTime

/-- Put a core into quarantine with 0x0B03 (R368, R369). -/
def Device.quarantineLogged (d : Device) (c : Nat) (cause : Code) : Device :=
  if bitAt (d.rd Reg.QUARANTINE_MASK) c then d else (d.logEv St.CORE_QUARANTINED c cause).quarantine c St.CORE_QUARANTINED

/-- Three of the transients lie within 1,000 frames (R369). -/
def threeWithin (l : List Nat) : Bool :=
  (List.range (l.length - 2)).any (fun i => (l.getD (i + 2) 0 + 2 ^ 32 - l.getD i 0) % 2 ^ 32 ≤ 1000)

/-- A passing slice A resolves the core's mismatches as transients (R368, R369). -/
def Device.resolveMismatches (d : Device) (c : Nat) : Device :=
  let frames := (d.test c).mismatches
  let d1 := d.each frames fun d f => d.logEv St.REPLAY_TRANSIENT c f
  let all := (d.test c).transients ++ frames
  let newest := all.getLastD 0
  let kept := all.filter (fun f => (newest + 2 ^ 32 - f) % 2 ^ 32 ≤ 1000)
  let d2 := (d1.onTest c fun t => { t with mismatches := [], forMismatch := false, transients := kept }).wr (Reg.TRANSIENTS c)
    (min 255 kept.length)
  if threeWithin all then d2.quarantineLogged c St.REPLAY_TRANSIENT else d2

/-- A test of both slices is complete when neither is pending (R371). -/
def CoreTest.close (t : CoreTest) : CoreTest :=
  if t.pendingA ∨ t.pendingB then t else { t with pendingA := true, pendingB := true, sinceMs := 0 }

/-- A slice has run with a result (R368). -/
def Device.sliceResult (d : Device) (c slice : Nat) (passed : Bool) : Device :=
  let d1 := (d.onSafety fun s => { s with slices := s.slices + 1 }).onTest c fun t =>
    { t with running := none, lastFailed := !passed
             lastA := if slice = 0 then d.safety.slices + 1 else t.lastA, lastB := if slice = 1 then d.safety.slices + 1 else t.lastB }
  if !passed then (d1.logEv St.SELFTEST_FAIL c slice).quarantineLogged c St.SELFTEST_FAIL
  else
    let d2 := if slice = 0 then d1.resolveMismatches c else d1
    d2.onTest c fun t => CoreTest.close (if slice = 0 then { t with pendingA := false } else { t with pendingB := false })

/-- A slice ends: slice A leaves both accumulator sets at +0 (R365), and writes that waited at an endpoint land (R367). -/
def Device.sliceComplete (d : Device) (c : Nat) (passed : Bool) : Device :=
  match (d.test c).running with
  | none => d
  | some n =>
    if d.rd (Reg.CORE_STATE c) ≠ coreTesting then (d.onTest c fun t => { t with running := none }).epRelease c
    else
      let d1 := (d.wr (Reg.CORE_STATE c) coreRunning).onCore c fun k => if n = 0 then { k with acc0 := [], acc1 := [] } else k
      ((d1.epRelease c).sliceResult c n passed).tellA (.selfTest c n passed)

/-- The test row of a region restart runs both slices on a core (R363, R371, Table 12-10). -/
def Device.testRow (d : Device) (c : Nat) (passed : Bool) : Device :=
  let d1 := d.onCore c fun k => { k with acc0 := [], acc1 := [] }
  if passed then (d1.sliceResult c 0 true).sliceResult c 1 true else d1.sliceResult c 0 false

/-- What TEST_STATUS of a core reads (Table 12-14). -/
def Device.testStatus (d : Device) (c : Nat) : Nat :=
  if !d.tested c then 0 else
  let t := d.test c
  setBit (setBit (setBit (setBit (min 0xFFFFFF t.sinceMs) 31 t.forMismatch) 30 (t.pendingA || t.forMismatch)) 29 t.pendingB) 28 t.lastFailed

/-- What TEST_DEBT reads (R371). -/
def Device.testDebt (d : Device) : Nat :=
  ((List.range 64).filter d.tested).foldl (fun n c =>
    let t := d.test c
    n + bit1 (t.pendingA || t.forMismatch) + bit1 t.pendingB) 0

/-! ### Shed requests and overdue tests (R372, R373) -/

/-- The stages of SHED_ORDER. -/
def Device.shedOrder (d : Device) : List Nat := ((d.blob Reg.SHED_ORDER).map (·.toNat)).takeWhile (· != 0xFF)

/-- Test deadlines bind (R371, R411): RUN is ON outside Overnight, under Lookout A's firmware. -/
def Device.deadlinesBind (d : Device) : Bool :=
  d.firmware .A && d.fn .run == .on && d.personality != .overnight && !d.boot.warm && d.boot.chipDemand == none

/-- A Lookout writes through its port; an error answer is retried once, a second one is logged (R355). -/
def Device.lookoutWrite (d : Device) (i : Island) (a : Nat) (bytes : List Byte) (env retry : MemEnv) : Device × Bool :=
  let p := portLookout i
  let w := d.portWrite p a bytes [] false env
  if w.2 = 0 then (w.1, true) else
  let v := w.1.portWrite p a bytes [] false retry
  if v.2 = 0 then (v.1, true) else (v.1.logEv St.LOOKOUT_MEM_ERROR p a, false)

/-- Write a shed request for the next frame that adds a stage (R372). -/
def Device.shedStage (d : Device) (stage : Nat) (cores : Nat) (env retry : MemEnv) : Device :=
  let next := wrapTo 32 (d.rd Reg.FRAME_COUNT + 1)
  let mask := setBit (if d.safety.shedFrame = next then d.safety.shedMask else 0) stage true
  let bytes := leBytes 0x48534B4E 4 ++ leBytes (d.safety.shedSeq + 1) 4 ++ leBytes next 4 ++ leBytes mask 2 ++ zeros 2 ++ leBytes cores 8 ++ zeros 40
  let w := d.lookoutWrite .A (d.rd Reg.SHED_ADDR) bytes env retry
  if !w.2 then w.1 else
  (((w.1.onSafety fun s => { s with shedSeq := wrapTo 32 (s.shedSeq + 1), shedFrame := next, shedMask := mask }).bump Reg.STAGES_SHED).logEv
    St.STAGE_SHED stage).wr (Reg.WD_STATE stage) 0

/-- The first stage of SHED_ORDER not yet shed for the next frame. -/
def Device.nextShed (d : Device) : Option Nat :=
  let next := wrapTo 32 (d.rd Reg.FRAME_COUNT + 1)
  d.shedOrder.find? (fun s => !(d.safety.shedFrame == next && bitAt d.safety.shedMask s))

/-- Deadlines of the cores `due` are near (R372). -/
def Device.shedDue (d : Device) (due : List Nat) (env retry : MemEnv) : Device :=
  let pending := due.filter (fun c => d.tested c && ((d.test c).pendingA || (d.test c).pendingB || (d.test c).forMismatch))
  if !d.deadlinesBind || pending == [] then d else
  match d.nextShed with
  | none => d
  | some s => d.shedStage s (pending.foldl (fun m c => setBit m c true) 0) env retry

/-- STAGE_SHED (R372). -/
def execStageShed (due : List CoreNo) (env retry : MemEnv) (s : State) : Host.Outcome State Fault Refusal :=
  s.run fun d => d.shedDue (due.map (·.val)) env retry

/-- TEST_OVERDUE (R373): the region of a core whose deadline has passed is restarted. -/
def execTestOverdue (core : CoreNo) (s : State) : Host.Outcome State Fault Refusal :=
  s.run fun d =>
    let t := d.test core
    if !d.deadlinesBind || !d.tested core || !(t.pendingA || t.pendingB || t.forMismatch) then d
    else ((d.bump Reg.TESTS_OVERDUE).logEv St.TEST_OVERDUE core).regionFault (Region.ofNum (core.val / 16)) St.TEST_OVERDUE

/-! ### Stage watchdogs (R374 to R376) -/

/-- A watchdog fault: it disarms, and Lookout A is told. -/
def Device.watchdogFault (d : Device) (s : Nat) (code : Code) (counter : Nat) : Device :=
  (((d.wr (Reg.WD_STATE s) 0).bump counter).logEv code s).tellA (.watchdog s code)

/-- A kick reaches its stage's watchdog, `us` after the one before (R107, R369, R374). One that was issued before the bundle
counter stopped for a restart arms nothing (R376). -/
def Device.kickStage (d : Device) (s us : Nat) : Device :=
  if !d.strm.kicks.contains s then d else
  let d1 := d.onStrm fun x => { x with kicks := x.kicks.erase s }
  if !d1.firmware .A || !bitAt (d1.rd Reg.WD_STAGES) s then d1 else
  let d2 := if s = d1.rd Reg.FRAME_STAGE ∧ d1.personality ≠ .overnight then d1.bumpWrap Reg.FRAME_COUNT else d1
  if !d2.strm.running then d2
  else if d2.rd (Reg.WD_STATE s) = 0 then d2.wr (Reg.WD_STATE s) 1
  else
    let d3 := d2.wr (Reg.WD_LAST_INTERVAL_US s) us
    if us < d2.rd (Reg.WD_MIN_US s) then d3.watchdogFault s St.WD_EARLY (Reg.WD_EARLY_FAULTS s) else d3

/-- WATCHDOG_KICK (R107). -/
def execWatchdogKick (stage : Fin 16) (intervalUs : BitVec 32) (s : State) : Host.Outcome State Fault Refusal :=
  s.run fun d => d.kickStage stage intervalUs.toNat

/-- WD_LATE (R374): an armed watchdog reaches MAX_US. -/
def execWdLate (stage : Fin 16) (s : State) : Host.Outcome State Fault Refusal :=
  s.run fun d =>
    if d.rd (Reg.WD_STATE stage) = 1 ∧ d.firmware .A then d.watchdogFault stage St.WD_LATE (Reg.WD_LATE_FAULTS stage) else d

/-- A watchdog's action (R375). -/
def Device.watchdogAction (d : Device) (s : Nat) (code : Code) : Device :=
  match d.rd (Reg.WD_ACTION s) with
  | 1 => d.each (bitList (d.rd (Reg.WD_REGION_MASK s)) 6) fun d r => d.regionFault (Region.ofNum r) code
  | 2 => d.demandChip code
  | _ => d

/-! ### Events at Lookout A (R353) -/

/-- The code and instance under which an event is passed to the application; the island time beside them is free. -/
def LookoutEvent.record : LookoutEvent → Nat × Nat
  | .coreFault c code => (code, c)
  | .mismatch c => (St.REPLAY_MISMATCH, c)
  | .selfTest c _ passed => (if passed then 0 else St.SELFTEST_FAIL, c)
  | .watchdog s code => (code, s)
  | .alarm code i => (code, i)
  | .functions _ => (St.SAFETY_FN_DOWN, 0)

/-- The vendor firmware's action on an event (Table 12-3). -/
def Device.actOn (d : Device) : LookoutEvent → Device
  | .coreFault _ _ => d
  | .mismatch c => if (d.test c).mismatches = [] then d else d.onTest c fun t => { t with forMismatch := true }
  | .selfTest _ _ _ => d
  | .watchdog s code => d.watchdogAction s code
  | .alarm code i => d.logEv St.SENSOR_ALARM i code
  | .functions down => if down = 0 then d.setCause .A causeFnDown false else (d.logEv St.SAFETY_FN_DOWN 0 down).setCause .A causeFnDown true

/-- LOOKOUT_A_EVENT (R353): the oldest event is acted on and passed to the safety application. -/
def execLookoutAEvent (s : State) : Host.Outcome State Fault Refusal :=
  s.run fun d =>
    match d.safety.events with
    | [] => d
    | e :: rest =>
      if !d.firmware .A then d
      else
        let r := (e.record.1, e.record.2, d.freeVal 64)
        (d.drawn.onSafety fun s => { s with events := rest, appRecords := s.appRecords ++ [r] }).actOn e

/-- What the safety application demands (R354). Shed requests are Lookout A's to write (R348). -/
def Device.appDemand (d : Device) (i : Island) (x : AppDemand) : Device :=
  if !d.firmware i then d else
  let d1 := d.logEv St.APP_DEMAND i.num
  match x with
  | .status v => d.wr (Reg.APP_STATUS i.num) v.toNat
  | .regionRestart r => d1.regionFault r St.APP_DEMAND
  | .chipRestart => d1.demandChip St.APP_DEMAND
  | .faultPin low => d1.setCause i causeApp low
  | .shed stage env retry => if i = .A then d1.shedStage stage 0 env retry else d1

/-- APP_DEMAND (R354). -/
def execAppDemand (i : Island) (demand : AppDemand) (s : State) : Host.Outcome State Fault Refusal :=
  s.run fun d => d.appDemand i demand

end Sys2Proof.Machine
end

