-- ==== Sys2Proof/Machine/Guest.lean ====
section
/-!
DEFINITION. The guest die (chapter 14): training, its function, its transport with credits and replay, its requests of
port 76, violations and the fence; and what frees a packet that waits at an endpoint: the end of a transfer, of an epoch,
of a regulation window, of a zeroisation.
-/

namespace Sys2Proof.Machine

/-- Change the guest site. -/
def Device.onGuest (d : Device) (f : Guest → Guest) : Device := { d with guest := f d.guest }

/-- Packet types of Table 14-9. -/
def gstRdReq : Nat := 0x1
def gstWrReq : Nat := 0x2
def gstChXfer : Nat := 0x3
def gstDictReq : Nat := 0x4
def gstRdData : Nat := 0x8
def gstAnswer : Nat := 0x9
def gstDictRsp : Nat := 0xA
def gstCredit : Nat := 0xC
def gstNack : Nat := 0xD

/-- The credits that the device grants the guest (R443). -/
def guestHdrGrant : Nat := 256
def guestDataGrant : Nat := 1024

/-! ### Sending (R443, R444) -/

/-- CREDIT and NACK packets need no credit. -/
def GuestPacket.isControl (x : GuestPacket) : Bool := x.typ == gstCredit || x.typ == gstNack

/-- Data flits of a packet: a RD_REQ and a dictionary packet carry none. -/
def GuestPacket.flits (x : GuestPacket) : Nat := (x.data.length + 63) / 64

/-- The guest has granted what the packet needs. -/
def Guest.maySend (g : Guest) (x : GuestPacket) : Bool :=
  !g.retraining && (x.isControl || (decide (1 ≤ g.hdrCredit) && decide (x.flits ≤ g.dataCredit)))

/-- Put a packet on the wire. -/
def Guest.transmit (g : Guest) (x : GuestPacket) : Guest :=
  let q := { x with seq := g.txSeq }
  { g with txSeq := (g.txSeq + 1) % 4096, wire := some q, replay := g.replay ++ [q]
           hdrCredit := if x.isControl then g.hdrCredit else g.hdrCredit - 1
           dataCredit := g.dataCredit - x.flits }

/-- Send what may be sent of the waiting packets, in order. -/
def Guest.flush (g : Guest) : List GuestPacket → Guest
  | [] => g
  | x :: t => if g.queue = [] ∧ g.maySend x then (g.transmit x).flush t else Guest.flush { g with queue := g.queue ++ [x] } t

/-- Try again what waits. -/
def Guest.retry (g : Guest) : Guest := Guest.flush { g with queue := [] } g.queue

/-- Send a packet to the guest; a control packet does not wait behind others. -/
def Device.guestSend (d : Device) (x : GuestPacket) : Device :=
  d.onGuest fun g => if x.isControl ∧ g.maySend x then g.transmit x else Guest.retry { g with queue := g.queue ++ [x] }

/-! ### Failures and the fence (R447 to R449) -/

/-- The third failure fences the site (R449). -/
def Device.guestFence (d : Device) : Device :=
  (((d.wr Reg.GUEST_FENCED 1).setFn .guest .fault).onGuest fun _ => {}).logEv St.GUEST_FENCED portGuest

/-- A guest failure is counted. -/
def Device.guestFailure (d : Device) : Device :=
  if d.rd Reg.GUEST_FENCED = 1 then d else
  let d1 := d.wr Reg.GUEST_FAILURES (d.rd Reg.GUEST_FAILURES + 1)
  if 3 ≤ d1.rd Reg.GUEST_FAILURES then d1.guestFence else d1

/-- The modules retrain, unless the site has been fenced (R448). -/
def Device.guestRetrain (d : Device) : Device :=
  if d.rd Reg.GUEST_FENCED = 1 then d else d.onGuest fun g => { g with retraining := true }

/-! ### The function (R442, R446) -/

/-- Every credit that the guest does not hold is granted: those that a drain withheld (R443, R446). -/
def Device.guestGrant (d : Device) : Device :=
  let hdr := guestHdrGrant - d.guest.peerHdr
  let data := guestDataGrant - d.guest.peerData
  let d1 := if hdr = 0 then d else d.guestSend { typ := gstCredit, status := hdr }
  let d2 := if data = 0 then d1 else d1.guestSend { typ := gstCredit, status := data, pool := 1 }
  d2.onGuest fun g => { g with peerHdr := guestHdrGrant, peerData := guestDataGrant }

/-- The guest function starts where the site is trained and the personality is not Overnight. -/
def Device.guestStart (d : Device) : Device :=
  if d.fn .guest = .off ∧ d.guest.trained ∧ d.personality ≠ .overnight then (d.setFn .guest .on).guestGrant else d

/-- Nothing that the device has accepted is outstanding: the draining guest reads OFF. -/
def Device.guestSettle (d : Device) : Device :=
  if d.fn .guest = .draining ∧ d.guest.held = [] then d.fnOff .guest else d

/-- The guest is disabled. -/
def Device.guestDrain (d : Device) : Device := (d.setFn .guest .draining).guestSettle

/-- Answer a guest request (R443). -/
def Device.guestAnswer (d : Device) (x : GuestPacket) (code : Code) : Device :=
  if x.typ = gstRdReq then d.guestSend { typ := gstRdData, tag := x.tag, status := code }
  else d.guestSend { typ := gstAnswer, tag := x.tag, status := code }

/-- The drain limit (R446): each request outstanding is answered with 0x0101. -/
def Device.guestCancel (d : Device) : Device :=
  if d.fn .guest ≠ .draining then d else
  ((d.each d.guest.held fun d x => d.guestAnswer x St.FN_CANCELLED).onGuest fun g => { g with held := [] }).fnOff .guest

/-- An attempt to train ends (R441). No die that answers: an empty site. -/
def Device.guestAttempt (d : Device) (t : GuestTraining) : Device :=
  if !d.guest.training then d
  else if t.modules.val = 0 then d.onGuest fun g => { g with training := false }
  else
    let d1 := d.wrAll [(Reg.GUEST_PRESENT, 1), (Reg.GUEST_MODULES, t.modules.val)]
    match t.guestId with
    | some id =>
      if t.rate.val = 0 ∨ !t.raw then failed d1 else
      let d2 := (d1.wrAll [(Reg.GUEST_RATE, t.rate.val), (Reg.GUEST_ID, id.toNat)]).onGuest fun _ =>
        { trained := true, hdrCredit := t.hdrCredit.toNat, dataCredit := t.dataCredit.toNat }
      if d2.rd Reg.GUEST_ENABLE = 1 ∧ d2.personality ≠ .bivouac then d2.guestStart else d2
    | none => failed d1
where
  /-- A failed attempt: the third failure fences the site, and Trailhead logs it. -/
  failed (d : Device) : Device :=
    let d1 := (d.tally St.GUEST_PARAM_REFUSED portGuest).guestFailure
    if d1.rd Reg.GUEST_FENCED = 1 then d1.thCode St.TH_GUEST_TRAIN_FAIL 0 else d1

/-! ### Arriving packets (R443, R444, R447) -/

/-- The packet that an arrival of type `typ` carries. -/
def GuestArrival.packet (typ : Nat) (x : GuestArrival) : GuestPacket :=
  { typ := typ, last := bitAt x.flags.toNat 0, poison := x.poison.toNat, epoch := x.epoch.toNat % 16, tag := x.tag.toNat
    len := x.len.toNat, addr := x.addr.toNat, channel := x.channel.toNat, status := x.status.toNat, index := x.index.toNat
    subindex := x.subindex.toNat, value := x.value.toNat, seq := x.seq.toNat % 4096, data := x.data }

/-- The header flit breaks Table 14-9. -/
def GuestArrival.malformed (typ : Nat) (x : GuestArrival) : Bool :=
  x.undefinedType || x.flags.toNat / 2 != 0 || x.epoch.toNat / 16 != 0 || decide (256 < x.len.toNat) || x.reserved ||
    x.seq.toNat / 4096 != 0 ||
    ((typ == gstWrReq || typ == gstChXfer) && x.data.length != x.len.toNat)

/-- Return a packet's credits to the guest; a draining guest gets none (R446). -/
def Device.guestFree (d : Device) (x : GuestPacket) : Device :=
  if x.isControl ∨ d.fn .guest ≠ .on then d else
  let d1 := (d.onGuest fun g => { g with peerHdr := g.peerHdr + 1, peerData := g.peerData + x.flits }).guestSend
    { typ := gstCredit, status := 1 }
  if x.flits = 0 then d1 else d1.guestSend { typ := gstCredit, status := x.flits, pool := 1 }

/-- The sixteenth such packet within the millisecond is a violation (Table 14-10). -/
def Device.guestSixteen (d : Device) (n : Nat) : Device :=
  if n = 16 then (d.guestFailure).guestRetrain else d

/-- A request of port 76 is performed and answered, or waits with its credits held (R443, R437). -/
def Device.guestPerform (d : Device) (x : GuestPacket) (e : MemEnv) : Device × Bool :=
  let base := d.rd Reg.GUEST_WINDOW_BASE
  let size := d.rd Reg.GUEST_WINDOW_SIZE
  let n := if x.typ = gstRdReq then x.len else x.data.length
  let outside := size == 0 || decide (x.addr < base) || decide (base + size < x.addr + n)
  if x.typ = gstChXfer then
    if (d.mport portGuest).exhaustedNow then (d.budgetStop portGuest, false) else
    match d.chanWrite { guest := true, channel := x.channel, epoch := x.epoch, dev := 64, core := 0, chan := 0, off := x.addr
                        data := x.data, bad := bitList x.poison 8, last := x.last } with
    | (d1, none) => (d1, false)
    | (d1, some code) =>
      let d2 := (d1.issued portGuest n).completed portGuest 0 (d1.deadline portGuest) e
      let d3 := if code = St.EPOCH_STALE ∨ code = St.RECEIVER_RESTARTING then d2.countEv code portGuest Reg.GUEST_EPOCH_DISCARDS
        else if code = St.CHAN_REFUSED ∧ (d.boundTo true x.channel).isNone then d2.tally code portGuest else d2
      ((d3.guestAnswer x code).guestFree x, true)
  else if outside then
    (((d.countEv St.INBOUND_WINDOW_REFUSED portGuest Reg.GUEST_WINDOW_REFUSALS).guestAnswer x St.INBOUND_WINDOW_REFUSED).guestFree x, true)
  else if d.zeroWait x.addr n then (d, false)
  else if (d.mport portGuest).exhaustedNow then (d.budgetStop portGuest, false)
  else if x.typ = gstRdReq then
    let r := (d.issued portGuest n).memRead portGuest x.addr n false e
    ((r.dev.guestSend { typ := gstRdData, tag := x.tag, len := n, status := r.code, data := r.data,
                        poison := r.bad.foldl (fun p g => setBit p g true) 0 }).guestFree x, true)
  else
    let r := (d.issued portGuest n).memWrite portGuest x.addr x.data (bitList x.poison 8) false e
    ((r.1.guestAnswer x r.2).guestFree x, true)

/-- The guest's transport is live: ON or DRAINING, and not paused by a retraining. -/
def Device.guestLive (d : Device) : Bool :=
  (d.fn .guest == .on || d.fn .guest == .draining) && !d.guest.retraining

/-- A packet of type `typ` arrives from the guest: CRC, sequence, credits, form; then its own effect `act`. -/
def Device.guestArrive (d : Device) (typ : Nat) (a : GuestArrival) (act : Device → GuestPacket → Device) : Device :=
  let x := a.packet typ
  if !d.guestLive then d
  else if !a.crcOk then
    (d.countEv St.GUEST_CRC_RETRY portGuest Reg.GUEST_CRC_RETRIES).guestSend { typ := gstNack, value := x.seq }
  else if x.seq ≠ d.guest.rxSeq then d
  else if !x.isControl && (d.guest.peerHdr == 0 || decide (d.guest.peerData < x.flits)) then
    ((d.countEv St.GUEST_CREDIT_OVERRUN portGuest Reg.GUEST_CREDIT_OVERRUNS).onGuest fun g =>
      { g with overruns := g.overruns + 1 }).guestSixteen (d.guest.overruns + 1)
  else
    let d1 := d.onGuest fun g =>
      { g with rxSeq := (g.rxSeq + 1) % 4096, peerHdr := if x.isControl then g.peerHdr else g.peerHdr - 1
               peerData := g.peerData - x.flits }
    if a.malformed typ then
      let d2 := ((d1.countEv St.GUEST_MALFORMED portGuest Reg.GUEST_MALFORMED).onGuest fun g =>
        { g with malformed := g.malformed + 1 }).guestFree x
      let d3 := if !a.undefinedType && (typ == gstRdReq || typ == gstWrReq || typ == gstChXfer) then
        d2.guestAnswer x St.GUEST_MALFORMED else d2
      d3.guestSixteen (d.guest.malformed + 1)
    else act d1 x

/-- A request of the guest: performed, or held while it waits. -/
def Device.guestRequest (d : Device) (x : GuestPacket) (e : MemEnv) : Device :=
  let r := d.guestPerform x e
  if r.2 then r.1 else r.1.onGuest fun g => { g with held := g.held ++ [x] }

/-- Try the guest's requests that wait. -/
def Device.retryGuest (d : Device) : Device :=
  (d.each d.guest.held fun d x =>
    let r := d.guestPerform x {}
    if r.2 then r.1.onGuest fun g => { g with held := g.held.erase x } else r.1).guestSettle

/-- Packets that wait in receive buffers are tried again. -/
def Device.retryHeld (d : Device) : Device :=
  (d.each (List.finRange 4) fun d p => (d.retryPort p.val).linkSettle p).retryGuest

/-- Packets that credits returned by the guest acknowledge. -/
def guestAcked (pool : Nat) : Nat → List GuestPacket → Nat
  | _, [] => 0
  | n, x :: t =>
    let need := if pool = 0 then 1 else x.flits
    if x.isControl ∨ need = 0 then (let m := guestAcked pool n t; if m = 0 then 0 else m + 1)
    else if need ≤ n then guestAcked pool (n - need) t + 1 else 0

/-- Resend from a sequence number; from the start of the replay buffer. -/
def Guest.resendFrom (g : Guest) (seq : Nat) : Guest :=
  let again := g.replay.dropWhile (fun x => x.seq != seq)
  if again = [] then g else { g with wire := again.getLast? }
def Guest.resend (g : Guest) : Guest := if g.replay = [] then g else { g with wire := g.replay.getLast? }

/-! ### The commands -/

/-- GUEST_TRAINING_ATTEMPT (R441). -/
def execGuestTrainingAttempt (t : GuestTraining) (s : State) : Host.Outcome State Fault Refusal :=
  s.run fun d => d.guestAttempt t

/-- RD_REQ (R443). -/
def execRdReq (x : GuestArrival) (env : MemEnv) (s : State) : Host.Outcome State Fault Refusal :=
  s.run fun d => d.guestArrive gstRdReq x fun d y => d.guestRequest y env

/-- WR_REQ (R443). -/
def execWrReq (x : GuestArrival) (env : MemEnv) (s : State) : Host.Outcome State Fault Refusal :=
  s.run fun d => d.guestArrive gstWrReq x fun d y => d.guestRequest y env

/-- CH_XFER (R437, R443). -/
def execChXfer (x : GuestArrival) (env : MemEnv) (s : State) : Host.Outcome State Fault Refusal :=
  s.run fun d => d.guestArrive gstChXfer x fun d y =>
    let d1 := d.guestRequest y env
    if y.last then d1.retryHeld else d1

/-- GUEST_CREDIT (R443): the pool's credits rise, and the packets they cover leave the replay buffer. -/
def execGuestCredit (x : GuestArrival) (pool : Fin 2) (s : State) : Host.Outcome State Fault Refusal :=
  s.run fun d => d.guestArrive gstCredit x fun d y => d.onGuest fun g =>
    let g1 := { g with replay := g.replay.drop (guestAcked pool y.status g.replay) }
    (if pool.val = 0 then { g1 with hdrCredit := g1.hdrCredit + y.status } else { g1 with dataCredit := g1.dataCredit + y.status }).retry

/-- NACK (R444): the guest names the SEQ of a packet whose CRC failed; the packet carries it in VALUE. -/
def execNack (x : GuestArrival) (s : State) : Host.Outcome State Fault Refusal :=
  s.run fun d => d.guestArrive gstNack x fun d y =>
    (d.countEv St.GUEST_CRC_RETRY portGuest Reg.GUEST_CRC_RETRIES).onGuest fun g => g.resendFrom (y.value % 4096)

/-- GUEST_SIDEBAND_VIOLATION (R447). -/
def execGuestSidebandViolation (s : State) : Host.Outcome State Fault Refusal :=
  s.run fun d =>
    if d.rd Reg.GUEST_PRESENT = 0 ∨ d.rd Reg.GUEST_FENCED = 1 then d
    else ((d.tally St.GUEST_SIDEBAND_VIOLATION portGuest).guestFailure).guestRetrain

/-- GUEST_RETRAINING_COMPLETE (R448): unanswered packets are replayed; after a failure the modules retrain again. -/
def execGuestRetrainingComplete (ok : Bool) (s : State) : Host.Outcome State Fault Refusal :=
  s.run fun d =>
    if !d.guest.retraining then d
    else if ok then d.onGuest fun g => ({ g.resend with retraining := false }).retry
    else d.guestFailure

/-- TRANSFER_ABANDONED (R438): an open transfer without a packet for 10 ms. -/
def execTransferAbandoned (core : CoreNo) (ep : Fin 4) (which : Fin 16) (s : State) : Host.Outcome State Fault Refusal :=
  s.run fun d =>
    let l := SMap.getD (d.core core).transfers ep []
    if l.length ≤ which.val then d else
    ((d.onCore core fun k => { k with transfers := SMap.put k.transfers ep (dropAt l which) [] }).tally
      St.TRANSFER_ABANDONED core).retryHeld

/-- EPOCH_DRAIN_EXPIRY (R439): EPOCH_DRAIN_US after its retirement an epoch is free again. -/
def execEpochDrainExpiry (guest : Bool) (channel : BitVec 8) (epoch : BitVec 4) (s : State) : Host.Outcome State Fault Refusal :=
  s.run fun d => d.freeEpoch guest channel.toNat epoch.toNat

/-- ZEROISE_COMPLETE (R233): the requests that waited for it go on. -/
def execZeroiseComplete (s : State) : Host.Outcome State Fault Refusal := s.run fun d => d.zeroiseDone.retryHeld

/-- REG_WINDOW_END (R249): the port's next window begins, and what waited for its budget goes on. -/
def execRegWindowEnd (port : Fin 79) (s : State) : Host.Outcome State Fault Refusal :=
  s.run fun d => (d.newWindow port).retryHeld

/-- SLICE_COMPLETE (R365 to R372): the slice that a core runs ends, and the transfers that waited for it go on (R367). -/
def execSliceComplete (core : CoreNo) (passed : Bool) (s : State) : Host.Outcome State Fault Refusal :=
  s.run fun d => (d.sliceComplete core passed).retryHeld

end Sys2Proof.Machine
end

