-- ==== Sys2Proof/Machine/HamperOps.lean ====
section
/-!
DEFINITION. The Hamper's tables in device memory (R179 to R188): geometry, the free ring, sequence descriptors, page
lists and journals; edits by the Warden (R188, R209 to R211), the slot audit (R214), and the checks of an enable (R215).
-/

namespace Sys2Proof.Machine

/-! ### Geometry (R179 to R186) -/

/-- Elements of a token row, and column groups. -/
def Device.kvElems (d : Device) : Nat := 2 * d.rd Reg.KV_HEADS * d.rd Reg.HEAD_DIM
def Device.kvGroups (d : Device) : Nat := d.kvElems / 64

/-- Slot p (R183). -/
def Device.slotAddr (d : Device) (p : Nat) : Nat := d.rd Reg.HAMPER_BASE + p * d.rd Reg.SLOT_BYTES

/-- The descriptor of a sequence (R185). -/
def Device.seqAddr (d : Device) (s : Nat) : Nat := d.rd Reg.SEQ_TABLE_BASE + 64 * s

/-- The bytes of a page list, and the list of a sequence and layer (R186). -/
def Device.listBytes (d : Device) : Nat := 64 + 4 * d.rd Reg.MAX_PAGES
def Device.listAddr (d : Device) (s l : Nat) : Nat := d.rd Reg.LIST_BASE + (s * d.rd Reg.LAYERS + l) * d.listBytes

/-- Entry q of a page list. -/
def Device.entryAddr (d : Device) (s l q : Nat) : Nat := d.listAddr s l + 64 + 4 * q

/-- Fields of a page list entry (Table 7-5). -/
def pageValid (e : Nat) : Bool := bitAt e 31
def pageFormatBit (e : Nat) : Nat := field e 30 30
def pageRecompute (e : Nat) : Bool := bitAt e 29
def pageSlot (e : Nat) : Nat := field e 23 0

/-- No slot. -/
def noSlot : Nat := 0xFFFFFF

/-- An entry word. -/
def pageEntry (valid : Bool) (format : Nat) (recompute : Bool) (slot : Nat) : Nat :=
  bit1 valid * 2 ^ 31 + format * 2 ^ 30 + bit1 recompute * 2 ^ 29 + slot

/-- The entry is usable: VALID and not RECOMPUTE (R187). -/
def pageUsable (e : Nat) : Bool := pageValid e && !pageRecompute e

/-- The format code of a format bit (Table 7-7). -/
def formatCode (bit : Nat) : Nat := if bit = 0 then 0xE else 0xD

/-! ### Descriptor and list fields -/

def Device.seqGen (d : Device) (s : Nat) : Nat := d.memNat (d.seqAddr s) 4
def Device.seqClass (d : Device) (s : Nat) : Nat := d.memNat (d.seqAddr s + 4) 1 % 4
def Device.seqFlags (d : Device) (s : Nat) : Nat := d.memNat (d.seqAddr s + 5) 1
def Device.heldSteps (d : Device) (s : Nat) : Nat := d.memNat (d.seqAddr s + 6) 1
def Device.lastAttended (d : Device) (s : Nat) : Nat := d.memNat (d.seqAddr s + 8) 8
def Device.recomputeFrom (d : Device) (s : Nat) : Nat := d.memNat (d.seqAddr s + 16) 4
def Device.slotsHeld (d : Device) (s : Nat) : Nat := d.memNat (d.seqAddr s + 20) 4
def Device.seqActive (d : Device) (s : Nat) : Bool := bitAt (d.seqFlags s) 0
def Device.seqHeld (d : Device) (s : Nat) : Bool := bitAt (d.seqFlags s) 1
def Device.seqPreempted (d : Device) (s : Nat) : Bool := bitAt (d.seqFlags s) 2
def Device.layerLength (d : Device) (s l : Nat) : Nat := d.memNat (d.listAddr s l) 4
def Device.appendBusy (d : Device) (s l : Nat) : Bool := bitAt (d.memNat (d.listAddr s l + 4) 1) 0
def Device.pageAt (d : Device) (s l q : Nat) : Nat := d.memNat (d.entryAddr s l q) 4

/-- Set one flag of a descriptor. -/
def Device.setSeqFlag (d : Device) (s bit : Nat) (b : Bool) : Device :=
  d.setMemNat (d.seqAddr s + 5) 1 (setBit (d.seqFlags s) bit b)

/-- Set HELD_STEPS. -/
def Device.setHeldSteps (d : Device) (s v : Nat) : Device := d.setMemNat (d.seqAddr s + 6) 1 (min v 255)

/-- Add to GEN. -/
def Device.addGen (d : Device) (s n : Nat) : Device := d.setMemNat (d.seqAddr s) 4 (wrapTo 32 (d.seqGen s + n))

/-- Lower RECOMPUTE_FROM. -/
def Device.minRecompute (d : Device) (s v : Nat) : Device := d.setMemNat (d.seqAddr s + 16) 4 (min (d.recomputeFrom s) v)

/-- The lowest position whose page entry has RECOMPUTE in any layer; 0xFFFF_FFFF none (Table 7-3). -/
def Device.lowestMissing (d : Device) (s : Nat) : Nat :=
  match (List.range (d.rd Reg.MAX_PAGES)).find? (fun q =>
    (List.range (d.rd Reg.LAYERS)).any (fun l => pageRecompute (d.pageAt s l q))) with
  | some q => 16 * q
  | none => 0xFFFFFFFF

/-- RECOMPUTE_FROM follows its meaning in Table 7-3 once a REFILL has published; R193's procedure does not name the step
(DESIGN CHOICE, log 104). -/
def Device.raiseRecompute (d : Device) (s : Nat) : Device := d.setMemNat (d.seqAddr s + 16) 4 (d.lowestMissing s)

/-- Set SLOTS_HELD. -/
def Device.setSlotsHeld (d : Device) (s v : Nat) : Device := d.setMemNat (d.seqAddr s + 20) 4 v

/-- Set a page list entry. -/
def Device.setPage (d : Device) (s l q e : Nat) : Device := d.setMemNat (d.entryAddr s l q) 4 e

/-- Bytes 4 to 7 of a page list header: APPEND_BUSY, BUSY_CORE and what is reserved. -/
def Device.busyWord (d : Device) (s l : Nat) : Nat := d.memNat (d.listAddr s l + 4) 4

/-- The word with APPEND_BUSY set for a core. -/
def busyFor (old core : Nat) : Nat := old / 65536 * 65536 + 256 * core + (old % 256 / 2 * 2 + 1)

/-- Set APPEND_BUSY with its core, by a compare-and-swap on bytes 4 to 7 of the list header (R227): false where the word
shows another walk's. -/
def Device.setBusy (d : Device) (s l core : Nat) (expected : Nat) : Device × Bool :=
  if d.busyWord s l = expected ∧ !bitAt expected 0 then (d.setMemNat (d.listAddr s l + 4) 4 (busyFor expected core), true)
  else (d, false)

/-- Clear APPEND_BUSY; BUSY_CORE stays. -/
def Device.clearBusy (d : Device) (s l : Nat) : Device := d.setMemNat (d.listAddr s l + 4) 1 0

/-! ### The free ring (R184) -/

/-- FREE_COUNT: tail minus head. -/
def Device.freeCount (d : Device) : Nat := d.hamper.tail - d.hamper.head

/-- The address of a ring place. -/
def Device.ringPlace (d : Device) (i : Nat) : Nat := d.rd Reg.FREE_RING_BASE + 4 * (i % d.rd Reg.FREE_RING_ENTRIES)

/-- Pop a slot from the head. -/
def Device.popSlot (d : Device) : Device × Option Nat :=
  if d.freeCount = 0 then (d, none)
  else ({ d with hamper := { d.hamper with head := d.hamper.head + 1 } }, some (d.memNat (d.ringPlace d.hamper.head) 4))

/-- Push a slot at the tail. -/
def Device.pushSlot (d : Device) (p : Nat) : Device :=
  let d1 := d.setMemNat (d.ringPlace d.hamper.tail) 4 p
  { d1 with hamper := { d1.hamper with tail := d1.hamper.tail + 1 } }

/-! ### Journals (R214) -/

/-- The journal record of a core's channel. -/
def Device.journalAddr (d : Device) (c ch : Nat) : Nat := d.rd Reg.POP_JOURNAL_BASE + 1024 * c + 64 * ch

/-- Journal a popped slot. -/
def Device.journal (d : Device) (c ch s l p : Nat) : Device :=
  let a := d.journalAddr c ch
  let n := d.memNat (a + 3) 1
  (((d.setMemNat a 2 s).setMemNat (a + 2) 1 l).setMemNat (a + 4 + 4 * n) 4 p).setMemNat (a + 3) 1 (n + 1)

/-- Clear a journal record's COUNT. -/
def Device.clearJournal (d : Device) (c ch : Nat) : Device := d.setMemNat (d.journalAddr c ch + 3) 1 0

/-- The page list of a sequence and layer names a slot in a VALID entry. -/
def Device.listNames (d : Device) (s l p : Nat) : Bool :=
  (List.range (d.rd Reg.MAX_PAGES)).any (fun q => pageValid (d.pageAt s l q) && pageSlot (d.pageAt s l q) == p)

/-- The slot audit of one journal record: slots that no VALID entry names go back to the free ring. -/
def Device.auditRecord (d : Device) (c ch : Nat) : Device :=
  let a := d.journalAddr c ch
  let n := d.memNat (a + 3) 1
  if n = 0 then d else
  let s := d.memNat a 2
  let l := d.memNat (a + 2) 1
  let lost := ((List.range n).map (fun i => d.memNat (a + 4 + 4 * i) 4)).filter (fun p => !d.listNames s l p)
  ((d.each lost fun d p => d.pushSlot p).addSat 32 Reg.AUDIT_SLOTS_RETURNED lost.length).clearJournal c ch

/-- Clear APPEND_BUSY of every header whose BUSY_CORE lies in the region (Table 7-14), in one edit of each sequence that has
one (R188). -/
def Device.clearRegionBusy (d : Device) (r : Nat) : Device :=
  d.each (List.range (d.rd Reg.SEQ_MAX)) fun d s =>
    match (List.range (d.rd Reg.LAYERS)).filter (fun l => d.appendBusy s l && d.memNat (d.listAddr s l + 5) 1 / 16 == r) with
    | [] => d
    | ls => ((d.addGen s 1).each ls fun d l => d.clearBusy s l).addGen s 1

/-- The Hamper's part of a compute region's restart in Overnight (R213, R214). -/
def Device.hamperRestart (d : Device) (r : Nat) : Device :=
  if d.personality ≠ .overnight ∨ d.rd Reg.LAYERS = 0 then d else
  (d.each (List.range 256) fun d i => d.auditRecord (16 * r + i / 16) (i % 16)).clearRegionBusy r

/-! ### Eviction (R209 to R211) -/

/-- The tail page of layer 0 of a sequence; pages below it may be evicted. -/
def Device.tailPage (d : Device) (s : Nat) : Nat := (d.layerLength s 0 - 1) / 16

/-- Some layer has a VALID entry in column q. -/
def Device.columnValid (d : Device) (s q : Nat) : Bool :=
  (List.range (d.rd Reg.LAYERS)).any (fun l => pageValid (d.pageAt s l q))

/-- The highest column below the tail page that can be evicted. -/
def Device.victimColumn (d : Device) (s : Nat) : Option Nat :=
  ((List.range (d.tailPage s)).filter (d.columnValid s)).getLast?

/-- The order of victims: class, then LAST_ATTENDED, then handle. -/
def Device.victimBefore (d : Device) (a b : Nat) : Bool :=
  decide (d.seqClass a < d.seqClass b) ||
    (d.seqClass a == d.seqClass b &&
      (decide (d.lastAttended a < d.lastAttended b) || (d.lastAttended a == d.lastAttended b && decide (a < b))))

/-- The victim under a class limit (R209). -/
def Device.victim (d : Device) (k : Nat) : Option (Nat × Nat) :=
  let l := (List.range (d.rd Reg.SEQ_MAX)).filter (fun s =>
    d.seqActive s && !d.seqPreempted s && decide (d.seqClass s < k) && (d.victimColumn s).isSome)
  match l with
  | [] => none
  | s :: t =>
    let v := t.foldl (fun b x => if d.victimBefore x b then x else b) s
    (d.victimColumn v).map (fun q => (v, q))

/-- Drop the entry of one layer and column: the slot it held, if any. -/
def Device.dropPage (d : Device) (s l q : Nat) : Device × Option Nat :=
  let e := d.pageAt s l q
  if pageValid e then (d.setPage s l q (pageEntry false (pageFormatBit e) true noSlot), some (pageSlot e)) else (d, none)

/-- The Warden's edits under way: the sequences whose GEN it has made odd, and the slots it has freed. One edit of a sequence
takes all that the Warden changes of it in a management iteration (R188, R189). -/
structure Edits where
  dev : Device
  opened : List Nat := []
  freed : List Nat := []

/-- The Warden is about to change a sequence: GEN becomes odd. -/
def Edits.touch (x : Edits) (s : Nat) : Edits :=
  if x.opened.contains s then x else { x with dev := x.dev.addGen s 1, opened := x.opened ++ [s] }

/-- Change the device within the edits. -/
def Edits.on (x : Edits) (f : Device → Device) : Edits := { x with dev := f x.dev }

/-- The edits end: every GEN is even again, and only then do the freed slots reach the free ring (R189). -/
def Edits.close (x : Edits) : Device :=
  (x.dev.each x.opened fun d s => d.addGen s 1).each x.freed fun d p => d.pushSlot p

/-- Drop columns of a sequence (R209). -/
def Edits.evict (x : Edits) (s : Nat) (columns : List Nat) (from? : Nat) (edit : Device → Device) : Edits :=
  let x1 := x.touch s
  let layers := x1.dev.rd Reg.LAYERS
  let places := (columns.map (fun q => (List.range layers).map (fun l => (l, q)))).flatten
  let r := places.foldl
    (fun (acc : Device × List Nat) p =>
      match acc.1.dropPage s p.1 p.2 with
      | (d, some slot) => (d, acc.2 ++ [slot])
      | (d, none) => (d, acc.2))
    (x1.dev, [])
  { x1 with dev := ((edit (r.1.minRecompute s from?)).setSlotsHeld s (r.1.slotsHeld s - r.2.length)).addSat 64
                      Reg.SLOTS_EVICTED r.2.length
            freed := x1.freed ++ r.2 }

/-- Evict one column (R209). -/
def Edits.evictColumn (x : Edits) (s q : Nat) : Edits := (x.evict s [q] (16 * q) id).on fun d => d.bump Reg.COLUMNS_EVICTED

/-- Preempt a sequence (R211); Overnight reports it. -/
def Edits.preempt (x : Edits) (s : Nat) : Edits :=
  let cols := (List.range (x.dev.rd Reg.MAX_PAGES)).filter (x.dev.columnValid s)
  (x.evict s cols 0 fun d => (d.setSeqFlag s 2 true).setSeqFlag s 1 false).on fun d =>
    ((d.addSat 32 Reg.COLUMNS_EVICTED cols.length).bump (Reg.HAMPER_EVENTS 8)).logEv St.SEQ_PREEMPTED 0 s

/-- HELD sequences, highest class first, then lowest handle (R210). -/
def Device.heldSequences (d : Device) : List Nat :=
  let l := (List.range (d.rd Reg.SEQ_MAX)).filter d.seqHeld
  ([3, 2, 1, 0].map (fun k => l.filter (fun s => d.seqClass s == k))).flatten

/-- A HELD sequence has been given room (R210). -/
def Edits.clearHeld (x : Edits) (h : Nat) : Edits := (x.touch h).on fun d => (d.setSeqFlag h 1 false).setHeldSteps h 0

/-- Resolve one HELD sequence (R210), with the columns left in the budget. -/
def Edits.resolveHeld (p : Edits × Nat) (h : Nat) : Edits × Nat :=
  match p.1.dev.victim (p.1.dev.seqClass h) with
  | none => (p.1.preempt h, p.2)
  | some (s, q) =>
    if 0 < p.2 then ((p.1.evictColumn s q).clearHeld h, p.2 - 1)
    else if 1 ≤ p.1.dev.heldSteps h then (p.1.preempt h, p.2)
    else p

/-- Keep the free ring above its low-water mark (R210): the slots freed count, though they reach the ring at the end. -/
def Edits.keepFree (x : Edits) : Nat → Edits
  | 0 => x
  | budget + 1 =>
    if x.dev.freeCount + x.freed.length < x.dev.rd Reg.FREE_LOW_WATER then
      match x.dev.victim 4 with
      | some (s, q) => Edits.keepFree (x.evictColumn s q) budget
      | none => x
    else x

/-- The Hamper's work of one management iteration (R210). The Warden reads the descriptors through its port; an error answer
abandons the iteration's work (R244). -/
def Device.hamperIteration (d0 : Device) (e : MemEnv) : Device :=
  if d0.fn .hamper ≠ .on then d0 else
  let t := d0.tableAccess portWarden ((List.range (d0.rd Reg.SEQ_MAX)).map d0.seqAddr) e
  let d := t.1
  if t.2 ≠ 0 then d else
  let r := d.heldSequences.foldl Edits.resolveHeld ({ dev := d }, d.rd Reg.EVICT_PER_PERIOD)
  (r.1.keepFree r.2).close

/-! ### The enable (R179 to R184, R214, R215) -/

/-- The tenant partition. -/
def tenantBase : Nat := drivePartEnd
def tenantEnd : Nat := dramEnd

/-- A range lies in the tenant partition. -/
def inTenant (a n : Nat) : Bool := tenantBase ≤ a && a + n ≤ tenantEnd

/-- Two ranges overlap. -/
def overlaps (a b : Nat × Nat) : Bool := a.1 < b.1 + b.2 && b.1 < a.1 + a.2

/-- No two ranges of a list overlap. -/
def disjointRanges : List (Nat × Nat) → Bool
  | [] => true
  | r :: t => t.all (fun x => !overlaps r x) && disjointRanges t

/-- The five ranges of the Hamper, as base and size. -/
def Device.hamperRanges (d : Device) : List (Nat × Nat) :=
  [(d.rd Reg.HAMPER_BASE, d.rd Reg.SLOT_COUNT * d.rd Reg.SLOT_BYTES),
   (d.rd Reg.SEQ_TABLE_BASE, 64 * d.rd Reg.SEQ_MAX),
   (d.rd Reg.LIST_BASE, d.rd Reg.SEQ_MAX * d.rd Reg.LAYERS * d.listBytes),
   (d.rd Reg.FREE_RING_BASE, 4 * d.rd Reg.FREE_RING_ENTRIES),
   (d.rd Reg.POP_JOURNAL_BASE, 65536)]

/-- The geometry and placement that an enable requires. -/
def Device.hamperConfigOk (d : Device) : Bool :=
  let h := d.rd Reg.KV_HEADS
  let dim := d.rd Reg.HEAD_DIM
  let l := d.rd Reg.LAYERS
  let fmts := d.rd Reg.FORMATS_ALLOWED
  let slot := d.rd Reg.SLOT_BYTES
  let n := d.rd Reg.SLOT_COUNT
  let ring := d.rd Reg.FREE_RING_ENTRIES
  1 ≤ h && h ≤ 32 && [32, 64, 96, 128].contains dim && 1 ≤ l && l ≤ 255 && d.kvElems ≤ 2048 && d.kvElems % 64 == 0 &&
    slot != 0 && slot % 512 == 0 && (!bitAt fmts 0 || decide (pageBytes 0xE d.kvElems ≤ slot)) &&
    (!bitAt fmts 1 || decide (pageBytes 0xD d.kvElems ≤ slot)) &&
    d.rd Reg.HAMPER_BASE % 512 == 0 && 1 ≤ n && n ≤ 16777215 && ring != 0 && ring == 2 ^ Nat.log2 ring && n ≤ ring &&
    16 ≤ d.rd Reg.MAX_PAGES && d.rd Reg.MAX_PAGES ≤ 65536 && d.rd Reg.MAX_PAGES % 16 == 0 &&
    1 ≤ d.rd Reg.SEQ_MAX && d.rd Reg.SEQ_MAX ≤ 4096 && d.rd Reg.SEQ_TABLE_BASE % 64 == 0 && d.rd Reg.LIST_BASE % 64 == 0 &&
    d.rd Reg.FREE_RING_BASE % 64 == 0 && d.rd Reg.POP_JOURNAL_BASE % 4096 == 0 &&
    d.hamperRanges.all (fun r => inTenant r.1 r.2) && disjointRanges d.hamperRanges

/-- Zero a range of device memory without the floor cache's accounting. -/
def Device.zeroRange (d : Device) (a n : Nat) : Device :=
  d.onMem fun m => { m with dram := SMap.keep m.dram (fun x => x < a || a + n ≤ x)
                            poison := SMap.keep m.poison (fun l => l * 64 < a || a + n ≤ l * 64) }

/-- STARTING: the Warden zeroes the sequence table, the page lists and the journals, and fills the free ring with slots 0
to SLOT_COUNT − 1 in ascending order (R184, R214). -/
def Device.hamperFill (d : Device) : Device :=
  let d1 := ((d.zeroRange (d.rd Reg.SEQ_TABLE_BASE) (64 * d.rd Reg.SEQ_MAX)).zeroRange (d.rd Reg.LIST_BASE)
      (d.rd Reg.SEQ_MAX * d.rd Reg.LAYERS * d.listBytes)).zeroRange (d.rd Reg.POP_JOURNAL_BASE) 65536
  let d2 := d1.each (List.range (d.rd Reg.SLOT_COUNT)) fun d p => d.setMemNat (d.rd Reg.FREE_RING_BASE + 4 * p) 4 p
  { d2 with hamper := ⟨0, d.rd Reg.SLOT_COUNT⟩ }

end Sys2Proof.Machine
end

