-- ==== Sys2Proof/Machine/Walk.lean ====
section
/-!
DEFINITION. The page walk (R190 to R195): judging of its descriptor, READ attempts under a consistent GEN, APPEND and
REFILL with their journal, publication, and the start and completion of DE operations.
-/

namespace Sys2Proof.Machine

/-! ### The walk descriptor (Table 7-6) -/

/-- The walk that the descriptor at byte `a` names. -/
def Core.walkDesc (k : Core) (a bundle : Nat) : Walk :=
  { desc := a, seq := k.readNat a 2, layer := k.readNat (a + 2) 1, mode := k.readNat (a + 3) 1, pos0 := k.readNat (a + 4) 4
    count := k.readNat (a + 8) 2, frames := k.readNat (a + 10) 1, format := k.readNat (a + 11) 1
    frameBase := k.readNat (a + 12) 4, srcElem := k.readNat (a + 16) 4, srcScale := k.readNat (a + 20) 4
    srcTile := k.readNat (a + 24) 4, bundle := bundle }

/-- Pages that a walk touches: the first, and how many. -/
def Walk.firstPage (w : Walk) : Nat := w.pos0 / 16
def Walk.pages (w : Walk) : Nat := (w.pos0 + w.count - 1) / 16 + 1 - w.firstPage

/-- Frame f of a READ walk. -/
def Device.frameAddr (d : Device) (w : Walk) (f : Nat) : Nat := w.frameBase + f * (64 + d.rd Reg.SLOT_BYTES)

/-- The Hamper is ON or DRAINING, so that the job's geometry counts. -/
def Device.hamperUp (d : Device) : Bool := d.fn .hamper == .on || d.fn .hamper == .draining

/-- The descriptor breaks R190. The checks that rest on the job's geometry count while the Hamper is ON or DRAINING: before
that there is none (DESIGN CHOICE, log 104). -/
def Device.walkBad (d : Device) (k : Core) (w : Walk) : Bool :=
  let e := d.kvElems
  let shape :=
    if w.mode = 0 then
      w.count == 0 || w.frames == 0 || 16 < w.frames || w.frames < w.pages || w.format != 0 || w.frameBase % 64 != 0 ||
        lmSize < d.frameAddr w w.frames
    else w.count == 0 || 64 < w.count || w.frames != 0 || (w.format != 0xE && w.format != 0xD)
  let job := d.hamperUp && (d.rd Reg.LAYERS ≤ w.layer || d.rd Reg.SEQ_MAX ≤ w.seq ||
    (w.mode != 0 && (lmSize < w.srcElem + w.count * elemBytes w.format e || lmSize < w.srcScale + w.count * scaleBytes e ||
      lmSize < w.srcTile + 4 * d.kvGroups)))
  2 < w.mode || k.readNat (w.desc + 28) 20 != 0 || shape || job

/-- The first code met stays the walk's status. -/
def Walk.meet (w : Walk) (c : Code) : Walk := if w.status = 0 then { w with status := c } else w

/-! ### Frames -/

/-- Tokens of page q that lie in the walked range and below `len`. -/
def Walk.mask (w : Walk) (len q : Nat) : Nat :=
  (List.range 16).foldl (fun m t =>
    if w.pos0 ≤ 16 * q + t ∧ 16 * q + t < w.pos0 + w.count ∧ 16 * q + t < len then m + 2 ^ t else m) 0

/-- A frame header (Table 7-7). -/
def frameHeader (w : Walk) (q mask status format page gen : Nat) : List Byte :=
  leBytes (16 * q) 4 ++ leBytes mask 2 ++ leBytes status 1 ++ leBytes format 1 ++ leBytes page 4 ++ leBytes gen 4 ++
    leBytes w.seq 2 ++ leBytes w.layer 1 ++ zeros 45

/-- Write a frame header. -/
def Device.putHeader (d : Device) (c : Nat) (w : Walk) (f : Nat) (h : List Byte) : Device :=
  d.onCore c fun k => k.write (d.frameAddr w f) h

/-- The mask and format as last formed in frame f. Where no attempt has formed them they are free values: tokens of the
walked range, and NK4 or NK8. -/
def Device.lastMask (d : Device) (c : Nat) (w : Walk) (f : Nat) : Nat :=
  if w.resFrames = 0 then d.freeVal 16 &&& w.mask (w.pos0 + w.count) (w.firstPage + f)
  else (d.core c).readNat (d.frameAddr w f + 4) 2
def Device.lastFormat (d : Device) (c : Nat) (w : Walk) (f : Nat) : Nat :=
  if w.resFrames = 0 then formatCode (d.freeVal 1) else (d.core c).readNat (d.frameAddr w f + 7) 1

/-- Every frame of a READ walk takes a status that carries no keys, with the mask as last formed. -/
def Device.voidFrames (d : Device) (c : Nat) (w : Walk) (status : Nat) : Device :=
  d.each (List.range w.pages) fun d f =>
    (d.putHeader c w f (frameHeader w (w.firstPage + f) (d.lastMask c w f) status (d.lastFormat c w f) noSlot w.resGen)).drawn

/-- Every frame of the walk reads CANCELLED (R215). -/
def Device.cancelFrames (d : Device) (c : Nat) (w : Walk) : Device :=
  if w.mode ≠ 0 then d else d.voidFrames c w frameCancelled

/-- The transactions that copy the page bytes of a slot into a frame (R192). -/
def Device.copyPage (d : Device) (w : Walk) (f slot fmt : Nat) : List InFlight :=
  let n := pageBytes fmt d.kvElems
  pieces false n (d.slotAddr slot) (d.frameAddr w f + 64) n

/-- One frame of a READ attempt under generation `gen`: its header is written, and the walk takes the copying of its page,
or notes that it was delivered RECOMPUTE. -/
def Device.readFrame (d : Device) (c : Nat) (w : Walk) (gen len f : Nat) : Device × Walk :=
  let q := w.firstPage + f
  let e := d.pageAt w.seq w.layer q
  let mask := w.mask len q
  let fmt := formatCode (pageFormatBit e)
  if mask = 0 then (d.putHeader c w f (frameHeader w q 0 frameBeyond fmt noSlot gen), w)
  else if pageUsable e then
    (d.putHeader c w f (frameHeader w q mask frameOk fmt (pageSlot e) gen),
     { w with todo := w.todo ++ d.copyPage w f (pageSlot e) fmt })
  else (d.putHeader c w f (frameHeader w q mask frameRecompute fmt noSlot gen), { w with missing := true })

/-! ### READ attempts (R191) -/

/-- The walking operation of a channel: its index, the operation and its walk. -/
def Core.walking (k : Core) (ch : Nat) : Option (Nat × DeOp × Walk) :=
  (List.zipIdx (k.chan ch)).findSome? (fun p => p.1.walk.map (fun w => (p.2, p.1, w)))

/-- Replace a channel's walk. -/
def Device.setWalk (d : Device) (c ch i : Nat) (o : DeOp) (w : Walk) : Device := d.setOp c ch i { o with walk := some w }

/-- Nine attempts without one consistent state: every frame reads CONFLICT (R191). -/
def Device.conflict (d : Device) (c ch i : Nat) (o : DeOp) (w : Walk) : Device :=
  let d1 := d.voidFrames c w frameConflict
  ((d1.bump (Reg.HAMPER_EVENTS 2)).logEv St.WALK_CONFLICT c w.seq w.layer).setWalk c ch i o
    { w with phase := .done, status := St.WALK_CONFLICT, resFrames := w.pages }

/-- An attempt met an odd or a changed GEN. -/
def Device.attemptFailed (d : Device) (c ch i : Nat) (o : DeOp) (w : Walk) : Device :=
  let d1 := d.bump (Reg.HAMPER_EVENTS 1)
  let w1 := { w with attempts := w.attempts + 1, resFlags := setBit w.resFlags 1 true }
  if 9 ≤ w1.attempts then d1.conflict c ch i o w1 else d1.setWalk c ch i o { w1 with phase := .retry }

/-- The words of the Hamper's tables that a walk reads: its sequence's descriptor, the list header, and its entries. -/
def Device.walkWords (d : Device) (w : Walk) : List Nat :=
  [d.seqAddr w.seq, d.listAddr w.seq w.layer] ++ (List.range w.pages).map (fun q => d.entryAddr w.seq w.layer (q + w.firstPage))

/-- A read of the tables is answered with an error (R143, R244): 0x0405 is counted and logged, the frames that a READ walk
would fill have their headers poisoned, and the walk ends with 0x0405. DESIGN CHOICE, log 105: the spec names no frame
status and no RES_STATUS for it. -/
def Device.walkError (d : Device) (c ch i : Nat) (o : DeOp) (w : Walk) (code : Code) : Device :=
  let d1 := (d.bump (Reg.CORE_DE_READ_ERRORS c)).logEv St.DE_READ_ERROR c (faultDetail 3 ch 0 0) code
  let d2 := if w.mode ≠ 0 then d1 else d1.each (List.range w.pages) fun d f =>
    d.onCore c fun k => k.writeBad (d.frameAddr w f) (zeros 64) [0, 1]
  d2.setWalk c ch i o { w.meet St.DE_READ_ERROR with phase := .done, resFrames := if w.mode = 0 then w.pages else w.resFrames }

/-- One attempt of a READ walk: an odd GEN fails it; otherwise its frames are copied, and GEN is compared at the end. -/
def Device.attempt (d0 : Device) (c ch i : Nat) (o : DeOp) (w : Walk) (e : MemEnv) : Device :=
  let t := d0.tableAccess c (d0.walkWords w) e
  let d := t.1
  if t.2 ≠ 0 then d.walkError c ch i o w t.2 else
  let g := d.seqGen w.seq
  if g % 2 = 1 then d.attemptFailed c ch i o w else
  let len := d.layerLength w.seq w.layer
  let r := (List.range w.pages).foldl (fun (acc : Device × Walk) f => acc.1.readFrame c acc.2 g len f)
    (d, { w with missing := false, todo := [] })
  r.1.setWalk c ch i o { r.2 with phase := .copied g, resFrames := w.pages, resLength := len, resGen := g }

/-- READ_WALK: the first attempt of a READ walk that has been judged. -/
def Device.readWalk (d : Device) (c ch : Nat) (e : MemEnv) : Device :=
  match (d.core c).walking ch with
  | some (i, o, w) => if w.mode = 0 ∧ w.phase = .ready then d.attempt c ch i o w e else d
  | none => d

/-- WALK_RETRY: the next attempt, after 512 CLK_FABRIC cycles. -/
def Device.walkRetry (d : Device) (c ch : Nat) (e : MemEnv) : Device :=
  match (d.core c).walking ch with
  | some (i, o, w) => if w.mode = 0 ∧ w.phase = .retry then d.attempt c ch i o w e else d
  | none => d

/-! ### APPEND and REFILL (R193, R194) -/

/-- The run's block scales and tile scales are data that R193 accepts. -/
def Device.runOk (d : Device) (k : Core) (w : Walk) : Bool :=
  let bs := scaleBytes d.kvElems
  (k.read w.srcScale (w.count * bs)).all (fun b => b.toNat < 0x7F) &&
    (List.range d.kvGroups).all (fun g => isPow2F32 (k.readNat (w.srcTile + 4 * g) 4))
where
  /-- A positive power of two in binary32. -/
  isPow2F32 (v : Nat) : Bool :=
    match ofF32 v with
    | .fin false n _ _ => n == 2 ^ Nat.log2 n
    | _ => false

/-- The positions are those that the mode requires (R193): an APPEND at LAYER_LENGTH, a REFILL from the first token of
each page it touches to the page's last existing token. -/
def Walk.modeOk (w : Walk) (len pages : Nat) : Bool :=
  let e := w.pos0 + w.count
  if w.mode = 1 then w.pos0 == len && e ≤ 16 * pages
  else w.pos0 % 16 == 0 && e ≤ len && (e % 16 == 0 || e == len)

/-- The page format bit of a walk. -/
def Walk.formatBit (w : Walk) : Nat := if w.format = 0xE then 0 else 1

/-- Divide an E4M3 block scale by 2^n; whether the division was exact (R194). -/
def divScale (v n : Nat) : Nat × Bool :=
  let x := (nkScale v).mul (.fin false 1 1 (-(n : Int)))
  let r := (e4m3.encode .nearest x).code
  (r, x == .zero false || nkScale r == x || !Num.lt (nkScale r) x && !Num.lt x (nkScale r))

/-- The exponent of a tile scale that is a power of two. -/
def tileExp (v : Nat) : Int :=
  match ofF32 v with
  | .fin _ n d e => floorLog2 n d e
  | _ => 0

/-- Divide block scales of group g in a list of scale rows (each `bs` bytes) by 2^n, counting inexact divisions. -/
def divRows (l : List Byte) (bs g n : Nat) : List Byte × Nat :=
  (List.zipIdx l).foldr
    (fun p acc =>
      if p.2 % bs / 4 = g then
        let r := divScale p.1.toNat n
        (BitVec.ofNat 8 r.1 :: acc.1, acc.2 + if r.2 then 0 else 1)
      else (p.1 :: acc.1, acc.2)) ([], 0)

/-- Make one column group agree (R194): the page's scale rows, the run's scale rows, and the group's tile scale. -/
structure Conform where
  page : List Byte
  run : List Byte
  tiles : List Nat
  inexact : Nat

/-- Conform group g: `held` says that the page already holds tokens. -/
def conformGroup (held : Bool) (bs : Nat) (runTile pageTile g : Nat) (x : Conform) : Conform :=
  if !held then { x with tiles := x.tiles ++ [runTile] }
  else
    let a := tileExp runTile
    let b := tileExp pageTile
    if b < a then
      let r := divRows x.page bs g (a - b).toNat
      { x with page := r.1, tiles := x.tiles ++ [runTile], inexact := x.inexact + r.2 }
    else if a < b then
      let r := divRows x.run bs g (b - a).toNat
      { x with run := r.1, tiles := x.tiles ++ [pageTile], inexact := x.inexact + r.2 }
    else { x with tiles := x.tiles ++ [pageTile] }

/-- The transactions that write bytes to device memory, whose data is at hand. With `run` they come from local memory at
`src`, with its marks. -/
def Core.pageWrite (k : Core) (src addr : Nat) (l : List Byte) (run : Bool) : List InFlight :=
  (pieces true l.length src addr l.length).map fun x =>
    { x with data := (l.drop (x.dst - addr)).take x.len, bad := if run then k.badOf x.src x.len else [], arrived := true }

/-- The run's tokens of page q go to its slot: the walk takes their writes, and 0x060A where a scale was rounded (R194). -/
def Device.writePage (d : Device) (c : Nat) (w : Walk) (q slot : Nat) : Device × Walk :=
  let k := d.core c
  let e := d.kvElems
  let be := elemBytes w.format e
  let bs := scaleBytes e
  let a := d.slotAddr slot
  let lo := max w.pos0 (16 * q)
  let hi := min (w.pos0 + w.count) (16 * q + 16)
  let t0 := lo - 16 * q
  let i0 := lo - w.pos0
  let n := hi - lo
  let held := t0 != 0
  let start : Conform := ⟨d.mem.bytes (a + 16 * be) (t0 * bs), k.read (w.srcScale + i0 * bs) (n * bs), [], 0⟩
  let x := (List.range d.kvGroups).foldl (fun x g =>
    conformGroup held bs (k.readNat (w.srcTile + 4 * g) 4) (d.memNat (a + 16 * (be + bs) + 4 * g) 4) g x) start
  let src := w.srcElem + i0 * be
  let tiles := padTo (x.tiles.map (fun v => leBytes v 4)).flatten 128
  let todo := k.pageWrite src (a + t0 * be) ((d.seen c).read src (n * be)) true ++ k.pageWrite 0 (a + 16 * be) x.page false ++
    k.pageWrite (w.srcScale + i0 * bs) (a + 16 * be + t0 * bs) x.run true ++ k.pageWrite w.srcTile (a + 16 * (be + bs)) tiles false
  let w1 := { w with todo := w.todo ++ todo }
  ((d.looked c).addSat 32 (Reg.HAMPER_EVENTS 6) x.inexact, if x.inexact = 0 then w1 else w1.meet St.KV_RESCALE_INEXACT)

/-- One page of an APPEND or REFILL: the device and the walk after it. -/
def Device.appendPage (d : Device) (c ch : Nat) (w : Walk) (q : Nat) : Device × Walk :=
  let e := d.pageAt w.seq w.layer q
  if w.mode = 2 ∧ pageUsable e then (d.bump (Reg.HAMPER_EVENTS 9), w.meet St.REFILL_SKIPPED)
  else if w.mode = 1 ∧ pageRecompute e then (d, w)
  else if pageValid e then d.writePage c w q (pageSlot e)
  else
    match d.popSlot with
    | (d1, none) =>
      (((d1.setSeqFlag w.seq 1 true).bump (Reg.HAMPER_EVENTS 3)),
       { w.meet St.HAMPER_NO_SLOT with resFlags := setBit w.resFlags 0 true
                                       news := w.news ++ [(q, pageEntry false w.formatBit true noSlot)] })
    | (d1, some p) =>
      (d1.journal c ch w.seq w.layer p).writePage c
        { w with resSlots := w.resSlots + 1, news := w.news ++ [(q, pageEntry true w.formatBit false p)] } q p

/-- The walk is refused: it writes nothing. -/
def Device.refuseWalk (d : Device) (c ch i : Nat) (o : DeOp) (w : Walk) (code : Code) (event : Nat) : Device :=
  (d.bump (Reg.HAMPER_EVENTS event)).setWalk c ch i o
    { w with phase := .done, status := code, resLength := d.layerLength w.seq w.layer }

/-- The checks and the writes of an APPEND or REFILL, up to its publication (R193). -/
def Device.append (d0 : Device) (c ch i : Nat) (o : DeOp) (w : Walk) (e : MemEnv) : Device :=
  let t := d0.tableAccess c (d0.walkWords w) e
  let d := t.1
  if t.2 ≠ 0 then d.walkError c ch i o w t.2 else
  let s := w.seq
  let l := w.layer
  let pages := (List.range w.pages).map (· + w.firstPage)
  if !d.seqActive s || d.seqPreempted s || !bitAt (d.rd Reg.FORMATS_ALLOWED) w.formatBit then
    d.refuseWalk c ch i o w St.APPEND_REFUSED 4
  else if !d.runOk (d.core c) w then d.refuseWalk c ch i o w St.KV_DATA_INVALID 5
  else if !(d.setBusy s l c (d.busyWord s l)).2 then d.refuseWalk c ch i o w St.APPEND_REFUSED 4
  else if !w.modeOk (d.layerLength s l) (d.rd Reg.MAX_PAGES) ||
      pages.any (fun q => pageValid (d.pageAt s l q) && pageFormatBit (d.pageAt s l q) != w.formatBit) then
    d.refuseWalk c ch i o w St.APPEND_REFUSED 4
  else
    let r := pages.foldl (fun (acc : Device × Walk) q => acc.1.appendPage c ch acc.2 q) ((d.setBusy s l c (d.busyWord s l)).1, w)
    r.1.setWalk c ch i o { r.2 with phase := .written }

/-- APPEND, REFILL: the walk that has been judged acts. -/
def Device.appendWalk (d : Device) (c ch mode : Nat) (e : MemEnv) : Device :=
  match (d.core c).walking ch with
  | some (i, o, w) => if w.mode = mode ∧ w.phase = .ready then d.append c ch i o w e else d
  | none => d

/-- APPEND_PUBLISH: entries, header, descriptor fields and GEN become visible together (R193, R195). An error answer to them
is a core fault, and DONE_SEM is not raised (R144, R244). -/
def Device.publish (d0 : Device) (c ch : Nat) (e : MemEnv) : Device :=
  match (d0.core c).walking ch with
  | none => d0
  | some (i, o, w) =>
    if w.phase ≠ .written ∨ w.todo ≠ [] ∨ o.flights ≠ [] then d0 else
    let t := d0.tableAccess c (d0.walkWords w) e
    let d := t.1
    if t.2 ≠ 0 then (d.setWalk c ch i { o with done := none } { w with phase := .done }).writeAnswered c ch t.2 else
    let s := w.seq
    let l := w.layer
    let len := max (d.layerLength s l) (w.pos0 + w.count)
    let d1 := d.each w.news fun d p => d.setPage s l p.1 p.2
    let d2 := (d1.setMemNat (d1.listAddr s l) 4 len).clearBusy s l
    let d3 := d2.each (w.news.filter (fun p => pageRecompute p.2)) fun d p => d.minRecompute s (16 * p.1)
    let d3 := if w.mode = 2 then d3.raiseRecompute s else d3
    let d4 := ((d3.setSlotsHeld s (d3.slotsHeld s + w.resSlots)).addGen s 2).clearJournal c ch
    d4.setWalk c ch i o { w with phase := .done, resLength := len }

/-! ### Start and completion of DE operations -/

/-- The walk starts: judged, and cancelled at once unless the Hamper is ON (R190, R215). RES_LENGTH and RES_GEN of a walk
that reads neither are not stated, so they begin as free values. -/
def Device.walkStart (d0 : Device) (c ch i : Nat) (o : DeOp) (a : Nat) : Device :=
  let d := d0.drawn.drawn
  let k := d.core c
  let w := { k.walkDesc a d.strm.count with resLength := d0.freeVal 32, resGen := d0.drawn.freeVal 32 }
  let o1 : DeOp := { o with phase := .walking
                            desc := if w.mode = 0 then { srcSpace := spaceDevice } else { dstSpace := spaceDevice } }
  if d.walkBad k w then
    (d.onCore c fun k => k.setChan ch (dropAt (k.chan ch) i)).coreFault c St.WALK_DESC_INVALID (faultDetail 3 ch 0 (a / 32))
  else
    match d.fn .hamper with
    | .on => d.setWalk c ch i o1 w
    | .draining => (d.cancelFrames c w).setWalk c ch i o1 { w with phase := .done, status := St.FN_CANCELLED, resFrames := w.pages * bit1 (w.mode == 0) }
    | _ => (d.cancelFrames c w).setWalk c ch i o1 { w with phase := .done, status := St.HAMPER_NOT_ON, resFrames := w.pages * bit1 (w.mode == 0) }

/-- The next operation of a channel may start: everything before it has issued its last transaction, and none of it is a
FENCE or a walk (R487). -/
def Core.startable (k : Core) (ch : Nat) : Option (Nat × DeOp) :=
  match (List.zipIdx (k.chan ch)).find? (fun p => p.1.phase == .queued) with
  | none => none
  | some (o, i) => if ((k.chan ch).take i).all (fun x => x.issuedAll && x.op != opFence) then some (i, o) else none

/-- A DE operation starts and judges its descriptor (R140, R190). -/
def Device.deStart (d : Device) (c ch : Nat) (ecc : List (Nat × Bool)) : Device :=
  match (d.core c).startable ch with
  | none => d
  | some (i, o) =>
    if o.op = opFence then d.setOp c ch i { o with phase := .running } else
    let d1 := d.lmEcc c ecc
    let k := d1.core c
    let a := deDescLine o.operands * 64
    let stop (code : Code) (g : Nat) : Device :=
      (d1.onCore c fun k => k.setChan ch (dropAt (k.chan ch) i)).coreFault c code (faultDetail 3 ch 0 g)
    match k.firstPoison a 64 with
    | some g => stop St.POISON_CONSUMED g
    | none =>
      if o.op = opWalk then d1.walkStart c ch i o a
      else if k.descBad o.op a then stop St.DESC_INVALID (a / 32)
      else d1.setOp c ch i { o with phase := .running, desc := k.desc a, row := 0, off := 0, flights := [] }

/-- The bytes 48 to 63 of the walk descriptor (Table 7-6). -/
def Walk.results (w : Walk) : List Byte :=
  leBytes w.status 2 ++ leBytes w.resFrames 1 ++ leBytes w.resFlags 1 ++ leBytes w.resLength 4 ++ leBytes w.resGen 4 ++
    leBytes w.resSlots 4

/-- The walk's results are written and its operation completes. -/
def Device.walkDone (d : Device) (c ch i : Nat) (o : DeOp) (w : Walk) : Device :=
  (d.onCore c fun k => k.write (w.desc + 48) w.results).opDone c ch i o

/-- A READ walk's frames are acknowledged: with GEN unchanged it succeeds (R191). -/
def Device.walkCheck (d0 : Device) (c ch i : Nat) (o : DeOp) (w : Walk) (g : Nat) (e : MemEnv) : Device :=
  let t := d0.tableAccess c [d0.seqAddr w.seq] e
  let d := t.1
  if t.2 ≠ 0 then d.walkError c ch i o w t.2 else
  if d.seqGen w.seq ≠ g then d.attemptFailed c ch i o w else
  let d1 := d.setMemNat (d.seqAddr w.seq + 8) 8 (max (d.lastAttended w.seq) w.bundle)
  if w.missing then (d1.bump (Reg.HAMPER_EVENTS 0)).walkDone c ch i o (w.meet St.PAGE_MISSING)
  else d1.walkDone c ch i o w

/-- DE_OPERATION_COMPLETE: the operation at an index completes when nothing of it is outstanding. -/
def Device.deComplete (d : Device) (c ch which : Nat) (e : MemEnv) : Device :=
  match ((d.core c).chan ch)[which]? with
  | none => d
  | some o =>
    match o.walk with
    | some w =>
      match w.phase with
      | .copied g => if w.todo = [] ∧ o.flights = [] then d.walkCheck c ch which o w g e else d
      | .done => d.walkDone c ch which o w
      | _ => d
    | none => if o.finished which then d.opDone c ch which o else d

/-- Hamper drain limit: a walk still running is cancelled, its transactions with it (R215). -/
def Device.cancelWalk (d : Device) (c ch : Nat) : Device :=
  match (d.core c).walking ch with
  | none => d
  | some (i, o0, w) =>
    let o := { o0 with flights := [] }
    let w1 := { w with phase := .done, status := St.FN_CANCELLED, todo := [] }
    match w.phase with
    | .done => d
    | .written => (d.clearBusy w.seq w.layer).setWalk c ch i o w1
    | _ => (d.cancelFrames c w).setWalk c ch i o { w1 with resFrames := w.pages * bit1 (w.mode == 0) }

/-! ### The commands -/

/-- READ_WALK (R191). -/
def execReadWalk (core : CoreNo) (chan : ChanAccess) (s : State) : Host.Outcome State Fault Refusal :=
  s.run fun d => d.readWalk core chan.chan chan.env

/-- APPEND (R193). -/
def execAppend (core : CoreNo) (chan : ChanAccess) (s : State) : Host.Outcome State Fault Refusal :=
  s.run fun d => d.appendWalk core chan.chan 1 chan.env

/-- REFILL (R193). -/
def execRefill (core : CoreNo) (chan : ChanAccess) (s : State) : Host.Outcome State Fault Refusal :=
  s.run fun d => d.appendWalk core chan.chan 2 chan.env

/-- WALK_RETRY (R191). -/
def execWalkRetry (core : CoreNo) (chan : ChanAccess) (s : State) : Host.Outcome State Fault Refusal :=
  s.run fun d => d.walkRetry core chan.chan chan.env

/-- APPEND_PUBLISH (R193). -/
def execAppendPublish (core : CoreNo) (chan : ChanAccess) (s : State) : Host.Outcome State Fault Refusal :=
  s.run fun d => d.publish core chan.chan chan.env

/-- DE_OPERATION_START (R140, R190, R487). -/
def execDeOperationStart (core : CoreNo) (chan : Fin 16) (ecc : List (Granule × Bool)) (s : State) :
    Host.Outcome State Fault Refusal :=
  s.run fun d => d.deStart core chan (ecc.map (fun p => (p.1.val, p.2)))

/-- DE_OPERATION_COMPLETE (R149, R487). -/
def execDeOperationComplete (core : CoreNo) (chan : ChanAccess) (which : Fin 4) (s : State) :
    Host.Outcome State Fault Refusal :=
  s.run fun d => d.deComplete core chan.chan which chan.env

end Sys2Proof.Machine
end

