-- ==== Sys2Proof/Machine/Jobs.lean ====
section
/-!
DEFINITION. The tenant's job (chapter 13): its start (R402), admission and dispositions (R406 to R408), steps (R405,
R410, R411), checkpoints (R412 to R416), its end at a yield or a disable (R417, R418), and attestation (R401).
-/

namespace Sys2Proof.Machine

/-- Change the job. -/
def Device.onJob (d : Device) (f : Job → Job) : Device := { d with job := f d.job }

/-! ### Dispositions (Table 13-4) -/

def dispServed : Nat := 0
def dispDelayed : Nat := 1
def dispCapacity : Nat := 2
def dispPolicy : Nat := 3
def dispPreempted : Nat := 4
def dispYield : Nat := 5
def dispFinished : Nat := 6
def dispClosed : Nat := 7

/-- Report a disposition (R408). -/
def Device.dispose (d : Device) (seq code : Nat) (estimate : Nat := 0) : Device :=
  d.onJob fun j =>
    { j with news := j.news ++ [⟨seq, code, estimate⟩], last := SMap.insert j.last seq code
             changed := if j.changed.contains seq then j.changed else j.changed ++ [seq] }

/-- QUEUED_NOW follows the queue. -/
def Device.showQueue (d : Device) : Device := d.wr Reg.QUEUED_NOW d.job.queue.length

/-! ### The control area (R403) -/

/-- A sequence's place in the admission table. -/
def Device.admissionEntry (d : Device) (s : Nat) : Nat := d.rd Reg.CTRL_BASE + 4096 + 16 * s

/-- The Warden writes bytes of the job's control area. -/
def Device.wardenStore (d : Device) (a : Nat) (bytes : List Byte) : Device := d.onMem fun m => m.store a bytes

/-! ### Start (R402) -/

/-- The first failing entry of the job's checks, as its dictionary key. -/
def Device.jobFault (d : Device) : Option Nat :=
  let ctrl := (d.rd Reg.CTRL_BASE, d.rd Reg.CTRL_BYTES)
  let steps := (d.rd Reg.STEP_BASE, 64 * d.rd Reg.STEP_ENTRIES)
  let bad := fun (r : Nat × Nat) => !inTenant r.1 r.2 || d.hamperRanges.any (fun h => overlaps r h)
  let n := d.rd Reg.STEP_ENTRIES
  let checks : List (Nat × Bool) :=
    [(Reg.HAMPER_STATE, d.fn .hamper != .on), (Reg.CTRL_BASE, bad ctrl), (Reg.STEP_BASE, bad steps || overlaps ctrl steps),
     (Reg.STEP_ENTRIES, n == 0 || n != 2 ^ Nat.log2 n || decide (n < 4 * d.rd Reg.CKPT_K))]
  (checks.find? (·.2)).map (·.1)

/-- The image digest of an attestation and of the job's chain: that of a running OVERNIGHT image, else zeros. -/
def Device.tenantDigest (d : Device) : List Byte :=
  if d.personality = .overnight ∧ (d.fn .run = .on ∨ d.fn .run = .draining) then d.blob Reg.IMAGE_HEADER_DIGEST else zeros 48

/-- The job enters STARTING, and ON or FAULT. -/
def Device.jobStart (d : Device) : Device :=
  match d.jobFault with
  | some k => (d.setFn .job .fault).logEv St.JOB_CONFIG_INVALID 0 k
  | none =>
    let first := sha384 (leBytes (d.rd Reg.JOB_ID) 8 ++ d.tenantDigest)
    let d1 := (d.onJob fun _ => { digest := first, pushes := [d.hamper.tail] }).wrAll
      [(Reg.STEPS_TAKEN, 0), (Reg.CKPT_LAST, 0), (Reg.CKPT_ACK, 0), (Reg.SPOT_MISMATCHES, 0), (Reg.QUEUED_NOW, 0)]
    (d1.wardenStore (d.rd Reg.CTRL_BASE) (leBytes 0x4C434B4E 4 ++ zeros 60)).setFn .job .on

/-! ### Sequences -/

/-- Every handle. -/
def Device.handles (d : Device) : List Nat := List.range (d.rd Reg.SEQ_MAX)

/-- The program may admit the sequence to a step (R404). -/
def Device.stepReady (d : Device) (s : Nat) : Bool := d.seqActive s && !d.seqHeld s && !d.seqPreempted s

/-- Clear a sequence in one edit (R405): its slots are freed, ACTIVE and VALID cleared. -/
def Device.clearSequence (d : Device) (s : Nat) : Device :=
  let layers := d.rd Reg.LAYERS
  let places := ((List.range (d.rd Reg.MAX_PAGES)).map (fun q => (List.range layers).map (fun l => (l, q)))).flatten
  let r := places.foldl
    (fun (acc : Device × List Nat) p =>
      let e := acc.1.pageAt s p.1 p.2
      if e = 0 then acc else (acc.1.setPage s p.1 p.2 0, if pageValid e then acc.2 ++ [pageSlot e] else acc.2))
    (d.addGen s 1, [])
  let d1 := r.1.each (List.range layers) fun d l => d.setMemNat (d.listAddr s l) 4 0
  let d2 := (((d1.setMemNat (d.seqAddr s + 5) 1 0).setHeldSteps s 0).setMemNat (d.seqAddr s + 16) 4 0xFFFFFFFF).setSlotsHeld s 0
  let d3 := ((d2.setMemNat (d.admissionEntry s + 13) 1 0).addGen s 1).each r.2 fun d p => d.pushSlot p
  d3.onJob fun j => { j with queue := j.queue.filter (fun q => q.seq != s), forgotten := j.forgotten.filter (· != s) }

/-- A sequence is finished (R405, R406). -/
def Device.finishSequence (d : Device) (s : Nat) : Device := ((d.clearSequence s).dispose s dispFinished).showQueue

/-- A request is served: its admission entry is written and the descriptor edited at once (R406, R407). -/
def Device.serveRequest (d : Device) (r : JobReq) : Device :=
  let d1 := if r.preempted then d
    else d.wardenStore (d.admissionEntry r.seq) (leBytes r.addr 8 ++ leBytes r.tokens 4 ++ leBytes r.cls 1 ++ [1, 0, 0])
  let d2 := (d1.addGen r.seq 1).setMemNat (d.seqAddr r.seq + 4) 1 r.cls
  let d2 := if r.preempted then d2 else d2.setMemNat (d.seqAddr r.seq + 16) 4 0xFFFFFFFF
  let d3 := ((d2.setSeqFlag r.seq 0 true).setSeqFlag r.seq 2 false).addGen r.seq 1
  let d4 := if r.preempted then d3 else d3.onJob fun j => { j with emitted := SMap.put j.emitted r.seq 0 0 }
  (d4.bump Reg.ADMITTED).dispose r.seq dispServed

/-! ### Admission (R406) -/

/-- Slots in columns that a victim under class limit `k` could give up. -/
def Device.victimSlots (d : Device) (k : Nat) : Nat :=
  (d.handles.filter (fun s => d.seqActive s && !d.seqPreempted s && decide (d.seqClass s < k))).foldl (fun n s =>
    n + ((List.range (d.tailPage s)).map (fun q =>
      ((List.range (d.rd Reg.LAYERS)).filter (fun l => pageValid (d.pageAt s l q))).length)).sum) 0

/-- room(k). -/
def Device.room (d : Device) (k : Nat) : Int := (d.freeCount : Int) - d.rd Reg.FREE_LOW_WATER + d.victimSlots k

/-- The slots that a number of tokens needs. -/
def Device.slotsFor (d : Device) (tokens : Nat) : Nat := d.rd Reg.LAYERS * ((tokens + 15) / 16)

/-- Slots held by sequences of class `k` or above. -/
def Device.heldFrom (d : Device) (k : Nat) : Nat :=
  ((d.handles.filter (fun s => d.seqActive s && decide (k ≤ d.seqClass s))).map d.slotsHeld).sum

/-- The estimated start of a delayed request, in steps (R406). -/
def Device.estimate (d : Device) (need : Nat) (room : Int) : Nat :=
  let n := d.job.pushes.length - 1
  let freed := d.job.pushes.headD 0 - d.job.pushes.getLastD 0
  if freed = 0 then 0xFFFF else
  let short := ((need : Int) - room).toNat
  let e := (short * n + freed - 1) / freed
  if 0xFFFE < e then 0xFFFF else e

/-- Sequences active or queued. -/
def Device.engaged (d : Device) : Nat :=
  (d.handles.filter (fun s => d.seqActive s || d.job.queue.any (fun q => q.seq == s))).length

/-- The job's policy refuses a request. -/
def Device.policyRefuses (d : Device) (r : JobReq) : Bool :=
  d.fn .job != .on || d.job.phase != .running || decide (d.rd Reg.POLICY_MAX_CLASS < r.cls) || decide (d.rd Reg.SEQ_MAX ≤ r.seq) ||
    d.seqActive r.seq || d.job.queue.any (fun q => q.seq == r.seq) || r.tokens == 0 || decide (d.rd Reg.POLICY_MAX_PROMPT < r.tokens) ||
    decide (d.rd Reg.POLICY_MAX_SEQS ≤ d.engaged) || !inTenant r.addr (4 * r.tokens)

/-- Put a request behind those of its class and above. -/
def enqueueReq (r : JobReq) : List JobReq → List JobReq
  | [] => [r]
  | q :: t => if q.cls < r.cls then r :: q :: t else q :: enqueueReq r t

/-- Decide an admission request: the disposition, and the estimate of a delay. -/
def Device.judgeAdmission (d : Device) (r : JobReq) : Device × Nat × Nat :=
  if d.policyRefuses r then ((d.bump Reg.REFUSED).dispose r.seq dispPolicy, dispPolicy, 0)
  else if (r.need : Int) ≤ d.room r.cls ∧ !d.job.queue.any (fun q => decide (r.cls ≤ q.cls)) then (d.serveRequest r, dispServed, 0)
  else if d.rd Reg.SLOT_COUNT < r.need + d.heldFrom r.cls ∨ 256 ≤ d.job.queue.length then
    ((d.bump Reg.REFUSED).dispose r.seq dispCapacity, dispCapacity, 0)
  else
    let e := d.estimate r.need (d.room r.cls)
    (((d.onJob fun j => { j with queue := enqueueReq r j.queue }).dispose r.seq dispDelayed e).showQueue, dispDelayed, e)

/-- The completion status of a disposition. -/
def admitStatus (disp : Nat) : Code :=
  if disp = dispPolicy then St.ADMIT_REFUSED_POLICY else if disp = dispCapacity then St.ADMIT_REFUSED_CAPACITY else 0

/-- A descriptor of JOB_IN (R406): `op` is the OP that the command stands for; an undefined OP completes with 0x0114. -/
def Device.jobDescriptor (d : Device) (op : Nat) (x : Descriptor) (addrOk : Bool) (payload : List Byte) (full : Bool) (env : MemEnv) : Device :=
  let r := RingId.jobIn
  let code := leAt x.owner 0 1
  if !d.ringLive r || d.ringPosted r = 0 then d
  else if !x.usable addrOk || code < 1 || 2 < code then (if op = 1 then d.ringBad r x full else d)
  else if code ≠ op then d
  else
    let s := leAt x.owner 2 2
    if op = 2 then
      if d.fn .job = .on ∧ s < d.rd Reg.SEQ_MAX ∧ (d.seqActive s ∨ d.job.queue.any (fun q => q.seq == s)) then
        (d.finishSequence s).ringDone r x full 0 0 (dispFinished * 2 ^ 24)
      else (d.bump Reg.REFUSED).ringDone r x full St.ADMIT_REFUSED_POLICY 0 (dispPolicy * 2 ^ 24)
    else
      let n := leAt x.owner 4 4
      let req : JobReq := { seq := s, cls := leAt x.owner 1 1, need := d.slotsFor n, addr := 64 * leAt x.owner 8 6, tokens := n }
      let move := !d.policyRefuses req
      let data := padTo payload (min x.len.toNat (4 * n))
      let w := if move then d.portWrite portTenant req.addr data [] false env else (d, 0)
      if w.2 ≠ 0 then w.1.ringDone r x full w.2 0 0
      else
        let a := w.1.judgeAdmission req
        a.1.ringDone r x full (admitStatus a.2.1) (if move then data.length else 0) (a.2.1 * 2 ^ 24 + a.2.2)

/-- ADMIT (R406). -/
def execAdmitRequest (desc : Descriptor) (addrOk : Bool) (payload : List Byte) (full : Bool) (env : MemEnv) (s : State) :
    Host.Outcome State Fault Refusal := s.run fun d => d.jobDescriptor 1 desc addrOk payload full env

/-- RELEASE (R406). -/
def execRelease (desc : Descriptor) (addrOk : Bool) (full : Bool) (s : State) : Host.Outcome State Fault Refusal :=
  s.run fun d => d.jobDescriptor 2 desc addrOk [] full {}

/-- The queue after R210: the highest class first, in arrival order, until one must wait (R406). -/
def Device.admitQueued (d : Device) : List JobReq → Device
  | [] => d
  | q :: rest =>
    if (q.need : Int) ≤ d.room q.cls then ((d.onJob fun j => { j with queue := rest }).serveRequest q).admitQueued rest
    else if d.rd Reg.DELAY_MAX_STEPS < q.waited then
      let drop := fun (j : Job) => { j with queue := rest, forgotten := if q.preempted then j.forgotten ++ [q.seq] else j.forgotten }
      (((d.onJob drop).bump Reg.REFUSED).dispose q.seq dispCapacity).admitQueued rest
    else d

/-- A preempted sequence re-enters the queue (R407), unless its turn there was refused. -/
def Device.requeuePreempted (d : Device) : Device :=
  let l := d.handles.filter (fun s => d.seqActive s && d.seqPreempted s && !d.job.queue.any (fun q => q.seq == s) && !d.job.forgotten.contains s)
  d.each l fun d s =>
    let r : JobReq := { seq := s, cls := d.seqClass s, need := d.slotsFor (d.layerLength s 0), preempted := true }
    ((d.onJob fun j => { j with queue := enqueueReq r j.queue }).bump Reg.PREEMPTIONS).dispose s dispPreempted

/-! ### Steps (R405, R410, R411) -/

/-- An entry of a token list. -/
structure TokenEntry where
  seq : Nat
  count : Nat
  ended : Bool

/-- The entries of a token list, none where it does not parse to its end. -/
def tokenEntries : Nat → List Byte → Option (List TokenEntry)
  | 0, b => if b = [] then some [] else none
  | n + 1, b =>
    let size := 4 + 4 * leAt b 2 1
    if b.length < size then none
    else (tokenEntries n (b.drop size)).map (fun l => ⟨leAt b 0 2, leAt b 2 1, bitAt (leAt b 3 1) 0⟩ :: l)

/-- The place of step `n` in the step ring. -/
def Device.stepPlace (d : Device) (n : Nat) : Nat := d.rd Reg.STEP_BASE + 64 * (n % d.rd Reg.STEP_ENTRIES)

/-- The token list of a record, where the record passes the checks of R405. -/
def Device.stepList (d : Device) (n : Nat) (rec_ : List Byte) : Option (List Byte × List TokenEntry) :=
  let a := leAt rec_ 16 8
  let size := leAt rec_ 24 4
  let list := d.mem.bytes a size
  if leAt rec_ 0 4 ≠ 0x53504B4E ∨ leAt rec_ 8 4 ≠ n ∨ !inTenant a size then none
  else match tokenEntries (leAt rec_ 12 4) list with
    | none => none
    | some l => if l.all (fun e => (d.job.admissible.contains e.seq || d.stepReady e.seq) && decide (e.count ≤ 65)) then some (list, l) else none

/-- The effects of a token list's entries. -/
def Device.takeTokens (d : Device) (abandoned : Bool) (l : List TokenEntry) : Device :=
  d.each l fun d e =>
    let d1 := if abandoned then d else d.onJob fun j =>
      { j with emitted := SMap.put j.emitted e.seq (SMap.getD j.emitted e.seq 0 + e.count) 0
               changed := if e.count = 0 ∨ j.changed.contains e.seq then j.changed else j.changed ++ [e.seq] }
    if e.ended then d1.finishSequence e.seq else d1

/-- The JOB_OUT group of a step (R411). -/
def Device.jobOut (d : Device) (rec_ list : List Byte) (room : Bool) : Device :=
  if d.fn (.ring .jobOut) ≠ .on ∨ !room then d.countEv St.OUT_OR_CKPT_NO_ROOM 0 Reg.NO_ROOM_EVENTS
  else
    let news := d.job.news.flatMap (fun x => leBytes x.seq 2 ++ leBytes x.code 1 ++ zeros 1 ++ leBytes x.estimate 2 ++ zeros 2)
    (d.ringPush .jobOut { bytes := rec_ ++ list ++ news }).onJob fun j => { j with news := [] }

/-- The bookkeeping of a step boundary: HELD_STEPS, the frame count, the queue's waiting, the free slots of the step. -/
def Device.stepBoundary (d : Device) : Device :=
  let d1 := d.each (d.handles.filter d.seqHeld) fun d s =>
    ((d.addGen s 1).setHeldSteps s (d.heldSteps s + 1)).addGen s 1
  let d2 := if d1.firmware .A then d1.bumpWrap Reg.FRAME_COUNT else d1
  d2.onJob fun j => { j with queue := j.queue.map (fun q => { q with waited := q.waited + 1 })
                             pushes := (d1.hamper.tail :: j.pushes).take 17, sinceCkpt := j.sinceCkpt + 1, admissible := [] }

/-- The Warden reads the record of step `n` and, where the record names one in the tenant partition, its token list: false
where a read is answered with an error, which ends the taking of steps for this iteration (Table 8-2). -/
def Device.readStep (d : Device) (n : Nat) (env : MemEnv) : Device × Bool :=
  let r := d.portRead portWarden (d.stepPlace n) 64 false env
  if r.code ≠ 0 then (r.dev, false)
  else if leAt r.data 24 4 = 0 ∨ !inTenant (leAt r.data 16 8) (leAt r.data 24 4) then (r.dev, true)
  else
    let l := r.dev.portRead portWarden (leAt r.data 16 8) (leAt r.data 24 4) false (env.skip 1)
    (l.dev, l.code == 0)

/-- Take the record of step `n` as it stands in the ring. -/
def Device.takeStep (d : Device) (n : Nat) (room : Bool) : Device :=
  let rec_ := d.mem.bytes (d.stepPlace n) 64
  let got := d.stepList n rec_
  let list := match got with | some p => p.1 | none => []
  let misses := leAt rec_ 6 2
  let flags := match got with
    | some _ => setBit (leAt rec_ 5 1) 2 (bitAt (leAt rec_ 5 1) 2 || decide (0 < misses))
    | none => setBit (setBit (leAt rec_ 5 1) 1 true) 2 true
  let copy := rec_.take 5 ++ [BitVec.ofNat 8 flags] ++ rec_.drop 6
  let digest := sha384 (d.job.digest ++ rec_ ++ list)
  let d1 := match got with
    | some p => d.takeTokens (bitAt (leAt rec_ 5 1) 1) p.2
    | none => d.logEv St.STEP_RECORD_INVALID 0 n
  let d2 := (d1.onJob fun j => { j with digest := digest, mismatches := j.mismatches + misses
                                        steps := j.steps ++ [{ step := n, record := copy, digest := digest, tokens := list }] }).wr
    Reg.STEPS_TAKEN n
  let d3 := if bitAt flags 2 then d2.bump Reg.SUSPECT_STEPS else d2
  (d3.jobOut copy list room).stepBoundary

/-- A new DONE record stands at the place of step `n`. -/
def Device.stepWaits (d : Device) (n : Nat) : Bool :=
  let rec_ := d.mem.bytes (d.stepPlace n) 64
  leAt rec_ 4 1 == 2 && (decide (n ≤ d.rd Reg.STEP_ENTRIES) || leAt rec_ 8 4 != n - d.rd Reg.STEP_ENTRIES)

/-- Take every DONE step record, at most `fuel` of them. -/
def Device.takeSteps (d : Device) (room : Bool) (env : MemEnv) : Nat → Device
  | 0 => d
  | fuel + 1 =>
    let n := d.rd Reg.STEPS_TAKEN + 1
    if d.stepWaits n then
      let r := d.readStep n env
      if r.2 then (r.1.takeStep n room).takeSteps room env fuel else r.1
    else d

/-! ### Checkpoints (R412 to R416) -/

/-- A progress entry (R412). -/
def Device.progress (d : Device) (s : Nat) : List Byte :=
  leBytes s 2 ++ leBytes (SMap.getD d.job.last s dispServed) 1 ++ leBytes (d.seqClass s) 1 ++ leBytes (SMap.getD d.job.emitted s 0) 4 ++
    leBytes (d.layerLength s 0) 4 ++ leBytes (d.seqFlags s % 8) 1 ++ zeros 3

/-- Pad to a multiple of 16 bytes. -/
def pad16Bytes (l : List Byte) : List Byte := l ++ zeros ((16 - l.length % 16) % 16)

/-- Mark a copied record SUSPECT. -/
def TakenStep.suspect (x : TakenStep) : TakenStep :=
  { x with record := x.record.take 5 ++ [BitVec.ofNat 8 (setBit (leAt x.record 5 1) 2 true)] ++ x.record.drop 6 }

/-- The record of a step taken still stands in the step ring; its copy may differ in FLAGS alone. -/
def Device.stepKept (d : Device) (x : TakenStep) : Bool :=
  let b := d.mem.bytes (d.stepPlace x.step) 64
  b.take 5 == x.record.take 5 && b.drop 6 == x.record.drop 6

/-- Assemble a checkpoint and give it to the ring CKPT (R410, R412 to R414). -/
def Device.checkpoint (d : Device) (final : Bool) : Device :=
  let kept := d.job.steps.filter d.stepKept
  let gap := kept.length != d.job.steps.length
  let unattributed := decide (d.job.mismatches < d.rd Reg.SPOT_MISMATCHES)
  let steps := if unattributed then kept.map TakenStep.suspect else kept
  let fresh := (kept.filter (fun x => !bitAt (leAt x.record 5 1) 2)).length
  let seqs := if final
    then d.handles.filter (fun s => d.seqActive s || d.job.queue.any (fun q => q.seq == s) || d.job.changed.contains s)
    else d.job.changed
  let body := (steps.flatMap (fun x => pad16Bytes (x.record ++ x.digest ++ x.tokens))) ++ seqs.flatMap d.progress
  let n := d.rd Reg.CKPT_LAST + 1
  let flags := bit1 final + 2 * bit1 d.job.merged + 4 * bit1 unattributed + 8 * bit1 gap
  let head := leBytes 0x4B434B4E 4 ++ leBytes 1 2 ++ leBytes flags 1 ++ zeros 1 ++ leBytes n 4 ++ leBytes d.job.firstStep 4 ++
    leBytes (d.rd Reg.STEPS_TAKEN) 4 ++ leBytes seqs.length 4 ++ leBytes (d.rd Reg.JOB_ID) 8 ++ padTo d.job.digest 48 ++
    leBytes (256 + body.length) 4 ++ zeros 172
  let d1 := if gap then d.logEv St.STEP_GAP 0 n else d
  let d2 := if unattributed then (((d1.bump Reg.UNATTRIBUTED).addSat 32 Reg.SUSPECT_STEPS fresh).logEv St.SPOT_UNATTRIBUTED 0 n) else d1
  ((d2.ringPush .ckpt { bytes := head ++ body }).onJob fun j =>
    { j with steps := [], sinceCkpt := 0, merged := false, changed := [], firstStep := d.rd Reg.STEPS_TAKEN + 1
             finalSent := final, covers := SMap.put j.covers n (d.rd Reg.STEPS_TAKEN) 0 }).wr
      Reg.CKPT_LAST n

/-- A checkpoint is due (R412, R414). -/
def Device.checkpointDue (d : Device) (room : Bool) : Device :=
  if d.job.sinceCkpt < d.rd Reg.CKPT_K then d
  else if d.fn (.ring .ckpt) = .on ∧ room then d.checkpoint false
  else (d.countEv St.OUT_OR_CKPT_NO_ROOM 0 Reg.NO_ROOM_EVENTS).onJob fun j => { j with merged := true, sinceCkpt := 0 }

/-! ### Closing (R417, R418) -/

/-- Row 1: YIELD is written, admission stops, and every queued and active sequence is marked. -/
def Device.jobClose (d : Device) (disp : Nat) : Device :=
  if d.job.phase ≠ .running then d else
  let d1 := d.wardenStore (d.rd Reg.CTRL_BASE + 4) (leBytes 1 4)
  let l := d.handles.filter (fun s => d.seqActive s || d.job.queue.any (fun q => q.seq == s))
  ((d1.each l fun d s => d.dispose s disp).onJob fun j => { j with phase := .closing, closing := disp, queue := [] }).showQueue

/-- Local memories and semaphores are cleared. -/
def Device.clearLocal (d : Device) : Device :=
  let clear := fun (k : Core) => { k with lm := [], poison := [], sems := [], bars := [] }
  { d with cores := (d.cores.map (fun p => (p.1, clear p.2))).filter (fun p => p.2 != {}) }

/-- Row 5: the tenant partition is zeroised under a new key, the kept image with it (R219), local memories, semaphores and floor cache are cleared. -/
def Device.tenantWipe (d : Device) : Device :=
  let d1 := (d.zeroise tenantBase (tenantEnd - tenantBase)).onMem fun m => { m with cache := [] }
  ((d1.clearLocal.bumpWrap Reg.TENANT_KEY_GEN).onMem fun m => { m with workKey := d1.freeVal 512 }).drawn.onLoader fun l =>
    { l with tenant := [] }

/-- The job reads OFF after row 5. -/
def Device.jobOff (d : Device) : Device := (d.tenantWipe.onJob fun _ => { phase := .done }).fnOff .job

/-- Row 3: the Hamper, JOB_IN and JOB_OUT drain. -/
def Device.jobRow3 (d : Device) : Device :=
  let d1 := if d.fn .hamper = .on then (d.setFn .hamper .draining).settleHamper else d
  let d2 := if d1.fn (.ring .jobIn) = .on then d1.ringDrain .jobIn else d1
  if d2.fn (.ring .jobOut) = .on then d2.ringDrain .jobOut else d2

/-- Rows 3 to 5 of a closing job, once RUN reads OFF. -/
def Device.jobClosing (d : Device) (room : Bool) : Device :=
  match d.job.phase with
  | .closing =>
    if d.fn .run ≠ .off then d else
    let d3 := d.jobRow3
    if d3.fn (.ring .ckpt) = .on ∧ room then (d3.checkpoint true).onJob fun j => { j with phase := .final } else d3
  | .final => if (d.ring .ckpt).items = [] then d.onJob fun j => { j with phase := .done } else d
  | _ => d

/-- A disabled job whose closing is over reads OFF (R418). -/
def Device.jobSettle (d : Device) : Device :=
  if d.fn .job = .draining ∧ d.job.phase = .done ∧ d.job.closing = dispClosed then d.jobOff else d

/-- The Warden's work for the job in one management iteration, with the Hamper's (R210). -/
def Device.jobIteration (d : Device) (outRoom ckptRoom : Bool) (env : MemEnv) : Device :=
  let live := d.fn .job == .on || d.fn .job == .draining
  let d1 := if live then d.takeSteps outRoom env (d.rd Reg.STEP_ENTRIES) else d
  let d2 := d1.hamperIteration env
  if !live then d2 else
  let d3 := if d2.job.phase = .running then (d2.requeuePreempted.admitQueued d2.requeuePreempted.job.queue).showQueue else d2
  let d4 := d3.onJob fun j => { j with admissible := j.admissible ++ d3.handles.filter (fun s => d3.stepReady s && !j.admissible.contains s) }
  let d5 := if d4.job.phase = .running then d4.checkpointDue ckptRoom else d4
  let d6 := d5.wardenStore (d.rd Reg.CTRL_BASE + 8) (leBytes (d.rd Reg.CKPT_ACK) 4 ++
    leBytes (SMap.getD d5.job.covers (d.rd Reg.CKPT_ACK) 0) 4)
  (d6.jobClosing ckptRoom).jobSettle

/-- The program has not halted within the grace: the device halts the stream (R417 row 2). -/
def Device.yieldForced (d : Device) : Device :=
  if d.job.phase = .closing ∧ d.fn .run = .on then (d.logEv St.YIELD_FORCED 0).stopStream else d

/-- YIELD_FORCED (R417). -/
def execYieldForced (s : State) : Host.Outcome State Fault Refusal := s.run Device.yieldForced

/-- The FINAL checkpoint has not been written within its bound (R417 row 4). -/
def Device.finalLost (d : Device) : Device :=
  if (d.job.phase = .closing ∧ d.fn .run = .off) ∨ d.job.phase = .final then
    (((d.logEv St.CKPT_FINAL_LOST 0).onRing .ckpt fun r => { r with items := [] }).onJob fun j => { j with phase := .done }).jobSettle
  else d

/-- CKPT_FINAL_LOST (R417). -/
def execCkptFinalLost (s : State) : Host.Outcome State Fault Refusal := s.run Device.finalLost

/-- The job drains: a disable (R418). -/
def Device.jobDrain (d : Device) : Device := (d.setFn .job .draining).jobClose dispClosed

/-- The job's drain limit passes. -/
def Device.jobCancel (d : Device) : Device :=
  if d.fn .job ≠ .draining then d else
  let d1 := if d.job.finalSent then d else d.logEv St.CKPT_FINAL_LOST 0
  let d2 := if d1.fn .run = .on then d1.stopStream else d1
  d2.jobRow3.jobOff

/-- A chip warm restart from Overnight ends the job with no final checkpoint (R416). -/
def Device.jobLost (d : Device) : Device :=
  if d.fn .job = .on ∨ d.fn .job = .draining then ((d.logEv St.CKPT_FINAL_LOST 0).onJob fun _ => { phase := .done }).fnOff .job else d

/-- An acknowledgement of a checkpoint (R415): the code that refuses the value, or the state after it. -/
def Device.ackCheckpoint (d : Device) (v : Nat) : Device × Code :=
  if d.rd Reg.CKPT_LAST < v ∨ v < d.rd Reg.CKPT_ACK then (d, St.DICT_RANGE)
  else
    let d1 := if v < d.rd Reg.CKPT_LAST ∧ v ≠ d.rd Reg.CKPT_ACK then d.countEv St.CKPT_ACK_LATE 0 Reg.LATE_ACKS else d
    (d1.wr Reg.CKPT_ACK v, 0)

/-! ### Attestation (R401) -/

/-- Bytes 0 to 199 of an attestation report (Table 13-1). -/
def Device.reportBytes (d : Device) (nonce : List Byte) : List Byte :=
  let flags := d.rd Reg.DRIVE_SEALED + 2 * d.rd Reg.CAP_GRANTED + 4 * bit1 (d.fn .job == .on) + 8 * d.rd Reg.EXPERT_ENABLE
  let policy := leBytes (d.rd Reg.POLICY_MAX_CLASS) 1 ++ leBytes (d.rd Reg.POLICY_MAX_SEQS) 2 ++ leBytes (d.rd Reg.POLICY_MAX_PROMPT) 4 ++
    leBytes (d.rd Reg.CKPT_K) 1 ++ leBytes (d.rd Reg.DELAY_MAX_STEPS) 2 ++ leBytes (d.rd Reg.DELAY_QUEUE) 2 ++
    leBytes (d.rd Reg.YIELD_GRACE_MS) 2 ++ leBytes (d.rd Reg.CKPT_FINAL_LIMIT_MS) 2
  leBytes 0x54414B4E 4 ++ leBytes 1 2 ++ leBytes (d.rd Reg.PERSONALITY_NOW) 1 ++ leBytes flags 1 ++ leBytes (d.rd Reg.UNIQUE_ID) 8 ++
    leBytes (d.rd Reg.STEPPING) 1 ++ zeros 3 ++ leBytes (d.rd Reg.WARDEN_ROM_VERSION) 4 ++ leBytes (d.rd Reg.LOOKOUT_B_ROM_VERSION) 4 ++
    leBytes (d.rd Reg.LOOKOUT_B_FW_VERSION) 4 ++ padTo d.tenantDigest 48 ++ leBytes (d.rd Reg.CUSTOMER_ID) 8 ++
    leBytes (d.rd Reg.CERT_SERIAL) 4 ++ leBytes (d.rd Reg.TENANT_KEY_GEN) 4 ++ padTo nonce 32 ++ leBytes (d.rd Reg.JOB_ID) 8 ++
    leBytes (d.rd Reg.REGION_MODE_ACTIVE) 4 ++ leBytes (d.rd Reg.SPOT_N) 2 ++ zeros 2 ++ sha384 policy ++ zeros 8

/-- Lookout B starts a report. -/
def Device.attestStart (d : Device) (nonce : List Byte) : Device :=
  (d.onSafety fun s => { s with report := some (d.reportBytes nonce) }).wr Reg.ATTEST_STATE 1

/-- The report is signed, with the signature that the device identity key gives. -/
def Device.attestReady (d : Device) (signature : List Byte) : Device :=
  match d.safety.report with
  | none => d
  | some b => ((d.onSafety fun s => { s with report := none }).wrBlob Reg.ATTEST_REPORT (b ++ padTo signature 96)).wr Reg.ATTEST_STATE 0

/-- ATTEST_REPORT_READY (R401). -/
def execAttestReportReady (signature : List Byte) (s : State) : Host.Outcome State Fault Refusal :=
  s.run fun d => d.attestReady signature

end Sys2Proof.Machine
end

