-- ==== Sys2Proof/Machine/Power.lean ====
section
/-!
DEFINITION. Power and temperature (chapter 15): the readings of rails and sensors, the coolant report, the power cap, the
soft and hardware thermal responses, over-current alerts and ageing.
-/

namespace Sys2Proof.Machine

/-! ### Rails (R452, R458) -/

/-- Maximum current of a rail in mA, and its nominal voltage in mV (Table 15-1). -/
def railMax (i : Nat) : Nat := ([200000, 200000, 200000, 200000, 150000, 45000, 50000, 25000, 25000, 12000, 2000] : List Nat).getD i 0
def railMv (i : Nat) : Nat := ([700, 700, 700, 700, 750, 1050, 500, 750, 750, 900, 1800] : List Nat).getD i 0

/-- The power of a rail in µW, at the current last used. -/
def Device.railPower (d : Device) (i : Nat) : Nat :=
  (if i < 4 then d.rd (Reg.VDD_CMP_SET_MV i) else railMv i) * d.rd (Reg.RAIL_CURRENT_MA i)

/-- A read of a rail's current (R458): after three iterations without a valid read the maximum current is used. -/
def Device.railRead (d : Device) (i : Nat) (x : RailRead) : Device :=
  let good (d : Device) (mA : BitVec 32) : Device :=
    (d.wr (Reg.RAIL_CURRENT_MA i) mA.toNat).onPower fun p => { p with failedReads := SMap.put p.failedReads i 0 0 }
  match x with
  | .ok mA => good d mA
  | .retried mA => good (d.ptEvent St.VR_NO_RESPONSE i) mA
  | .failed =>
    let n := SMap.getD d.power.failedReads i 0 + 1
    let d1 := (d.ptEvent St.VR_NO_RESPONSE i).onPower fun p => { p with failedReads := SMap.put p.failedReads i n 0 }
    if 3 ≤ n then d1.wr (Reg.RAIL_CURRENT_MA i) (railMax i) else d1

/-- An alert of a segment (Table 15-17): rails that report a fault, or none. -/
def Device.vrAlert (d : Device) (segment : Nat) (rails : List Nat) : Device :=
  let mine := rails.filter (fun i => bit1 (bitAt (d.rd Reg.VR_SEGMENT) i) = segment)
  if mine = [] then d.ptEvent St.VR_FAULT segment else d.each mine fun d i => d.ptEvent St.VR_FAULT i

/-- The mean of P_iter over the window in µW, as a sum and a count. -/
def Device.meanPower (d : Device) : Nat × Nat :=
  let l := d.power.window.take (d.rd Reg.CAP_WINDOW_MS)
  (l.sum, l.length)

/-- The package power of this iteration enters the mean (R458). -/
def Device.powerRead (d : Device) (m : MgmtInput) : Device :=
  let d1 := d.each (List.zipIdx (m.currents.take 11)) fun d p => d.railRead p.2 p.1
  let d2 := d1.each m.alerts fun d a => d.vrAlert a.1.val (a.2.map (·.val))
  let iter := ((List.range 11).map d2.railPower).sum + 3000000 + 1000000 * d2.rd Reg.GUEST_BUDGET_W
  let d3 := d2.onPower fun p => { p with
    window := (iter :: p.window).take 100
    saved := match p.measuring with
      | some (x, before) => SMap.put p.saved x ((before : Int) - d2.railPower x) 0
      | none => p.saved
    measuring := none }
  let mean := d3.meanPower
  d3.wrAll [(Reg.PKG_POWER_W, satTo 16 (mean.1 / (1000000 * mean.2))),
    (Reg.PKG_POWER_PEAK_W, max (d3.rd Reg.PKG_POWER_PEAK_W) (satTo 16 (iter / 1000000)))]

/-! ### Coolant (R467, R468, R98) -/

/-- Fields of COOLANT_REPORT (Table 15-5). -/
def Device.coolantRuns (d : Device) : Bool := bitAt (d.rd Reg.COOLANT_REPORT) 31
def Device.coolantFlow (d : Device) : Nat := field (d.rd Reg.COOLANT_REPORT) 23 16
def Device.coolantInlet (d : Device) : Int := signExt 8 (d.rd Reg.COOLANT_REPORT)

/-- The value of COOLANT_STATUS. -/
def Device.coolantStatus (d : Device) : Nat :=
  if d.rd Reg.COOLANT_AGE_MS = 0xFFFFFFFF then 5
  else if !d.power.fresh then 2
  else if !d.coolantRuns then 1
  else if d.coolantFlow < 30 then 3
  else if d.coolantInlet < -40 ∨ 70 < d.coolantInlet then 4
  else 0

/-- CAP_THERMAL_W (R467, Table 15-6). -/
def Device.capThermal (d : Device) : Nat :=
  let soft : Int := d.rd Reg.T_SOFT_C
  let w : Int :=
    if !d.power.fresh then (soft - 70) * 1000 / 105
    else if !d.coolantRuns ∨ d.coolantFlow < 10 then 150
    else if d.coolantFlow < 20 then (soft - d.coolantInlet) * 1000 / 130
    else if d.coolantFlow < 30 then (soft - d.coolantInlet) * 1000 / 105
    else (soft - d.coolantInlet) * 1000 / 90
  (min 720 (max 150 w)).toNat

/-- An accepted report (R467). -/
def Device.coolantReport (d : Device) (v : Nat) : Device :=
  let d1 := ((d.wr Reg.COOLANT_REPORT v).wr Reg.COOLANT_AGE_MS 0).onPower fun p => { p with fresh := true }
  d1.wr Reg.COOLANT_STATUS d1.coolantStatus

/-- The confirmation is absent in Overnight (R468): the Drive cap, and 0x0E0A once per lapse. -/
def Device.capLapse (d : Device) : Device :=
  if d.personality ≠ .overnight then d else
  let d1 := d.wr Reg.CAP_GRANTED 0
  if d.power.lapsed then d1
  else (d1.ptEvent St.COOLANT_NOT_CONFIRMED 0).onPower fun p => { p with lapsed := true }

/-- The report becomes stale (R467). -/
def Device.coolantStale (d : Device) : Device :=
  if !d.power.fresh then d else
  let d1 := (d.ptEvent St.COOLANT_STALE 0).onPower fun p => { p with fresh := false }
  (d1.wr Reg.COOLANT_STATUS d1.coolantStatus).capLapse

/-- On entry to Overnight (R98): without the confirmation 0x0214 is logged, and no lapse of it then. -/
def Device.capEntry (d : Device) : Device :=
  let ok := d.coolantStatus == 0
  let d1 := (d.wr Reg.CAP_GRANTED 0).onPower fun p => { p with lapsed := !ok }
  if ok then d1 else d1.logEv St.TR_CAP_NOT_CONFIRMED 0

/-- The coolant report ages and the caps follow it (R464, R467, R468). -/
def Device.coolantIteration (d : Device) (ms : Nat) : Device :=
  let age := d.rd Reg.COOLANT_AGE_MS
  let d1 := if age = 0xFFFFFFFF then d else d.wr Reg.COOLANT_AGE_MS (satTo 32 (age + ms))
  let d2 := if d1.rd Reg.COOLANT_REFRESH_MS ≤ d1.rd Reg.COOLANT_AGE_MS then d1.coolantStale else d1
  let d3 := if d2.personality ≠ .overnight ∨ d2.transition = .yielding then d2.wr Reg.CAP_GRANTED 0
    else if d2.coolantStatus = 0 then (d2.wr Reg.CAP_GRANTED 1).onPower fun p => { p with lapsed := false }
    else d2.capLapse
  let w := d3.capThermal
  let cap := if d3.rd Reg.CAP_GRANTED = 1 then d3.rd Reg.PKG_CAP_OVERNIGHT_W else d3.rd Reg.PKG_CAP_DRIVE_W
  d3.wrAll [(Reg.COOLANT_STATUS, d3.coolantStatus), (Reg.CAP_THERMAL_W, w), (Reg.PKG_CAP_NOW_W, min cap w)]

/-! ### The cap loop (R465, R466) -/

/-- The first region with the largest value of `f`. -/
def firstLargest (f : Nat → Nat) (l : List Nat) : Option Nat :=
  l.foldl (fun b r => match b with
    | none => some r
    | some x => if f x < f r then some r else some x) none

/-- The power cap's step of an iteration. -/
def Device.capLoop (d : Device) : Device :=
  let mean := d.meanPower
  let unit := 1000000 * mean.2
  let d1 := d.onPower fun p => { p with sinceStep := p.sinceStep + 1 }
  if d1.rd Reg.PKG_CAP_NOW_W * unit < mean.1 then
    let d2 := d1.onPower fun p => { p with stepUp := none }
    if d2.power.sinceStep < d2.rd Reg.CAP_WINDOW_MS then d2
    else
      match firstLargest d2.railPower ((List.range 4).filter (fun r => d2.rd (Reg.DIV_POWER r) < 4)) with
      | some x =>
        ((d2.wr (Reg.DIV_POWER x) (d2.rd (Reg.DIV_POWER x) + 1)).ptEvent St.CAP_STEP_DOWN x).onPower fun p =>
          { p with sinceStep := 0, measuring := some (x, d2.railPower x) }
      | none =>
        if d2.power.overCount + 1 = 100 then (d2.ptEvent St.CAP_UNREACHABLE 0).onPower fun p => { p with overCount := 0 }
        else d2.onPower fun p => { p with overCount := p.overCount + 1 }
  else
    let d2 := d1.onPower fun p => { p with overCount := 0 }
    match firstLargest (fun r => d2.rd (Reg.DIV_POWER r)) ((List.range 4).filter (fun r => d2.divCeiling r < d2.rd (Reg.DIV_POWER r))) with
    | none => d2.onPower fun p => { p with stepUp := none }
    | some y =>
      let room : Int := ((d2.rd Reg.PKG_CAP_NOW_W : Int) - d2.rd Reg.CAP_HYST_W) * unit
      if room < (mean.1 : Int) + SMap.getD d2.power.saved y 0 * mean.2 then d2.onPower fun p => { p with stepUp := none }
      else
        let n := match d2.power.stepUp with
          | some (z, n) => if z = y then n + 1 else 1
          | none => 1
        if n = 100 then (d2.wr (Reg.DIV_POWER y) (d2.rd (Reg.DIV_POWER y) - 1)).onPower fun p => { p with stepUp := none }
        else d2.onPower fun p => { p with stepUp := some (y, n) }

/-! ### Sensors (R469, R470) -/

/-- The die of a junction sensor: regions 0 to 3, floor 4, I/O dies 5 and 6. -/
def sensorDie (s : Nat) : Nat := if s < 16 then s / 4 else if s < 24 then 4 else if s < 26 then 5 else 6
/-- A sensor's reading. -/
def Device.temp (d : Device) (s : Nat) : Int := toI32 (d.rd (Reg.TEMP_C s))

/-- The sensor is not marked faulty. -/
def Device.sensorValid (d : Device) (s : Nat) : Bool := !bitAt (d.rd Reg.SENSOR_FAULT_MASK) s

/-- The reading is implausible: out of range, or more than 15 °C from the mean of the other sensors of its die. Sensors
already marked faulty take no part in the mean. -/
def Device.implausible (d : Device) (s : Nat) : Bool :=
  let t := d.temp s
  let others := (List.range 28).filter (fun x => x != s && sensorDie x == sensorDie s && d.sensorValid x)
  let sum := (others.map d.temp).sum
  let n : Int := others.length
  decide (t < -55) || decide (150 < t) || (others != [] && (decide (15 * n < n * t - sum) || decide (n * t - sum < -(15 * n))))

/-- The DIV_THERMAL that faulty sensors give region `r`. -/
def Device.thermalFloor (d : Device) (r : Nat) : Nat :=
  let m := d.rd Reg.SENSOR_FAULT_MASK
  if m / 2 ^ (4 * r) % 16 ≠ 0 then 4 else if m / 2 ^ 16 ≠ 0 then 3 else 2

/-- Store a junction sensor's reading. -/
def Device.setTemp (d : Device) (s : Nat) (t : Int) : Device := d.wr (Reg.TEMP_C s) (ofI32 t)

/-- The refresh window for a stack temperature (R235). -/
def refreshWindow (t : Int) : Nat := if t ≤ 85 then 32 else if t ≤ 95 then 16 else 8

/-- Store a stack's temperature; its refresh window follows. -/
def Device.setStackTemp (d : Device) (s : Nat) (t : Int) : Device :=
  d.wrAll [(Reg.STACK_TEMP_C s, ofI32 t), (Reg.STACK_REFRESH_WINDOW_MS s, refreshWindow t)]

/-- Judge a junction sensor (R469): a faulty one is marked and lays its floor on DIV_THERMAL. -/
def Device.judgeSensor (d : Device) (s : Nat) : Device :=
  if !d.sensorValid s || !d.implausible s then d else
  let d1 := (d.wr Reg.SENSOR_FAULT_MASK (setBit (d.rd Reg.SENSOR_FAULT_MASK) s true)).ptEvent St.TEMP_SENSOR_FAULT s
  d1.each (List.range 4) fun d r => d.wr (Reg.DIV_THERMAL r) (max (d.rd (Reg.DIV_THERMAL r)) (d.thermalFloor r))

/-- The hottest valid junction sensor. -/
def Device.hottest (d : Device) : Option Int :=
  (((List.range 28).filter d.sensorValid).map d.temp).foldl (fun b t => match b with
    | none => some t
    | some x => some (max x t)) none

/-- The valid junction sensors that concern region `r`: its own, the floor's and the I/O dies'. -/
def Device.sensorsOf (d : Device) (r : Nat) : List Nat :=
  (List.range 28).filter (fun s => (s / 4 == r || decide (16 ≤ s)) && d.sensorValid s)

/-- Some sensor that concerns the region reads `j` or above, some stack beside it `k` or above. -/
def Device.hot (d : Device) (r : Nat) (j k : Int) : Bool :=
  (d.sensorsOf r).any (fun s => decide (j ≤ d.temp s)) || [2 * r, 2 * r + 1].any (fun s => decide (k ≤ d.stackTemp s))

/-- The soft response of an iteration for region `r`. -/
def Device.softThermal (d : Device) (r : Nat) : Device :=
  let j : Int := d.rd Reg.T_SOFT_C
  let k : Int := d.rd Reg.T_STACK_SOFT_C
  let v := d.rd (Reg.DIV_THERMAL r)
  let n := SMap.getD d.power.cool r 0
  let setCool (d : Device) (n : Nat) : Device := d.onPower fun p => { p with cool := SMap.put p.cool r n 0 }
  if d.hot r j k then
    if v < 4 then (setCool (d.wr (Reg.DIV_THERMAL r) (v + 1)) 0).ptEvent St.THERMAL_SOFT r else setCool d 0
  else if d.hot r (j - 4) (k - 4) then setCool d 0
  else if n + 1 < 100 then setCool d (n + 1)
  else if d.thermalFloor r < v then setCool (d.wr (Reg.DIV_THERMAL r) (v - 1)) 0
  else d

/-- The sensors are read, judged and acted on. -/
def Device.thermalIteration (d : Device) (m : MgmtInput) : Device :=
  let d1 := d.each (List.zipIdx (m.temps.take 28)) fun d p => d.setTemp p.2 p.1
  let d2 := d1.each (List.zipIdx (m.stackTemps.take 8)) fun d p => d.setStackTemp p.2 p.1
  let d3 := d2.each (List.range m.temps.length) fun d s => if s < 28 then d.judgeSensor s else d
  let d4 := match d3.hottest with
    | some t => d3.wr Reg.TEMP_MAX_C (ofI32 t)
    | none => d3
  d4.each (List.range 4) fun d r => d.softThermal r

/-- Set or clear a bit of HW_THROTTLE. -/
def Device.setThrottle (d : Device) (bit : Nat) (b : Bool) : Device := d.wr Reg.HW_THROTTLE (setBit (d.rd Reg.HW_THROTTLE) bit b)

/-- Over-current throttles release in the iteration after ten in which the pin read high (R463). -/
def Device.ocIteration (d : Device) (low : Nat) : Device :=
  d.each (List.range 4) fun d r =>
    if !bitAt (d.rd Reg.HW_THROTTLE) r then d
    else
      let n := SMap.getD d.power.ocHigh r 0
      if 10 ≤ n then (d.setThrottle r false).onPower fun p => { p with ocHigh := SMap.put p.ocHigh r 0 0 }
      else d.onPower fun p => { p with ocHigh := SMap.put p.ocHigh r (if bitAt low r then 0 else n + 1) 0 }

/-! ### Ageing (R476, R477) -/

/-- A field of AGE_RECORD is replaced, and its CRC follows. -/
def Device.ageField (d : Device) (off n v : Nat) : Device :=
  let b := padTo (d.blob Reg.AGE_RECORD) 60
  let c := b.take off ++ leBytes v n ++ b.drop (off + n)
  d.wrBlob Reg.AGE_RECORD (c ++ leBytes (crc32 c) 4)

/-- Count in a field of AGE_RECORD, saturating. -/
def Device.ageCount (d : Device) (off : Nat) (n : Nat := 1) : Device :=
  d.ageField off 4 (satTo 32 (leAt (d.blob Reg.AGE_RECORD) off 4 + n))

/-- The baseline of a region. -/
def Device.roBase (d : Device) (r : Nat) : Nat := leAt (d.blob Reg.AGE_RECORD) (32 + 4 * r) 4

/-- A measurement of region `r` (R476). -/
def Device.ageMeasure (d : Device) (r now : Nat) : Device :=
  let base := d.roBase r
  let slow := if base ≤ now ∨ base = 0 then 0 else (2500 * (base - now) + base - 1) / base
  let old := d.rd (Reg.AGE_MV r)
  let new := max old (min 50 (max d.power.ageFloor slow))
  let d1 := if old < new then (d.wr (Reg.AGE_MV r) new).ptEvent St.AGE_GUARDBAND r else d
  if 850 < d1.rd (Reg.VF_MV 0) + new ∧ bitAt (d1.rd Reg.DIV2_ALLOWED) r then
    (d1.wr Reg.DIV2_ALLOWED (setBit (d1.rd Reg.DIV2_ALLOWED) r false)).ptEvent St.AGE_DIV2_WITHDRAWN r
  else d1

/-- Measure the regions that are listed. -/
def Device.ageAll (d : Device) (ro : List (BitVec 32)) : Device :=
  d.each (List.zipIdx (ro.take 4)) fun d p => d.ageMeasure p.2 p.1.toNat

/-- The written record can be used (R477). -/
def Device.ageUsable (d : Device) : Bool :=
  let b := d.blob Reg.AGE_RECORD
  b.length == 64 && leAt b 0 4 == 0x47414B4E && leAt b 4 2 == 1 && leAt b 6 1 == d.rd Reg.STEPPING && leAt b 7 1 == 0 &&
    leAt b 8 8 == d.rd Reg.UNIQUE_ID && leAt b 60 4 == crc32 (b.take 60)

/-- Step 7 takes the record or begins a new one, counts the cold Trailhead, and measures (R476, R477). -/
def Device.ageStart (d : Device) (ro : List (BitVec 32)) : Device :=
  let fresh : List Byte := leBytes 0x47414B4E 4 ++ leBytes 1 2 ++ leBytes (d.rd Reg.STEPPING) 1 ++ zeros 1 ++
    leBytes (d.rd Reg.UNIQUE_ID) 8 ++ zeros 16 ++ ((List.range 4).map (fun i => leBytes (ro.getD i 0).toNat 4)).flatten ++ zeros 12
  let d1 := if d.ageUsable then (d.wr Reg.AGE_USE 1).onPower fun p => { p with ageFloor := 0 }
    else (((d.wr Reg.AGE_USE 0).wrBlob Reg.AGE_RECORD (fresh ++ leBytes (crc32 fresh) 4)).onPower fun p =>
      { p with ageFloor := 30 }).ptEvent St.AGE_RECORD_UNUSED 0
  ((d1.ageCount 24).ageAll ro).onPower fun p => { p with sinceAge := 0 }

/-- The counts of AGE_RECORD, and the measurement of every 3,600th iteration. -/
def Device.ageIteration (d : Device) (ro : List (BitVec 32)) (ms : Nat) : Device :=
  let p := d.power
  let powered := if d.fn .run = .on then p.poweredMs + ms else p.poweredMs
  let isHot := match d.hottest with | some t => decide (110 ≤ t) | none => false
  let hot := if isHot then p.hotMs + ms else p.hotMs
  let d1 := if 60000 ≤ powered then d.ageCount 16 (powered / 60000) else d
  let d2 := if 60000 ≤ hot then d1.ageCount 20 (hot / 60000) else d1
  let d3 := if p.sinceAge + 1 = 3600 then d2.ageAll ro else d2
  d3.onPower fun p => { p with poweredMs := powered % 60000, hotMs := hot % 60000
                               sinceAge := if p.sinceAge + 1 = 3600 then 0 else p.sinceAge + 1 }

/-! ### The whole iteration, restarts, and the start -/

/-- Power and temperature in a management iteration: readings, thermal rules, then the cap (R465), then the divisors. -/
def Device.powerIteration (d : Device) (m : MgmtInput) : Device :=
  let ms := m.skipped.toNat + 1
  let d1 := (((d.onPower fun p => { p with logged := [] }).powerRead m).thermalIteration m).coolantIteration ms
  let d2 := ((d1.capLoop).ocIteration m.ocLow.toNat).ageIteration m.ringOsc ms
  d2.each (List.range 4) fun d r => d.divUpdate r false

/-- A chip warm restart (R465, R482): DIV_POWER at the ceiling, the loop afresh; a report must be written again. -/
def Device.powerRestart (d : Device) : Device :=
  let d1 := d.each (List.range 4) fun d r => d.wr (Reg.DIV_POWER r) (d.divCeiling r)
  d1.onPower fun p => { p with sinceStep := d.rd Reg.CAP_WINDOW_MS, overCount := 0, saved := [], measuring := none
                               stepUp := none, raising := [], fresh := false, lapsed := false }

/-- A chip comes out of a cold reset. -/
def Device.powerCold (d : Device) : Device :=
  ({ d with power := { trip := d.power.trip } }).powerRestart

/-- The regulators' configuration is valid (R457, R459): the entry or rail at fault. `answers` lists the rails that
answered VOUT_MODE. -/
def Device.powerConfig (d : Device) (silent : List Nat) : Option Nat :=
  let place (i : Nat) : Nat × Nat := (bit1 (bitAt (d.rd Reg.VR_SEGMENT) i), d.rd (Reg.VR_ADDR i))
  match (List.range 11).find? (fun i => silent.contains i || ((List.range i).any (fun j => place j == place i))) with
  | some i => some i
  | none =>
    if d.rd (Reg.VF_MV 0) < d.rd (Reg.VF_MV 1) then some (Reg.VF_MV 0)
    else if d.rd (Reg.VF_MV 1) < d.rd (Reg.VF_MV 2) then some (Reg.VF_MV 1)
    else (((List.range 3).find? (fun i => d.rd (Reg.VF_MV i) < 550 || 850 < d.rd (Reg.VF_MV i))).map Reg.VF_MV)

/-! ### The commands -/

/-- DIVISOR_CHANGE (R29). -/
def execDivisorChange (r : RegionNo) (s : State) : Host.Outcome State Fault Refusal :=
  s.run fun d => d.divChange r

/-- VR_SETTLE (R461). -/
def execVrSettle (r : RegionNo) (readMv : BitVec 16) (s : State) : Host.Outcome State Fault Refusal :=
  s.run fun d => d.vrSettled r readMv.toNat

/-- OC_ALERT (R463): the pin of region `r` falls. -/
def execOcAlert (r : RegionNo) (s : State) : Host.Outcome State Fault Refusal :=
  s.run fun d =>
    (((d.setThrottle r true).onPower fun p => { p with ocHigh := SMap.put p.ocHigh r 0 0 }).ptEvent St.OC_ALERT r).divUpdate r true

/-- A reading of sensor `s`, junction 0 to 27 or stack 28 to 35, outside the iteration; the sensor is judged. -/
def Device.sensorReads (d : Device) (s : Nat) (t : Int) : Device :=
  if s < 28 then (d.setTemp s t).judgeSensor s else d.setStackTemp (s - 28) t

/-- The valid sensor reads at or above a threshold: `j` for a junction, `k` for a stack. -/
def Device.sensorAt (d : Device) (s : Nat) (j k : Int) : Bool :=
  if s < 28 then d.sensorValid s && decide (j ≤ d.temp s) else decide (k ≤ d.stackTemp (s - 28))

/-- The regions that a sensor concerns. -/
def sensorRegions (s : Nat) : List Nat := if s < 16 then [s / 4] else if s < 28 then [0, 1, 2, 3] else [(s - 28) / 2]

/-- THERMAL_HW (R470): a sensor reads `t`. -/
def execThermalHw (sensor : Fin 36) (t : BitVec 16) (s : State) : Host.Outcome State Fault Refusal :=
  s.run fun d =>
    let d1 := d.sensorReads sensor t.toInt
    if d1.sensorAt sensor 120 103 then
      (d1.ptEvent St.THERMAL_HW sensor).each (sensorRegions sensor) fun d r => (d.setThrottle (4 + r) true).divUpdate r true
    else d1

/-- THERMAL_HW_RELEASE (R470): every sensor that concerns region `r` has been cool for 10 ms. -/
def execThermalHwRelease (r : RegionNo) (s : State) : Host.Outcome State Fault Refusal :=
  s.run fun d => if d.hot r 116 99 then d else (d.setThrottle (4 + r) false).divUpdate r false

/-- COOLANT_STALE (R467). -/
def execCoolantStale (s : State) : Host.Outcome State Fault Refusal := s.run Device.coolantStale

end Sys2Proof.Machine
end

