-- ==== Sys2Proof/Machine/World.lean ====
section
/-!
DEFINITION. What fusion and planning share: arithmetic over real numbers as the world engine holds them (Config), frames
(R281), binary32 bounds, and the completion of world-engine jobs (R294).
-/

namespace Sys2Proof.Machine

open Config

/-! ### Numbers -/

/-- A finite binary32 word. -/
def f32Finite (v : Nat) : Bool := !f32NotFinite v

/-- The order of finite binary32 words, as integers. -/
def f32Order (v : Nat) : Int := if v < 2 ^ 31 then (v : Int) else -(Int.ofNat (v % 2 ^ 31))

/-- The exact value of a finite binary32 word, in units of 2^-149. -/
def f32Exact (v : Nat) : Int :=
  let e := v / 2 ^ 23 % 256
  let m := v % 2 ^ 23
  let x : Int := Int.ofNat (if e = 0 then m else (m + 2 ^ 23) * 2 ^ (e - 1))
  if v < 2 ^ 31 then x else -x

/-- The number of an integer. -/
def nInt (a : Int) : Number := a

/-- The number of binary32 bits: exact, where they are a finite number. -/
def nF32 (v : Nat) : Number := if f32Finite v then (f32Exact v : Number) / 2 ^ 149 else nOdd32 v

/-- The number of binary64 bits: exact, where they are a finite number. -/
def nF64 (v : Nat) : Number :=
  let e := v / 2 ^ 52 % 2048
  let m := v % 2 ^ 52
  let x : Number := ((if e = 0 then m else (m + 2 ^ 52) * 2 ^ (e - 1) : Nat) : Int) / (2 : Number) ^ 1074
  if e = 2047 then nOdd64 v else if v < 2 ^ 63 then x else -x

/-- The first number is less than the second. -/
def nLt (a b : Number) : Bool := decide (a < b)

/-- `a ≤ b`. -/
def nLe (a b : Number) : Bool := !nLt b a

/-- A number rounded down, and rounded to the nearest integer with ties away from zero. -/
def nFloor (a : Number) : Int := a.floor
def nRound (a : Number) : Int := if nLt a 0 then -(1 / 2 - a).floor else (a + 1 / 2).floor

/-- A quotient of two integers. -/
def nRat (a b : Int) : Number := (a : Number) / b

/-- Nanoseconds as seconds. -/
def nSec (t : Int) : Number := nRat t 1000000000

/-- Millimetres as metres. -/
def nMm (x : Int) : Number := nRat x 1000

/-! ### Frames -/

/-- Component `i` of a vector. -/
def comp (v : List Number) (i : Nat) : Number := v.getD i (nInt 0)

/-- Vector sum, difference, multiple and inner product. -/
def vAdd (a b : List Number) : List Number := List.zipWith nAdd a b
def vSub (a b : List Number) : List Number := List.zipWith nSub a b
def vScale (k : Number) (a : List Number) : List Number := a.map (nMul k)
def vDot (a b : List Number) : Number := (List.zipWith nMul a b).foldl nAdd (nInt 0)

/-- The length of a vector. -/
def vLen (a : List Number) : Number := nSqrt (vDot a a)

/-- The product of two quaternions w, x, y, z. -/
def quatMul (a b : List Number) : List Number :=
  let m := fun i j => nMul (comp a i) (comp b j)
  [nSub (nSub (nSub (m 0 0) (m 1 1)) (m 2 2)) (m 3 3),
   nSub (nAdd (nAdd (m 0 1) (m 1 0)) (m 2 3)) (m 3 2),
   nAdd (nSub (nAdd (m 0 2) (m 2 0)) (m 1 3)) (m 3 1),
   nAdd (nSub (nAdd (m 0 3) (m 1 2)) (m 2 1)) (m 3 0)]

/-- The conjugate of a quaternion. -/
def quatConj (q : List Number) : List Number :=
  [comp q 0, nSub (nInt 0) (comp q 1), nSub (nInt 0) (comp q 2), nSub (nInt 0) (comp q 3)]

/-- R(q) v. -/
def rotate (q v : List Number) : List Number := (quatMul (quatMul q (nInt 0 :: v)) (quatConj q)).drop 1

/-- R(q)ᵀ v. -/
def unrotate (q v : List Number) : List Number := rotate (quatConj q) v

/-- The yaw of an attitude. -/
def quatYaw (q : List Number) : Number :=
  nAtan2 (nMul (nInt 2) (nAdd (nMul (comp q 0) (comp q 3)) (nMul (comp q 1) (comp q 2))))
    (nSub (nInt 1) (nMul (nInt 2) (nAdd (nMul (comp q 2) (comp q 2)) (nMul (comp q 3) (comp q 3)))))

/-- exp of a pure quaternion, given as its vector: the turn by twice its length about it. -/
def quatExp (v : List Number) : List Number :=
  let t := vLen v
  if nLt (nInt 0) t then nCos t :: vScale (nDiv (nSin t) t) v else [nInt 1, nInt 0, nInt 0, nInt 0]

/-- Spherical linear interpolation between two unit quaternions, the shorter way. -/
def slerp (a b : List Number) (u : Number) : List Number :=
  let c := vDot a b
  let b' := if nLt c (nInt 0) then vScale (nInt (-1)) b else b
  let c' := if nLt c (nInt 0) then nSub (nInt 0) c else c
  let s := nSqrt (nSub (nInt 1) (nMul c' c'))
  let angle := nAtan2 s c'
  if nLt (nInt 0) s then
    vAdd (vScale (nDiv (nSin (nMul (nSub (nInt 1) u) angle)) s) a) (vScale (nDiv (nSin (nMul u angle)) s) b')
  else a

/-- The attitude with yaw 0 whose roll and pitch come from a specific force at rest (R286). -/
def levelFrom (a : List Number) : List Number :=
  let roll := nAtan2 (comp a 1) (comp a 2)
  let pitch := nAtan2 (nSub (nInt 0) (comp a 0)) (vLen [comp a 1, comp a 2])
  quatMul (quatExp [nInt 0, nDiv pitch (nInt 2), nInt 0]) (quatExp [nDiv roll (nInt 2), nInt 0, nInt 0])

/-- The median of a list of numbers, the mean of the middle two of an even number of them. -/
def median (l : List Number) : Number :=
  let m := l.mergeSort nLe
  nDiv (nAdd (comp m ((m.length - 1) / 2)) (comp m (m.length / 2))) (nInt 2)

/-- A point lies inside a rectangle: point x, y, then centre x, y, length, width and yaw (R321). -/
def inRectangle (x y cx cy len wid yaw : Number) : Bool :=
  let dx := nSub x cx
  let dy := nSub y cy
  let along := nAdd (nMul (nCos yaw) dx) (nMul (nSin yaw) dy)
  let across := nSub (nMul (nCos yaw) dy) (nMul (nSin yaw) dx)
  let within := fun v w => nLe v (nDiv w (nInt 2)) && nLe (nSub (nInt 0) v) (nDiv w (nInt 2))
  within along len && within across wid

/-- The edges of row or column `i` of the fused grid (R299). -/
def gridEdge (i : Nat) : Number := nRat (2 * ((i : Int) - 256)) 10

/-- The grid cells whose centres lie in a footprint: centre x, y, length, width and yaw, widened by a margin (R299, R307, R321). -/
def footprintCells (cx cy len wid yaw margin : Number) : List Nat :=
  let wide := fun v => nAdd v (nMul (nInt 2) margin)
  (List.range 262144).filter (fun i =>
    inRectangle (nRat (2 * ((i / 512 : Nat) : Int) - 511) 10) (nRat (2 * ((i % 512 : Nat) : Int) - 511) 10) cx cy (wide len) (wide wid) yaw)

/-- The part of the segment from `a` to `b`, as parameters from 0 to 1, that lies between two edges of one axis, cut to
the part `l` known so far; none where nothing is left. -/
def clip (a b low high : Number) (l : Option (Number × Number)) : Option (Number × Number) :=
  let d := nSub b a
  match l with
  | none => none
  | some (p, q) =>
    if nLt (nInt 0) d || nLt d (nInt 0) then
      let s := nDiv (nSub low a) d
      let t := nDiv (nSub high a) d
      let first := if nLt s t then s else t
      let last := if nLt s t then t else s
      let p' := if nLt p first then first else p
      let q' := if nLt last q then last else q
      if nLt p' q' then some (p', q') else none
    else if nLe low a && nLt a high then some (p, q) else none

/-- The grid cells that a ray crosses from one point of the plane to another, the last point's cell not counted (R300). -/
def rayCells (a b : List Number) : List Nat :=
  (List.range 262144).filter (fun i =>
    let side := fun k n => clip (comp a k) (comp b k) (gridEdge n) (gridEdge (n + 1))
    (side 1 (i % 512) (side 0 (i / 512) (some (nInt 0, nInt 1)))).isSome &&
      !(nLe (gridEdge (i / 512)) (comp b 0) && nLt (comp b 0) (gridEdge (i / 512 + 1)) &&
        nLe (gridEdge (i % 512)) (comp b 1) && nLt (comp b 1) (gridEdge (i % 512 + 1))))

/-- The quaternion of a turn by `a` about z. -/
def quatTurn (a : Number) : List Number := quatExp [nInt 0, nInt 0, nDiv a (nInt 2)]

/-- A point turned by a yaw in the plane. -/
def turn (yaw : Number) (p : List Number) : List Number :=
  [nSub (nMul (nCos yaw) (comp p 0)) (nMul (nSin yaw) (comp p 1)), nAdd (nMul (nSin yaw) (comp p 0)) (nMul (nCos yaw) (comp p 1))]

/-- `n` binary32 values from offset `o` of a list of bytes. -/
def f32s (l : List Byte) (o n : Nat) : List Number := (List.range n).map (fun i => nF32 (leAt l (o + 4 * i) 4))

/-- The bits of the largest binary magnitude with `frac` fraction bits that is at most `q` units of its least one. -/
def floatDown (frac q : Nat) : Nat :=
  if q < 2 ^ frac then q else
  let s := q.log2 - frac
  (s + 1) * 2 ^ frac + (q / 2 ^ s - 2 ^ frac)

/-- The magnitude of bits, in units of the least one. -/
def floatUnits (frac v : Nat) : Nat := if v < 2 ^ frac then v else (2 ^ frac + v % 2 ^ frac) * 2 ^ (v / 2 ^ frac - 1)

/-- A number in a binary format: its exact bits where it has them, else one of its two neighbours, as `up` chooses. -/
def toFloat (frac units top sign : Nat) (up : Bool) (x : Number) : Nat :=
  let m : Number := (if nLt x 0 then -x else x) * (2 : Number) ^ units
  let lo := min (floatDown frac m.floor.toNat) top
  let v := if (floatUnits frac lo : Number) = m then lo else if up then lo + 1 else lo
  if nLt x 0 then v + 2 ^ sign else v

/-- A number as binary32 and as binary64. -/
def asF32 (x : Number) : Nat := toFloat 23 149 0x7F7FFFFF 31 (roundsUp32 x) x
def asF64 (x : Number) : Nat := toFloat 52 1074 0x7FEFFFFFFFFFFFFF 63 (roundsUp64 x) x

/-- A number as the four bytes of its binary32. -/
def outF32 (x : Number) : List Byte := leBytes (asF32 x) 4

/-- A number as the eight bytes of its binary64. -/
def outF64 (x : Number) : List Byte := leBytes (asF64 x) 8

/-! ### Lists of binary32 words -/

/-- Every binary32 word of a range of bytes is finite. -/
def f32AllFinite (l : List Byte) (o n : Nat) : Bool := (List.range n).all (fun i => f32Finite (leAt l (o + 4 * i) 4))

/-- A rising list of binary32 words. -/
def f32Rising (l : List Byte) (o n : Nat) : Bool :=
  (List.range (n - 1)).all (fun i => f32Order (leAt l (o + 4 * i) 4) < f32Order (leAt l (o + 4 * i + 4) 4))

/-! ### Jobs -/

/-- The instant field of a completion that names none (Table 10-5). -/
def noInstant : Nat := 0xFFFFFFFFFFFFFFFF

/-- Complete a world-engine job (R294, Table 10-5): its record goes to line WH_JOB of endpoint 3 of the notified core, and
WH_NOTIFY_SEM is raised. -/
def Device.jobDone (d : Device) (j : WorldJob) (status : Code) (instant : Nat := noInstant) (out : Nat := 0) : Device :=
  let record := leBytes status 2 ++ leBytes j.cls 1 ++ [0] ++ leBytes j.arg 4 ++ leBytes instant 8 ++ leBytes out 8 ++ zeros 40
  if d.epTakes j.core 3 (64 * j.job) 64 then d.epWrite j.core 3 (64 * j.job) record [] true j.sem
  else d.inboundDrop j.core 3

/-- Change fusion's state. -/
def Device.onFusion (d : Device) (f : Fusion → Fusion) : Device := { d with fusion := f d.fusion }

/-- Change the world engine's jobs. -/
def Device.onWorld (d : Device) (f : World → World) : Device := { d with world := f d.world }

/-- Read for fusion or planning, through the world engine's port; an error answer is a fault of the world region (R244). -/
def Device.worldRead (d : Device) (a n : Nat) (env : MemEnv) : ReadResult :=
  let r := d.portRead portWorld a n false env
  if r.code = 0 then r else { r with dev := r.dev.regionFault .world r.code }

/-- Write for fusion or planning. -/
def Device.worldWrite (d : Device) (a : Nat) (bytes : List Byte) (env : MemEnv) : Device :=
  let r := d.portWrite portWorld a bytes [] false env
  if r.2 = 0 then r.1 else r.1.regionFault .world r.2

/-- Read ranges, address and length, for fusion or planning: false where one is answered with an error, which is a fault of
the world region (R244). -/
def Device.worldScan (d : Device) (env : MemEnv) : List (Nat × Nat) → Device × Bool
  | [] => (d, true)
  | p :: t =>
    let r := d.worldRead p.1 p.2 env
    if r.code = 0 then r.dev.worldScan (env.skip (p.2 / 64 + 1)) t else (r.dev, false)

/-- Write in order for fusion or planning; a write answered with an error is a fault of the world region and the last. -/
def Device.worldWrites (d : Device) (env : MemEnv) : List (Nat × List Byte) → Device × Bool
  | [] => (d, true)
  | p :: t =>
    let r := d.portWrite portWorld p.1 p.2 [] false env
    if r.2 = 0 then r.1.worldWrites (env.skip (p.2.length / 64 + 1)) t else (r.1.regionFault .world r.2, false)

/-- The world engine runs: its region is not stopped, and no chip warm restart waits. -/
def Device.worldRuns (d : Device) : Bool := !d.regionStopped .world && d.boot.chipDemand.isNone

end Sys2Proof.Machine
end

