-- ==== Sys2Proof/Machine/Filter.lean ====
section
/-!
DEFINITION. The Kalman filter of a track (R301), over the numbers of Config: the filter state, its prediction with constant
velocity, its update by a measurement, and the measures of association (R302).
-/

namespace Sys2Proof.Machine

open Config

/-! A filter state is a list: position x, y, velocity x, y, yaw, yaw rate, length, width, height, z (places 0 to 9), and
the upper triangle, row by row, of the covariance of x, y and the two velocities (places 10 to 19). A measurement is the
list of `Device.measure`: position x, y, z, its covariance xx, xy, yy, whether size is measured (a BOX3D), the size, the yaw, whether
a velocity is given, and the velocity. -/

/-- The covariance of components `i` and `j` of a filter state. -/
def covAt (f : List Number) (i j : Nat) : Number :=
  let r := min i j
  comp f (10 + ([0, 4, 7, 9] : List Nat).getD r 0 + (max i j - r))

/-- The upper triangle of a covariance. -/
def triangle (p : Nat → Nat → Number) : List Number :=
  (List.range 4).flatMap (fun i => (List.range (4 - i)).map (fun j => p i (i + j)))

/-- The prediction over a time in ns, with white acceleration noise of a sigma. -/
def kalmanPredict (f : List Number) (ns : Int) (sigma : Number) : List Number :=
  let dt := nSec ns
  let q := accelNoise dt sigma
  let p := fun i j =>
    let c := covAt f
    let same := fun v => if i % 2 = j % 2 then v else nInt 0
    if j < 2 then nAdd (nAdd (nAdd (c i j) (nMul dt (nAdd (c i (j + 2)) (c (i + 2) j)))) (nMul (nMul dt dt) (c (i + 2) (j + 2))))
      (same (comp q 0))
    else if i < 2 then nAdd (nAdd (c i j) (nMul dt (c (i + 2) j))) (same (comp q 1))
    else nAdd (c i j) (same (comp q 2))
  [nAdd (comp f 0) (nMul dt (comp f 2)), nAdd (comp f 1) (nMul dt (comp f 3))] ++ (f.drop 2).take 8 ++ triangle p

/-- The inverse xx, xy, yy of the innovation covariance of two components from `o` on, with a noise xx, xy, yy. -/
def innovationInverse (f : List Number) (o : Nat) (noise : List Number) : List Number :=
  let s := [nAdd (covAt f o o) (comp noise 0), nAdd (covAt f o (o + 1)) (comp noise 1), nAdd (covAt f (o + 1) (o + 1)) (comp noise 2)]
  let det := nSub (nMul (comp s 0) (comp s 2)) (nMul (comp s 1) (comp s 1))
  [nDiv (comp s 2) det, nDiv (nSub (nInt 0) (comp s 1)) det, nDiv (comp s 0) det]

/-- The update by a measurement of two components from `o` on: position (0) or velocity (2). -/
def kalmanPair (f : List Number) (o : Nat) (z noise : List Number) : List Number :=
  let w := innovationInverse f o noise
  let gain := fun i => [nAdd (nMul (covAt f i o) (comp w 0)) (nMul (covAt f i (o + 1)) (comp w 1)),
    nAdd (nMul (covAt f i o) (comp w 1)) (nMul (covAt f i (o + 1)) (comp w 2))]
  let y := vSub z [comp f o, comp f (o + 1)]
  (List.range 4).map (fun i => nAdd (comp f i) (vDot (gain i) y)) ++ (f.drop 4).take 6 ++
    triangle (fun i j => nSub (covAt f i j) (vDot (gain i) [covAt f o j, covAt f (o + 1) j]))

/-- The update by a measurement: position, and of a BOX3D the size and, when it gives one, the velocity. -/
def kalmanUpdate (f m : List Number) : List Number :=
  let f1 := kalmanPair f 0 (m.take 2) ((m.drop 3).take 3)
  let f2 := if comp m 6 = 1 ∧ comp m 11 = 1 then kalmanPair f1 2 ((m.drop 12).take 2) (velNoise m) else f1
  let size := (List.range 3).map (fun i => if comp m 6 = 1 then sizeBlend (comp f (6 + i)) (comp m (7 + i)) else comp f (6 + i))
  f2.take 5 ++ [yawRate f f2] ++ size ++ [heightBlend (comp f 9) (comp m 2)] ++ f2.drop 10

/-- The first filter state of a track, of a given size, from a measurement: zero velocity unless it gives one (R303). -/
def kalmanInit (m size : List Number) : List Number :=
  let known := comp m 11 = 1
  let vel := if known then (m.drop 12).take 2 else [nInt 0, nInt 0]
  let n := if known then velNoise m else [comp (birthVelVar m) 0, nInt 0, comp (birthVelVar m) 1]
  let nil := nInt 0
  m.take 2 ++ vel ++ [comp m 10, nil] ++ size ++ [comp m 2] ++
    [comp m 3, comp m 4, nil, nil, comp m 5, nil, nil, comp n 0, comp n 1, comp n 2]

/-- d2 of a state and a measurement: the square of the innovation of position against its covariance (R302). -/
def kalmanD2 (f m : List Number) : Number :=
  let w := innovationInverse f 0 ((m.drop 3).take 3)
  let y := vSub (m.take 2) (f.take 2)
  vDot y [nAdd (nMul (comp w 0) (comp y 0)) (nMul (comp w 1) (comp y 1)), nAdd (nMul (comp w 1) (comp y 0)) (nMul (comp w 2) (comp y 1))]

/-- The distance between a state and a measurement in the plane. -/
def kalmanDistance (f m : List Number) : Number := vLen (vSub (m.take 2) (f.take 2))

/-- A variance xx, xy, yy along the x axis of a frame turned by a yaw, and along its y axis. -/
def turnedVar (xx xy yy yaw : Number) : List Number :=
  let c := nCos yaw
  let s := nSin yaw
  let cs := nMul (nInt 2) (nMul (nMul c s) xy)
  [nAdd (nAdd (nMul (nMul c c) xx) cs) (nMul (nMul s s) yy), nAdd (nSub (nMul (nMul s s) xx) cs) (nMul (nMul c c) yy)]

/-- The variances of position and velocity of a filter state in a frame turned by a yaw (Table 10-10). -/
def kalmanVar (f : List Number) (yaw : Number) : List Number :=
  turnedVar (covAt f 0 0) (covAt f 0 1) (covAt f 1 1) yaw ++ turnedVar (covAt f 2 2) (covAt f 2 3) (covAt f 3 3) yaw

/-- The covariance xx, xy, yy in the plane of variances along the axes of a frame turned by `q`. -/
def planeCov (q var : List Number) : List Number :=
  let axis := fun i => rotate q ((List.range 3).map (fun j => nInt (if i = j then 1 else 0)))
  let sum := fun a b => ((List.range 3).map (fun i => nMul (comp var i) (nMul (comp (axis i) a) (comp (axis i) b)))).foldl nAdd (nInt 0)
  [sum 0 0, sum 0 1, sum 1 1]

end Sys2Proof.Machine
end

