-- ==== Sys2Proof/Machine/Fusion.lean ====
section
/-!
DEFINITION. Fusion and tracking (chapter 10): calibration, ego-motion, instants and their closing, projection, the fused
grid, tracks, late inputs, disputes and outputs.
-/

namespace Sys2Proof.Machine

open Config

/-! ### Calibration (R282 to R285) -/

/-- Roles (Table 10-15). -/
def roleCamera : Nat := 1
def roleThermal : Nat := 2
def roleLidar : Nat := 3
def roleImu : Nat := 4
def roleWheel : Nat := 5

/-- A role may have a model (Table 10-1). A slot without a role may have any. -/
def modelFits (role model : Nat) : Bool :=
  if role = 0 then 1 ≤ model && model ≤ 5
  else if role ≤ 2 then model == 1 || model == 2
  else model == role

/-- The model parameters of an intrinsics BLOB are finite and its unused bytes 0 (Table 10-2). -/
def paramsOk (b : List Byte) : Bool :=
  match leAt b 4 1 with
  | 1 => f32AllFinite b 28 9 && zeroAt b 96 1400
  | 2 => f32AllFinite b 28 5 && zeroAt b 48 16 && decide (0 ≤ f32Order (leAt b 44 4)) && decide (leAt b 44 4 ≤ 0x3FE00000) &&
      f32AllFinite b 96 350 && f32Rising b 96 350
  | 3 => decide (leAt b 24 1 ≤ 1) && zeroAt b 25 1 && f32AllFinite b 32 1 && zeroAt b 36 28 && zeroAt b 96 1400
  | 4 => f32AllFinite b 28 2 && zeroAt b 36 28 && zeroAt b 96 1400
  | _ => zeroAt b 26 2 && f32AllFinite b 28 2 && zeroAt b 36 28 && zeroAt b 96 1400

/-- The intrinsics BLOB passes the checks of a commit (R284, Table 10-1). -/
def intrinsicsOk (role : Nat) (b : List Byte) : Bool :=
  let az := f32Order (leAt b 8 4)
  let az' := f32Order (leAt b 12 4)
  leAt b 0 4 == 0x4E494B4E && zeroAt b 5 3 && zeroAt b 64 32 && leAt b 1496 4 == crc32 (b.take 1496) &&
    modelFits role (leAt b 4 1) && decide (1 ≤ leAt b 4 1) && decide (leAt b 4 1 ≤ 5) && f32AllFinite b 8 4 &&
    decide (-(0x40490FDB : Int) ≤ az) && decide (az < az') && decide (az' ≤ 0x40490FDB) &&
    decide (0 ≤ f32Order (leAt b 16 4)) && decide (f32Order (leAt b 16 4) ≤ 0x43960000) && decide (0 < f32Order (leAt b 20 4)) && paramsOk b

/-- The extrinsics BLOB passes the checks of a commit (R284, Table 10-3). -/
def extrinsicsOk (b : List Byte) : Bool :=
  let sq := fun i => f32Exact (leAt b (8 + 4 * i) 4) ^ 2
  let n := sq 0 + sq 1 + sq 2 + sq 3
  let off := signExt 32 (leAt b 36 4)
  leAt b 0 4 == 0x58454B4E && zeroAt b 4 4 && zeroAt b 40 20 && leAt b 60 4 == crc32 (b.take 60) && f32AllFinite b 8 7 &&
    decide (998001 * (2 : Int) ^ 298 ≤ 1000000 * n) && decide (1000000 * n ≤ 1002001 * (2 : Int) ^ 298) &&
    decide (-100000000 ≤ off) && decide (off ≤ 100000000)

/-- A slot's calibration BLOBs, and whether both are committed. -/
def Device.intrinsics (d : Device) (n : Nat) : List Byte := d.blob (Reg.CAL_INTRINSICS n)
def Device.extrinsics (d : Device) (n : Nat) : List Byte := d.blob (Reg.CAL_EXTRINSICS n)
def Device.calibrated (d : Device) (n : Nat) : Bool := leAt (d.intrinsics n) 0 4 != 0 && leAt (d.extrinsics n) 0 4 != 0

/-- Rotation, origin and time offset of a slot (Table 10-3). -/
def Device.slotQuat (d : Device) (n : Nat) : List Number := f32s (d.extrinsics n) 8 4
def Device.slotOrigin (d : Device) (n : Nat) : List Number := f32s (d.extrinsics n) 24 3
def Device.slotOffset (d : Device) (n : Nat) : Int := signExt 32 (leAt (d.extrinsics n) 36 4)

/-- The vehicle time of an input of a slot: its stamp and the slot's TIME_OFFSET_NS (R283, R290). -/
def Device.inputTime (d : Device) (n stamp : Nat) : Int := (stamp : Int) + d.slotOffset n

/-- A point of the sensor frame in the vehicle frame, and back (R281, R297). -/
def Device.toVehicle (d : Device) (n : Nat) (p : List Number) : List Number := vAdd (rotate (d.slotQuat n) p) (d.slotOrigin n)
def Device.toSensor (d : Device) (n : Nat) (p : List Number) : List Number := unrotate (d.slotQuat n) (vSub p (d.slotOrigin n))

/-- The slot's role. -/
def Device.role (d : Device) (n : Nat) : Nat := d.rd (Reg.CAL_ROLE n)

/-! ### Ego-motion (R286 to R288) -/

/-- Gravity (R286). -/
def gravity : List Number := [nInt 0, nInt 0, nRat 980665 100000]

/-- The entry that an IMU sample adds after `e`. -/
def EgoEntry.next (e : EgoEntry) (tau : Int) (w a : List Number) : EgoEntry :=
  let dt := nSec (tau - e.tau)
  let half := nDiv dt (nInt 2)
  let q := quatMul e.q (quatExp (vScale half w))
  let v := vAdd e.v (vScale dt (vSub (rotate q a) gravity))
  { tau := tau, q := q, v := v, p := vAdd e.p (vScale half (vAdd e.v v)), w := w, a := a }

/-- The first entry. -/
def EgoEntry.first (tau : Int) (w a : List Number) : EgoEntry :=
  { tau := tau, q := levelFrom a, v := [nInt 0, nInt 0, nInt 0], p := [nInt 0, nInt 0, nInt 0], w := w, a := a }

/-- Integrate again the samples of later entries. -/
def reintegrate (e : EgoEntry) : List EgoEntry → List EgoEntry
  | [] => []
  | x :: t => let y := e.next x.tau x.w x.a; y :: reintegrate y t

/-- The ego horizon E. -/
def Device.egoHorizon (d : Device) : Option Int := (d.fusion.history.getLast?).map (·.tau)

/-- The mean of the latest wheel speeds within 50 ms of a time. -/
def Device.wheelMean (d : Device) (tau : Int) : Option Number :=
  let near := d.fusion.speeds.filter (fun p => (d.inputTime p.1 p.2.stamp - tau).natAbs ≤ 50000000)
  let l := near.map (fun p => nMul (nInt (p.2.data.getD 0 0)) (nF32 (leAt (d.intrinsics p.1) 28 4)))
  if l = [] then none else some (nDiv (l.foldl nAdd (nInt 0)) (nInt l.length))

/-- The place of the history entry nearest a time. -/
def nearest (l : List EgoEntry) (tau : Int) : Nat :=
  ((List.range l.length).foldl (fun best i =>
    let gap := fun j => ((l.map (·.tau)).getD j 0 - tau).natAbs
    if gap i < gap best then i else best) 0)

/-- Correct the velocity by the wheel speeds at a time (R287). -/
def Device.wheelCorrect (d : Device) (tau : Int) : Device :=
  match d.wheelMean tau with
  | none => d
  | some vw =>
    let l := d.fusion.history
    let i := nearest l tau
    match l[i]? with
    | none => d
    | some e =>
      let vx := comp (unrotate e.q e.v) 0
      let step := nMul (nF32 (d.rd Reg.WHEEL_GAIN)) (nSub vw vx)
      let e' := { e with v := vAdd e.v (rotate e.q [step, nInt 0, nInt 0]) }
      d.onFusion fun f => { f with history := l.take i ++ [e'] ++ reintegrate e' (l.drop (i + 1)) }

/-- The pose at a time between two entries. -/
def between (a b : EgoEntry) (tau : Int) : EgoEntry :=
  let u := nRat (tau - a.tau) (b.tau - a.tau)
  let mix := fun x y => vAdd x (vScale u (vSub y x))
  { tau := tau, q := slerp a.q b.q u, v := mix a.v b.v, p := mix a.p b.p, w := b.w, a := b.a }

/-- The pose extrapolated from an entry with constant velocity and constant yaw rate. -/
def EgoEntry.extrapolate (e : EgoEntry) (tau : Int) : EgoEntry :=
  let dt := nSec (tau - e.tau)
  { e with tau := tau, p := vAdd e.p (vScale dt e.v), q := quatMul e.q (quatTurn (nMul (comp e.w 2) dt)) }

/-- The pose at a time: none with the code that makes the input unusable (R288). -/
def poseIn (l : List EgoEntry) (tau : Int) : Option EgoEntry :=
  match l with
  | [] => none
  | [e] => if tau < e.tau then none else some (if tau = e.tau then e else e.extrapolate tau)
  | a :: b :: t => if tau < a.tau then none else if tau ≤ b.tau then some (between a b tau) else poseIn (b :: t) tau

/-- The ego pose of an input, and the code that makes it unusable. -/
def Device.poseAt (d : Device) (tau : Int) : Option EgoEntry × Code :=
  match poseIn d.fusion.history tau, d.egoHorizon with
  | some e, some h => if h + (d.rd Reg.EGO_EXTRAP_MAX_NS : Int) < tau then (none, St.EGO_GAP) else (some e, 0)
  | _, _ => (none, St.EGO_HISTORY_EXPIRED)

/-- Count an event of Table 10-13 in FUSION_EVENTS. -/
def Device.fusionEvent (d : Device) (c : Code) (i : Nat) : Device := d.countEv c 0 (Reg.FUSION_EVENTS i)

/-- Count an input that its pose makes unusable. -/
def Device.unusable (d : Device) (c : Code) : Device := d.fusionEvent c (if c = St.EGO_GAP then 4 else 5)

/-! ### Instants (R289 to R292) -/

/-- t_k. -/
def Device.instantTime (d : Device) (k : Nat) : Int := (d.rd Reg.PHASE_NS + k * d.rd Reg.PERIOD_NS : Nat)

/-- The instant that a vehicle time belongs to: the smallest k with τ ≤ t_k, unless τ lies before the first instant's span. -/
def Device.instantOf (d : Device) (tau : Int) : Option Nat :=
  let p : Int := d.rd Reg.PERIOD_NS
  let ph : Int := d.rd Reg.PHASE_NS
  if p = 0 ∨ tau ≤ ph - p then none else some ((tau - ph + p - 1) / p).toNat

/-- The first instant after a vehicle time. -/
def Device.instantAfter (d : Device) (tau : Int) : Nat :=
  let ph : Int := d.rd Reg.PHASE_NS
  if tau < ph ∨ d.rd Reg.PERIOD_NS = 0 then 0 else ((tau - ph) / (d.rd Reg.PERIOD_NS : Int)).toNat + 1

/-- Slot `n` is complete for the open instant (R291). -/
def Device.slotComplete (d : Device) (n k : Nat) : Bool :=
  d.fusion.finals.any (fun p => p.1 == n && d.instantOf (d.inputTime n p.2) == some k) ||
    (d.role n == roleLidar && !bitAt d.fusion.sentLists n &&
      (match SMap.find d.fusion.newestPacket n with | some t => decide (d.instantTime k < d.inputTime n t) | none => false))

/-- The slots of REQUIRED_MASK that are not complete for k. -/
def Device.missing (d : Device) (k : Nat) : List Nat := (bitList (d.rd Reg.REQUIRED_MASK) 64).filter (fun n => !d.slotComplete n k)

/-- Instant k may close by rule 1 or 2 of R291. A mask that names no slot never closes an instant by rule 1. -/
def Device.mayClose (d : Device) (k : Nat) : Bool :=
  (d.rd Reg.REQUIRED_MASK != 0 && (d.missing k).isEmpty) ||
    (match d.egoHorizon with | some e => decide (d.instantTime k + (d.rd Reg.CLOSE_LAG_NS : Int) ≤ e) | none => false)

/-! ### The grid (R299, R300) -/

/-- An unwritten cell: OCC 0, HEIGHT 0, CLASS 0xFF, no flags (Table 10-8). -/
def emptyCell : Nat := 0x00FF0000

/-- Fields of a cell. -/
def cellOcc (w : Nat) : Int := signExt 8 w
def cellHeight (w : Nat) : Nat := field w 15 8
def cellClass (w : Nat) : Nat := field w 23 16
def cellWord (occ : Int) (height cls flags : Nat) : Nat := ofInt 8 occ + 256 * height + 65536 * cls + 16777216 * flags

/-- Saturate OCC. -/
def satOcc (x : Int) : Int := if x < -128 then -128 else if 127 < x then 127 else x

/-- The cell under a point of the ego frame. -/
def cellAt (p : List Number) : Option Nat :=
  let r := nFloor (5 * comp p 0) + 256
  let c := nFloor (5 * comp p 1) + 256
  if 0 ≤ r ∧ r < 512 ∧ 0 ≤ c ∧ c < 512 then some (512 * r + c).toNat else none

/-- The centre of a cell. -/
def cellCentre (i : Nat) : List Number :=
  [nRat (2 * ((i / 512 : Nat) : Int) - 511) 10, nRat (2 * ((i % 512 : Nat) : Int) - 511) 10, nInt 0]

/-- A point of one ego frame in another, through the odometry frame. -/
def between_frames (a b : EgoEntry) (p : List Number) : List Number := unrotate b.q (vSub (vAdd (rotate a.q p) a.p) b.p)

/-- Resample and decay the grid at the start of instant k (R300). -/
def Device.resample (d : Device) (pose : EgoEntry) : Device :=
  match d.fusion.gridPose with
  | none => d.onFusion fun f => { f with grid := [], gridPose := some pose }
  | some old =>
    let decay : Int := d.rd Reg.GRID_DECAY
    let cells := (List.range 262144).filterMap (fun i =>
      match cellAt (between_frames pose old (cellCentre i)) with
      | none => none
      | some j =>
        let w := SMap.getD d.fusion.grid j emptyCell
        let occ := (cellOcc w * decay).tdiv 16
        let x := cellWord occ (if occ ≤ 0 then 0 else cellHeight w) 0xFF 0
        if x = emptyCell then none else some (i, x))
    d.onFusion fun f => { f with grid := cells, gridPose := some pose }

/-- The points of a stored lidar frame, in the sensor frame (Table 10-2). -/
def Device.lidarPoints (d : Device) (n : Nat) (frame : List Byte) : List (List Number) :=
  let b := d.intrinsics n
  let unit := nF32 (leAt b 32 4)
  let size := if leAt b 24 1 = 0 then 6 else 12
  (List.range (leAt b 30 2)).filterMap (fun i =>
    let o := leAt b 26 2 + i * leAt b 28 2
    if frame.length < o + size then none
    else if leAt b 24 1 = 0 then
      some ((List.range 3).map (fun j => nMul (nInt (signExt 16 (leAt frame (o + 2 * j) 2))) unit))
    else some (f32s frame o 3))

/-- Change cells of the grid, marking them touched by lidar. -/
def Fusion.touch (f : Fusion) (cell : Nat) (add : Int) (height : Nat) : Fusion :=
  let w := SMap.getD f.grid cell emptyCell
  let x := cellWord (satOcc (cellOcc w + add)) (max (cellHeight w) height) (cellClass w) (Nat.lor (field w 31 24) 0x10)
  { f with grid := SMap.put f.grid cell x emptyCell }

/-- Note an input of a slot used in instant `k`, for SLOTS_CONTRIBUTED. -/
def Device.noteUsed (d : Device) (n : Nat) (k : Option Nat) : Device :=
  match k with
  | some k => d.onFusion fun f => { f with used := if f.used.contains (n, k) then f.used else (n, k) :: f.used }
  | none => d

/-- Add the points of one packet to the grid: the cells that its points and rays touched (R300). -/
def Device.addPacket (d : Device) (x : LidarPacket) : Device × List Nat :=
  let tau := d.inputTime x.slot x.stamp
  match d.poseAt tau, d.fusion.gridPose with
  | (some e, _), some g =>
    let maxRange := nF32 (leAt (d.intrinsics x.slot) 16 4)
    let origin := between_frames e g (d.slotOrigin x.slot)
    let ground := nRat (d.rd Reg.GROUND_HEIGHT_CM) 100
    (d.lidarPoints x.slot x.frame).foldl
      (fun (r : Device × List Nat) p =>
        let v := d.toVehicle x.slot p
        let q := between_frames e g v
        if nLt maxRange (vLen p) then r else
        match cellAt q with
        | none => r
        | some cell =>
          let rays := (rayCells origin q).filter (· != cell)
          let up := nLt ground (comp v 2)
          let h := min 255 (nFloor (nDiv (comp v 2) (nRat 5 100))).toNat
          let d1 := if up then r.1.onFusion fun f => f.touch cell (d.rd Reg.LOGODDS_HIT) h
                    else r.1.onFusion fun f => f.touch cell 0 0
          (d1.onFusion fun f => rays.foldl (fun f c => f.touch c (-(d.rd Reg.LOGODDS_FREE : Int)) 0) f, cell :: rays ++ r.2))
      (d.noteUsed x.slot (d.instantOf tau), [])
  | (none, c), _ => (d.unusable c, [])
  | _, none => (d, [])

/-! ### Projection (R297, R298) -/

/-- The pixel of a point of a camera's frame (R297). -/
def pixelOf (b : List Byte) (p : List Number) : Option (Number × Number) :=
  let fl := fun o => nF32 (leAt b o 4)
  let x := comp p 0
  let y := comp p 1
  let z := comp p 2
  if nLe z (nRat 1 10) then none else
  let px : Option (Number × Number) :=
    if leAt b 4 1 = 1 then
      let a := nDiv x z
      let c := nDiv y z
      let a2 := nMul a a
      let c2 := nMul c c
      let r2 := nAdd a2 c2
      let k := nAdd (nInt 1) (nAdd (nMul (fl 44) r2) (nAdd (nMul (fl 48) (nMul r2 r2)) (nMul (fl 52) (nMul r2 (nMul r2 r2)))))
      let two := nInt 2
      let a' := nAdd (nMul a k) (nAdd (nMul two (nMul (fl 56) (nMul a c))) (nMul (fl 60) (nAdd r2 (nMul two a2))))
      let c' := nAdd (nMul c k) (nAdd (nMul (fl 56) (nAdd r2 (nMul two c2))) (nMul two (nMul (fl 60) (nMul a c))))
      some (nAdd (nMul (fl 28) a') (fl 36), nAdd (nMul (fl 32) c') (fl 40))
    else
      let h := nSqrt (nAdd (nMul x x) (nMul y y))
      let theta := nAtan2 h z
      if nLt (fl 44) theta then none else
      let u := nDiv (nMul theta (nInt 349)) (fl 44)
      let i := (nFloor u).toNat
      let lut := fun j => fl (96 + 4 * (min j 349))
      let rho := nAdd (lut i) (nMul (nSub u (nInt i)) (nSub (lut (i + 1)) (lut i)))
      some (nAdd (fl 36) (nMul (fl 28) (nDiv (nMul rho x) h)), nAdd (fl 40) (nMul (fl 32) (nDiv (nMul rho y) h)))
  match px with
  | none => none
  | some (u, v) =>
    if nLt u (nInt 0) || nLt v (nInt 0) || nLe (nInt (leAt b 24 2)) u || nLe (nInt (leAt b 26 2)) v then none else some (u, v)

/-- A vector of length 1 along `p`. -/
def unitOf (p : List Number) : List Number := vScale (nDiv (nInt 1) (vLen p)) p

/-- The direction, in the camera's frame, of the ray of a pixel: the inverse of R297's projection; none where the image
holds no ray there (a FISHEYE pixel outside its LUT). -/
def pixelRay (b : List Byte) (u v : Number) : Option (List Number) :=
  let fl := fun o => nF32 (leAt b o 4)
  let x := nDiv (nSub u (fl 36)) (fl 28)
  let y := nDiv (nSub v (fl 40)) (fl 32)
  if leAt b 4 1 = 1 then
    let plain := (List.range 5).all (fun i => decide (leAt b (44 + 4 * i) 4 % 2 ^ 31 = 0))
    let p := if plain then (x, y) else undistort b x y
    some (unitOf [p.1, p.2, nInt 1])
  else
    let rho := vLen [x, y]
    let lut := fun j => fl (96 + 4 * j)
    match (List.range 349).find? (fun i => nLe (lut i) rho && nLe rho (lut (i + 1))) with
    | none => none
    | some i =>
      let part := nDiv (nSub rho (lut i)) (nSub (lut (i + 1)) (lut i))
      let theta := nDiv (nMul (fl 44) (nAdd (nInt i) part)) (nInt 349)
      some (if nLt (nInt 0) rho then [nDiv (nMul (nSin theta) x) rho, nDiv (nMul (nSin theta) y) rho, nCos theta]
            else [nInt 0, nInt 0, nInt 1])

/-- The ranges of the instant's lidar points inside an image box, along the pixel's ray (R298). -/
def Device.depths (d : Device) (n : Nat) (e : EgoEntry) (packets : List LidarPacket) (det : Detection) : List Number :=
  let half := fun i => nDiv (nF32 (det.geom.getD i 0)) (nInt 2)
  let near := fun x i j => nLe (nSub (nF32 (det.geom.getD i 0)) (half j)) x && nLe x (nAdd (nF32 (det.geom.getD i 0)) (half j))
  ((packets.filter (fun x => bitAt (d.rd (Reg.CAL_DEPTH_MASK n)) x.slot)).map (fun x =>
    match d.poseAt (d.inputTime x.slot x.stamp) with
    | (none, _) => []
    | (some ep, _) =>
      (d.lidarPoints x.slot x.frame).filterMap (fun p =>
        let s := d.toSensor n (between_frames ep e (d.toVehicle x.slot p))
        match pixelOf (d.intrinsics n) s with
        | some (u, v) => if near u 0 2 && near v 1 3 then some (vLen s) else none
        | none => none))).flatten

/-- Where a detection lies in the vehicle frame (R298); none where its ray meets nothing. -/
def Device.placeDetection (d : Device) (n : Nat) (e : EgoEntry) (packets : List LidarPacket) (det : Detection) : Option (List Number) :=
  if det.box3d then some (d.toVehicle n (f32s (det.geom.flatMap (fun g => leBytes g 4)) 0 3))
  else
    let b := d.intrinsics n
    let v := nAdd (nF32 (det.geom.getD 1 0)) (nDiv (nF32 (det.geom.getD 3 0)) (nInt 2))
    match pixelRay b (nF32 (det.geom.getD 0 0)) v with
    | none => none
    | some ray =>
      let l := d.depths n e packets det
      let far := nF32 (leAt b 16 4)
      if d.rd (Reg.CAL_DEPTH_MIN_POINTS n) ≤ l.length ∧ nLe (median l) far then
        some (d.toVehicle n (vScale (median l) ray))
      else
        let dir := rotate (d.slotQuat n) ray
        let o := d.slotOrigin n
        let t := nDiv (nSub (nInt 0) (comp o 2)) (comp dir 2)
        if nLt (nInt 0) t && nLe t far then some (vAdd o (vScale t dir)) else none

/-- The measurement that a detection makes: position and variance in the odometry frame, size and yaw of a BOX3D, and the
velocity given (R301). The yaw of an IMAGE_BOX, which gives none, is free. -/
def Device.measure (d : Device) (n : Nat) (tau : Int) (e : EgoEntry) (place : List Number) (det : Detection) : Measurement :=
  let pos := vAdd (rotate e.q place) e.p
  let sigma := nF32 (leAt (d.intrinsics n) 20 4)
  let q := quatMul e.q (d.slotQuat n)
  let var := planeCov q (if det.var = [0, 0, 0] then List.replicate 3 (nMul sigma sigma) else det.var.map nF32)
  let hasVel := f32Finite (det.vel.getD 0 0) && f32Finite (det.vel.getD 1 0)
  let vel := rotate q [nF32 (det.vel.getD 0 0), nF32 (det.vel.getD 1 0), nInt 0]
  let size := (List.range 3).map (fun i => nF32 (det.geom.getD (3 + i) 0))
  let yaw := if det.box3d then nAdd (quatYaw q) (nF32 (det.geom.getD 6 0)) else birthYaw (pos ++ var)
  { tau := tau, slot := n, cls := det.cls, conf := det.conf
    data := pos ++ var ++ [nInt (bit1 det.box3d)] ++ size ++ [yaw, nInt (bit1 hasVel), comp vel 0, comp vel 1] }

/-- A measurement of position and size only (R302). -/
def Measurement.plain (m : Measurement) : Measurement := { m with data := m.data.take 11 ++ [0, nInt 0, nInt 0] }

/-! ### Tracks (R301 to R304) -/

/-- Places of a filter state: position, velocity, yaw and rate, size, z. -/
def Track.x (t : Track) : Number := comp t.filt 0
def Track.y (t : Track) : Number := comp t.filt 1
def Track.z (t : Track) : Number := comp t.filt 9

/-- Yaw follows the direction of velocity above 0.5 m/s and is held below it (R301). -/
def yawRule (old new : List Number) : List Number :=
  let yaw := if nLt (nRat 5 10) (vLen [comp new 2, comp new 3]) then nAtan2 (comp new 3) (comp new 2) else comp old 4
  new.take 4 ++ [yaw] ++ new.drop 5

/-- CLASS_ALT of a dispute on a track (R307): of the two classes reported, the one that is not the track's own. -/
def Dispute.alt (x : Dispute) (cls : Nat) : Nat := if x.clsB = cls then x.clsA else x.clsB

/-- The larger of two class entries while a track is disputed (R308). -/
def Device.trackSetting (d : Device) (t : Track) (reg : Nat → Nat) : Number :=
  let a := nF32 (d.rd (reg t.cls))
  match t.dispute with
  | some x =>
    let c := x.alt t.cls
    if c < 16 then let b := nF32 (d.rd (reg c)); if nLt a b then b else a else a
  | none => a

/-- The filter state of a track predicted to a time. -/
def Device.predict (d : Device) (t : Track) (tau : Int) : List Number :=
  if tau = t.time then t.filt
  else yawRule t.filt (kalmanPredict t.filt (tau - t.time) (d.trackSetting t Reg.CLASS_ACCEL_SIGMA))

/-- A track updated by a measurement; a detection of another class measures position and size only. -/
def Device.applyMeasurement (d : Device) (t : Track) (m : Measurement) : Track :=
  let m1 := if m.cls = t.cls then m else m.plain
  let p := d.predict t m.tau
  { t with filt := yawRule p (kalmanUpdate p m1.data), time := m.tau, lastUpdate := m.tau }

/-- A track takes an assigned detection in its instant. -/
def Device.hitTrack (d : Device) (t : Track) (m : Measurement) : Track :=
  let t1 := d.applyMeasurement t m
  { t1 with hit := true, slotMask := setBit t1.slotMask m.slot true
            log := t1.log ++ [m]
            conf := if t.slotMask = 0 ∨ nLt (nF32 t.conf) (nF32 m.conf) then m.conf else t.conf }

/-- A track and a measurement lie within the gates. -/
def Device.gated (d : Device) (t : Track) (p : List Number) (m : Measurement) : Bool :=
  nLe (kalmanD2 p m.data) (d.trackSetting t Reg.CLASS_GATE_D2) && nLe (kalmanDistance p m.data) (d.trackSetting t Reg.CLASS_GATE_MAX_M)

/-- A pair of the association: d2, track place, TRACK_ID, record index. -/
structure Pair where
  d2 : Number
  track : Nat
  id : Nat
  det : Nat

/-- The order of pairs. -/
def Pair.before (a b : Pair) : Bool :=
  nLt a.d2 b.d2 || (!nLt b.d2 a.d2 && (decide (a.id < b.id) || (a.id == b.id && decide (a.det ≤ b.det))))

/-- Take pairs in order while both are unassigned. -/
def assignPairs : List Pair → List Nat → List Nat → List Pair
  | [], _, _ => []
  | p :: t, ts, ds =>
    if ts.contains p.track || ds.contains p.det then assignPairs t ts ds
    else p :: assignPairs t (p.track :: ts) (p.det :: ds)

/-- The pairs assigned between measurements and the predicted states of tracks (R302). -/
def Device.assignments (d : Device) (tracks : List (Nat × Track × List Number)) (ms : List (Nat × Measurement)) : List Pair :=
  let pairs := (tracks.map (fun t => ms.filterMap (fun m =>
    if d.gated t.2.1 t.2.2 m.2 then some (⟨kalmanD2 t.2.2 m.2.data, t.1, t.2.1.id, m.1⟩ : Pair) else none))).flatten
  assignPairs (pairs.mergeSort Pair.before) [] []

/-- A TENTATIVE track that a birth into a full store replaces: the fewest hits, then the farthest from the ego origin, then the
lowest TRACK_ID (R304). -/
def worseTrack (origin : List Number) (a b : Track) : Bool :=
  let dist := fun (t : Track) => vLen [nSub t.x (comp origin 0), nSub t.y (comp origin 1)]
  let h := fun (t : Track) => popCount t.hist 24
  decide (h a < h b) || (h a == h b && (nLt (dist b) (dist a) || (!nLt (dist a) (dist b) && decide (a.id < b.id))))

/-- A birth (R303, R304). -/
def Device.birth (d : Device) (e : EgoEntry) (m : Measurement) : Device :=
  let id := d.fusion.nextId
  let size := (List.range 3).map (fun i => nF32 (d.rd (Reg.CLASS_SIZE m.cls i)))
  let t : Track :=
    { id := id, cls := m.cls, filt := kalmanInit m.data size, time := m.tau, conf := m.conf
      lastUpdate := m.tau, hit := true, born := true, slotMask := setBit 0 m.slot true, log := [m] }
  let add := fun (d : Device) (l : List Track) => d.onFusion fun f =>
    { f with tracks := l ++ [t], nextId := if id = 0xFFFFFFFF then 1 else id + 1 }
  if d.fusion.tracks.length < 2048 then add d d.fusion.tracks
  else match d.fusion.tracks.filter (fun t => t.state == 1) with
    | [] => (d.fusionEvent St.TRACK_STORE_FULL 7).onFusion fun f => { f with storeFull := true }
    | x :: rest =>
      let w := rest.foldl (fun b y => if worseTrack e.p y b then y else b) x
      add d (d.fusion.tracks.filter (fun y => y.id != w.id))

/-! ### Disputes (R307, R308) -/

/-- Two classes contradict each other. -/
def Device.incompatible (d : Device) (a b : Nat) : Bool :=
  bitAt (d.rd (Reg.CLASS_INCOMPATIBLE a)) b || bitAt (d.rd (Reg.CLASS_INCOMPATIBLE b)) a

/-- A contradiction on a track: the first marks it DISPUTED and is logged. -/
def Device.contradict (d : Device) (id : Nat) (x : Dispute) : Device :=
  let put := fun (g : Track → Track) => d.onFusion fun f => { f with tracks := f.tracks.map (fun t => if t.id = id then g t else t) }
  match d.fusion.tracks.find? (fun t => t.id = id) with
  | none => d
  | some t =>
    match t.dispute with
    | some y => put fun t => { t with dispute := some { y with last := max y.last x.last } }
    | none => (put fun t => { t with dispute := some x }).logEv St.TRACK_DISPUTED 0 (x.slotA * 256 + x.slotB)

/-- The class rule for a measurement of instant `k` assigned to a CONFIRMED track, against the others of that instant. -/
def Device.classCheck (d : Device) (k : Nat) (t : Track) (others : List Measurement) (m : Measurement) : Device :=
  let strong := fun (x : Measurement) => nLe (nF32 (d.rd Reg.DISPUTE_CONF)) (nF32 x.conf)
  if t.state ≠ 2 ∨ !strong m then d else
  match others.find? (fun x => x.slot != m.slot && strong x && d.incompatible x.cls m.cls) with
  | some x => d.contradict t.id ⟨1, x.slot, m.slot, x.cls, m.cls, k, k⟩
  | none => d

/-! ### Association of a list (R302) -/

/-- The records of a list that are used, as measurements; a ray that meets nothing is counted (R298). -/
def Device.listMeasurements (d : Device) (e : EgoEntry) (packets : List LidarPacket) (x : DetectionList) :
    Device × List (Nat × Measurement) :=
  (List.zipIdx x.dets).foldl
    (fun r p =>
      if 15 < p.1.cls ∨ d.rd (Reg.CLASS_VALID p.1.cls) = 0 then r else
      match d.placeDetection x.slot e packets p.1 with
      | none => (r.1.fusionEvent St.PROJECTION_DROPPED 10, r.2)
      | some v => (r.1, r.2 ++ [(p.2, d.measure x.slot (d.inputTime x.slot x.stamp) e v p.1)]))
    (d, [])

/-- Fuse one list of instant k. -/
def Device.fuseList (d : Device) (k : Nat) (packets : List LidarPacket) (x : DetectionList) : Device :=
  let tau := d.inputTime x.slot x.stamp
  match d.poseAt tau with
  | (none, c) => d.unusable c
  | (some e, _) =>
    let r := (d.noteUsed x.slot (some k)).listMeasurements e packets x
    let live := (List.zipIdx r.1.fusion.tracks).filter (fun p => p.1.state != 3)
    let tracks := live.map (fun p => (p.2, p.1, r.1.predict p.1 tau))
    let got := r.1.assignments tracks r.2
    let marked := r.1.onFusion fun f => { f with footprints := f.footprints ++ r.2.map (·.2) }
    let hit := marked.each got fun d p =>
      match d.fusion.tracks[p.track]?, (r.2.find? (fun m => m.1 = p.det)) with
      | some t, some m => d.onFusion fun f => { f with tracks := f.tracks.map (fun y => if y.id = t.id then d.hitTrack y m.2 else y) }
      | _, _ => d
    let born := (r.2.filter (fun m => !got.any (fun p => p.det == m.1))).foldl
      (fun d m =>
        let near := tracks.any (fun t => r.1.gated t.2.1 t.2.2 m.2) ||
          d.fusion.tracks.any (fun t => !(hit.fusion.tracks.any (fun y => y.id == t.id)) && d.gated t (d.predict t tau) m.2)
        if near || nLt (nF32 m.2.conf) (nF32 (d.rd (Reg.CLASS_BIRTH_CONF m.2.cls))) then d else d.birth e m.2)
      hit
    born.each got fun d p =>
      match d.fusion.tracks.find? (fun t => t.id = p.id), (r.2.find? (fun m => m.1 = p.det)) with
      | some t, some m => d.classCheck k t t.log m.2
      | _, _ => d

/-! ### Late inputs (R305, R306) -/

/-- Run the filter of a track again from the end of the instant before `k` through every later logged measurement. -/
def Device.refilter (d : Device) (t : Track) (from? : List Number) (time : Int) : List TrackInstant → Track × List TrackInstant
  | [] => ({ t with filt := from?, time := time }, [])
  | x :: rest =>
    let a := x.log.foldl (fun y m => d.applyMeasurement y m) { t with filt := from?, time := time }
    let tk := d.instantTime x.instant
    let p := d.predict a tk
    let r := d.refilter { a with filt := p, time := tk } p tk rest
    (r.1, { x with filt := p } :: r.2)

/-- hist and miss_run over retained instants. -/
def recount (l : List TrackInstant) : Nat × Nat :=
  (l.filter (·.counted)).foldl (fun h x => if x.hit then ((2 * h.1 + 1) % 2 ^ 24, 0) else (2 * h.1 % 2 ^ 24, h.2 + 1)) (0, 0)

/-- Put a late measurement into the log of instant `j` in τ order. -/
def insertLog (m : Measurement) : List Measurement → List Measurement
  | [] => [m]
  | x :: t => if m.tau < x.tau then m :: x :: t else x :: insertLog m t

/-- Fold a late measurement of instant `j` into a track that retains it. -/
def Device.foldLate (d : Device) (t : Track) (j : Nat) (m : Measurement) : Track :=
  match (t.past.filter (fun x => decide (x.instant < j))).getLast? with
  | none => t
  | some before =>
    let keep := t.past.filter (fun x => decide (x.instant < j))
    let miss := (t.past.find? (fun x => x.instant = j)).any (fun x => !x.hit)
    let uncounted := (t.past.find? (fun x => x.instant = j)).any (fun x => !x.counted)
    let later := (t.past.filter (fun x => decide (j ≤ x.instant))).map (fun x =>
      if x.instant = j then { x with log := insertLog m x.log, hit := true, counted := true } else x)
    let r := d.refilter t before.filt (d.instantTime before.instant) later
    let past := keep ++ r.2
    let c := recount past
    { r.1 with past := past, late := true, hist := if miss then c.1 else t.hist, missRun := if miss then c.2 else t.missRun
               counted := if uncounted then t.counted + 1 else t.counted, slotMask := t.slotMask }

/-- Fold a late list (R306). -/
def Device.foldList (d : Device) (x : DetectionList) : Device :=
  let tau := d.inputTime x.slot x.stamp
  match d.instantOf tau, d.poseAt tau with
  | none, _ => d
  | _, (none, c) => d.unusable c
  | some j, (some e, _) =>
    let points := d.fusion.pastPackets.filter (fun y => d.instantOf (d.inputTime y.slot y.stamp) == some j)
    let r := d.listMeasurements e points x
    let kept := (List.zipIdx r.1.fusion.tracks).filterMap (fun p =>
      match (p.1.past.filter (fun y => decide (y.instant < j))).getLast? with
      | some b => if p.1.past.any (fun y => y.instant == j)
          then some (p.2, p.1, r.1.predict { p.1 with filt := b.filt, time := r.1.instantTime b.instant } tau) else none
      | none => none)
    let got := r.1.assignments kept r.2
    r.1.each r.2 fun d m =>
      match got.find? (fun p => p.det == m.1) with
      | none => d.fusionEvent St.LATE_NO_TRACK 3
      | some p =>
        match d.fusion.tracks[p.track]? with
        | none => d
        | some t =>
          if (t.past.find? (fun y => y.instant = j)).any (fun y => decide (8 ≤ y.log.length))
          then (d.fusionEvent St.LATE_DROPPED 2).onFusion fun f => { f with lateDropped := f.lateDropped + 1 }
          else (d.classCheck j t ((t.past.find? (fun y => y.instant = j)).elim [] (·.log)) m.2).onFusion fun f =>
            { f with tracks := f.tracks.map (fun y => if y.id = t.id then { d.foldLate t j m.2 with dispute := y.dispute } else y) }

/-! ### The end of an instant (R303, R307, R308) -/

/-- A slot covers a position of the vehicle frame (R302). -/
def Device.inCoverage (d : Device) (n : Nat) (p : List Number) : Bool :=
  let b := d.intrinsics n
  let v := vSub p (d.slotOrigin n)
  let az := nAtan2 (comp v 1) (comp v 0)
  nLe (nF32 (leAt b 8 4)) az && nLe az (nF32 (leAt b 12 4)) && nLe (vLen (v.take 2)) (nF32 (leAt b 16 4))

/-- A track's position in the ego frame of a pose. -/
def Track.inFrame (t : Track) (e : EgoEntry) : List Number := unrotate e.q (vSub [t.x, t.y, t.z] e.p)

/-- The track is disputed within its hold. -/
def Device.held (d : Device) (t : Track) (k : Nat) : Bool :=
  match t.dispute with | some x => decide (k - x.last < d.rd Reg.DISPUTE_HOLD) | none => false

/-- The end-of-instant procedure of R303; `slots` delivered a valid list for k. -/
def Device.lifecycle (d : Device) (k : Nat) (e : EgoEntry) (slots : List Nat) (t0 : Track) : Track :=
  let tk := d.instantTime k
  let t := { t0 with filt := d.predict t0 tk, time := tk }
  let p := t.inFrame e
  let covered := slots.any (fun n => d.inCoverage n p)
  let t1 : Track :=
    if t.born then t
    else if t.hit then { t with hist := (2 * t.hist + 1) % 2 ^ 24, counted := t.counted + 1, missRun := 0, coastRun := 0 }
    else if covered then { t with hist := 2 * t.hist % 2 ^ 24, counted := t.counted + 1, missRun := t.missRun + 1, coastRun := t.coastRun + 1 }
    else { t with coastRun := t.coastRun + 1, coasted := true }
  let n := d.rd (Reg.CLASS_CONFIRM_N t.cls)
  let h := popCount t1.hist n
  let t2 : Track :=
    if t1.state = 1 then
      if d.rd (Reg.CLASS_CONFIRM_M t.cls) ≤ h then { t1 with state := 2 }
      else if n ≤ t1.counted then { t1 with state := 3 } else t1
    else if (d.rd (Reg.CLASS_DELETE_K t.cls) ≤ t1.missRun ∨ d.rd (Reg.CLASS_COAST_MAX t.cls) ≤ t1.coastRun) ∧ !d.held t1 k
      then { t1 with state := 3 } else t1
  let edge := nRat 512 10
  let out := fun i => nLt edge (comp p i) || nLt (comp p i) (nSub (nInt 0) edge)
  let t3 := if out 0 || out 1 then { t2 with state := 3, left := true } else t2
  { t3 with age := if t.born then 0 else t3.age + 1
            past := (t3.past ++ [({ instant := k, filt := t3.filt, log := t3.log.take 8, hit := t3.hit, counted := t3.hit || covered } : TrackInstant)]).drop
                (t3.past.length + 1 - 24) }

/-- The footprint of a track, widened on every side by a margin in cm. -/
def Track.cells (t : Track) (e : EgoEntry) (margin : Nat) : List Nat :=
  let p := t.inFrame e
  footprintCells (comp p 0) (comp p 1) (comp t.filt 6) (comp t.filt 7) (nSub (comp t.filt 4) (quatYaw e.q)) (nRat margin 100)

/-- The occupancy rule of R307 for one track: `touched` gives the cells that each LIDAR slot's rays touched, and `slots`
the slots that delivered a valid list for k, which R302 asks of a slot that covers a track. Of several contradictions the
one of the lowest slots is reported, and only the first is logged. -/
def Device.occupancyCheck (d : Device) (k : Nat) (e : EgoEntry) (slots : List Nat) (touched : List (Nat × List Nat))
    (t : Track) : Device :=
  if t.state ≠ 2 then d else
  let cells := t.cells e 0
  let p := t.inFrame e
  let free := touched.filter (fun b =>
    let hit := cells.filter (b.2.contains ·)
    let sum := hit.foldl (fun s c => s + cellOcc (SMap.getD d.fusion.grid c emptyCell)) 0
    slots.contains b.1 && d.inCoverage b.1 p && hit != [] && decide (cells.length ≤ 2 * hit.length) &&
      decide (sum ≤ toI32 (d.rd Reg.FREE_THRESHOLD) * hit.length))
  match ((bitList t.slotMask 64).flatMap (fun a => free.map (fun b => (a, b.1)))).find? (fun p => p.1 != p.2) with
  | some (a, b) => d.contradict t.id ⟨2, a, b, ((t.log.find? (fun m => m.slot = a)).map (·.cls)).getD t.cls, 0xFF, k, k⟩
  | none => d

/-- Mark cells of the grid with flags, and with a class where one is given. -/
def Fusion.paint (f : Fusion) (cells : List Nat) (flags : Nat) (cls : Option Nat) : Fusion :=
  { f with grid := cells.foldl (fun g c =>
      let w := SMap.getD g c emptyCell
      let x := cellWord (cellOcc w) (cellHeight w) (match cls with | some k => k | none => cellClass w) (Nat.lor (field w 31 24) flags)
      SMap.put g c x emptyCell) f.grid }

/-- Paint the footprints of this instant's detections, the highest confidence last (R299). -/
def Device.paintDetections (d : Device) (e : EgoEntry) (ms : List Measurement) : Device :=
  let l := ms.mergeSort (fun a b => !nLt (nF32 b.conf) (nF32 a.conf))
  d.each l fun d m =>
    let p := unrotate e.q (vSub (m.data.take 3) e.p)
    let size := if comp m.data 6 = 1 then (m.data.drop 7).take 2 else (List.range 2).map (fun i => nF32 (d.rd (Reg.CLASS_SIZE m.cls i)))
    let cells := footprintCells (comp p 0) (comp p 1) (comp size 0) (comp size 1) (nSub (comp m.data 10) (quatYaw e.q)) (nInt 0)
    d.onFusion fun f => f.paint cells 0x20 (some m.cls)

/-! ### Outputs (R309) -/

/-- Bytes of one output buffer. -/
def outBytes : Nat := 1314816

/-- The buffer of instant k. -/
def Device.outBuffer (d : Device) (k : Nat) : Nat := d.rd Reg.OUT_BASE + k % d.rd Reg.OUT_COUNT * outBytes

/-- A track record (Table 10-10). -/
def Device.trackRecord (d : Device) (e : EgoEntry) (t : Track) : List Byte :=
  let p := t.inFrame e
  let yaw := quatYaw e.q
  let v := turn (nSub (nInt 0) yaw) [comp t.filt 2, comp t.filt 3]
  let disputed := t.dispute.isSome
  let flags := bit1 disputed + 2 * bit1 disputed + 4 * bit1 t.coasted + 8 * bit1 t.late + 16 * bit1 t.born + 32 * bit1 t.left
  let alt := match t.dispute with | some x => x.alt t.cls | none => 0xFF
  leBytes t.id 4 ++ [BitVec.ofNat 8 t.state, BitVec.ofNat 8 t.cls, BitVec.ofNat 8 alt, BitVec.ofNat 8 flags,
      BitVec.ofNat 8 (popCount t.hist (d.rd (Reg.CLASS_CONFIRM_N t.cls))), BitVec.ofNat 8 (min 255 t.missRun)] ++
    leBytes (min 65535 t.age) 2 ++
    ([comp p 0, comp p 1, comp p 2, comp v 0, comp v 1, nSub (comp t.filt 4) yaw, comp t.filt 5, comp t.filt 6, comp t.filt 7,
      comp t.filt 8].flatMap outF32) ++
    (padTo ((kalmanVar t.filt yaw).flatMap outF32) 16) ++ leBytes (if disputed then d.rd Reg.DISPUTE_MARGIN_CM else 0) 2 ++ zeros 2 ++
    leBytes (ofInt 64 t.lastUpdate) 8 ++ leBytes t.slotMask 8 ++ leBytes t.conf 4 ++ zeros 36

/-- A dispute record (Table 10-11). -/
def Device.disputeRecord (d : Device) (k id : Nat) (x : Dispute) : List Byte :=
  leBytes id 4 ++ [BitVec.ofNat 8 x.kind, BitVec.ofNat 8 x.slotA, BitVec.ofNat 8 x.slotB, 0, BitVec.ofNat 8 x.clsA,
      BitVec.ofNat 8 x.clsB] ++
    leBytes (d.rd Reg.DISPUTE_HOLD - (k - x.last)) 2 ++ zeros 4 ++ leBytes x.first 8 ++ leBytes x.last 8

/-- A header with its STATE and DONE_BUNDLE. -/
def headerWith (h : List Byte) (state bundle : Nat) : List Byte :=
  h.take 4 ++ [BitVec.ofNat 8 state] ++ (h.drop 5).take 99 ++ leBytes bundle 8 ++ h.drop 112

/-! ### Late inputs at the close (R285, R305) -/

/-- A late input may still be folded (R305). -/
def Device.mayFold (d : Device) (tau : Int) : Bool :=
  match d.fusion.outputs with
  | o :: _ => decide (o.time - tau ≤ (d.rd Reg.LAG_WINDOW_NS : Int))
  | [] => false

/-- Drop a late input (R305). -/
def Device.dropLate (d : Device) : Device :=
  (d.fusionEvent St.LATE_DROPPED 2).onFusion fun f => { f with lateDropped := f.lateDropped + 1 }

/-- An input of the time lies before instant k. -/
def Device.beforeInstant (d : Device) (k : Nat) (tau : Int) : Bool :=
  match d.instantOf tau with | some j => decide (j < k) | none => true

/-- Before instant `k` is processed: the inputs that a calibration committed since they were taken has moved before `k` are
late inputs now, and late ones that it has moved into `k` are inputs of `k` (R285). -/
def Device.retime (d : Device) (k : Nat) : Device :=
  let at' := fun (n stamp : Nat) => d.inputTime n stamp
  let oldList := fun (x : DetectionList) => d.beforeInstant k (at' x.slot x.stamp)
  let oldPacket := fun (x : LidarPacket) => d.beforeInstant k (at' x.slot x.stamp)
  let d1 := d.onFusion fun f =>
    { f with
      lists := f.lists.filter (fun x => !oldList x) ++ f.lateLists.filter (fun x => !oldList x)
      packets := f.packets.filter (fun x => !oldPacket x) ++ f.latePackets.filter (fun x => !oldPacket x)
      lateLists := f.lateLists.filter oldList, latePackets := f.latePackets.filter oldPacket }
  let d2 := d1.each (d.fusion.lists.filter oldList) fun d x =>
    if d.mayFold (at' x.slot x.stamp) then
      (d.fusionEvent St.LATE_FOLDED 1).onFusion fun f => { f with lateLists := f.lateLists ++ [x] }
    else d.dropLate
  d2.each (d.fusion.packets.filter oldPacket) fun d x =>
    if d.mayFold (at' x.slot x.stamp) then
      (d.fusionEvent St.LATE_FOLDED 1).onFusion fun f => { f with latePackets := f.latePackets ++ [x] }
    else d.dropLate

/-! ### Closing (R291, R292) -/

/-- The IMU and WHEEL samples that no later instant needs again leave `egoInputs`. -/
def Device.pruneEgo (d : Device) (tk : Int) : Device :=
  let keep := fun (x : EgoSample) =>
    decide (tk < d.inputTime x.slot x.stamp) || (match d.egoHorizon with | some e => decide (e < d.inputTime x.slot x.stamp) | none => true)
  let gone := d.fusion.egoInputs.filter (fun x => !keep x && d.role x.slot == roleWheel)
  d.onFusion fun f =>
    { f with egoInputs := f.egoInputs.filter keep, speedsOld := gone.foldl (fun m x => SMap.insert m x.slot x) f.speedsOld }

/-- The header of the oldest closed instant is written FILLING. -/
def Device.beginOutput (d : Device) (env : MemEnv) : Device :=
  match d.fusion.closed with
  | x :: _ => (d.worldWrites env [(d.outBuffer x.instant, headerWith x.header 1 0)]).1
  | [] => d

/-- Close instant k (R291, R292): everything the instant does but the writing of its output. -/
def Device.closeInstant (d0 : Device) (k : Nat) (guard : Bool) (env : MemEnv) : Device :=
  let tk := d0.instantTime k
  let horizon := match d0.egoHorizon with | some e => e | none => 0
  let stale := decide (horizon + (d0.rd Reg.EGO_EXTRAP_MAX_NS : Int) < tk)
  match (match poseIn d0.fusion.history tk with | some e => some e | none => d0.fusion.history.head?) with
  | none => d0
  | some e =>
    let missing := d0.missing k
    let d := d0.retime k
    let folded := d.fusion.lateLists.length + d.fusion.latePackets.length
    -- late inputs come first, into the grid as it stands
    let d1 := d.each d.fusion.latePackets fun d x => (d.addPacket x).1
    let past := fun (l : List LidarPacket) => l.filter (fun x => !d.beforeInstant (k - 24) (d.inputTime x.slot x.stamp))
    let d2 := (d1.onFusion fun f => { f with pastPackets := past (f.pastPackets ++ f.latePackets) }).each d.fusion.lateLists
      fun d x => d.foldList x
    let d3 := d2.resample e
    let inK := fun (n stamp : Nat) => d.instantOf (d.inputTime n stamp) == some k
    let lists := (d3.fusion.lists.filter (fun x => inK x.slot x.stamp)).mergeSort
      (fun a b => decide (d.inputTime a.slot a.stamp ≤ d.inputTime b.slot b.stamp))
    let packets := d3.fusion.packets.filter (fun x => inK x.slot x.stamp)
    let r := packets.foldl (fun (r : Device × List (Nat × List Nat)) x =>
      let y := r.1.addPacket x
      (y.1, (x.slot, y.2) :: r.2)) (d3, [])
    let d4 := r.1.each lists fun d x => d.fuseList k packets x
    let slots := lists.map (·.slot)
    let d5 := d4.onFusion fun f => { f with tracks := f.tracks.map (d4.lifecycle k e slots) }
    let lidars := (bitList (2 ^ 64 - 1) 64).filterMap (fun n =>
      let c := (r.2.filter (fun p => p.1 == n)).flatMap (·.2)
      if c = [] then none else some (n, c))
    let d6 := d5.each d5.fusion.tracks fun d t => d.occupancyCheck k e slots lidars t
    let shut := fun (t : Track) => match t.dispute with
      | some x => if d.rd Reg.DISPUTE_HOLD ≤ k - x.last ∨ t.state = 3 then { t with dispute := none } else t
      | none => t
    let d7 := d6.onFusion fun f => { f with tracks := (f.tracks.map shut).mergeSort (fun a b => decide (a.id ≤ b.id)) }
    let d8 := d7.paintDetections e d7.fusion.footprints
    let d9 := d8.each d8.fusion.tracks fun d t =>
      let d1 := if t.state = 2 then d.onFusion fun f => f.paint (t.cells e 0) 0x80 none else d
      if t.dispute.isSome then d1.onFusion fun f => f.paint (t.cells e (d.rd Reg.DISPUTE_MARGIN_CM)) 0x40 none else d1
    let tracks := d9.fusion.tracks
    let disputes := tracks.filterMap (fun t => t.dispute.map (fun x => (t.id, x)))
    let shown := disputes.take 64
    let f := d9.fusion
    let flags := bit1 (decide (0 < folded)) + 2 * bit1 guard + 4 * bit1 stale + 8 * bit1 f.restarted + 16 * bit1 (!shown.isEmpty) +
      32 * bit1 f.calibChanged + 64 * bit1 f.storeFull + 128 * bit1 (decide (64 < disputes.length))
    let used := (bitList (2 ^ 64 - 1) 64).foldl (fun m n => if f.used.contains (n, k) then setBit m n true else m) 0
    let header := leBytes 0x53464B4E 4 ++ zeros 4 ++ leBytes k 8 ++ leBytes (ofInt 64 tk) 8 ++ leBytes (f.written + f.closed.length) 8 ++
      outF64 (comp e.p 0) ++ outF64 (comp e.p 1) ++
      ([comp e.p 2, quatYaw e.q, comp (unrotate e.q e.v) 0, comp e.w 2].flatMap outF32) ++ leBytes flags 4 ++
      leBytes (min 65535 folded) 2 ++ leBytes (min 65535 f.lateDropped) 2 ++ leBytes tracks.length 2 ++ leBytes shown.length 2 ++
      zeros 4 ++ leBytes used 8 ++ leBytes (missing.foldl (fun m n => setBit m n true) 0) 8 ++ leBytes (ofInt 64 horizon) 8 ++
      zeros 8 ++ zeros 144
    let live := tracks.filter (fun t => t.state != 3)
    let x : ClosedInstant :=
      { instant := k, header := header, disputes := shown.flatMap (fun p => d9.disputeRecord k p.1 p.2)
        tracks := tracks.flatMap (d9.trackRecord e), grid := f.grid, active := live.length
        confirmed := (live.filter (fun t => t.state == 2)).length, disputed := (live.filter (·.dispute.isSome)).length }
    let next := fun (t : Track) => { t with hit := false, coasted := false, late := false, born := false, slotMask := 0, log := [] }
    let d10 := (d9.pruneEgo tk).onFusion fun f =>
      { f with tracks := live.map next, open? := some (k + 1), closed := f.closed ++ [x]
               lists := f.lists.filter (fun y => !inK y.slot y.stamp)
               packets := f.packets.filter (fun y => !inK y.slot y.stamp), pastPackets := f.pastPackets ++ packets
               lateLists := [], latePackets := [], lateDropped := 0, restarted := false, calibChanged := false, storeFull := false
               finals := f.finals.filter (fun p => !d.beforeInstant (k + 1) (d.inputTime p.1 p.2)), used := f.used.filter (fun p => p.2 != k)
               footprints := [], guards := if guard then f.guards else 0, lost := guard && f.lost }
    if f.closed = [] then d10.beginOutput env else d10

/-- Fusion is ON and its region runs. -/
def Device.fusionRuns (d : Device) : Bool := d.fn .fusion == .on && d.worldRuns

/-- Close instants while the close conditions of the open one are met, at most so many. -/
def Device.closeLoop (d : Device) (env : MemEnv) : Nat → Device
  | 0 => d
  | n + 1 =>
    match d.fusion.open? with
    | some k => if d.fusionRuns && d.mayClose k then (d.closeInstant k false env).closeLoop env n else d
    | none => d

/-- Evaluate the close conditions (R291) after an input, and again after each close: the instants that inputs taken so far
may close are those up to E or to the newest lidar packet, and one for each FINAL list. -/
def Device.closeCheck (d : Device) (env : MemEnv) : Device :=
  match d.fusion.open? with
  | some k =>
    let reach := (d.fusion.newestPacket.map (fun p => d.inputTime p.1 p.2)).foldl max (match d.egoHorizon with | some e => e | none => 0)
    d.closeLoop env (((reach - d.instantTime k) / (d.rd Reg.PERIOD_NS : Int)).toNat + d.fusion.finals.length + 2)
  | none => d

/-- The guard expires (R292). -/
def Device.guardClose (d : Device) (env : MemEnv) : Device :=
  match d.fusion.open? with
  | none => d
  | some k =>
    if !d.fusionRuns then d else
    let run := d.fusion.guards + 1
    let hit := decide (d.rd Reg.GUARD_LIMIT ≤ run) && !d.fusion.lost
    let d1 := (d.fusionEvent St.INSTANT_GUARD_CLOSED 8).onFusion fun f => { f with guards := run, lost := f.lost || hit }
    let d2 := if hit then (d1.logEv St.EGO_LOST 0).tellA (.alarm St.EGO_LOST 0) else d1
    (d2.closeInstant k true env).closeCheck env

/-! ### Inputs -/

/-- A usable DONE record of slot `n` at place `i` of its ring: its bytes (R267, R268). -/
def Device.usableRecord (d : Device) (n i : Nat) (env : MemEnv) : Device × Option (List Byte) :=
  let r := d.worldRead (d.rd (Reg.SLOT_REC_BASE n) + 64 * i) 64 env
  (r.dev, if r.code = 0 ∧ leAt r.data 4 1 = 2 ∧ bitAt (leAt r.data 30 2) fUsable then some r.data else none)

/-- The data of the sample at place `i`: `n` bytes from an offset. -/
def Device.sampleData (d : Device) (slot i off n : Nat) (env : MemEnv) : ReadResult :=
  d.worldRead (d.rd (Reg.SLOT_BUF_BASE slot) + i * d.rd (Reg.SLOT_BUF_BYTES slot) + off) n env

/-- Apply the wheel samples whose time E has reached. -/
def Device.wheelsDue (d : Device) : Device :=
  match d.egoHorizon with
  | none => d
  | some e =>
    let due := fun (x : EgoSample) => decide (d.inputTime x.slot x.stamp ≤ e)
    (d.onFusion fun f => { f with wheelWait := f.wheelWait.filter (fun x => !due x) }).each (d.fusion.wheelWait.filter due)
      fun d x => d.wheelCorrect (d.inputTime x.slot x.stamp)

/-- Three integers of a sample, scaled by the unit at a place of its intrinsics, in the vehicle frame. -/
def Device.imuVector (d : Device) (n : Nat) (l : List Int) (unit : Nat) : List Number :=
  rotate (d.slotQuat n) (l.map (fun x => nMul (nInt x) (nF32 (leAt (d.intrinsics n) unit 4))))

/-- Integrate an IMU sample (R286), or correct by a WHEEL sample (R287): 0, or the code of its discard. -/
def Device.egoTake (d : Device) (x : EgoSample) : Device × Code :=
  let tau := d.inputTime x.slot x.stamp
  if d.role x.slot = roleImu then
    let w := d.imuVector x.slot (x.data.take 3) 28
    let a := d.imuVector x.slot (x.data.drop 3) 32
    match d.fusion.history.getLast? with
    | none => (d.onFusion fun f => { f with history := [EgoEntry.first tau w a] }, 0)
    | some e =>
      if tau ≤ e.tau then (d, St.EGO_HISTORY_EXPIRED)
      else
        let l := d.fusion.history ++ [e.next tau w a]
        ((d.onFusion fun f => { f with history := l.drop (l.length - 8192) }).wheelsDue, 0)
  else
    match d.fusion.history.head?, d.egoHorizon with
    | some first, some e =>
      if tau < first.tau then (d, St.WHEEL_DISCARDED)
      else
        let d1 := d.onFusion fun f => { f with speeds := SMap.insert f.speeds x.slot x }
        (if e < tau then d1.onFusion fun f => { f with wheelWait := f.wheelWait ++ [x] } else d1.wheelCorrect tau, 0)
    | _, _ => (d, 0)

/-- EGO_HORIZON shows E. -/
def Device.showHorizon (d : Device) : Device :=
  match d.egoHorizon with | some e => d.wr Reg.EGO_HORIZON (ofInt 64 e) | none => d

/-- A calibration of an IMU or WHEEL slot is committed while an instant is open: the samples later than the newest closed
instant are integrated again under it, so that no instant uses two calibrations of a slot (R285). -/
def Device.egoReplay (d : Device) : Device :=
  match d.fusion.open? with
  | none => d
  | some k =>
    let base := d.instantTime k - (d.rd Reg.PERIOD_NS : Int)
    let old := fun (x : EgoSample) => decide (d.inputTime x.slot x.stamp ≤ base)
    let d1 := d.onFusion fun f =>
      { f with history := f.history.filter (fun e => decide (e.tau ≤ base)), speeds := f.speedsOld, wheelWait := f.wheelWait.filter old }
    (d1.each (d.fusion.egoInputs.filter (fun x => !old x)) fun d x => (d.egoTake x).1).showHorizon

/-- Note a sample integrated or used, kept in case a calibration is committed before its instant closes. -/
def Device.egoUsed (d : Device) (x : EgoSample) : Device :=
  (d.noteUsed x.slot (d.instantOf (d.inputTime x.slot x.stamp))).onFusion fun f => { f with egoInputs := f.egoInputs ++ [x] }

/-- Integers of 16 bits from an offset. -/
def i16s (l : List Byte) (o n : Nat) : List Int := (List.range n).map (fun i => signExt 16 (leAt l (o + 2 * i) 2))

/-- A usable IMU sample (R286, R280). -/
def Device.imuSample (d : Device) (n i : Nat) (env : MemEnv) : Device :=
  if !bitAt (d.rd Reg.PACING_MASK) n || d.role n != roleImu || !(d.fusionRuns || (d.fn .fusion == .starting && d.worldRuns))
  then d else
  let r := d.usableRecord n i env
  match r.2 with
  | none => r.1
  | some record =>
    let b := d.intrinsics n
    let x := r.1.sampleData n i 0 (max (leAt b 24 2) (leAt b 26 2) + 6) env
    if x.code ≠ 0 then x.dev else
    let s : EgoSample := { slot := n, stamp := leAt record 8 8, data := i16s x.data (leAt b 24 2) 3 ++ i16s x.data (leAt b 26 2) 3 }
    let y := x.dev.egoTake s
    if y.2 ≠ 0 then y.1.fusionEvent y.2 5
    else
      let d1 := (y.1.egoUsed s).showHorizon
      if d.fusion.history = [] then
        (d1.onFusion fun f => { f with open? := some (d1.instantAfter (d1.inputTime n s.stamp)) }).setFn .fusion .on
      else d1.closeCheck env

/-- A usable WHEEL sample (R287). -/
def Device.wheelSample (d : Device) (n i : Nat) (env : MemEnv) : Device :=
  if d.role n ≠ roleWheel ∨ !d.fusionRuns then d else
  let r := d.usableRecord n i env
  match r.2 with
  | none => r.1
  | some record =>
    let x := r.1.sampleData n i (16 + leAt (d.intrinsics n) 24 2) 2 env
    if x.code ≠ 0 then x.dev else
    let s : EgoSample := { slot := n, stamp := leAt record 8 8, data := i16s x.data 0 1 }
    let y := x.dev.egoTake s
    if y.2 ≠ 0 then y.1.fusionEvent y.2 6 else (y.1.egoUsed s).closeCheck env

/-- An input is late: its instant has closed. -/
def Device.isLate (d : Device) (tau : Int) : Bool :=
  match d.fusion.open? with
  | some k => decide (tau ≤ d.instantTime k - (d.rd Reg.PERIOD_NS : Int))
  | none => false

/-- A lidar packet: the stored frame at an offset of the sample's data (R290, R300). -/
def Device.lidarPacket (d : Device) (n i off : Nat) (env : MemEnv) : Device :=
  if d.role n ≠ roleLidar ∨ !d.fusionRuns then d else
  let r := d.usableRecord n i env
  match r.2 with
  | none => r.1
  | some record =>
    let h := r.1.sampleData n i off 16 env
    if h.code ≠ 0 ∨ leAt record 24 4 ≤ off ∨ bitAt (leAt h.data 10 1) 0 then h.dev else
    let x := h.dev.sampleData n i (off + 16) (leAt h.data 8 2) env
    if x.code ≠ 0 then x.dev else
    let p : LidarPacket := { slot := n, stamp := leAt h.data 0 8, frame := x.data }
    let tau := d.inputTime n p.stamp
    let d1 := x.dev.onFusion fun f => { f with newestPacket := SMap.insert f.newestPacket n
                                                 (match SMap.find f.newestPacket n with | some t => max t p.stamp | none => p.stamp) }
    let d2 :=
      if !d1.isLate tau then d1.onFusion fun f => { f with packets := f.packets ++ [p] }
      else if d1.mayFold tau then (d1.fusionEvent St.LATE_FOLDED 1).onFusion fun f => { f with latePackets := f.latePackets ++ [p] }
      else d1.dropLate
    d2.closeCheck env

/-- Parse a detection record; none where a reserved field or an undefined KIND makes the list fail (Table 10-7). -/
def parseDetection (b : List Byte) : Option Detection :=
  if (leAt b 0 1 = 1 ∨ leAt b 0 1 = 2) ∧ zeroAt b 2 2 ∧ zeroAt b 56 8 then
    some { box3d := leAt b 0 1 == 2, cls := leAt b 1 1, conf := leAt b 4 4, geom := (List.range 7).map (fun i => leAt b (8 + 4 * i) 4)
           var := (List.range 3).map (fun i => leAt b (36 + 4 * i) 4), vel := (List.range 2).map (fun i => leAt b (48 + 4 * i) 4) }
  else none

/-- Parse the records of a list. -/
def parseDetections (b : List Byte) : Nat → Option (List Detection)
  | 0 => some []
  | n + 1 =>
    match parseDetection (b.take 64), parseDetections (b.drop 64) n with
    | some x, some l => some (x :: l)
    | _, _ => none

/-- A detection list as its bytes say (R296): none where it fails. -/
def Device.parseList (d : Device) (b : List Byte) : Option DetectionList :=
  let n := leAt b 4 1
  let role := d.role (n % 64)
  let count := leAt b 6 2
  if leAt b 0 4 ≠ 0x54444B4E ∨ 63 < n ∨ role < 1 ∨ 3 < role ∨ 1024 < count ∨ leAt b 16 8 = 0 ∨ 3 < leAt b 5 1 ∨ !zeroAt b 12 4 ∨
      !zeroAt b 24 40 then none
  else (parseDetections (b.drop 64) count).map (fun l =>
    { slot := n, final := bitAt (leAt b 5 1) 0, invalid := bitAt (leAt b 5 1) 1, stamp := leAt b 16 8, dets := l })

/-- A DETECTIONS job copies its list into fusion (R293, R296). -/
def Device.detections (d : Device) (j : WorldJob) (env : MemEnv) : Device :=
  let h := d.worldRead (j.arg * 256) 64 env
  let r := h.dev.worldRead (j.arg * 256) (64 + 64 * min 1024 (leAt h.data 6 2)) env
  match (if r.code = 0 ∧ h.code = 0 then r.dev.parseList r.data else none) with
  | none => (r.dev.fusionEvent St.DETLIST_INVALID 0).jobDone j St.DETLIST_INVALID
  | some x =>
    let tau := d.inputTime x.slot x.stamp
    let inst := (d.instantOf tau).getD noInstant
    let d1 := r.dev.onFusion fun f =>
      { f with sentLists := setBit f.sentLists x.slot true, finals := if x.final then (x.slot, x.stamp) :: f.finals else f.finals }
    let d2 :=
      if x.invalid then (d1.fusionEvent St.INPUT_INVALID_COASTED 9).jobDone j St.INPUT_INVALID_COASTED inst
      else if r.dev.isLate tau ∨ d.instantOf tau = none then
        if d.instantOf tau ≠ none ∧ d1.mayFold tau then
          ((d1.fusionEvent St.LATE_FOLDED 1).onFusion fun f => { f with lateLists := f.lateLists ++ [x] }).jobDone j 0 inst
        else d1.dropLate.jobDone j St.LATE_DROPPED inst
      else (d1.onFusion fun f => { f with lists := f.lists ++ [x] }).jobDone j 0 inst
    d2.closeCheck env

/-- An AWAIT_INSTANT job (R295). -/
def Device.awaitInstant (d : Device) (j : WorldJob) : Device :=
  let newest : Int := match d.fusion.outputs, d.fusion.open? with
    | o :: _, _ => o.instant
    | [], some k => (k : Int) - 1
    | [], none => -1
  let ahead := signExt 32 (ofInt 32 ((j.arg : Int) - newest))
  if 0 < ahead then d.onWorld fun w => { w with waits := w.waits ++ [j] }
  else match (d.fusion.outputs.take (d.rd Reg.OUT_COUNT)).find? (fun o => o.instant % 2 ^ 32 == j.arg) with
    | some o => d.jobDone j 0 o.instant (d.outBuffer o.instant)
    | none => d.jobDone j St.INSTANT_EXPIRED

/-! ### Start, output and stop -/

/-- The failing entry of fusion's configuration check (R280), as its dictionary key. -/
def Device.fusionFault (d : Device) : Option Nat :=
  let base := d.rd Reg.OUT_BASE
  let size := d.rd Reg.OUT_COUNT * outBytes
  let clash := (List.range 64).any (fun n =>
    rangesMeet base size (d.rd (Reg.SLOT_BUF_BASE n)) (d.rd (Reg.SLOT_BUF_BYTES n) * d.rd (Reg.SLOT_BUF_COUNT n)) ||
      (d.rd (Reg.SLOT_BUF_BYTES n) != 0 && rangesMeet base size (d.rd (Reg.SLOT_REC_BASE n)) (64 * d.rd (Reg.SLOT_BUF_COUNT n))))
  let ready := fun n => d.role n != 0 && d.calibrated n
  let checks : List (Nat × Bool) :=
    [(Reg.PERIOD_NS, decide (d.rd Reg.PERIOD_NS < 20000000)), (Reg.PHASE_NS, decide (d.rd Reg.PERIOD_NS ≤ d.rd Reg.PHASE_NS)),
     (Reg.CLOSE_LAG_NS, decide (d.rd Reg.PERIOD_NS < d.rd Reg.CLOSE_LAG_NS)),
     (Reg.OUT_BASE, !inWorkArea base size || clash),
     (Reg.PACING_MASK, !(bitList (d.rd Reg.PACING_MASK) 64).any (fun n => d.role n == roleImu)),
     (Reg.REQUIRED_MASK, (bitList (d.rd Reg.REQUIRED_MASK) 64).any (fun n => !ready n)),
     (Reg.PACING_MASK, (bitList (d.rd Reg.PACING_MASK) 64).any (fun n => !ready n))]
  (checks.find? (·.2)).map (·.1)

/-- Fusion enters STARTING (R280); `again` marks a start after a world-region restart. -/
def Device.fusionStart (d : Device) (again : Bool) : Device :=
  let d1 := d.onFusion fun f => { restarted := again, calibChanged := f.calibChanged }
  match d.fusionFault with
  | some k => (d1.setFn .fusion .fault).logEv St.FUSION_CONFIG_INVALID 0 k
  | none => d1.setFn .fusion .starting

/-- The first IMU sample has not come within 1 s (R280). -/
def Device.fusionTimeout (d : Device) : Device :=
  if d.fn .fusion = .starting then (d.setFn .fusion .fault).logEv St.FUSION_CONFIG_INVALID 0 0xFFFF else d

/-- Fusion reads OFF: its stores are cleared (R311). -/
def Device.fusionOff (d : Device) : Device :=
  let d1 := d.each d.world.waits fun d j => d.jobDone j St.FN_CANCELLED
  ((d1.onWorld fun w => { w with waits := [] }).onFusion fun f => { calibChanged := f.calibChanged }).fnOff .fusion

/-- A waiting AWAIT_INSTANT job waits for an instant closed and not yet written. -/
def Device.awaitsClosed (d : Device) (j : WorldJob) : Bool := d.fusion.closed.any (fun x => j.arg == x.instant % 2 ^ 32)

/-- Fusion drains (R311): lists and waiting jobs that no closed instant answers complete with 0x0101. -/
def Device.fusionDrain (d : Device) : Device :=
  let taken := fun c => d.world.taken.filter (fun j => j.cls == c)
  let d1 := (d.setFn .fusion .draining).onWorld fun w => { w with taken := w.taken.filter (fun j => j.cls != 1 && j.cls != 2) }
  let d2 := (d1.each (taken 1) fun d j => d.jobDone j St.FN_CANCELLED).each (taken 2) fun d j => d.awaitInstant j
  let gone := d2.world.waits.filter (fun j => !d.awaitsClosed j)
  let d3 := (d2.each gone fun d j => d.jobDone j St.FN_CANCELLED).onWorld fun w => { w with waits := w.waits.filter d.awaitsClosed }
  if d.fusion.closed = [] then d3.fusionOff else d3

/-- Fusion's drain limit: the headers of the closed instants are written CANCELLED (R311). -/
def Device.fusionCancel (d : Device) (env : MemEnv) : Device :=
  if d.fn .fusion ≠ .draining then d
  else (d.worldWrites env (d.fusion.closed.map (fun x => (d.outBuffer x.instant, headerWith x.header 3 0)))).1.fusionOff

/-- Copy an output to the ring 0x6003 (R310). -/
def Device.fusionRing (d : Device) (x : ClosedInstant) (header grid : List Byte) (room : Bool) : Device :=
  if d.fn (.ring .fusionOut) ≠ .on then d
  else if !room || d.ringPosted .fusionOut = 0 then d.fusionEvent St.OUT_RING_SKIPPED 11
  else
    let d1 := d.ringPush .fusionOut { bytes := header ++ x.tracks }
    if d.rd Reg.GRID_TO_HOST = 1 then d1.ringPush .fusionOut { bytes := grid } else d1

/-- The bytes of the grid. -/
def ClosedInstant.gridBytes (x : ClosedInstant) : List Byte := (SMap.getList x.grid 0 emptyCell 262144).flatMap (fun w => leBytes w 4)

/-- The output of the oldest closed instant is written DONE (R309): the instant and its header, unless a write was answered
with an error. -/
def Device.outputDone (d : Device) (room : Bool) (env : MemEnv) : Device × Option (Nat × List Byte) :=
  match d.fusion.closed with
  | [] => (d, none)
  | x :: rest =>
    if !d.worldRuns then (d, none) else
    let buf := d.outBuffer x.instant
    let header := headerWith x.header 2 d.strm.count
    let grid := x.gridBytes
    let r := d.worldWrites env [(buf + 256, x.disputes), (buf + 4096, x.tracks), (buf + 266240, grid), (buf, header)]
    if !r.2 then (r.1, none) else
    let tk := d.instantTime x.instant
    let d1 := r.1.onFusion fun f =>
      { f with closed := rest, written := f.written + 1, outputs := (({ instant := x.instant, time := tk } : FusionOutput) :: f.outputs).take 8 }
    let d2 := d1.wrAll [(Reg.LAST_INSTANT, x.instant), (Reg.LAST_T_K, ofInt 64 tk), (Reg.TRACKS_ACTIVE, x.active),
      (Reg.TRACKS_CONFIRMED, x.confirmed), (Reg.DISPUTES_ACTIVE, x.disputed)]
    let met := d2.world.waits.filter (fun j => j.arg == x.instant % 2 ^ 32)
    let d3 := (d2.each met fun d j => d.jobDone j 0 x.instant buf).onWorld fun w =>
      { w with waits := w.waits.filter (fun j => j.arg != x.instant % 2 ^ 32) }
    let d4 := d3.fusionRing x header grid room
    (if rest = [] ∧ d4.fn .fusion = .draining then d4.fusionOff else d4.beginOutput env, some (x.instant, header))

/-- A restart of the world region (R312): fusion is cleared and starts again. -/
def Device.fusionWorldRestart (d : Device) : Device :=
  let told := d.world.waits.filter (fun j => !d.regionStopped (Region.ofNum (j.core / 16)))
  let d1 := (d.each told fun d j => d.jobDone j St.FN_CANCELLED).onWorld fun w => { w with waits := [] }
  if d.fn .fusion = .on ∨ d.fn .fusion = .starting then d1.fusionStart true
  else if d.fn .fusion = .draining then d1.fusionOff else d1

end Sys2Proof.Machine
end

