-- ==== Sys2Proof/Machine/Planning.lean ====
section
/-!
DEFINITION. Planning and collision checking (chapter 11): the configuration and lattice checks (R316, R328 to R330), the
space-time SDF and its builds (R317 to R324), queries and clearances (R325 to R327), the planning cycle with EXPAND,
SELECT and the deadline path (R331 to R339), and the outputs (R340 to R343).
-/

namespace Sys2Proof.Machine

open Config

/-- A counting event of planning (R347). -/
def Device.planEvent (d : Device) (c : Code) (i : Nat) : Device := d.countEv c 0 (Reg.PLAN_EVENTS i)

/-! ### Epoch buffers (Tables 11-1, 11-3) -/

def farBuffer (e : Nat) : Nat := 0x400B000000 + e % 2 * 0x2000000
def nearBuffer (e : Nat) : Nat := 0x400F000000 + e % 2 * 0x400000
def epochHeader (e : Nat) : Nat := 0x400F800000 + 64 * (e % 2)

/-- The value of a cell of an epoch, in mm. -/
def Device.farCell (d : Device) (e s r c : Nat) : Int := signExt 16 (d.memNat (farBuffer e + 524288 * s + 2 * (512 * r + c)) 2)
def Device.nearCell (d : Device) (e s r c : Nat) : Int := signExt 16 (d.memNat (nearBuffer e + 131072 * s + 2 * (256 * r + c)) 2)

/-- A buffer's header reads INVALID. -/
def Device.epochInvalid (d : Device) (e : Nat) (env : MemEnv) : Device := d.worldWrite (epochHeader e + 4) [0] env

/-! ### The distance transform (R318, R319) -/

/-- The integer part of a square root, from `b` bits. -/
def isqrt : Nat → Nat → Nat → Nat
  | 0, s, _ => s
  | b + 1, s, m => if (s + 2 ^ b) * (s + 2 ^ b) ≤ m then isqrt b (s + 2 ^ b) m else isqrt b s m

/-- A square root rounded to the nearest integer; it is never halfway between two. -/
def roundSqrt (m : Nat) : Nat :=
  let s := isqrt 32 0 m
  if s * s + s < m then s + 1 else s

/-- The square of the distance in cells from (r, c) to the nearest of `n` by `n` cells that satisfy `p`. -/
def nearestSq (n : Nat) (p : Nat → Nat → Bool) (r c : Nat) : Option Nat :=
  (List.range n).foldl (fun b x => (List.range n).foldl (fun b y =>
    if p x y then
      let q := (x - r + (r - x)) ^ 2 + (y - c + (c - y)) ^ 2
      match b with | some v => some (min v q) | none => some q
    else b) b) none

/-- The distance stored for a cell of a slice, where `p` says which cells are occupied and `size` is the cell size in mm. -/
def sdfValue (size n : Nat) (p : Nat → Nat → Bool) (r c : Nat) : Int :=
  let mm := fun q => min 32767 ((roundSqrt (size * size * q) : Int) - (size / 2 : Nat))
  if p r c then (match nearestSq n (fun x y => !p x y) r c with | some q => -(mm q) | none => -32767)
  else (match nearestSq n p r c with | some q => mm q | none => 32767)

/-- A quotient rounded to the nearest integer, ties away from zero. -/
def roundDiv (a : Int) (b : Nat) : Int := if a < 0 then -((-a * 2 + b) / (2 * b)) else (a * 2 + b) / (2 * b)

/-- A near cell takes the smaller of its value and the far field interpolated at its centre (R319). -/
def nearWithFar (own : Int) (far : Nat → Nat → Int) (r c : Nat) : Int :=
  let fr := 2 * r + 1789
  let fc := 2 * c + 1789
  let w := fun (a b : Nat) (x : Int) => (a * b : Nat) * x
  let v := w (8 - fr % 8) (8 - fc % 8) (far (fr / 8) (fc / 8)) + w (fr % 8) (8 - fc % 8) (far (fr / 8 + 1) (fc / 8)) +
    w (8 - fr % 8) (fc % 8) (far (fr / 8) (fc / 8 + 1)) + w (fr % 8) (fc % 8) (far (fr / 8 + 1) (fc / 8 + 1))
  roundDiv (min (64 * own) v) 64

/-! ### Occupancy input (R320, R321) -/

/-- Fusion's output of instant `k` is among its OUT_COUNT newest. -/
def Device.outputHeld (d : Device) (k : Nat) : Bool := (d.fusion.outputs.take (d.rd Reg.OUT_COUNT)).any (fun o => o.instant == k)

/-- The footprints that the fusion output of instant `k` adds to O, as arguments of a rectangle without its point. -/
def Device.overlays (d : Device) (k : Nat) : List (List Number) :=
  let buf := d.outBuffer k
  (List.range (d.memNat (buf + 72) 2)).filterMap (fun i =>
    let t := d.mem.bytes (buf + 4096 + 128 * i) 128
    let wide := fun o => nAdd (nF32 (leAt t o 4)) (nMul (nInt 2) (nRat (leAt t 68 2) 100))
    if bitAt (leAt t 7 1) 1 then some [nF32 (leAt t 12 4), nF32 (leAt t 16 4), wide 40, wide 44, nF32 (leAt t 32 4)] else none)

/-- A point of the plane lies in one of the footprints. -/
def inOverlay (l : List (List Number)) (x y : Number) : Bool := l.any (fun f => inRectangle x y (comp f 0) (comp f 1) (comp f 2) (comp f 3) (comp f 4))

/-- A build of the running epoch `e`: the bytes of slice `s` of the far field and of the near field, from the occupancy
input as memory holds it. -/
def Device.farSlice (d : Device) (b : Build) (lays : List (List Number)) (s : Nat) : List Byte :=
  let occ := d.mem.bytes (b.far + 262144 * s) 262144
  let p := fun r c => decide (d.planning.settings.occupied ≤ leAt occ (512 * r + c) 1) ||
    inOverlay lays (nRat (2 * r - 511 : Int) 10) (nRat (2 * c - 511 : Int) 10)
  (List.range 262144).flatMap (fun i => leBytes (ofInt 16 (sdfValue 200 512 p (i / 512) (i % 512))) 2)

def Device.nearSlice (d : Device) (e : Nat) (b : Build) (lays : List (List Number)) (s : Nat) : List Byte :=
  let occ := if b.near = 0 then d.mem.bytes (b.far + 262144 * s) 262144 else d.mem.bytes (b.near + 65536 * s) 65536
  let value := fun r c =>
    if b.near = 0 then leAt occ (512 * ((2 * r + 1793) / 8) + (2 * c + 1793) / 8) 1 else leAt occ (256 * r + c) 1
  let p := fun r c => decide (d.planning.settings.occupied ≤ value r c) ||
    inOverlay lays (nRat (2 * r - 255 : Int) 40) (nRat (2 * c - 255 : Int) 40)
  (List.range 65536).flatMap (fun i =>
    leBytes (ofInt 16 (nearWithFar (sdfValue 50 256 p (i / 256) (i % 256)) (d.farCell e s) (i / 256) (i % 256))) 2)

/-! ### Builds (R320 to R324) -/

/-- The code that refuses an occupancy input record (R320). -/
def occupancyFault (b : List Byte) : Bool :=
  let far := leAt b 16 8
  let near := leAt b 24 8
  leAt b 0 4 != 0x434F4B4E || !zeroAt b 4 4 || !zeroAt b 32 32 || far == 0 || far % 4096 != 0 || !inWorkArea far (64 * 262144) ||
    (near != 0 && !inWorkArea near (32 * 65536))

/-- A build of instant `k` is stale (R324). -/
def Device.buildStale (d : Device) (k : Nat) : Bool :=
  (match d.planning.newest with | some (_, n) => decide (k ≤ n) | none => false) || !d.outputHeld k

/-- The epoch the next build takes. -/
def Device.nextEpoch (d : Device) : Nat := match d.planning.newest with | some (e, _) => (e + 1) % 256 | none => 0

/-- The buffer of epoch `e` is bound to the open cycle, or held by its SELECT (R323, R337). -/
def Device.bufferHeld (d : Device) (e : Nat) : Bool :=
  match d.planning.cycle with
  | none => false
  | some c => (c.bound.toList ++ (c.chosen.bind (·.epoch)).toList).any (fun b => b % 2 == e % 2)

/-- Planning reads OFF when nothing remains (R344). -/
def Device.planOff (d : Device) (env : MemEnv) : Device :=
  let d1 := (d.each (d.world.taken.filter (fun j => 8 ≤ j.cls)) fun d j => d.jobDone j St.FN_CANCELLED).onWorld fun w =>
    { w with taken := w.taken.filter (fun j => decide (j.cls < 8)) }
  (((d1.epochInvalid 0 env).epochInvalid 1 env).onPlanning fun p => { p with cycle := none, builds := [], expandWait := none, newest := none }).fnOff
    .planning

/-- A draining planning function with no cycle and no build, begun or taken before the drain, reads OFF. -/
def Device.planSettle (d : Device) (env : MemEnv) : Device :=
  if d.fn .planning = .draining ∧ d.planning.cycle = none ∧ d.planning.builds = [] ∧ !d.world.taken.any (fun j => j.cls == 8)
  then d.planOff env else d

/-- The builder takes a build up, when those before it have ended: it reads its record (R320). A refusal leaves the buffer of
the number it would have taken INVALID (R324). -/
def Device.buildCheck (d : Device) (b : Build) (rest : List Build) (env : MemEnv) : Device :=
  let r := d.worldRead (b.job.arg * 256) 64 env
  if r.code ≠ 0 then r.dev
  else if occupancyFault r.data then
    (((r.dev.epochInvalid r.dev.nextEpoch {}).onPlanning fun p => { p with builds := rest }).planEvent St.OCC_INPUT_INVALID 3).jobDone
      b.job St.OCC_INPUT_INVALID
  else
    let b1 := { b with checked := true, instant := leAt r.data 8 8, far := leAt r.data 16 8, near := leAt r.data 24 8 }
    r.dev.onPlanning fun p => { p with builds := b1 :: rest }

/-- A BUILD job is accepted: the builder takes builds in acceptance order (R334). -/
def Device.buildJob (d : Device) (j : WorldJob) (env : MemEnv) : Device :=
  if d.planning.builds = [] then (d.buildCheck { job := j } [] env).planSettle env
  else d.onPlanning fun p => { p with builds := p.builds ++ [{ job := j }] }

/-- An epoch header (Table 11-3): the ego's pose is copied from the fusion output of the instant. -/
def Device.epochBytes (d : Device) (state e k bundle : Nat) (overlays : Nat) : List Byte :=
  let h := d.mem.bytes (d.outBuffer k) 64
  leBytes 0x44534B4E 4 ++ [BitVec.ofNat 8 state, BitVec.ofNat 8 e] ++ leBytes overlays 2 ++ leBytes k 8 ++
    leBytes (ofInt 64 (d.instantTime k)) 8 ++ slice h 32 16 ++ slice h 52 4 ++ zeros 4 ++ leBytes bundle 8 ++ zeros 8

/-- The ranges of fusion's output that a build reads: its header, and the records of its tracks. -/
def Device.outputReads (d : Device) (k : Nat) : List (Nat × Nat) :=
  [(d.outBuffer k, 256), (d.outBuffer k + 4096, 128 * d.memNat (d.outBuffer k + 72) 2)]

/-- The first build starts, when its buffer is free (R323), or is refused as stale (R324). -/
def Device.buildStart (d0 : Device) (env : MemEnv) : Device :=
  let d := match d0.planning.builds with
    | b :: rest => if b.checked || !d0.worldRuns then d0 else d0.buildCheck b rest env
    | [] => d0
  match d.planning.builds with
  | [] => d.planSettle env
  | b :: rest =>
    if b.running ≠ none ∨ !b.checked ∨ !d.worldRuns then d
    else if d.buildStale b.instant then
      let d1 := (d.epochInvalid d.nextEpoch env).onPlanning fun p => { p with builds := rest }
      (((d1.planEvent St.BUILD_STALE 4).jobDone b.job St.BUILD_STALE b.instant).planSettle env)
    else if d.bufferHeld d.nextEpoch then d
    else
      let e := d.nextEpoch
      let r := d.worldScan env (d.outputReads b.instant)
      if !r.2 then r.1 else
      (r.1.worldWrite (epochHeader e) (d.epochBytes 1 e b.instant 0 0) env).onPlanning fun p =>
        { p with builds := { b with running := some e } :: rest }

/-- The occupancy that a build reads. -/
def Build.reads (b : Build) : List (Nat × Nat) := (b.far, 64 * 262144) :: if b.near = 0 then [] else [(b.near, 32 * 65536)]

/-- The running build is complete: its cells, then its header (R322). -/
def Device.epochComplete (d : Device) (env : MemEnv) : Device :=
  match d.planning.builds with
  | b :: rest =>
    match b.running with
    | none => d
    | some e =>
      if !d.worldRuns then d else
      let r := d.worldScan env (d.outputReads b.instant ++ b.reads)
      if !r.2 then r.1 else
      let lays := d.overlays b.instant
      let far := r.1.worldWrites {} ((List.range 64).map fun s => (farBuffer e + 524288 * s, d.farSlice b lays s))
      if !far.2 then far.1 else
      let near := far.1.worldWrites {} ((List.range 32).map fun s => (nearBuffer e + 131072 * s, far.1.nearSlice e b lays s))
      if !near.2 then near.1 else
      let done := near.1.worldWrites env [(epochHeader e, d.epochBytes 2 e b.instant d.strm.count lays.length)]
      if !done.2 then done.1 else
      let d4 := (done.1.onPlanning fun p => { p with builds := rest, newest := some (e, b.instant) }).wrAll
        [(Reg.NEWEST_EPOCH, e), (Reg.NEWEST_EPOCH_INSTANT, b.instant)]
      (d4.jobDone b.job 0 b.instant (epochHeader e)).planSettle env
  | [] => d

/-! ### Queries (R325 to R327) -/

/-- A coordinate's samples along one axis: an index and its weight, a second one only with a weight above 0. The arithmetic
of a query is exact (R326). -/
def axisSamples (x : Number) : List (Nat × Number) :=
  let i := nFloor x
  let w := x - i
  if w = 0 then [(i.toNat, 1)] else [(i.toNat, 1 - w), (i.toNat + 1, w)]

/-- The cells that serve a disc query of epoch `e` at a point in metres and time `t` in ns after T_E, as addresses and
weights; none for a point outside (R326). -/
def queryCells (e : Nat) (x y : Number) (t : Nat) : Option (List (Nat × Number)) :=
  let within := fun (v : Number) (hi : Nat) => nLe 0 v && nLe v hi
  let u := nRat t 100000000
  let cells := fun (buf slice row : Nat) (r c u : Number) =>
    (axisSamples u).flatMap fun s => (axisSamples r).flatMap fun a => (axisSamples c).map fun b =>
      (buf + slice * s.1 + 2 * (row * a.1 + b.1), s.2 * a.2 * b.2)
  let nr := 20 * x + nRat 255 2
  let nc := 20 * y + nRat 255 2
  let fr := 5 * x + nRat 511 2
  let fc := 5 * y + nRat 511 2
  if within nr 255 && within nc 255 && nLe u 31 then some (cells (nearBuffer e) 131072 256 nr nc u)
  else if within fr 511 && within fc 511 then some (cells (farBuffer e) 524288 512 fr fc (if nLt 63 u then 63 else u))
  else none

/-- The value of the cells of a query, in mm, before it is rounded to F32. -/
def Device.cellsValue (d : Device) (l : List (Nat × Number)) : Number :=
  (l.map (fun p => p.2 * (signExt 16 (d.memNat p.1 2) : Number))).sum

/-- The valid discs of the footprint (Table 11-4): x, y and radius in mm. -/
def Device.discs (d : Device) : List (Int × Int × Nat) :=
  let b := d.blob Reg.FOOTPRINT
  (List.range 8).filterMap (fun i =>
    if leAt b (8 * i + 6) 1 = 1 then some (signExt 16 (leAt b (8 * i) 2), signExt 16 (leAt b (8 * i + 2) 2), leAt b (8 * i + 4) 2) else none)

/-- Primitive `i` of a bin (R328). -/
def Device.primitive (d : Device) (bin i : Nat) : List Byte :=
  d.mem.bytes (d.rd Reg.LATTICE_BASE + 8192 + (4096 * bin + i) * 576) 576

/-- COUNT and MRM_COUNT of a bin. -/
def Device.binCount (d : Device) (bin : Nat) : Nat := d.memNat (d.rd Reg.LATTICE_BASE + 256 + 8 * bin) 2
def Device.binMrm (d : Device) (bin : Nat) : Nat := d.memNat (d.rd Reg.LATTICE_BASE + 256 + 8 * bin + 2) 2

/-- A pose of the cycle's frame, moved into the frame of an epoch header (R325). -/
def carry (c : Cycle) (h : List Byte) (p : List Number) : List Number :=
  let q := vAdd (turn (comp c.ego 2) p) [comp c.ego 0, comp c.ego 1]
  turn (nSub (nInt 0) (nF32 (leAt h 40 4))) (vSub q [nF64 (leAt h 24 8), nF64 (leAt h 32 8)])

/-- The disc queries of a primitive, pose by pose: the cells that serve each, the disc's radius, and the pose's T_MS (R325,
R327). -/
def Device.poseQueries (d : Device) (c : Cycle) (e : Nat) (prim : List Byte) : List (Option (List (Nat × Number)) × Nat × Nat) :=
  let h := d.mem.bytes (epochHeader e) 64
  let te := signExt 64 (leAt h 16 8)
  (List.range 32).flatMap fun j =>
    let o := 64 + 16 * j
    let x := nMm (signExt 32 (leAt prim o 4))
    let y := nMm (signExt 32 (leAt prim (o + 4) 4))
    let yaw := nMul (nAtan2 (nInt 0) (nInt (-1))) (nRat (leAt prim (o + 8) 2) 32768)
    let t := leAt prim (o + 10) 2
    d.discs.map fun q =>
      let p := carry c h (vAdd [x, y] (turn yaw [nMm q.1, nMm q.2.1]))
      (queryCells e (comp p 0) (comp p 1) (c.time - te + 1000000 * t).toNat, q.2.2, t)

/-- The clearance of primitive `i` of the cycle's bin against epoch `e`, with the T_MS of its pose (R327). A primitive without
a served query has +32,767 and carries POSES_OUTSIDE under IGNORE; under BLOCK an outside query counts as −32,767. -/
def Device.clearance (d : Device) (c : Cycle) (e i : Nat) : Clearance :=
  let block := d.rd Reg.OUTSIDE_POLICY == 1
  let values := (d.poseQueries c e (d.primitive c.bin i)).filterMap (fun p =>
    match p.1 with
    | some l => some (nF32 (asF32 (d.cellsValue l)) - ((p.2.1 + d.planning.settings.margin : Nat) : Number), p.2.2)
    | none => if block then some ((-32767 : Number), p.2.2) else none)
  match values with
  | [] => ⟨i, e, 32767, true, 0⟩
  | v :: rest =>
    let best := rest.foldl (fun b p => if nLt p.1 b.1 then p else b) v
    ⟨i, e, best.1, false, best.2⟩

/-- What checking primitives of the cycle's bin against an epoch reads: the bin's directory, the primitives, the epoch's
header and the lines of the cells that serve their queries. -/
def Device.checkReads (d : Device) (c : Cycle) (e : Option Nat) (l : List Nat) : List (Nat × Nat) :=
  let base := d.rd Reg.LATTICE_BASE
  let lines := match e with
    | none => []
    | some e => (epochHeader e, 64) :: ((l.flatMap (fun i => (d.poseQueries c e (d.primitive c.bin i)).flatMap (fun q =>
        (q.1.getD []).map (fun p => p.1 / 64)))).eraseDups).map (fun x => (64 * x, 64))
  (base + 256 + 8 * c.bin, 8) :: l.map (fun i => (base + 8192 + (4096 * c.bin + i) * 576, 576)) ++ lines

/-- The primitive is clear. -/
def Clearance.clear (x : Clearance) : Bool := nLt (nInt 0) x.value

/-- A clearance as CLEARANCE_MM. -/
def clearanceField (v : Number) : Nat :=
  let r := nRound v
  ofInt 16 (if r < -32768 then -32768 else if 32767 < r then 32767 else r)

/-! ### Configuration and lattice checks (R316, R330) -/

/-- The first failing entry of checks 1 to 5, as its dictionary key. -/
def Device.planFault (d : Device) : Option Nat :=
  let traj := d.rd Reg.TRAJ_BASE
  let surv := d.rd Reg.SURV_BASE
  let clash := fun base size => !inWorkArea base size ||
    rangesMeet base size (d.rd Reg.OUT_BASE) (d.rd Reg.OUT_COUNT * outBytes) ||
    (List.range 64).any (fun n =>
      rangesMeet base size (d.rd (Reg.SLOT_BUF_BASE n)) (d.rd (Reg.SLOT_BUF_BYTES n) * d.rd (Reg.SLOT_BUF_COUNT n)) ||
        (d.rd (Reg.SLOT_BUF_BYTES n) != 0 && rangesMeet base size (d.rd (Reg.SLOT_REC_BASE n)) (64 * d.rd (Reg.SLOT_BUF_COUNT n))))
  let checks : List (Nat × Bool) :=
    [(Reg.PART 0, (List.range 5).any (fun i => !bitAt d.lockedWays (11 + i))),
     (Reg.CYCLE_BUDGET_US, decide (d.rd Reg.PERIOD_NS ≤ 1000 * d.rd Reg.CYCLE_BUDGET_US)),
     (Reg.FOOTPRINT, d.discs == []),
     (Reg.TRAJ_BASE, clash traj 4096), (Reg.SURV_BASE, clash surv 40960),
     (Reg.OUT_CAN, d.rd Reg.OUT_CAN != 0 && d.rd (Reg.CAN_MODE (d.rd Reg.OUT_CAN - 1)) != 0)]
  (checks.find? (·.2)).map (·.1)

/-- The fields of one primitive hold (Tables 11-6, 11-7). -/
def primitiveOk (b : List Byte) (mrm : Bool) : Bool :=
  let kind := leAt b 2 1
  let t := fun j => leAt b (64 + 16 * j + 10) 2
  (if mrm then kind == 1 || kind == 2 else kind == 0) && leAt b 3 1 == 0 && f32Finite (leAt b 4 4) && decide (0 ≤ f32Order (leAt b 4 4)) &&
    zeroAt b 8 56 && zeroAt b 64 12 && (List.range 31).all (fun j => t j < t (j + 1)) && decide (t 31 ≤ 6400) &&
    (!mrm || decide (3000 ≤ t 31))

/-- The bytes of the lattice that its header states (R328), as far as the Drive partition goes. -/
def Device.latticeSize (d : Device) : Nat :=
  let h := d.mem.bytes (d.rd Reg.LATTICE_BASE) 8
  min (8192 + leAt h 6 1 * leAt h 7 1 * 2359296) (drivePartEnd - d.rd Reg.LATTICE_BASE)

/-- The lattice's first failure, as DETAIL0 (R330). -/
def Device.latticeFault (d : Device) : Option Nat :=
  let base := d.rd Reg.LATTICE_BASE
  let h := d.mem.bytes base 8192
  let ns := leAt h 6 1
  let nh := leAt h 7 1
  let size := 8192 + ns * nh * 2359296
  let edges := fun o n => f32AllFinite h (o + 4) (n - 1) && f32Rising h (o + 4) (n - 1)
  let dirOk := fun b =>
    let n := leAt h (256 + 8 * b) 2
    let m := leAt h (258 + 8 * b) 2
    1 ≤ n && n ≤ 4096 && 1 ≤ m && m ≤ 64 && m < n && zeroAt h (260 + 8 * b) 4
  if leAt h 0 4 ≠ 0x544C4B4E ∨ leAt h 4 2 ≠ 1 ∨ ns < 1 ∨ 32 < ns ∨ nh < 1 ∨ 16 < nh ∨ !zeroAt h 8 56 ∨ !edges 64 ns ∨ !edges 192 nh ∨
      d.rd Reg.LATTICE_BYTES < size ∨ drivePartEnd < base + size ∨ !(List.range (ns * nh)).all dirOk then some 0xFFFFFFFF
  else
    (((List.range (ns * nh)).flatMap (fun b => (List.range (d.binCount b)).map (fun i => (b, i)))).find?
      (fun p => !primitiveOk (d.primitive p.1 p.2) (decide (p.2 < d.binMrm p.1)))).map (fun p => p.1 * 65536 + p.2)

/-- Take the settings that cycles use (R346). -/
def Device.takeSettings (d : Device) : Device :=
  d.onPlanning fun p => { p with settings := ⟨d.rd Reg.CLEAR_MARGIN_MM, d.rd Reg.OCC_THRESHOLD, d.rd Reg.SURVIVOR_MAX, d.rd Reg.EPOCH_MAX_AGE⟩ }

/-- Planning enters STARTING, and ON when its checks pass (R316, R330). -/
def Device.planStart (d : Device) : Device :=
  match d.planFault with
  | some k => (d.setFn .planning .fault).logEv St.PLAN_CONFIG_INVALID 0 k
  | none =>
    let r := d.worldScan {} [(d.rd Reg.LATTICE_BASE, d.latticeSize)]
    if !r.2 then r.1.setFn .planning .starting else
    let d := r.1
    match d.latticeFault with
    | some x => ((d.setFn .planning .fault).wrAll [(Reg.LATTICE_STATUS, St.LATTICE_INVALID), (Reg.LATTICE_FAULT_AT, x)]).logEv St.LATTICE_INVALID 0 x
    | none => (((d.onPlanning fun p => { unsent := p.unsent, sent := p.sent }).wr Reg.OUT_SEQ 0).takeSettings).setFn .planning .on

/-! ### The lattice ring (R329) -/

/-- The ring of the lattice goes ON: a new upload begins. -/
def Device.latticeBegin (d : Device) : Device :=
  (d.wrAll [(Reg.LATTICE_BYTES, 0), (Reg.LATTICE_CRC, 0)]).bumpWrap Reg.LATTICE_GEN

/-- A descriptor of the lattice ring, with the bytes the device read for it. -/
def Device.latticeDescriptor (d : Device) (x : Descriptor) (addrOk : Bool) (payload : List Byte) (env : MemEnv) (full : Bool) : Device :=
  let r := RingId.latticeUpload
  if !d.ringLive r || d.ringPosted r = 0 then d
  else if !x.usable addrOk || !zeroAt x.owner 8 6 then d.ringBad r x full
  else if leAt x.owner 0 8 ≠ d.rd Reg.LATTICE_BYTES then
    (d.wr Reg.LATTICE_STATUS St.LATTICE_UPLOAD_ORDER).ringBad r x full St.LATTICE_UPLOAD_ORDER
  else
    let n := x.len.toNat
    let data := padTo payload n
    let w := d.portWrite portHost (d.rd Reg.LATTICE_BASE + d.rd Reg.LATTICE_BYTES) data [] false env
    if w.2 ≠ 0 then w.1.ringDone r x full w.2 0 0 else
    (w.1.wrAll [(Reg.LATTICE_BYTES, wrapTo 64 (d.rd Reg.LATTICE_BYTES + n)),
      (Reg.LATTICE_CRC, Nat.xor (crcFold (Nat.xor (d.rd Reg.LATTICE_CRC) 0xFFFFFFFF) data) 0xFFFFFFFF)]).ringDone r x full 0 n 0

/-! ### Records (R340 to R343) -/

def flagMrm : Nat := 0x001
def flagNoClear : Nat := 0x002
def flagSubstituted : Nat := 0x004
def flagTimeout : Nat := 0x008
def flagScoresIgnored : Nat := 0x010
def flagStale : Nat := 0x020
def flagUnchecked : Nat := 0x040
def flagOutside : Nat := 0x080
def flagRestarted : Nat := 0x100
def flagFallback : Nat := 0x200

/-- What a record sends: a primitive, its clearance when it was checked, and FLAGS of its choice. -/
structure Choice where
  index : Nat
  clearance : Option Clearance
  flags : Nat

/-- A trajectory record, written DONE (Table 11-10). -/
def Device.recordBytes (d : Device) (c : Cycle) (status flags : Nat) (x : Choice) : List Byte :=
  let prim := d.primitive c.bin x.index
  let outside := match x.clearance with | some y => y.outside | none => false
  let head : List Byte := leBytes 0x4A544B4E 4 ++ ([1, 2] : List Byte) ++ leBytes status 2 ++
    leBytes (Nat.lor (Nat.lor flags x.flags) (if outside then flagOutside else 0)) 2 ++
    leBytes (match x.clearance with | some y => clearanceField y.value | none => 0) 2 ++ leBytes d.planning.outSeq 4 ++
    leBytes c.instant 8 ++ leBytes (ofInt 64 c.time) 8 ++
    [BitVec.ofNat 8 (match c.bound with | some b => b | none => 0), BitVec.ofNat 8 (match x.clearance with | some y => y.epoch | none => 0)] ++
    leBytes c.bin 2 ++ leBytes x.index 2 ++ slice prim 0 2 ++ zeros 20
  let poses := slice prim 64 512
  head ++ leBytes (crc32 (head ++ poses)) 4 ++ poses

/-- Buffer of the cycle's trajectory record and of its survivors. -/
def Device.trajBuffer (d : Device) (k : Nat) : Nat := d.rd Reg.TRAJ_BASE + 1024 * (k % 4)
def Device.survBuffer (d : Device) (k : Nat) : Nat := d.rd Reg.SURV_BASE + 20480 * (k % 2)

/-- Change the open cycle. -/
def Device.onCycle (d : Device) (f : Cycle → Cycle) : Device := d.onPlanning fun p => { p with cycle := p.cycle.map f }

/-- The clearances of the minimum-risk primitives of the cycle against epoch `e`. -/
def Device.mrmClearances (d : Device) (c : Cycle) (e : Nat) : List Clearance :=
  (List.range (d.binMrm c.bin)).map (fun i =>
    match c.clearances.find? (fun x => x.index == i && x.epoch == e) with
    | some x => x
    | none => d.clearance c e i)

/-- The clearance of a list that is largest; the earlier of equal ones. -/
def largest : List Clearance → Option Clearance
  | [] => none
  | x :: t => t.foldl (fun b y => match b with | some z => if nLt z.value y.value then some y else b | none => some y) (some x)

/-- The fallback's choice against the epoch of the sent trajectory (R342). -/
def Device.fallbackChoice (d : Device) (c : Cycle) (e : Option Nat) : Choice :=
  match e with
  | none => ⟨0, none, Nat.lor flagNoClear flagUnchecked⟩
  | some e =>
    let l := d.mrmClearances c e
    match l.find? (·.clear) with
    | some x => ⟨x.index, some x, flagMrm⟩
    | none => match largest l with
      | some x => ⟨x.index, some x, flagNoClear⟩
      | none => ⟨0, none, Nat.lor flagNoClear flagUnchecked⟩

/-- A cycle has made its choice: the record is written FILLING, and it and the fallback record wait to be sent. -/
def Device.choose (d : Device) (c : Cycle) (job : Option WorldJob) (status flags : Nat) (x : Choice) (env : MemEnv) : Device :=
  let common := Nat.lor flags (Nat.lor (if c.stale then flagStale else 0) (if d.planning.outSeq = 0 then flagRestarted else 0))
  let e := x.clearance.map (·.epoch)
  let r := d.worldScan env (d.checkReads c e (x.index :: List.range (d.binMrm c.bin)))
  if !r.2 then r.1 else
  let traj := d.recordBytes c status common x
  let back := d.recordBytes c status flagFallback (d.fallbackChoice c e)
  let w := r.1.worldWrites env [(d.trajBuffer c.instant, traj.take 5 ++ 1 :: traj.drop 6)]
  if w.2 then w.1.onCycle fun y => { y with chosen := some ⟨traj, back, job, e⟩, waiting := none } else w.1

/-- The counter subindex of a no-path status. -/
def noPathCounter (status : Code) : Nat := if status = St.PLAN_NO_PATH then 0 else if status = St.PLAN_TIMEOUT then 1 else 2

/-- The no-path rule (R338); `discard` says that the cycle's unranked candidates were discarded. -/
def Device.noPath (d : Device) (c : Cycle) (job : Option WorldJob) (status flags : Nat) (env : MemEnv) : Device :=
  let d1 := d.planEvent status (noPathCounter status)
  match d.planning.newest with
  | none => (d1.planEvent St.PLAN_NO_EPOCH 6).choose c job status flags ⟨0, none, Nat.lor flagNoClear flagUnchecked⟩ env
  | some (e, _) =>
    let mrm := d.mrmClearances c e
    match mrm.find? (·.clear) with
    | some x => d1.choose c job status flags ⟨x.index, some x, flagMrm⟩ env
    | none =>
      let candidates := (c.clearances.filter (fun x => x.epoch == e && decide (d.binMrm c.bin ≤ x.index))).mergeSort
        (fun a b => decide (a.index ≤ b.index))
      match largest (mrm ++ candidates) with
      | some x => d1.choose c job status flags ⟨x.index, some x, flagNoClear⟩ env
      | none => d1.choose c job status flags ⟨0, none, Nat.lor flagNoClear flagUnchecked⟩ env

/-! ### EXPAND (R335) -/

/-- A candidate ranks before another: cost, then clearance, then index. -/
def Survivor.before (a b : Survivor) : Bool :=
  if f32Order a.cost < f32Order b.cost then true
  else if f32Order b.cost < f32Order a.cost then false
  else if nLt b.clearance a.clearance then true
  else if nLt a.clearance b.clearance then false
  else decide (a.index ≤ b.index)

/-- The header of a survivor buffer (Table 11-9). -/
def survivorHeader (c : Cycle) (state epoch count clear checked : Nat) : List Byte :=
  leBytes 0x56534B4E 4 ++ [BitVec.ofNat 8 state, BitVec.ofNat 8 epoch] ++ leBytes c.bin 2 ++ leBytes c.instant 8 ++
    leBytes count 2 ++ leBytes clear 2 ++ leBytes checked 2 ++ zeros 42

/-- A survivor's 16 bytes. -/
def Survivor.bytes (x : Survivor) : List Byte :=
  leBytes x.index 2 ++ leBytes (clearanceField x.clearance) 2 ++ leBytes x.minT 2 ++ leBytes (bit1 x.outside) 2 ++ leBytes x.cost 4 ++ zeros 4

/-- The deadline path (R339) of the open cycle; `sel` runs SELECT in survivor order. -/
def Device.deadlineNoPath (d : Device) (c : Cycle) (env : MemEnv) : Device :=
  let d1 := match c.expandJob with
    | some j => d.jobDone j St.PLAN_TIMEOUT c.instant
    | none => d
  let c1 := { c with expand := .none, expandJob := none, clearances := if c.expand = .running then [] else c.clearances }
  let d2 := d1.onCycle fun _ => c1
  let d3 := match c.waiting with
    | some j => d2.jobDone j St.PLAN_CYCLE_MISMATCH
    | none => d2
  d3.noPath { c1 with waiting := none } none St.PLAN_TIMEOUT flagTimeout env

/-- EXPAND starts for the open cycle (R335). -/
def Device.expandStart (d : Device) (c : Cycle) (j : WorldJob) (env : MemEnv) : Device :=
  match d.planning.newest with
  | none => (d.jobDone j St.PLAN_NO_EPOCH c.instant).deadlineNoPath c env
  | some (e, k) =>
    let stale := decide (k + d.planning.settings.maxAge < c.instant)
    let d1 := if stale then d.planEvent St.PLAN_SDF_STALE 7 else d
    let c1 := { c with expand := .running, expandJob := some j, bound := some e, stale := stale, survivors := [], clearances := [] }
    (d1.worldWrite (d1.survBuffer c.instant) (survivorHeader c1 1 e 0 0 0) env).onCycle fun _ => c1

/-- An EXPAND job is taken (R335): for the open cycle, for one that has not yet begun, or for an earlier one. No cycle begins
once planning drains (R344). -/
def Device.expandJob (d : Device) (j : WorldJob) (env : MemEnv) : Device :=
  let last := d.rd Reg.CYCLE_INSTANT
  let ahead := signExt 32 (ofInt 32 ((j.arg : Int) - last))
  let wait := if d.fn .planning = .draining then d.jobDone j St.FN_CANCELLED else d.onPlanning fun p => { p with expandWait := some j }
  match d.planning.cycle with
  | some c =>
    if c.instant % 2 ^ 32 = j.arg then d.expandStart c j env
    else if 0 < ahead then wait
    else d.jobDone j St.PLAN_CYCLE_MISMATCH
  | none =>
    if !d.planning.begun || decide (0 < ahead) then wait
    else d.jobDone j St.PLAN_CYCLE_MISMATCH

/-! ### SELECT (R336, R337) -/

/-- The order that a score list gives the survivors; none when the list is to be ignored. -/
def scoreOrder (l : List Byte) (c : Cycle) : Option (List Survivor) :=
  let n := c.survivors.length
  if leAt l 0 4 ≠ 0x52434B4E ∨ leAt l 16 2 ≠ n then none
  else
    let scored := ((List.zipIdx c.survivors).map (fun p => (leAt l (64 + 4 * p.2) 4, p.1))).filter (fun p =>
      !(f32NotFinite p.1 && p.1 % 2 ^ 23 != 0))
    if scored = [] then none else some ((scored.mergeSort (fun a b => decide (f32Order b.1 ≤ f32Order a.1))).map (·.2))

/-- The final check (R337): the survivors in SELECT's order, the status and flags so far. -/
def Device.finalCheck (d : Device) (c : Cycle) (order : List Survivor) (job : Option WorldJob) (flags : Nat) (env : MemEnv) : Device :=
  match order, d.planning.newest with
  | [], _ => d.noPath c job St.PLAN_NO_PATH flags env
  | _, none => d.noPath c job St.PLAN_STALE_REJECT flags env
  | s :: rest, some (e, _) =>
    if c.bound = some e then d.choose c job 0 flags ⟨s.index, some ⟨s.index, e, s.clearance, s.outside, s.minT⟩, 0⟩ env
    else
      let again := (s :: rest.take 16).map (·.index)
      let r := d.worldScan env (d.checkReads c (some e) again)
      if !r.2 then r.1 else
      let d := r.1
      let checked := again.map (d.clearance c e)
      let c1 := { c with clearances := c.clearances ++ checked }
      match checked.find? (·.clear) with
      | some x =>
        if x.index = s.index then d.choose c1 job 0 flags ⟨x.index, some x, 0⟩ env
        else (d.planEvent St.PLAN_STALE_REJECT 2).choose c1 job St.PLAN_STALE_REJECT (Nat.lor flags flagSubstituted) ⟨x.index, some x, 0⟩ env
      | none => d.noPath c1 job St.PLAN_STALE_REJECT flags env

/-- SELECT runs for the open cycle. -/
def Device.selectRun (d : Device) (c : Cycle) (j : WorldJob) (env : MemEnv) : Device :=
  if c.survivors = [] then d.finalCheck c [] (some j) 0 env
  else
    let r := if j.arg = 0 then ({ dev := d } : ReadResult) else d.worldRead (j.arg * 256) (64 + 4 * c.survivors.length) env
    if r.code ≠ 0 then r.dev else
    match (if j.arg = 0 then none else scoreOrder r.data c) with
    | some l => r.dev.finalCheck c l (some j) 0 env
    | none => (r.dev.planEvent St.SCORES_IGNORED 5).finalCheck c c.survivors (some j) flagScoresIgnored env

/-- A SELECT job is taken (R336). -/
def Device.selectJob (d : Device) (j : WorldJob) (env : MemEnv) : Device :=
  match d.planning.cycle with
  | none => d.jobDone j St.PLAN_CYCLE_MISMATCH
  | some c =>
    let r := if j.arg = 0 then ({ dev := d } : ReadResult) else d.worldRead (j.arg * 256) 64 env
    if r.code ≠ 0 then r.dev else
    if j.arg ≠ 0 ∧ leAt r.data 0 4 = 0x52434B4E ∧ leAt r.data 8 8 ≠ c.instant then r.dev.jobDone j St.PLAN_CYCLE_MISMATCH
    else if c.expand = .running then r.dev.onCycle fun y => { y with waiting := some j }
    else r.dev.selectRun c j env

/-- EXPAND completes (R335): the survivors are written, and a SELECT that waited runs. -/
def Device.expandDone (d : Device) (env : MemEnv) : Device :=
  match d.planning.cycle with
  | none => d
  | some c =>
    match c.expand, c.expandJob, c.bound with
    | .running, some j, some e =>
      let r := d.worldScan env (d.checkReads c (some e) (List.range (d.binCount c.bin)))
      if !d.worldRuns || !r.2 then r.1 else
      let d := r.1
      let mrm := d.binMrm c.bin
      let all := (List.range (d.binCount c.bin)).map (d.clearance c e)
      let clear := all.filter (fun x => decide (mrm ≤ x.index) && x.clear)
      let ranked := (clear.map (fun x => (⟨x.index, x.value, x.minT, x.outside, leAt (d.primitive c.bin x.index) 4 4⟩ : Survivor))).mergeSort
        Survivor.before
      let kept := ranked.take d.planning.settings.survivors
      let c1 := { c with expand := .done, expandJob := none, survivors := kept, clearances := all }
      let buf := d.survBuffer c.instant
      let w := d.worldWrites env [(buf + 64, kept.flatMap Survivor.bytes),
        (buf, survivorHeader c 2 e kept.length clear.length (all.length - mrm))]
      if !w.2 then w.1 else
      let d2 := (w.1.jobDone j 0 c.instant buf).onCycle fun _ => { c1 with waiting := none }
      match c.waiting with
      | some w => d2.selectRun { c1 with waiting := none } w env
      | none => d2
    | _, _, _ => d

/-- The deadline of the open cycle, or its end by the deadline path (R339). -/
def Device.planDeadline (d : Device) (env : MemEnv) : Device :=
  match d.planning.cycle with
  | none => d
  | some c =>
    if c.chosen.isSome || !d.worldRuns then d
    else if c.expand = .done ∧ c.survivors ≠ [] then d.finalCheck c c.survivors none (Nat.lor flagTimeout flagScoresIgnored) env
    else d.deadlineNoPath c env

/-! ### Sending the record (R340 to R343) -/

/-- The frame of a record on output `o`: 0 CAN XL (identifier, SDT, data field), 1 10BASE-T1S (destination, EtherType,
payload). -/
def Device.outFrame (d : Device) (o : Nat) (record : List Byte) : List Byte :=
  if o = 0 then leBytes (d.rd Reg.OUT_CAN_ID) 2 ++ leBytes (d.rd Reg.OUT_SDT) 1 ++ record
  else beBytes (d.rd Reg.OUT_T1S_DEST_MAC) 6 ++ beBytes (d.rd Reg.OUT_ETHERTYPE) 2 ++ record

/-- Output `o` is configured. -/
def Device.outputSet (d : Device) (o : Nat) : Bool := if o = 0 then d.rd Reg.OUT_CAN != 0 else d.rd Reg.OUT_T1S != 0

/-- Hand a record to output `o`: the frame before it, unless it was dropped, has gone to the wire. -/
def Device.queueFrame (d : Device) (record : List Byte) (o : Nat) : Device :=
  if !d.outputSet o then d else
  d.onPlanning fun p =>
    let old := SMap.getD p.unsent o []
    { p with unsent := SMap.put p.unsent o (d.outFrame o record) [], sent := if old = [] then p.sent else SMap.put p.sent o old [] }

/-- A frame has not reached the wire in time (R341). -/
def Device.frameDropped (d : Device) (o : Nat) : Device :=
  if SMap.getD d.planning.unsent o [] = [] then d
  else (d.planEvent St.OUT_FRAME_DROPPED 8).onPlanning fun p => { p with unsent := SMap.put p.unsent o [] [] }

/-- The chosen record is written DONE and sent; the cycle ends (R332, R340 to R343). -/
def Device.recordDone (d : Device) (room intact : Bool) (env : MemEnv) : Device :=
  match d.planning.cycle with
  | none => d
  | some c =>
    match c.chosen with
    | none => d
    | some x =>
      if !d.worldRuns then d else
      let w := (d.toLookoutB x.trajectory x.fallback intact).worldWrites env [(d.trajBuffer c.instant, x.trajectory)]
      if !w.2 then w.1 else
      let d1 := w.1
      let d2 := (d1.queueFrame x.trajectory 0).queueFrame x.trajectory 1
      let d3 :=
        if d2.fn (.ring .trajOut) ≠ .on then d2
        else if !room || d2.ringPosted .trajOut = 0 then d2.planEvent St.PLAN_OUT_RING_SKIPPED 9
        else d2.ringPush .trajOut { bytes := x.trajectory }
      let d4 := (d3.onPlanning fun p => { p with cycle := none, outSeq := p.outSeq + 1 }).wrAll
        [(Reg.LAST_OUT_STATUS, leAt x.trajectory 6 2), (Reg.LAST_OUT_FLAGS, leAt x.trajectory 8 2),
         (Reg.OUT_SEQ, wrapTo 32 (d.planning.outSeq + 1))]
      let d5 := match x.job with
        | some j => d4.jobDone j 0 c.instant (d.trajBuffer c.instant)
        | none => d4
      d5.planSettle env

/-! ### Cycles (R331, R332) -/

/-- The largest i from 1 to n − 1 whose edge does not exceed `v`, or 0. -/
def edgeBin (h : List Byte) (o n : Nat) (v : Number) : Nat :=
  (List.range n).foldl (fun b i => if 0 < i ∧ nLe (nF32 (leAt h (o + 4 * i) 4)) v then i else b) 0

/-- A cycle begins with the fusion output of instant `k`, whose header is given; a cycle still open ends first. -/
def Device.cycleBegin (d : Device) (k : Nat) (header : List Byte) (room : Bool) (env : MemEnv) : Device :=
  let d0 := match d.planning.cycle with
    | some _ => ((d.planEvent St.PLAN_CYCLE_PREEMPTED 10).planDeadline env).recordDone room true env
    | none => d
  if d0.fn .planning ≠ .on then d0 else
  let r := d0.worldScan env [(d0.rd Reg.LATTICE_BASE, 256)]
  if !r.2 then r.1 else
  let d0 := r.1
  let h := d0.mem.bytes (d0.rd Reg.LATTICE_BASE) 256
  let bin := edgeBin h 64 (leAt h 6 1) (nF32 (leAt header 56 4)) * leAt h 7 1 + edgeBin h 192 (leAt h 7 1) (nF32 (leAt header 60 4))
  let c : Cycle := { instant := k, time := d0.instantTime k, bin := bin
                     ego := [nF64 (leAt header 32 8), nF64 (leAt header 40 8), nF32 (leAt header 52 4)] }
  let d1 := ((d0.takeSettings.onPlanning fun p => { p with cycle := some c, begun := true }).wr Reg.CYCLE_INSTANT k)
  match d1.planning.expandWait with
  | none => d1
  | some j =>
    let d2 := d1.onPlanning fun p => { p with expandWait := none }
    if j.arg = k % 2 ^ 32 then d2.expandStart c j env
    else if 0 < signExt 32 (ofInt 32 ((j.arg : Int) - k)) then d1
    else d2.jobDone j St.PLAN_CYCLE_MISMATCH

/-! ### Stopping and restarts (R344, R345) -/

/-- Planning drains: no new cycle begins. -/
def Device.planDrain (d : Device) (env : MemEnv) : Device :=
  let d1 := d.setFn .planning .draining
  let d2 := match d1.planning.expandWait with
    | some j => (d1.jobDone j St.FN_CANCELLED).onPlanning fun p => { p with expandWait := none }
    | none => d1
  d2.planSettle env

/-- The drain limit: what is left is cancelled (R344). -/
def Device.planCancel (d : Device) (room : Bool) (env : MemEnv) : Device :=
  if d.fn .planning ≠ .draining then d else
  let d1 := (d.planDeadline env).recordDone room true env
  if d1.fn .planning ≠ .draining then d1 else
  (d1.each d1.planning.builds fun d b => d.jobDone b.job St.FN_CANCELLED).planOff env

/-- A restart of the world region (R345): waiting jobs complete only towards cores whose region is not restarting. -/
def Device.planWorldRestart (d : Device) : Device :=
  let p := d.planning
  let jobs := p.expandWait.toList ++ p.builds.map (·.job) ++
    (match p.cycle with | some c => c.expandJob.toList ++ c.waiting.toList ++ (c.chosen.bind (·.job)).toList | none => [])
  let d1 := d.each (jobs.filter (fun j => !d.regionStopped (Region.ofNum (j.core / 16)))) fun d j => d.jobDone j St.FN_CANCELLED
  let d2 := ((d1.epochInvalid 0 {}).epochInvalid 1 {}).onPlanning fun p => { unsent := p.unsent, sent := p.sent }
  if d2.fn .planning = .on ∨ d2.fn .planning = .starting then d2.planStart
  else if d2.fn .planning = .draining then d2.planOff {} else d2

end Sys2Proof.Machine
end

