-- ==== Sys2Proof/Machine/WorldCmds.lean ====
section
/-!
DEFINITION. The commands of sensor ingest, fusion and planning (chapters 9 to 11) that come from a sensor, from the world
engine, or from a ring of theirs.
-/

namespace Sys2Proof.Machine

/-! ### Sensor ingest (chapter 9) -/

/-- FRAME_START (R272). -/
def execFrameStart (rx : Fin 16) (vc : Fin 32) (frame : BitVec 16) (hdr : HeaderEcc) (env : MemEnv) (s : State) :
    Host.Outcome State Fault Refusal := s.run fun d => d.frameStart rx vc frame.toNat hdr env

/-- LONG_PACKET (R270). -/
def execLongPacket (rx : Fin 16) (vc : Fin 32) (dt : BitVec 6) (payload : List Byte) (crcOk : Bool) (hdr : HeaderEcc)
    (room : Option (Fin 65536)) (env : MemEnv) (s : State) : Host.Outcome State Fault Refusal :=
  s.run fun d => d.longPacket rx vc dt.toNat payload crcOk hdr (room.map (·.val)) env

/-- FRAME_END (R266). -/
def execFrameEnd (rx : Fin 16) (vc : Fin 32) (hdr : HeaderEcc) (s : State) : Host.Outcome State Fault Refusal :=
  s.run fun d => d.frameEnd rx vc hdr

/-- SPI_DRDY (R277). -/
def execSpiDrdy (port : Fin 2) (data : List Byte) (room : Option (Fin 65536)) (env : MemEnv) (s : State) :
    Host.Outcome State Fault Refusal := s.run fun d => d.spiReady port data (room.map (·.val)) env

/-- A descriptor of the replay ring. -/
def Device.replayDescriptor (d : Device) (x : Descriptor) (addrOk : Bool) (payload : List Byte) (env : MemEnv) (full : Bool) : Device :=
  if !d.ringLive .replay || d.ringPosted .replay = 0 then d
  else if !x.usable addrOk then d.ringBad .replay x full
  else
    let r := d.replayData x payload env
    r.1.ringDone .replay x full r.2.1 r.2.2 0

/-- REPLAY (R276). -/
def execReplay (desc : Descriptor) (addrOk : Bool) (payload : List Byte) (env : MemEnv) (full : Bool) (s : State) :
    Host.Outcome State Fault Refusal := s.run fun d => d.replayDescriptor desc addrOk payload env full

/-- SAMPLE_COMPLETE (R267). -/
def execSampleComplete (slot : Fin 64) (corrupt room : Bool) (env : MemEnv) (s : State) : Host.Outcome State Fault Refusal :=
  s.run fun d => d.sampleComplete slot corrupt room env

/-- DROPOUT (R273). -/
def execDropout (slot : Fin 64) (env : MemEnv) (s : State) : Host.Outcome State Fault Refusal :=
  s.run fun d => d.dropout slot env

/-! ### The world engine's jobs (R293, R334) -/

/-- A job class of planning. -/
def isPlanning (cls : Nat) : Bool := 8 ≤ cls

/-- The function a job belongs to. -/
def jobFunction (cls : Nat) : FnId := if isPlanning cls then .planning else .fusion

/-- Why a job is not run while its function is not ON (R311, R344); 0 where it is. -/
def Device.jobRefusal (d : Device) (cls : Nat) : Code :=
  match d.fn (jobFunction cls) with
  | .on => 0
  | .draining => St.FN_CANCELLED
  | _ => if isPlanning cls then St.PLAN_NOT_ON else St.FUSION_NOT_ON

/-- The world engine takes the job at the front of the handoff queue, unless its region has stopped, fusion's input queue
is full, or 32 AWAIT_INSTANT jobs wait (R293, R295). -/
def Device.dispatchJob (d : Device) : Device :=
  match d.strm.handoff with
  | [] => d
  | j :: rest =>
    let taken := fun c => (d.world.taken.filter (fun x => x.cls == c)).length
    if d.regionStopped .world ∨ 256 ≤ d.fusion.lists.length + d.fusion.lateLists.length + taken 1 ∨ (j.cls = 2 ∧ 32 ≤ d.world.waits.length + taken 2) then d
    else
      let d1 := (d.onStrm fun s => { s with handoff := rest }).recent .handoff
      let c := d1.jobRefusal j.cls
      if c ≠ 0 then d1.jobDone j c else d1.onWorld fun w => { w with taken := w.taken ++ [j] }

/-- WORLD_JOB_DISPATCH (R106, R293). -/
def execWorldJobDispatch (s : State) : Host.Outcome State Fault Refusal := s.run Device.dispatchJob

/-- Run `f` on the first job taken of a class; nothing happens where there is none, where its region has stopped, or where
`busy` holds it back. A job taken before its function began to drain still runs (R311, R344). -/
def Device.withJob (d : Device) (cls : Nat) (busy : Bool) (f : Device → WorldJob → Device) : Device :=
  if busy || d.regionStopped .world then d else
  match d.world.taken.find? (fun j => j.cls == cls) with
  | none => d
  | some j =>
    let d1 := d.onWorld fun w => { w with taken := w.taken.erase j }
    let c := if d1.fn (jobFunction cls) = .draining then 0 else d1.jobRefusal cls
    if c ≠ 0 then d1.jobDone j c else f d1 j

/-- The world region restarts (R312, R345): jobs are completed, fusion and planning start again. -/
def Device.worldRestart (d : Device) : Device :=
  let told := d.world.taken.filter (fun j => !d.regionStopped (Region.ofNum (j.core / 16)))
  let d1 := (d.each told fun d j => d.jobDone j St.FN_CANCELLED).onWorld fun w => { w with taken := [] }
  d1.fusionWorldRestart.planWorldRestart

/-! ### Fusion (chapter 10) -/

/-- IMU_SAMPLE (R286). -/
def execImuSample (slot idx : Fin 64) (env : MemEnv) (s : State) : Host.Outcome State Fault Refusal :=
  s.run fun d => d.imuSample slot idx env

/-- WHEEL_SAMPLE (R287). -/
def execWheelSample (slot idx : Fin 64) (env : MemEnv) (s : State) : Host.Outcome State Fault Refusal :=
  s.run fun d => d.wheelSample slot idx env

/-- LIDAR_PACKET (R300). -/
def execLidarPacket (slot idx : Fin 64) (offset : BitVec 32) (env : MemEnv) (s : State) : Host.Outcome State Fault Refusal :=
  s.run fun d => d.lidarPacket slot idx offset.toNat env

/-- DETECTIONS (R296). -/
def execDetections (env : MemEnv) (s : State) : Host.Outcome State Fault Refusal :=
  s.run fun d => d.withJob 1 false fun d j => d.detections j env

/-- AWAIT_INSTANT (R295). -/
def execAwaitInstant (s : State) : Host.Outcome State Fault Refusal :=
  s.run fun d => d.withJob 2 false fun d j => d.awaitInstant j

/-- INSTANT_GUARD_CLOSED (R292). -/
def execInstantGuardClosed (env : MemEnv) (s : State) : Host.Outcome State Fault Refusal := s.run fun d => d.guardClose env

/-- The output of the oldest closed instant is DONE: a planning cycle begins. -/
def Device.instantOutput (d : Device) (room planRoom : Bool) (env : MemEnv) : Device :=
  let r := d.outputDone room env
  match r.2 with
  | none => r.1
  | some (k, header) => r.1.cycleBegin k header planRoom env

/-- INSTANT_OUTPUT_DONE (R309, R332). -/
def execInstantOutputDone (room planRoom : Bool) (env : MemEnv) (s : State) : Host.Outcome State Fault Refusal :=
  s.run fun d => d.instantOutput room planRoom env

/-- FUSION_START_TIMEOUT (R280). -/
def execFusionStartTimeout (s : State) : Host.Outcome State Fault Refusal := s.run Device.fusionTimeout

/-! ### Planning (chapter 11) -/

/-- LATTICE_UPLOAD (R329). -/
def execLatticeUpload (desc : Descriptor) (addrOk : Bool) (payload : List Byte) (env : MemEnv) (full : Bool) (s : State) :
    Host.Outcome State Fault Refusal := s.run fun d => d.latticeDescriptor desc addrOk payload env full

/-- BUILD (R320, R324). -/
def execBuild (env : MemEnv) (s : State) : Host.Outcome State Fault Refusal :=
  s.run fun d => d.withJob 8 false fun d j => d.buildJob j env

/-- BUILD_START (R323). -/
def execBuildStart (env : MemEnv) (s : State) : Host.Outcome State Fault Refusal := s.run fun d => d.buildStart env

/-- EPOCH_COMPLETE (R322). -/
def execEpochComplete (env : MemEnv) (s : State) : Host.Outcome State Fault Refusal := s.run fun d => d.epochComplete env

/-- An EXPAND or a SELECT runs, or the cycle's record is about to be sent. -/
def Device.expanding (d : Device) : Bool :=
  match d.planning.cycle with | some c => c.expand == .running || c.chosen.isSome | none => false

/-- A SELECT runs or waits. -/
def Device.selecting (d : Device) : Bool :=
  match d.planning.cycle with | some c => c.waiting.isSome || c.chosen.isSome | none => false

/-- EXPAND (R335). -/
def execExpand (env : MemEnv) (s : State) : Host.Outcome State Fault Refusal :=
  s.run fun d => d.withJob 9 (d.expanding || d.planning.expandWait.isSome) fun d j => d.expandJob j env

/-- EXPAND_DONE (R335). -/
def execExpandDone (env : MemEnv) (s : State) : Host.Outcome State Fault Refusal := s.run fun d => d.expandDone env

/-- SELECT (R336, R337). -/
def execSelect (env : MemEnv) (s : State) : Host.Outcome State Fault Refusal :=
  s.run fun d => d.withJob 10 d.selecting fun d j => d.selectJob j env

/-- PLAN_DEADLINE (R339). -/
def execPlanDeadline (env : MemEnv) (s : State) : Host.Outcome State Fault Refusal := s.run fun d => d.planDeadline env

/-- TRAJECTORY_RECORD_DONE (R340). -/
def execTrajectoryRecordDone (room intact : Bool) (env : MemEnv) (s : State) : Host.Outcome State Fault Refusal :=
  s.run fun d => d.recordDone room intact env

/-- OUT_FRAME_DROPPED (R341). -/
def execOutFrameDropped (output : Fin 2) (s : State) : Host.Outcome State Fault Refusal := s.run fun d => d.frameDropped output

end Sys2Proof.Machine
end

