-- ==== Sys2Proof/Machine/Functions.lean ====
section
/-!
DEFINITION. Functions (Table 2-13, R70 to R72, R486): the start, the drain and the drain limit of every function, as one
operation each, and what a write of an enable does.
-/

namespace Sys2Proof.Machine

/-! ### Field-network frames (Tables 2-8, 2-9, R66) -/

/-- A frame to a node: header and payload. `flags` are byte 5's LAST, SEG and STAGED. -/
def nodeFrame (cmd txn k flags : Nat) (payload : List Byte) : List Byte :=
  leBytes (0x10 + cmd) 1 ++ leBytes txn 1 ++ leBytes (k / 256) 2 ++ leBytes (k % 256) 1 ++ leBytes flags 1 ++ leBytes payload.length 2 ++
    payload

/-- Send a frame to a node. -/
def Device.sendNode (d : Device) (n : Fin 8) (frame : List Byte) : Device :=
  d.setReq (.node n) { d.req (.node n) with sent := frame }

/-- An ABORT: the status code in bits [31:16], the owner's code in bits [15:0]. -/
def Device.sendAbort (d : Device) (n : Fin 8) (txn k : Nat) (code owner : Code) : Device :=
  (d.bump Reg.ABORTS_SENT).sendNode n (nodeFrame 0xA txn k 4 (leBytes owner 2 ++ leBytes code 2))

/-- Close a node's session with an ABORT. -/
def Device.abortSession (d : Device) (n : Fin 8) (code : Code) : Device :=
  let q := d.req (.node n)
  match q.session with
  | .none => d
  | .reading txn k _ _ => (d.setReq (.node n) { q with session := .none }).sendAbort n txn k code 0
  | .writing txn k _ => (d.setReq (.node n) { q with session := .none }).sendAbort n txn k code 0

/-- The field-network nodes. -/
def allNodes : List (Fin 8) := [0, 1, 2, 3, 4, 5, 6, 7]

/-! ### Starts -/

/-- The Hamper's start: a geometry that breaks R179 to R184 leaves it OFF. -/
def Device.hamperStart (d : Device) : Device :=
  if d.hamperConfigOk then (d.hamperFill).setFn .hamper .on else (d.logEv St.HAMPER_CONFIG_INVALID 0).fnOff .hamper

/-- A ring starts; the lattice ring begins a new upload (R329). -/
def Device.ringBegin (d : Device) (r : RingId) : Device :=
  let d1 := d.ringStart r
  if r = .latticeUpload ∧ d1.fn (.ring r) = .on then d1.latticeBegin else d1

/-- A function enters STARTING. -/
def Device.fnStart (d : Device) (f : FnId) : Device :=
  match f with
  | .run => d
  | .fieldNet => d.setFn .fieldNet .on
  | .hamper => d.hamperStart
  | .scrub => d.setFn .scrub .on
  | .slot n => d.slotStart n
  | .fusion => d.fusionStart false
  | .planning => d.planStart
  | .job => d.jobStart
  | .link p => d.linkStart p
  | .guest => d.guestStart
  | .ring r => d.ringBegin r

/-! ### Drains -/

/-- A node's complete request waits for its crossing. -/
def Device.nodeWaits (d : Device) : Bool := allNodes.any fun n => (d.req (.node n)).crossing != .none

/-- The draining field-network service reads OFF once every complete transaction has finished (R72). -/
def Device.settleFieldNet (d : Device) : Device :=
  if d.fn .fieldNet = .draining ∧ !d.nodeWaits then d.fnOff .fieldNet else d

/-- The field-network service drains: each open segment session is aborted with 0x0101, complete transactions finish (R72). -/
def Device.fieldNetDrain (d : Device) : Device :=
  ((d.each allNodes fun d n => if (d.req (.node n)).crossing = .none then d.abortSession n St.FN_CANCELLED else d).setFn .fieldNet
    .draining).settleFieldNet

/-- The field-network service's drain limit: what still waits is cancelled (R70). -/
def Device.fieldNetCancel (d : Device) : Device :=
  if d.fn .fieldNet ≠ .draining then d else
  (d.each allNodes fun d n =>
    (d.setReq (.node n) { d.req (.node n) with crossing := .none, asked := none }).abortSession n St.FN_CANCELLED).fnOff .fieldNet

/-- A function enters DRAINING. -/
def Device.fnDrain (d : Device) (f : FnId) : Device :=
  match f with
  | .run => d.stopStream
  | .fieldNet => d.fieldNetDrain
  | .hamper => (d.setFn .hamper .draining).settleHamper
  | .scrub => d.fnOff .scrub
  | .slot n => d.slotDrain n
  | .fusion => d.fusionDrain
  | .planning => d.planDrain {}
  | .job => d.jobDrain
  | .link p => d.linkDrain p
  | .guest => d.guestDrain
  | .ring r => d.ringDrain r

/-- RUN's drain limit (R154): the DE operations outstanding are abandoned and raise no semaphore; the other engines' work
completes. -/
def Device.runCancel (d : Device) : Device :=
  if d.fn .run ≠ .draining then d else
  (d.each (List.range 64) fun d c => d.onCore c fun k =>
    { k with chans := [] }).settleHamper.runOff

/-- The Hamper's drain limit (R215). -/
def Device.hamperCancel (d : Device) : Device :=
  if d.fn .hamper ≠ .draining then d else
  (d.each (List.range 1024) fun d i => d.cancelWalk (i / 16) (i % 16)).fnOff .hamper

/-- A function's drain limit passes (R70). -/
def Device.fnCancel (d : Device) (f : FnId) (tags : List (BitVec 32)) (full room : Bool) (env : MemEnv) : Device :=
  match f with
  | .run => d.runCancel
  | .fieldNet => d.fieldNetCancel
  | .hamper => d.hamperCancel
  | .scrub => if d.fn .scrub = .draining then d.fnOff .scrub else d
  | .slot n => d.slotCancel n room env
  | .fusion => d.fusionCancel env
  | .planning => d.planCancel room env
  | .job => d.jobCancel
  | .link p => d.linkCancel p
  | .guest => d.guestCancel
  | .ring r => d.ringCancel r tags full

/-! ### Enables -/

/-- Before the personality is entered functions are held: rings while a configuration window is open, chip links until
after step 8, the others until RUN reaches ON (Table 3-2, R81, R83). -/
def Device.fnHeld (d : Device) (f : FnId) : Bool :=
  match f with
  | .ring _ => d.boot.window != .closed
  | .link _ => d.personality == .bivouac && !d.boot.warm && (d.rd Reg.TRAILHEAD_STEP ≤ 8 || d.rd Reg.TRAILHEAD_STEP == 20 || d.rd Reg.TRAILHEAD_STEP == 255)
  | _ => d.personality == .bivouac

/-- The refusal of an enable written in a state that does not take it (Table 2-13). -/
def Device.enableRefusal (d : Device) (f : FnId) (v : Nat) : Code :=
  if v = 1 ∧ (d.fn f = .draining ∨ d.fn f = .fault) then St.DICT_FN_NOT_OFF else 0

/-- A function in FAULT is cleared (Table 2-13); a slot leaves SLOTS_ACTIVE too. -/
def Device.fnClear (d : Device) (f : FnId) : Device :=
  match f with
  | .slot n => (d.setSlotState n .off).setEnable f 0
  | f => d.fnOff f

/-- An enable is written (Table 2-13). -/
def Device.writeEnable (d : Device) (f : FnId) (v : Nat) : Device :=
  let d1 := d.setEnable f v
  match d.fn f with
  | .off => if v = 1 ∧ !d.fnHeld f then d1.fnStart f else d1
  | .starting => if v = 0 then d1.fnDrain f else d1
  | .on => if v = 0 then d1.fnDrain f else d1
  | .draining => d1
  | .fault => if v = 0 then d1.fnClear f else d

/-- Every function but RUN and the rings, in the order in which they start. -/
def startOrder : List FnId :=
  [.fieldNet, .scrub, .hamper] ++ (List.finRange 64).map .slot ++ [.fusion, .planning, .job] ++ (List.finRange 4).map .link ++ [.guest]

/-- RUN has reached ON: the functions whose enable reads 1 start (R83). -/
def Device.startFunctions (d : Device) : Device :=
  d.each startOrder fun d f =>
    match f.enableKey with
    | some k => if d.rd k = 1 ∧ d.fn f = .off then d.fnStart f else d
    | none => d

/-! ### The commands -/

/-- DRAIN_LIMIT_EXPIRED (R70). -/
def execDrainLimitExpired (fn : FnId) (tags : List (BitVec 32)) (full room : Bool) (env : MemEnv) (s : State) :
    Host.Outcome State Fault Refusal := s.run fun d => d.fnCancel fn tags full room env

/-- RING_CPL_DISCARDED (R70). -/
def execRingCplDiscarded (ring : RingId) (s : State) : Host.Outcome State Fault Refusal := s.run fun d => d.ringDiscard ring

end Sys2Proof.Machine
end

