-- ==== Sys2Proof/Machine/Image.lean ====
section
/-!
DEFINITION. Program images (chapter 4, Tables 4-9 to 4-13): the header's fields, the checks of R103, R105, R124, R125, R128
and R156 in the order the model takes them, and the expansion of compressed streams. Everything here is a function of
the image's bytes.
-/

namespace Sys2Proof.Machine

/-! ### Fields of the header -/

/-- `n` bytes of an image from offset `a`. -/
def imgBytes (img : List Byte) (a n : Nat) : List Byte := (img.drop a).take n

/-- A little-endian number of `n` bytes at offset `a`. -/
def imgNat (img : List Byte) (a n : Nat) : Nat := leNat (imgBytes img a n)

/-- Every byte of a range is 0. -/
def imgZero (img : List Byte) (a n : Nat) : Bool := (imgBytes img a n).all (· == 0)

def imgContract (img : List Byte) : Nat := imgNat img 6 2
def imgStepping (img : List Byte) : Nat := imgNat img 8 1
def imgKind (img : List Byte) : Nat := imgNat img 9 1
def imgSchedDiv (img : List Byte) (r : Nat) : Nat := imgNat img (10 + r) 1
def imgSegments (img : List Byte) : Nat := imgNat img 14 2
def imgStreamLen (img : List Byte) : Nat := imgNat img 16 2
def imgVariants (img : List Byte) : Nat := imgNat img 18 2
def imgLength (img : List Byte) : Nat := imgNat img 24 8
def imgUsage (img : List Byte) : Nat := imgNat img (6848 + 2) 2
def imgSerial (img : List Byte) : Nat := imgNat img (6848 + 4) 4
def imgCustomer (img : List Byte) : Nat := imgNat img (6848 + 8) 8

/-- The header's bytes that are signed. -/
def imgSigned (img : List Byte) : List Byte := imgBytes img 0 8096

/-- FUNCTION_NAMES entry `i`. -/
def imgFnName (img : List Byte) (i : Nat) : List Byte := imgBytes img (7064 + 16 * i) 16

/-- Function `i` is declared (R128). -/
def imgDeclared (img : List Byte) (i : Nat) : Bool := imgNat img (7064 + 16 * i) 1 != 0

/-- Segment TYPE values (Table 4-11). -/
def segLanes : Nat := 1
def segChip : Nat := 2
def segDram : Nat := 3
def segLocal : Nat := 4
def segFwA : Nat := 5
def segFwB : Nat := 6

/-- A segment entry (Table 4-11). -/
structure Segment where
  typ : Nat
  flags : Nat
  offset : Nat
  length : Nat
  loadAddr : Nat
  digest : List Byte

/-- Segment entry `i`. -/
def imgSegment (img : List Byte) (i : Nat) : Segment :=
  let a := 704 + 96 * i
  { typ := imgNat img a 1, flags := imgNat img (a + 1) 1, offset := imgNat img (a + 8) 8, length := imgNat img (a + 16) 8,
    loadAddr := imgNat img (a + 24) 8, digest := imgBytes img (a + 32) 48 }

/-- The bytes of a segment. -/
def Segment.bytes (s : Segment) (img : List Byte) : List Byte := imgBytes img s.offset s.length

/-- HOST_SUPPLIED. -/
def Segment.hostSupplied (s : Segment) : Bool := bitAt s.flags 0

/-- Every segment, with its index. -/
def imgSegList (img : List Byte) : List (Nat × Segment) :=
  (List.range (min 64 (imgSegments img))).map (fun i => (i, imgSegment img i))

/-- A variant entry (Table 4-10). -/
structure Variant where
  mask : Nat
  entry : Nat
  restarts : List Nat
  laneSeg : Nat
  chipSeg : Nat
  functions : Nat

/-- Variant entry `v`. -/
def imgVariant (img : List Byte) (v : Nat) : Variant :=
  let a := 64 + 64 * v
  { mask := imgNat img a 8, entry := imgNat img (a + 8) 2,
    restarts := (List.range 6).map (fun j => imgNat img (a + 10 + 2 * j) 2),
    laneSeg := imgNat img (a + 22) 1, chipSeg := imgNat img (a + 23) 1, functions := imgNat img (a + 24) 4 }

/-- Every variant, with its index. -/
def imgVariantList (img : List Byte) : List (Nat × Variant) :=
  (List.range (min 8 (imgVariants img))).map (fun v => (v, imgVariant img v))

/-! ### Expansion (Table 4-13) -/

/-- The slots of a literal in record order: PRESENT bit, bytes, and the slot's lowest bit in the lane word. -/
def literalSlots : List (Nat × Nat × Nat) :=
  [(6, 12, 416), (5, 16, 288), (4, 12, 192), (3, 8, 128), (2, 4, 96), (1, 8, 32), (0, 4, 0)]

/-- Take the present slots of a literal: the word and the bytes left. -/
def takeSlots (present : Nat) : List (Nat × Nat × Nat) → List Byte → Option (Nat × List Byte)
  | [], l => some (0, l)
  | (b, n, lo) :: t, l =>
    if bitAt present b then
      if l.length < n then none
      else (takeSlots present t (l.drop n)).map (fun r => (r.1 + leNat (l.take n) * 2 ^ lo, r.2))
    else takeSlots present t l

/-- Expand a compressed stream from bundle address `a` on: the words that are not empty, in address order; none for a bad
record or a stream that does not expand to exactly `len` words. -/
def expandFrom (chip : Bool) (len : Nat) : Nat → List Byte → Nat → Option (SMap (BitVec 512))
  | 0, _, _ => none
  | _ + 1, [], a => if a = len then some [] else none
  | _ + 1, [_], _ => none
  | fuel + 1, b0 :: b1 :: rest, a =>
    let h := b0.toNat + 256 * b1.toNat
    if 32768 ≤ h then
      if h = 32768 ∨ len < a + (h - 32768) then none else expandFrom chip len fuel rest (a + (h - 32768))
    else if len ≤ a then none
    else
      let word := if chip then (if h = 0 ∧ 64 ≤ rest.length then some (leNat (rest.take 64), rest.drop 64) else none)
        else if h = 0 ∨ 128 ≤ h then none else takeSlots h literalSlots rest
      match word with
      | none => none
      | some (w, left) =>
        (expandFrom chip len fuel left (a + 1)).map (fun m => if w = 0 then m else (a, BitVec.ofNat 512 w) :: m)

/-- Expand a whole compressed stream. -/
def expand (chip : Bool) (len : Nat) (l : List Byte) : Option (SMap (BitVec 512)) := expandFrom chip len (l.length + 1) l 0

/-- A LANES segment's directory entry of core `c`: offset and length. -/
def laneEntry (seg : List Byte) (c : Nat) : Nat × Nat := (imgNat seg (8 * c) 4, imgNat seg (8 * c + 4) 4)

/-- Core `c`'s expanded lane. -/
def laneWords (seg : List Byte) (len c : Nat) : Option (SMap (BitVec 512)) :=
  let e := laneEntry seg c
  if e.1 + e.2 ≤ seg.length then expand false len (imgBytes seg e.1 e.2) else none

/-! ### Field checks (R105, R125, R156) -/

/-- Formats that Table 6-1 accepts as TE input, as DRAIN output, and in the VE. -/
def teInput (f : Nat) : Bool := bitAt 0x7FBF f
def drainOutput (f : Nat) : Bool := bitAt 0x7FFF f
def veFormat (f : Nat) : Bool := bitAt 0x007F f

/-- BF16 or FP16 (the 16-bit class). -/
def class16 (f : Nat) : Bool := f == 4 || f == 5

/-- A TE slot that breaks its tables (R125): an odd granule and K_STEPS 0 are outside the range that Tables 5-4, 5-6 and
7-8 give. Table 5-17 lists the same two at run time, and the operation's start judges them again (DEDUCED, log 101). -/
def teBad (t : Nat) : Bool :=
  let o := teOperands t
  match teOp t with
  | 0 => t != 0
  | 0x01 => tileBad o
  | 0x02 => tileBad o
  | 0x03 => !drainOutput (drainFmt o) || field o 55 0 != 0 || !evenGranule (drainDst o)
  | 0x10 =>
    let m := attnMode o
    (decide (m < 3) && attnReg o != 0) || field o 9 0 != 0 || !evenGranule (attnQ o) ||
      (decide (m < 2) && !evenGranule (attnFrame o)) || (decide (m < 3) && !evenGranule (attnRec o))
  | _ => true
where
  /-- MATMUL_TILE and CONV_TILE (Table 5-4, R156). -/
  tileBad (o : Nat) : Bool :=
    field o 5 0 != 0 || !teInput (tileFmtA o) || !teInput (tileFmtB o) || class16 (tileFmtA o) != class16 (tileFmtB o) ||
      tileK o == 0 || !evenGranule (tileA o) || !evenGranule (tileB o) || !evenGranule (tileMeta o)

/-- The VE operations of Table 5-7. -/
def veOps : List Nat := [1, 2, 3, 4, 5, 6, 7, 0x10, 0x11, 0x12, 0x20, 0x21, 0x30]

/-- A VE slot that breaks its tables. -/
def veBad (t : Nat) : Bool :=
  if veOp t = 0 then t != 0
  else
    let o := veOperands t
    !veOps.contains (veOp t) || !veFormat (veFmtIn o) || !veFormat (veFmtOut o) || field o 37 0 != 0

/-- A DE slot that breaks its tables. -/
def deBad (t : Nat) : Bool :=
  match deOp t with
  | 0 => t != 0
  | 1 => field (deOperands t) 60 0 != 0
  | 2 => field (deOperands t) 60 0 != 0
  | 3 => deOperands t != 0
  | 8 => field (deOperands t) 60 0 != 0
  | _ => true

/-- The SE operations of Table 5-10. -/
def seOps : List Nat := [1, 2, 3, 4, 5, 6, 7, 8, 9, 0x0A, 0x10, 0x11, 0x20, 0x21]

/-- An SE slot that breaks its tables. -/
def seBad (t : Nat) : Bool :=
  if seOp t = 0 then t != 0
  else !seOps.contains (seOp t) || field t 39 0 != 0 || (seOp t == 0x20 && decide (8 ≤ seRd t))

/-- A SYNC slot that breaks Table 4-4. -/
def syncBad (y : Nat) : Bool :=
  match syncOp y with
  | 0 => y != 0
  | 1 => field y 3 0 != 0
  | 2 => field y 3 0 != 0
  | 3 => field y 3 0 != 0
  | 4 => field y 3 0 != 0 || syncN y != 0 || field y 27 23 != 0
  | 5 => field y 3 0 != 0 || syncN y != 0 || field y 27 23 != 0
  | _ => true

/-- A NOC slot of core `c` that breaks Table 4-5 or sends outside the mask. -/
def nocBad (mask c z : Nat) : Bool :=
  match nocOp z with
  | 0 => z != 0
  | 1 => sendBad
  | 2 => field z 13 0 != 0
  | 3 => sendBad
  | _ => true
where
  sendBad : Bool := field z 13 0 != 0 || nocSendPeer z == c || !bitAt mask (nocSendPeer z)

/-- A lane word that the loader refuses. -/
def laneBad (mask c w : Nat) : Bool :=
  teBad (laneTe w) || veBad (laneVe w) || deBad (laneDe w) || seBad (laneSe w) || syncBad (laneSync w) || nocBad mask c (laneNoc w)

/-- The classes of world-engine jobs that fusion and planning take (R293, R334). -/
def jobClass (c : Nat) : Bool := c == 1 || c == 2 || c == 8 || c == 9 || c == 0xA

/-- A chip slot that the loader refuses with 0x0309. -/
def chipBad (mask w : Nat) : Bool :=
  field w 489 480 != 0 || field w 457 448 != 0 || field w 353 352 != 0 || field w 346 336 != 0 || field w 320 320 != 0 ||
  field w 317 0 != 0 ||
  decide (3 < brOp w) || (brOp w == 0 && field w 507 490 != 0) ||
  (rdOp w == 0 && field w 477 458 != 0) || ((rdOp w == 1 || rdOp w == 2) && rdCore w != 0) ||
  (rdOp w == 3 && !bitAt mask (rdCore w)) ||
  decide (1 < lpOp w) || (lpOp w == 0 && field w 445 416 != 0) ||
  decide (1 < whOp w) || (whOp w == 0 && field w 411 354 != 0) ||
  (whOp w == 1 && (!bitAt mask (whCore w) || !jobClass (whClass w))) ||
  (!wdEn w && wdStage w != 0) || (!twEn w && field w 334 321 != 0) || (twEn w && twLen w == 0) ||
  (brOp w != 0 && lpOp w == 1)

/-- A branch target or loop end out of range (0x030A). -/
def chipRange (len a w : Nat) : Bool :=
  (brOp w != 0 && decide (len ≤ brTarget w)) || (lpOp w == 1 && (decide (len ≤ lpEnd w) || decide (lpEnd w ≤ a)))

/-! ### The loader's checks (R124, Table 4-14) -/

/-- A refusal: its code and the parts of LOADER_DETAIL. -/
structure LoadError where
  code : Code
  seg : Nat := 0xFF
  core : Nat := 0
  addr : Nat := 0
deriving DecidableEq, Repr

/-- LOADER_DETAIL (0x3001:01). -/
def LoadError.detail (e : LoadError) : Nat := e.seg * 2 ^ 24 + e.core * 2 ^ 18 + e.addr

/-- Refuse where the condition holds. -/
def refuseIf (b : Bool) (e : LoadError) : Option LoadError := if b then some e else none

/-- Header fields in range and reserved bytes 0 (0x0302). -/
def headerBad (img : List Byte) : Bool :=
  let ns := imgSegments img
  let nv := imgVariants img
  decide (2 < imgKind img) || (List.range 4).any (fun r => decide (imgSchedDiv img r < 2) || decide (4 < imgSchedDiv img r)) ||
  ns == 0 || decide (64 < ns) || imgStreamLen img == 0 || decide (16384 < imgStreamLen img) || nv == 0 || decide (8 < nv) ||
  decide (imgLength img < 8192) || decide (img.length < 8192) ||
  !imgZero img 20 4 || !imgZero img 32 32 || !imgZero img (64 + 64 * nv) (512 - 64 * nv) || !imgZero img 576 128 ||
  !imgZero img (704 + 96 * ns) (6144 - 96 * ns) || !imgZero img 7576 520 ||
  (List.range nv).any (fun v => !imgZero img (64 + 64 * v + 28) 36)

/-- A segment entry that breaks Table 4-11 (0x0302). -/
def segmentBad (img : List Byte) (i : Nat) (s : Segment) : Bool :=
  s.typ == 0 || decide (6 < s.typ) || decide (1 < s.flags) || (s.hostSupplied && s.typ != segDram) ||
  !imgZero img (704 + 96 * i + 2) 6 || !imgZero img (704 + 96 * i + 80) 16 ||
  s.offset % 4096 != 0 || decide (s.offset < 8192) ||
  (if s.typ = segLocal then field s.loadAddr 7 6 != 0 || decide (2 ^ 32 ≤ s.loadAddr) else s.typ != segDram && s.loadAddr != 0)

/-- A certificate that breaks its form (0x0304, R124). -/
def certBad (img : List Byte) : Bool :=
  imgNat img 6848 2 != 1 || decide (8 ≤ imgUsage img) || !imgZero img (6848 + 113) 7

/-- KIND not allowed, or firmware segments not as R124 requires (0x0303). `overnight` and `service` say where the image is
to run. -/
def kindBad (img : List Byte) (overnight service : Bool) : Bool :=
  let k := imgKind img
  let count := fun t => ((imgSegList img).filter (fun p => p.2.typ == t)).length
  let fw := if k = 1 then 0 else 1
  !bitAt (imgUsage img) k || (if overnight then k != 1 else !(k == 0 || (k == 2 && service))) ||
  count segFwA != fw || count segFwB != fw

/-- A segment that lies outside the image, overlaps an earlier one, or loads outside its partition (0x0307, R219). -/
def boundsBad (img : List Byte) (i : Nat) (s : Segment) : Bool :=
  let lo := if imgKind img = 1 then 0x0600000000 else 0
  let hi := if imgKind img = 1 then 0x3000000000 else 0x0600000000
  decide (imgLength img < s.offset + s.length) ||
  (imgSegList img).any (fun p => decide (p.1 < i) && decide (s.offset < p.2.offset + p.2.length) &&
    decide (p.2.offset < s.offset + s.length)) ||
  (s.typ == segDram && (decide (s.loadAddr < lo) || decide (hi < s.loadAddr + s.length))) ||
  (s.typ == segLocal && decide (4194304 < s.loadAddr / 256 + s.length))

/-- A variant entry that breaks the variant table (0x030D). -/
def variantBad (img : List Byte) (v : Variant) : Bool :=
  let typ := fun i => if i < imgSegments img then (imgSegment img i).typ else 0
  v.mask == 0 || typ v.laneSeg != segLanes || typ v.chipSeg != segChip ||
  (List.range 32).any (fun i => bitAt v.functions i && !imgDeclared img i)

/-- The lowest address of a stream that meets a condition. -/
def badWord (m : SMap (BitVec 512)) (f : Nat → Nat → Bool) : Option Nat := (m.find? (fun p => f p.1 p.2.toNat)).map (·.1)

/-- The checks of one core's lane. -/
def laneError (img : List Byte) (v : Variant) (c : Nat) : Option LoadError :=
  let seg := (imgSegment img v.laneSeg).bytes img
  if !bitAt v.mask c then refuseIf ((laneEntry seg c).2 != 0) ⟨St.LD_UNUSED_LANE, v.laneSeg, c, 0⟩
  else
    match laneWords seg (imgStreamLen img) c with
    | none => some ⟨St.LD_LANE_ENCODING, v.laneSeg, c, 0⟩
    | some m => (badWord m (fun _ w => laneBad v.mask c w)).map (fun a => ⟨St.LD_ILLEGAL_FIELD, v.laneSeg, c, a⟩)

/-- The checks of the chip-slot stream. -/
def chipError (img : List Byte) (v : Variant) : Option LoadError :=
  match expand true (imgStreamLen img) ((imgSegment img v.chipSeg).bytes img) with
  | none => some ⟨St.LD_LANE_ENCODING, v.chipSeg, 0, 0⟩
  | some m =>
    match badWord m (fun _ w => chipBad v.mask w) with
    | some a => some ⟨St.LD_ILLEGAL_FIELD, v.chipSeg, 0, a⟩
    | none => (badWord m (fun a w => chipRange (imgStreamLen img) a w)).map (fun a => ⟨St.LD_TARGET_RANGE, v.chipSeg, 0, a⟩)

/-- The checks of one variant. -/
def variantError (img : List Byte) (v : Variant) : Option LoadError :=
  (refuseIf (variantBad img v) ⟨St.LD_VARIANT_TABLE, 0xFF, 0, 0⟩).or <|
  (refuseIf ((v.entry :: v.restarts).any (fun a => decide (imgStreamLen img ≤ a))) ⟨St.LD_TARGET_RANGE, 0xFF, 0, 0⟩).or <|
  (refuseIf (decide ((imgSegment img v.laneSeg).length < 512)) ⟨St.LD_LANE_ENCODING, v.laneSeg, 0, 0⟩).or <|
  ((List.range 64).findSome? (laneError img v)).or (chipError img v)

/-- Every check of an image, with Lookout B's verdicts on the certificate and on the signature (R124). `range` and
`stepping` are CONTRACT_RANGE and STEPPING. -/
def imageError (img : List Byte) (range stepping : Nat) (overnight service certOk sigOk : Bool) : Option LoadError :=
  (refuseIf (imgNat img 0 4 != 0x4D494B4E || imgNat img 4 2 != 1) ⟨St.LD_BAD_MAGIC, 0xFF, 0, 0⟩).or <|
  (refuseIf (headerBad img) ⟨St.LD_BAD_HEADER, 0xFF, 0, 0⟩).or <|
  ((imgSegList img).findSome? (fun p => refuseIf (segmentBad img p.1 p.2) ⟨St.LD_BAD_HEADER, p.1, 0, 0⟩)).or <|
  (refuseIf (decide (imgContract img < range % 65536) || decide (range / 65536 < imgContract img) || imgStepping img != stepping)
    ⟨St.LD_TARGET_MISMATCH, 0xFF, 0, 0⟩).or <|
  (refuseIf (certBad img || !certOk) ⟨St.LD_CERT_FAIL, 0xFF, 0, 0⟩).or <|
  (refuseIf (kindBad img overnight service) ⟨St.LD_KIND_REFUSED, 0xFF, 0, 0⟩).or <|
  (refuseIf (!sigOk) ⟨St.LD_SIG_FAIL, 0xFF, 0, 0⟩).or <|
  ((imgSegList img).findSome? (fun p => refuseIf (boundsBad img p.1 p.2) ⟨St.LD_SEGMENT_BOUNDS, p.1, 0, 0⟩)).or <|
  ((imgSegList img).findSome? (fun p => refuseIf (sha384 (p.2.bytes img) != p.2.digest) ⟨St.LD_DIGEST_FAIL, p.1, 0, 0⟩)).or <|
  (imgVariantList img).findSome? (fun p => variantError img p.2)

/-- Put a range into a list of ranges in rising order. -/
def insertRange (x : Nat × Nat) : List (Nat × Nat) → List (Nat × Nat)
  | [] => [x]
  | y :: t => if x.1 ≤ y.1 then x :: y :: t else y :: insertRange x t

/-- The ranges that a flash image awaits from the host, in image order (R88). -/
def hostRanges (img : List Byte) : List (Nat × Nat) :=
  ((imgSegList img).filter (fun p => p.2.hostSupplied && p.2.length != 0)).foldl
    (fun l p => insertRange (p.2.offset, p.2.offset + p.2.length) l) []

/-- Overwrite bytes of an image from offset `a`. -/
def imgPut (img : List Byte) (a : Nat) (l : List Byte) : List Byte := img.take a ++ l ++ img.drop (a + l.length)

end Sys2Proof.Machine
end

