-- ==== Sys2Proof/Machine/Loader.lean ====
section
/-!
DEFINITION. The loader (R124 to R129): image bytes as they arrive, an accepted image's entries and data, the expansion of
a variant's streams.
-/

namespace Sys2Proof.Machine

/-- The loader's last code and its detail (0x3001:00, :01). -/
def Device.loaderSays (d : Device) (e : LoadError) : Device := d.wrAll [(Reg.LOADER_STATUS, e.code), (Reg.LOADER_DETAIL, e.detail)]

/-- Every byte of the image has been received. -/
def imgComplete (img : List Byte) : Bool := decide (32 ≤ img.length) && decide (imgLength img ≤ img.length)

/-- The image that runs, or is to run. -/
def Device.runningImage (d : Device) : List Byte := if d.rd Reg.IMAGE_KIND = 1 then d.loader.tenant else d.loader.image

/-- Bytes of the image received so far. -/
def Device.bytesReceived (d : Device) : Nat :=
  if d.personality = .overnight then d.loader.upload.length
  else d.loader.image.length - (d.loader.awaited.map (fun p => p.2 - p.1)).sum

/-- IMAGE_BYTES_RECEIVED follows. -/
def Device.showReceived (d : Device) : Device := d.wr Reg.IMAGE_BYTES_RECEIVED d.bytesReceived

/-- The offset of the first byte that the loader awaits through the ring (R126); none when it awaits no byte. -/
def Device.expectedOffset (d : Device) : Option Nat :=
  if d.personality = .overnight then (if imgComplete d.loader.upload then none else some d.loader.upload.length)
  else if !d.loader.fetching then none
  else if d.loader.fromFlash then d.loader.awaited.head?.map (·.1)
  else if imgComplete d.loader.image then none else some d.loader.image.length

/-- Bytes from `off` are received: the ranges still awaited, none where a byte was not awaited. -/
def consume : List (Nat × Nat) → Nat → Nat → Option (List (Nat × Nat))
  | l, _, 0 => some l
  | [], _, _ + 1 => none
  | (a, b) :: t, off, n + 1 =>
    if off ≠ a then none
    else if off + (n + 1) < b then some ((off + (n + 1), b) :: t)
    else consume t b (off + (n + 1) - b)

/-- Image bytes arrive at the expected offset: false where they run into bytes that are not awaited. -/
def Device.receive (d : Device) (off : Nat) (bytes : List Byte) : Device × Bool :=
  if d.personality = .overnight then ((d.onLoader fun l => { l with upload := l.upload ++ bytes }).showReceived, true)
  else if d.loader.fromFlash then
    match consume d.loader.awaited off bytes.length with
    | none => (d, false)
    | some rest => ((d.onLoader fun l => { l with image := imgPut l.image off bytes, awaited := rest }).showReceived, true)
  else ((d.onLoader fun l => { l with image := l.image ++ bytes }).showReceived, true)

/-- The IMAGE_OFFSET of an upload descriptor, and whether its other OWNER bytes are 0 (R126). -/
def Descriptor.imageOffset (x : Descriptor) : Nat := leAt x.owner 0 8
def Descriptor.uploadForm (x : Descriptor) : Bool := zeroAt x.owner 8 6

/-- A descriptor of the upload ring (R126). -/
def Device.uploadDescriptor (d : Device) (x : Descriptor) (addrOk : Bool) (payload : List Byte) (full : Bool) : Device :=
  let r := RingId.programUpload
  let wrong (d : Device) : Device :=
    (d.loaderSays ⟨St.LD_UPLOAD_ORDER, 0xFF, 0, 0⟩).ringBad r x full St.LD_UPLOAD_ORDER
  if !d.ringLive r ∨ d.ringPosted r = 0 then d
  else if !x.usable addrOk || !x.uploadForm then d.ringBad r x full
  else if d.expectedOffset ≠ some x.imageOffset then wrong d
  else
    let got := d.receive x.imageOffset (padTo payload x.len.toNat)
    if got.2 then got.1.ringDone r x full 0 x.len.toNat 0 else wrong d

/-- The entries that an accepted image fills (Table 4-16). -/
def Device.publishImage (d : Device) (img : List Byte) : Device :=
  (d.wrAll [(Reg.IMAGE_KIND, imgKind img), (Reg.IMAGE_CONTRACT, imgContract img), (Reg.STREAM_LENGTH_LOADED, imgStreamLen img),
    (Reg.SCHED_DIV_LOADED, imgSchedDiv img 0 + imgSchedDiv img 1 * 2 ^ 4 + imgSchedDiv img 2 * 2 ^ 8 + imgSchedDiv img 3 * 2 ^ 12),
    (Reg.CERT_SERIAL, imgSerial img), (Reg.CUSTOMER_ID, imgCustomer img)]).wrBlob Reg.IMAGE_HEADER_DIGEST (sha384 (imgSigned img))

/-- The DRAM_DATA segments are written into memory (R124): the device, and the first segment with a write that is answered
with an error. -/
def Device.loadData (d : Device) (img : List Byte) (e : MemEnv) : Device × Option Nat :=
  (imgSegList img).foldl
    (fun r p =>
      if p.2.typ = segDram ∧ r.2 = none then
        let w := r.1.portWrite portLoader p.2.loadAddr (p.2.bytes img) [] false e
        (w.1, if w.2 = 0 then none else some p.1)
      else r)
    (d, none)

/-- The error of the image under the checks of R124 and R125, where the device stands. -/
def Device.judgeImage (d : Device) (img : List Byte) (certOk sigOk : Bool) : Option LoadError :=
  imageError img (d.rd Reg.CONTRACT_RANGE) (d.rd Reg.STEPPING) (d.personality == .overnight) (d.rd Reg.BOOT_PERSONALITY == 2) certOk sigOk

/-- An image is accepted, unless an error answer to the writes of a segment's data is treated as a digest that fails
(R244). -/
def Device.acceptImage (d : Device) (img : List Byte) (e : MemEnv) : Device × Option LoadError :=
  let r := d.loadData img e
  match r.2 with
  | some seg => (r.1, some ⟨St.LD_DIGEST_FAIL, seg, 0, 0⟩)
  | none => (r.1.publishImage img, none)

/-- A variant of the running image. -/
def Device.variant (d : Device) (v : Nat) : Variant := imgVariant d.runningImage v

/-- The words of a stream under their lane-store keys. -/
def laneKeys (c : Nat) (m : SMap (BitVec 512)) : SMap (BitVec 512) := m.map (fun p => (c * 16384 + p.1, p.2))

/-- Expand the lanes of the cores `cores` of variant `v` (R127); the other cores' words stay. -/
def Device.expandLanes (d : Device) (v : Variant) (cores : List Nat) : Device :=
  let img := d.runningImage
  let seg := (imgSegment img v.laneSeg).bytes img
  d.onStrm fun s => { s with
    lanes := cores.foldl (fun m c =>
        let words := if bitAt v.mask c then (laneWords seg (imgStreamLen img) c).getD [] else []
        (m.filter (fun p => p.1 < c * 16384)) ++ laneKeys c words ++ m.filter (fun p => (c + 1) * 16384 ≤ p.1)) s.lanes }

/-- Expand the chip-slot stream of variant `v`. -/
def Device.expandChip (d : Device) (v : Variant) : Device :=
  let img := d.runningImage
  d.onStrm fun s => { s with chip := (expand true (imgStreamLen img) ((imgSegment img v.chipSeg).bytes img)).getD [] }

/-- Write the LOCAL_INIT segments of the cores `cores` into their local memories (R127). -/
def Device.writeLocalInit (d : Device) (cores : List Nat) : Device :=
  let img := d.runningImage
  d.each (imgSegList img) fun d p =>
    let c := p.2.loadAddr % 64
    if p.2.typ = segLocal ∧ cores.contains c then d.onCore c fun k => k.write (p.2.loadAddr / 256 % 2 ^ 24) (p.2.bytes img) else d

end Sys2Proof.Machine
end

