-- ==== Sys2Proof/Machine/Start.lean ====
section
/-!
DEFINITION. Start-up (R76 to R93): resets, the steps of Trailhead, the configuration windows and the snapshot, the lane
roles, the variant choice, and RUN's way from STARTING to ON with every check made there.
-/

namespace Sys2Proof.Machine

/-! ### Resets (R76, R78) -/

/-- The entries that a Lookout holds, and BOOT_SRC_SAMPLED: a reset of the main chip leaves them (R18, R43). What a cold
Trailhead releases, the quarantines with their transients and tests, goes. -/
def keptCold (k : Nat) : Bool :=
  let i := k / 256
  match entryAt k with
  | some e =>
    e.kept && (i == 0x1001 || i == 0x1002 || i == 0x2103 || i == 0x2206 || i / 256 == 0x70 || i == 0x7202 || i / 256 == 0x73 ||
      i == 0x8004 || k == Reg.BOOT_SRC_SAMPLED)
  | none => false

/-- Lookout B streams the fallback from a reset in Drive, or goes on with a stream (R78, Table 12-10). -/
def Device.resetStream (d : Device) : Device :=
  if d.personality = .drive ∨ d.safety.streams ≠ [] then d.streamFor reasonReset else d

/-- Everything except the Lookouts is reset (R76). -/
def Device.coldReset (d : Device) : Device :=
  let d1 := d.resetStream
  let d2 : Device :=
    { dict := SMap.keep d1.dict keptCold, blobs := SMap.keep d1.blobs keptCold, host := d1.host, draws := d1.draws
      log := { inbox := d1.log.inbox.drop d.log.inbox.length }
      safety := { d1.safety with events := [], tests := [] }, power := { trip := d.power.trip }
      boot := { islA := d.boot.islA, islB := d.boot.islB, step1A := d.boot.step1A, step1B := d.boot.step1B, step2 := d.boot.step2
                romFailed := d.boot.romFailed, floorGood := d.boot.floorGood, cmpGood := d.boot.cmpGood
                resetHigh := d.boot.resetHigh } }
  ((d2.setCause .B causeTrailhead false).setCause .B causeWarm false).disarmAll

/-- A trip (R471): THERM_TRIP_N is latched low, Lookout B counts it, and the main chip is reset. -/
def Device.tripReset (d : Device) : Device :=
  (d.coldReset.addSat 32 Reg.TRIP_COUNT 1).onPower fun p => { p with trip := true }

/-- The floor is out of reset: step 3 has begun. -/
def Device.floorUp (d : Device) : Bool := d.boot.resetHigh && d.boot.floorGood && !d.power.trip

/-! ### Steps (R79, R80) -/

/-- STEP_TIMES: step `n`, or the configuration windows as 13, has taken `us`. -/
def Device.timeStep (d : Device) (n us : Nat) : Device :=
  let d1 := d.onBoot fun b => { b with times := SMap.put b.times n us 0 }
  d1.wrBlob Reg.STEP_TIMES ((List.range 13).map (fun i => leBytes (SMap.getD d1.boot.times (i + 1) 0) 4)).flatten

/-- Trailhead is at step `n`. -/
def Device.atStep (d : Device) (n : Nat) : Device := d.wr Reg.TRAILHEAD_STEP n

/-- The upload ring serves step 9 only, and Overnight (R126). -/
def Device.closeUpload (d : Device) : Device :=
  let d1 := d.onLoader fun l => { l with fetching := false }
  if d1.fn (.ring .programUpload) = .on then d1.ringDrain .programUpload else d1

/-- Trailhead stops (R93). -/
def Device.thStop (d : Device) (c : Code) (d0 : Nat) (d1 : Nat := 0) : Device :=
  ((((d.thCode c d0 d1).atStep 0xFF).setCause .B causeTrailhead true).closeUpload).onBoot fun b =>
    { b with window := .closed, hostWindow := false, closedOnce := b.closedOnce || b.window != .closed }

/-- Step 5 begins, unless a Lookout failed its step 1 (Table 3-7). -/
def Device.beginStep5 (d : Device) : Device :=
  let d1 := d.atStep 5
  let d2 := if bitAt d.boot.romFailed 0 then d1.thStop St.TH_LOOKOUT_ROM_FAIL 0xA else d1
  let d3 := if bitAt d.boot.romFailed 1 then d2.thStop St.TH_LOOKOUT_ROM_FAIL 0xB else d2
  if d.boot.romFailed % 4 = 0 then d3.onGuest fun _ => { training := true } else d3

/-- The islands' part of the first four steps is over, and the floor's (R79). -/
def Boot.islandsDone (b : Boot) : Bool := (b.step1A || bitAt b.romFailed 0) && (bitAt b.romFailed 1 || (b.step1B && b.step2))

/-- The lowest of steps 1 to 4 that is not over. -/
def Boot.earlyStep (b : Boot) : Nat :=
  if !(b.step1A || bitAt b.romFailed 0) || !(b.step1B || bitAt b.romFailed 1) then 1
  else if !b.islandsDone then 2 else if !b.step3 then 3 else 4

/-- What follows a step of the first four. -/
def Device.advanceEarly (d : Device) : Device :=
  if !d.floorUp ∨ 5 ≤ d.rd Reg.TRAILHEAD_STEP then d
  else if bitAt d.boot.romFailed 2 then d.thStop St.TH_PUF_FAIL 0
  else if d.boot.islandsDone ∧ d.boot.step3 ∧ d.boot.step4 then d.beginStep5
  else d.atStep d.boot.earlyStep

/-- Step 3 begins when RESET_N and PWR_GOOD_FLOOR are high (Table 3-1). -/
def Device.coldStart (d : Device) : Device :=
  if d.floorUp then ((d.powerCold).wr Reg.TRAILHEAD_KIND 0).advanceEarly else d

/-- The start-up window or the fallback window opens (R81, R89). Every function reads OFF in it: a chip-link port that has
begun to train is held until the window closes, and a ring that is ON drains. -/
def Device.openWindow (d : Device) (w : CfgWindow) (host : Bool) : Device :=
  let d1 := d.each (List.finRange 4) fun d p =>
    if d.fn (.link p) = .off then d else ((d.setFn (.link p) .off).wr (Reg.LINK_PHASE p) phaseDown).onLinkPort p fun _ => {}
  let d2 := d1.each RingId.all fun d r => if d.fn (.ring r) = .on then d.ringDrain r else d
  (d2.atStep 20).onBoot fun b => { b with window := w, hostWindow := host }

/-! ### The snapshot (R83) -/

/-- The entry's value is part of the snapshot. TRAIN_RECORD and AGE_RECORD are kept by their own rules. -/
def inSnapshot (k : Nat) : Bool :=
  match entryAt k with
  | some e =>
    (e.access == .rw || e.access == .rws || e.access == .rwb) && k != Reg.PERSONALITY_REQ && k != Reg.TRAIN_RECORD && k != Reg.AGE_RECORD &&
      !RingId.all.any (fun r => k == r.reg 1)
  | none => false

/-- Entries take the values of a snapshot. -/
def restoreDict (snap m : SMap Nat) : SMap Nat := snap.foldl (fun m p => SMap.put m p.1 p.2 (dictDefault p.1)) m
def restoreBlobs (snap m : SMap (List Byte)) : SMap (List Byte) := snap.foldl (fun m p => SMap.put m p.1 p.2 (blobDefault p.1)) m

/-- The snapshot is taken, or retaken, with the values that entries hold unused while RUN reads FAULT (R85). -/
def Device.takeSnapshot (d : Device) : Device :=
  (d.onBoot fun b => { b with snap := restoreDict b.parked (SMap.keep d.dict inSnapshot)
                              snapBlobs := restoreBlobs b.parkedBlobs (SMap.keep d.blobs inSnapshot) }).addSat 32 Reg.SNAPSHOT_GEN 1

/-! ### Step 6 (R90, R231) -/

/-- The masks of the snapshot are used where they map one-to-one. -/
def Device.chooseMap (d : Device) : Device :=
  if independentMasks ((List.range 12).map (fun i => d.rd (Reg.MAP_MASK i))) then d.wr Reg.MAP_IN_USE 0
  else (d.wr Reg.MAP_IN_USE 1).logEv St.DRAM_MAP_SINGULAR 0xFE

/-- The highest temperature of the stacks. -/
def Device.hottestStack (d : Device) : Int := (List.range 8).foldl (fun m s => max m (d.stackTemp s)) (d.stackTemp 0)

/-- A written TRAIN_RECORD that step 6 uses (R90). -/
def Device.trainRecordOk (d : Device) : Bool :=
  let b := d.blob Reg.TRAIN_RECORD
  b.length == 12352 && leAt b 0 4 == 0x52544B4E && leAt b 4 2 == 1 && leAt b 7 1 == 0 && leAt b 6 1 == d.rd Reg.STEPPING &&
    leAt b 8 8 == d.rd Reg.UNIQUE_ID && leAt b 60 4 == crc32 (b.take 60 ++ b.drop 64) &&
    decide (signExt 8 (leAt b 16 1) - d.hottestStack ≤ 20) && decide (d.hottestStack - signExt 8 (leAt b 16 1) ≤ 20)

/-- The record of a training (Table 3-6). -/
def Device.trainRecord (d : Device) (channels : List Byte) : List Byte :=
  let head := leBytes 0x52544B4E 4 ++ leBytes 1 2 ++ leBytes (d.rd Reg.STEPPING) 1 ++ zeros 1 ++ leBytes (d.rd Reg.UNIQUE_ID) 8 ++
    leBytes (ofInt 8 d.hottestStack) 1 ++ zeros 43
  let body := padTo channels 12288
  head ++ leBytes (crc32 (head ++ body)) 4 ++ body

/-- Every channel has been trained now, at its stack's temperature (R236). -/
def Device.trainedNow (d : Device) : Device :=
  d.onMem fun m => { m with
    trainedAt := (List.range 192).foldl (fun t k => SMap.put t k m.elapsed 0) []
    trainedTemp := (List.range 192).foldl (fun t k => SMap.put t k (d.stackTemp (k / 24)) 0) [] }

/-- Lookout B's random source gives the Drive partition and the work area their keys (R232). -/
def Device.newKeys (d : Device) : Device :=
  (d.onMem fun m => { m with driveKey := d.freeVal 512, workKey := d.drawn.freeVal 512 }).drawn.drawn

/-- Step 6 completes: DRAM is trained or restored, and zeroised through new keys. -/
def Device.dramStep (d : Device) (sensed : List Int) (failed : List Nat) (channels : List Byte) : Device :=
  let d1 := (d.each (List.zipIdx (sensed.take 8)) fun d p => d.setStackTemp p.2 p.1).chooseMap
  let written := d1.boot.trainWritten
  let ok := written && d1.trainRecordOk
  let d2 := if written && !ok then d1.logEv St.TH_TRAIN_RECORD_UNUSED 0 else d1
  let d3 := d2.each (List.range 8) fun d s => d.wr (Reg.STACK_TRAIN_STATE s) (if ok && !failed.contains s then 2 else 1)
  let kept := d3.trainRecord channels
  let d4 := (d3.wr Reg.TRAIN_RECORD_USE (bit1 ok)).wrBlob Reg.TRAIN_RECORD kept
  let d5 := d4.newKeys.wr Reg.ZEROISE_BUSY 0
  ((d5.onMem fun m => { m with dram := [], poison := [], cache := [], locked := [] }).trainedNow).onBoot fun b =>
    { b with trained := true, training := kept, trainWritten := false }

/-! ### Step 7 (R92, R363) -/

/-- Cores that fail the injection test leave the available mask. -/
def Device.failCores (d : Device) (l : List Nat) : Device :=
  d.each l fun d c => (d.onBoot fun b => { b with badCores := setBit b.badCores c true }).thCode St.TH_COMPARATOR_FAIL c

/-- Step 7 ended by its bound: what the ring oscillators read then is free (R476). -/
def Device.ageFree (d : Device) : Device :=
  ({ d with draws := d.draws + 4 }).ageStart ((List.range 4).map (fun i => Config.draw 32 (d.draws + i)))

/-! ### Step 8 (R422) -/

/-- Roles that take a pair (Table 14-1), and the number of a role at most. -/
def pairRole (r : Nat) : Bool := r == 1 || r == 3
def roleLimit (r : Nat) : Nat := if r = 1 then 4 else if r = 2 then 2 else 1

/-- The outcome of the role checks: each group's active role and status, and the codes in the order they arise. -/
structure RoleCheck where
  active : List Nat
  status : List Nat := List.replicate 12 0
  codes : List Code := []

/-- Group `g` with role `role` fails with a code: it, and the partner of a pair role, become UNUSED. -/
def RoleCheck.fail (x : RoleCheck) (role g : Nat) (c : Code) : RoleCheck :=
  if x.status.getD g 0 ≠ 0 then x else
  let partner := if g % 2 = 0 then g + 1 else g - 1
  { active := (if pairRole role then x.active.set partner 0 else x.active).set g 0, status := x.status.set g c, codes := x.codes ++ [c] }

/-- The role checks in their order: wiring, pairs, then the limits. -/
def roleCheck (role wiring : Nat → Nat) : RoleCheck :=
  let x1 := (List.range 12).foldl (fun x g =>
    if role g ≠ 0 ∧ wiring g ≠ role g then RoleCheck.fail x (role g) g St.LANE_WIRING_MISMATCH else x) { active := (List.range 12).map role }
  let x2 := (List.range 6).foldl (fun x i =>
    let a := role (2 * i)
    let b := role (2 * i + 1)
    if (pairRole a ∨ pairRole b) ∧ a ≠ b then (x.fail a (2 * i) St.LANE_STRUCTURE).fail b (2 * i + 1) St.LANE_STRUCTURE else x) x1
  let counted := fun (act : List Nat) (r g : Nat) =>
    ((List.range g).filter (fun h => act.getD h 0 == r && !(pairRole r && h % 2 == 1))).length
  (List.range 12).foldl (fun x g =>
    let r := x2.active.getD g 0
    if r = 0 ∨ (pairRole r ∧ g % 2 = 1) ∨ counted x2.active r g < roleLimit r then x
    else if pairRole r then (x.fail r g St.LANE_STRUCTURE).fail r (g + 1) St.LANE_STRUCTURE
    else x.fail r g St.LANE_STRUCTURE) x2

/-- The groups take the roles that pass; each failure gives 0x020C with its code. -/
def Device.assignRoles (d : Device) : Device :=
  let x := roleCheck (fun g => d.rd (Reg.LANE_ROLE g)) (fun g => d.rd (Reg.LANE_WIRING g))
  let d1 := d.each (List.range 12) fun d g =>
    d.wrAll [(Reg.LANE_ROLE_ACTIVE g, x.active.getD g 0), (Reg.LANE_ROLE_STATUS g, x.status.getD g 0)]
  d1.each x.codes fun d c => d.thCode St.TH_LANE_ROLE_FAIL c

/-- The chip-link ports whose enable reads 1 start to train (R425). -/
def Device.trainLinks (d : Device) : Device :=
  d.each (List.finRange 4) fun d p => if d.rd (Reg.LINK_ENABLE p) = 1 ∧ d.fn (.link p) = .off then d.linkStart p else d

/-! ### Steps 9 and 10 (R86 to R89, R124) -/

/-- Step 9 begins: the image comes from the source of this start. -/
def Device.beginFetch (d : Device) : Device :=
  (((d.atStep 9).wr Reg.BOOT_SRC_USED (bit1 (!d.boot.hostFetch))).onLoader fun l =>
    { l with image := [], awaited := [], fetching := true, fromFlash := !d.boot.hostFetch }).wr Reg.IMAGE_BYTES_RECEIVED 0

/-- Steps 6 to 8 are over. -/
def Device.lanesStep (d : Device) : Device := d.assignRoles.trainLinks.beginFetch

/-- Step 9 or 10 has failed: a flash image with BOOT_SRC 0b10 opens the fallback window, else Trailhead stops (R89). -/
def Device.imageFailed (d : Device) (c : Code) (d0 : Nat) : Device :=
  if d.rd Reg.BOOT_SRC_SAMPLED = 2 ∧ !d.boot.hostFetch then
    ((((d.thCode c d0).closeUpload).openWindow .fallback true).onBoot fun b => { b with hostFetch := true })
  else d.thStop c d0

/-- Every image byte has come: step 10. -/
def Device.fetched (d : Device) (us : Nat) : Device := ((d.timeStep 9 us).closeUpload).atStep 10

/-- The bytes that the flash may be read for: 256 MiB (Table 3-5). -/
def flashReadable : Nat := 2 ^ 28

/-- The bytes that the flash holds at IMAGE_OFFSET, as far as it is readable: host-supplied segments read 0 and are awaited
(R87, R88). -/
def Device.flashImage (d : Device) (bytes : List Byte) (us : Nat) : Device :=
  let img := (bytes.take (flashReadable - d.loader.flashAt)).take (imgLength bytes)
  if !imgComplete img then d.imageFailed St.TH_FETCH_FAIL 0
  else
    let await := hostRanges img
    let d1 := (d.onLoader fun l => { l with image := await.foldl (fun m r => imgPut m r.1 (zeros (r.2 - r.1))) img, awaited := await }).showReceived
    if await = [] then d1.fetched us else d1

/-- Step 9 is complete once nothing is awaited. -/
def Device.hostImage (d : Device) (us : Nat) : Device :=
  if imgComplete d.loader.image ∧ d.loader.awaited = [] then d.fetched us else d

/-- Step 10: the image is accepted, or refused with the step code of its loader code (R129). -/
def Device.verifyStep (d : Device) (certOk sigOk : Bool) (e : MemEnv) (us : Nat) : Device :=
  let img := d.loader.image.take (imgLength d.loader.image)
  let d1 := d.timeStep 10 us
  let refuse (d : Device) (x : LoadError) : Device :=
    (d.loaderSays x).imageFailed (if x.code = St.LD_TARGET_MISMATCH then St.TH_IMAGE_MISMATCH else St.TH_SIGNATURE_FAIL) x.code
  match d1.judgeImage img certOk sigOk with
  | some x => refuse d1 x
  | none =>
    match (d1.onLoader fun l => { l with image := img }).acceptImage img e with
    | (d2, some x) => refuse d2 x
    | (d2, none) => (d2.onBoot fun b => { b with cmpTaken := b.cmpGood }).atStep 11

/-! ### Step 11 (R77, R91, R92) -/

/-- The available-core mask. -/
def Device.available (d : Device) : Nat :=
  (List.range 64).foldl (fun m c =>
    if bitAt d.boot.badCores c || !bitAt d.boot.cmpTaken (c / 16) || bitAt (d.rd Reg.QUARANTINE_MASK) c then m else setBit m c true) 0

/-- The first variant that fits the mask; 0xFF for none. -/
def fittingVariant (img : List Byte) (avail : Nat) : Nat :=
  (((imgVariantList img).find? (fun p => decide (Nat.land p.2.mask avail = p.2.mask))).map (·.1)).getD 0xFF

/-- Each compute region takes the mode written for it (R91); a start does so, cold or warm. -/
def Device.takeModes (d : Device) : Device :=
  d.wr Reg.REGION_MODE_ACTIVE ((List.range 4).foldl (fun m r =>
    m + bit1 (d.rd (Reg.REGION_MODE r) == 1) * 2 ^ r + bit1 (bitAt d.boot.cmpTaken r) * 2 ^ (4 + r)) 0)

/-- The variant of the running image is chosen. -/
def Device.chooseVariant (d : Device) : Device :=
  let v := fittingVariant d.runningImage d.available
  let d1 := d.wrAll [(Reg.AVAIL_CORE_MASK, d.available), (Reg.VARIANT_IN_USE, v)]
  if v = 0xFF then d1.thCode St.TH_NO_VARIANT 0 else d1

/-! ### RUN STARTING (R223, R247, R385, R436, R457) -/

/-- The first failing check of the memory configuration, as DETAIL0 of 0x070E (R223, R247). -/
def Device.memConfig (d : Device) : Option Nat :=
  let part := fun i => d.rd (Reg.PART i)
  let valid := fun i => partValid (part i)
  let cached := fun i => decide (i < 8) && valid i && !partLocked (part i)
  let shared := ((List.range 8).flatMap (fun i => (List.range 8).map (fun j => (i, j)))).find?
    (fun p => decide (p.1 < p.2) && valid p.1 && valid p.2 && Nat.land (partWays (part p.1)) (partWays (part p.2)) != 0)
  let port := (List.range 79).find? (fun p => d.rd (Reg.PORT_CACHE_PARTITION p) != 0xFF && !cached (d.rd (Reg.PORT_CACHE_PARTITION p)))
  let allow := (List.range 15).map (fun i => d.rd (Reg.PORT_READ_ALLOWANCE (64 + i)))
  match shared with
  | some p => some (1 * 65536 + p.2)
  | none =>
    if !(List.range 8).any cached then some (2 * 65536 + 0xFFFF)
    else match port with
      | some p => some (3 * 65536 + p)
      | none =>
        if 4096 < allow.sum then some (4 * 65536 + 0xFFFF)
        else (allow.findIdx? (· == 0)).map (fun i => 5 * 65536 + (64 + i))

/-- The first failing entry of the safety configuration (R385), as its dictionary key. -/
def Device.safetyConfig (d : Device) : Option Nat :=
  let a := d.rd Reg.SHED_ADDR
  let declared := fun s => bitAt (d.rd Reg.WD_STAGES) s
  let meets := rangesMeet a 64 (d.rd Reg.OUT_BASE) (d.rd Reg.OUT_COUNT * outBytes) || rangesMeet a 64 (d.rd Reg.TRAJ_BASE) 4096 ||
    rangesMeet a 64 (d.rd Reg.SURV_BASE) 40960 ||
    (List.range 64).any (fun n =>
      rangesMeet a 64 (d.rd (Reg.SLOT_BUF_BASE n)) (d.rd (Reg.SLOT_BUF_BYTES n) * d.rd (Reg.SLOT_BUF_COUNT n)) ||
        (d.rd (Reg.SLOT_BUF_BYTES n) != 0 && rangesMeet a 64 (d.rd (Reg.SLOT_REC_BASE n)) (64 * d.rd (Reg.SLOT_BUF_COUNT n))))
  let node := fun n => d.rd (Reg.NODE_CFG n)
  let ids := d.rd Reg.OUT_CAN_ID ::
    ((List.range 8).filter (fun n => bitAt (node n) 31)).flatMap (fun n => [field (node n) 10 0, d.rd (Reg.NODE_RESP_ID n)])
  let checks : List (Nat × Bool) :=
    [(Reg.SHED_ADDR, !inWorkArea a 64 || meets), (Reg.SHED_ORDER, d.shedOrder.any (fun s => decide (16 ≤ s) || !declared s)),
     (Reg.FRAME_STAGE, !declared (d.rd Reg.FRAME_STAGE))] ++
    (List.range 16).map (fun s => (Reg.WD_MIN_US s, declared s && decide (d.rd (Reg.WD_MAX_US s) ≤ d.rd (Reg.WD_MIN_US s)))) ++
    [(Reg.CAN_MODE 1, d.rd (Reg.CAN_MODE 1) != 0), (Reg.FALLBACK_CAN_ID, ids.contains (d.rd Reg.FALLBACK_CAN_ID))]
  (checks.find? (·.2)).map (·.1)

/-- The first failing binding or route (R436), as the dictionary key of its entry. -/
def Device.linkConfig (d : Device) : Option Nat :=
  let bind := fun i => d.rd (Reg.EP_BIND (i / 3) (i % 3))
  let place := fun i => (bitAt (bind i) 30, field (bind i) 23 16)
  let clash := (List.range 192).find? (fun i =>
    bitAt (bind i) 31 && (List.range i).any (fun j => bitAt (bind j) 31 && place i == place j))
  let route := (List.range 64).find? (fun i =>
    let v := d.rd (Reg.ROUTE i)
    bitAt v 7 && !(decide (v % 8 < 4) || (v % 8 == 4 && i == d.ownId)))
  match clash with
  | some i => some (Reg.EP_BIND (i / 3) (i % 3))
  | none => route.map Reg.ROUTE

/-- The first failing check when RUN enters STARTING: its code and DETAIL0. `silent` lists the rails that do not answer. -/
def Device.runFault (d : Device) (silent : List Nat) : Option (Code × Nat) :=
  match d.memConfig with
  | some x => some (St.MEM_CONFIG_INVALID, x)
  | none => match d.safetyConfig with
    | some x => some (St.SAFETY_CONFIG_INVALID, x)
    | none => match d.linkConfig with
      | some x => some (St.LINK_CONFIG_INVALID, x)
      | none => (d.powerConfig silent).map (fun x => (St.PT_CONFIG_INVALID, x))

/-! ### RUN ON (R127, R128, R175) -/

/-- The seed of core `n`'s generator: its LFSR_SEED, or a nonzero value of Lookout B's random source (R175). -/
def Device.seedCore (d : Device) (n : Nat) : Device :=
  if d.rd Reg.SEED_SOURCE = 0 then d.onCore n fun k => { k with lfsr := d.rd (Reg.LFSR_SEED n) }
  else (d.onCore n fun k => { k with lfsr := max 1 (d.freeVal 32) }).drawn

/-- The generators of the cores are seeded. SEED_GEN counts one for the event, not one for each generator (DESIGN CHOICE,
log 103). -/
def Device.seedCores (d : Device) (l : List Nat) : Device := (d.each l fun d n => d.seedCore n).bumpWrap Reg.SEED_GEN

/-- The entries of the image's functions under the variant's FUNCTIONS (R128). -/
def Device.publishFunctions (d : Device) (functions : Nat) : Device :=
  let img := d.runningImage
  d.each (List.range 32) fun d i =>
    let placed := imgDeclared img i && bitAt functions i
    let d1 := (d.wr (Reg.FUNC_PLACED i) (bit1 placed)).wrBlob (Reg.FUNC_NAME i) (if imgDeclared img i then imgFnName img i else zeros 16)
    if imgDeclared img i && !placed then
      (d1.wrAll [(Reg.FUNC_STATE i, 4), (Reg.FUNC_STATUS i, St.PG_FN_NOT_PLACED)]).logEv St.PG_FN_NOT_PLACED i
    else d1.wrAll [(Reg.FUNC_STATE i, 0), (Reg.FUNC_STATUS i, 0)]

/-- The state that a core has when RUN reaches ON. -/
def Device.coreStart (d : Device) (mask c : Nat) : Device :=
  d.wr (Reg.CORE_STATE c) (if bitAt (d.rd Reg.QUARANTINE_MASK) c then coreQuarantined else if bitAt mask c then coreRunning else coreNotPlaced)

/-- RUN reaches ON with the chosen variant: lanes are expanded, local memories initialised, and the stream starts. -/
def Device.runOn (d : Device) : Device :=
  let v := d.variant (d.rd Reg.VARIANT_IN_USE)
  let all := List.range 64
  let d1 := ((d.onStrm fun s => { s with coreMask := v.mask, windows := [], skid := [] }).expandLanes v all).expandChip v
  let d2 := ((d1.writeLocalInit (bitList v.mask 64)).each all fun d c => d.coreStart v.mask c).seedCores all
  let d3 := (d2.publishFunctions v.functions).startStream v.entry
  let d4 := d3.each (List.range 79) fun d p => d.newWindow p
  (d4.setFn .run .on).tellFunctions

/-- The port that 0x070E concerns, or 0xFE (R245, R247). -/
def memConfigPort (x : Nat) : Nat := if x / 65536 = 3 ∨ x / 65536 = 5 then x % 65536 else 0xFE

/-- RUN enters FAULT in the present personality (R85). -/
def Device.runFaults (d : Device) : Device := (d.setFn .run .fault).onBoot fun b => { b with faultedIn := d.personality.code }

/-- RUN enters STARTING, and ON or FAULT; from FAULT it does not start (R85). -/
def Device.runStart (d : Device) (silent : List Nat) : Device :=
  if d.fn .run = .fault then d else
  let d1 := d.setFn .run .starting
  if d1.rd Reg.VARIANT_IN_USE = 0xFF then (d1.publishFunctions 0).runFaults.tellFunctions else
  match d1.runFault silent with
  | some x => (d1.runFaults.logEv x.1 (if x.1 = St.MEM_CONFIG_INVALID then memConfigPort x.2 else 0) x.2).tellFunctions
  | none => d1.runOn.startFunctions

/-- The safety firmware of a Lookout starts (step 12). -/
def Device.startFirmware (d : Device) (i : Island) (version : Nat) : Device :=
  if d.islUp i then (d.onIsl i fun x => { x with firmware := true }).wr (match i with
    | .A => Reg.LOOKOUT_A_FW_VERSION | .B => Reg.LOOKOUT_B_FW_VERSION) version else d

/-- Step 12: the personality is entered, with EXPERT_ENABLE cleared (R45); a Lookout whose safety firmware does not start
stops Trailhead with detail 1 or 2 (Table 3-7). -/
def Device.entryStep (d : Device) (fwA fwB : Nat) (silent : List Nat) (us : Nat) : Device :=
  let p := d.rd Reg.BOOT_PERSONALITY
  if !d.islUp .A then d.thStop St.TH_ENTRY_FAIL 1
  else if !d.islUp .B then d.thStop St.TH_ENTRY_FAIL 2
  else
    let d1 := (((d.startFirmware .A fwA).startFirmware .B fwB).timeStep 12 us).atStep 13
    (d1.wrAll [(Reg.PERSONALITY_NOW, p), (Reg.PERSONALITY_REQ, p), (Reg.EXPERT_ENABLE, 0)]).runStart silent

/-! ### The windows' end (R81, R83, R89) -/

/-- The rings whose enable was written 1 in the window start as it closes (R81). -/
def Device.startRings (d : Device) : Device :=
  d.each RingId.all fun d r => if d.rd (r.reg 1) = 1 ∧ d.fn (.ring r) = .off then d.ringBegin r else d

/-- The open window closes: the snapshot is taken, and the steps go on. How long the window lasted is free.
ZEROISE_BUSY shows the whole of step 6, of which zeroisation is a part (DESIGN CHOICE, log 105). -/
def Device.closeWindow (d : Device) : Device :=
  let fallback := d.boot.window == .fallback
  let us := SMap.getD d.boot.times 13 0 + d.freeVal 24
  let d1 := ((d.drawn.timeStep 13 us).takeSnapshot).onBoot fun b => { b with window := .closed, hostWindow := false, closedOnce := true }
  if fallback then d1.startRings.beginFetch.trainLinks else (d1.startRings.atStep 6).wr Reg.ZEROISE_BUSY 1

/-- CFG_GO is accepted: a host window is open. -/
def Device.cfgOpen (d : Device) : Bool := d.boot.window != .closed && d.boot.hostWindow

/-- The flash record cannot be used, from the entry `at` on (R82, R89). -/
def Device.recordRefused (d : Device) (i : Nat) : Device :=
  if d.rd Reg.BOOT_SRC_SAMPLED = 2 then
    (d.thCode St.TH_CFG_RECORD_REFUSED i).onBoot fun b => { b with hostWindow := true, hostFetch := true }
  else d.thStop St.TH_CFG_RECORD_REFUSED i

/-- Step 5 has trained the I/O dies: the window opens, or BOOT_SRC 0b11 stops the start (Table 3-4). -/
def Device.ucieStep (d : Device) : Device :=
  let src := d.rd Reg.BOOT_SRC_SAMPLED
  let d1 := d.onBoot fun b => { b with ioUp := true, hostFetch := src == 0 }
  if src = 3 then d1.thStop St.TH_BOOT_SRC_RESERVED 0 else d1.openWindow .startup (src == 0)

/-! ### A step that fails (Table 3-7) -/

/-- Step 1 fails on a Lookout. -/
def Device.romFail (d : Device) (i : Island) : Device :=
  ((d.onBoot fun b => { b with romFailed := setBit b.romFailed i.num true }).setCause i causeRom true).advanceEarly

/-- Trailhead step `step` fails or passes its bound; `detail` says where (Table 3-7). A step that is not in progress has no
effect. -/
def Device.stepFail (d : Device) (step detail : Nat) : Device :=
  let now := d.rd Reg.TRAILHEAD_STEP
  match step with
  | 0 => if now = 20 ∧ !d.boot.hostWindow then d.recordRefused detail else d
  | 1 =>
    let i := if detail = 0xA then Island.A else Island.B
    let done := match i with | .A => d.boot.step1A | .B => d.boot.step1B
    if d.islReleased i ∧ !done then d.romFail i else d
  | 2 =>
    if d.boot.step1B ∧ !d.boot.step2 then (d.onBoot fun b => { b with romFailed := setBit b.romFailed 2 true }).advanceEarly else d
  | 3 =>
    if d.floorUp ∧ !d.boot.step3 ∧ now < 5 then
      ((d.thStop St.TH_PLL_NO_LOCK detail).setCause .A causeClock true).setCause .B causeClock true
    else d
  | 4 => if d.boot.step3 ∧ !d.boot.step4 ∧ now < 5 then d.thStop St.TH_FLOOR_INIT_FAIL detail else d
  | 5 => if now = 5 then d.thStop St.TH_IOD_TRAIN_FAIL detail else d
  | 6 => if now = 6 then ((d.wr Reg.ZEROISE_BUSY 0).wr (Reg.STACK_TRAIN_STATE (detail / 256 % 8)) 4).thStop St.TH_DRAM_TRAIN_FAIL detail else d
  | 7 => if now = 7 then ((d.failCores [detail % 64]).ageFree).atStep 8 else d
  | 8 => if now = 8 then (d.thCode St.TH_LANE_ROLE_FAIL detail).lanesStep else d
  | 9 => if now = 9 then d.imageFailed St.TH_FETCH_FAIL detail else d
  | 10 => if now = 10 then d.imageFailed St.TH_SIGNATURE_FAIL detail else d
  | 11 => if now = 11 then ((d.wr Reg.VARIANT_IN_USE 0xFF).thCode St.TH_NO_VARIANT detail).atStep 12 else d
  | _ => if now = 12 then d.thStop St.TH_ENTRY_FAIL detail else d

end Sys2Proof.Machine
end

