-- ==== Sys2Proof/Machine/Restarts.lean ====
section
/-!
DEFINITION. Personality transitions and restarts (R94 to R101, Tables 3-8 to 3-10, 13-6): the edges and their ends, the
region restart, the chip warm restart.
-/

namespace Sys2Proof.Machine

/-- The personality has been entered and no failed restart holds the device. -/
def Device.started (d : Device) : Bool := d.rd Reg.TRAILHEAD_STEP == 13 && !d.boot.held && !d.boot.warm

/-- The transition is over: its duration and its code (0x2002:03, :04). -/
def Device.transitionOver (d : Device) (us : Nat) (code : Code) : Device :=
  (d.wrAll [(Reg.LAST_TRANSITION_US, us), (Reg.LAST_TRANSITION_STATUS, code)]).setTransition .none

/-- A personality is entered: PERSONALITY_REQ reads it, and EXPERT_ENABLE is cleared (R45, R83). -/
def Device.enterPersonality (d : Device) (p : Personality) : Device :=
  d.wrAll [(Reg.PERSONALITY_NOW, p.code), (Reg.PERSONALITY_REQ, p.code), (Reg.EXPERT_ENABLE, 0)]

/-! ### The Drive edges (R96) -/

/-- The functions that an edge out of Drive drains; the guest and the rings of Drive's functions among them. -/
def driveFunctions : List FnId :=
  [.planning, .fusion] ++ (List.finRange 64).map .slot ++
    [.ring .capture, .ring .replay, .ring .fusionOut, .ring .trajOut, .ring .latticeUpload]

/-- The functions of an edge; Overnight drains the guest too (R442). -/
def Device.edgeFunctions (d : Device) : List FnId :=
  if d.transition = .enterService then driveFunctions else .guest :: driveFunctions

/-- The function is neither ON nor on its way to ON or OFF. -/
def Device.atRest (d : Device) (f : FnId) : Bool := d.fn f == .off || d.fn f == .fault

/-- RUN and the functions of the edge drain. -/
def Device.edgeDrain (d : Device) : Device :=
  let d1 := if d.fn .run = .on then d.stopStream else d
  d1.each d.edgeFunctions fun d f => if d.fn f = .on ∨ d.fn f = .starting then d.fnDrain f else d

/-- An edge out of Drive waits for the planning cycle in progress, then drains (R96). -/
def Device.edgeStep (d : Device) : Device :=
  if (d.transition = .enterOvernight ∨ d.transition = .enterService ∨ (d.transition = .yielding ∧ d.personality = .drive)) ∧
      d.planning.cycle = none then d.edgeDrain else d

/-- An edge out of Drive begins. -/
def Device.edgeBegin (d : Device) (t : Transition) : Device :=
  ((d.setTransition t).onBoot fun b => { b with begunIn := 0 }).edgeStep

/-- The locked window and the rest of the floor cache are cleared (R225). -/
def Device.clearFloorCache (d : Device) : Device := d.zeroLocked.onMem fun m => { m with cache := [] }

/-- The code of an Overnight edge: 0x0214 where no coolant confirmation was there. -/
def Device.overnightCode (d : Device) : Code := if d.coolantStatus = 0 then 0 else St.TR_CAP_NOT_CONFIRMED

/-- Overnight is entered (R95, R98, R400, Table 3-8): DIV_POWER follows the new ceilings, so that each divisor becomes its
ARITH_DIV_OVERNIGHT value unless a slower term of R460 holds it. DEDUCED. -/
def Device.overnightEnter (d : Device) (us : Nat) : Device :=
  let d1 := ((d.wrAll [(Reg.DRIVE_SEALED, 1), (Reg.FC_MODE, 1)]).tenantWipe).clearFloorCache
  let d2 := (((d1.enterPersonality .overnight).capEntry).ageCount 28).onLoader fun l => { l with upload := [] }
  let d3 := d2.each (List.range 4) fun d r => (d.wr (Reg.DIV_POWER r) (d.divCeiling r)).divUpdate r false
  d3.transitionOver us d.overnightCode

/-- Service is entered (Table 3-8). -/
def Device.serviceEnter (d : Device) (us : Nat) : Device := (d.enterPersonality .service).transitionOver us 0

/-! ### The yield (R417, Table 13-6) -/

/-- The entries of the Drive functions' ranges: ingest, fusion and planning. -/
def driveEntry (k : Nat) : Bool := decide (0x5000 * 256 ≤ k) && decide (k < 0x7000 * 256)

/-- The snapshot of the Drive functions' entries is restored (row 7). -/
def Device.restoreDrive (d : Device) : Device :=
  let keep := fun k => !(driveEntry k && inSnapshot k)
  { d with
    dict := restoreDict (SMap.keep d.boot.snap driveEntry) (SMap.keep d.dict keep)
    blobs := restoreBlobs (SMap.keep d.boot.snapBlobs driveEntry) (SMap.keep d.blobs keep)
    staged := SMap.keep d.staged keep, stagedNew := d.stagedNew.filter keep }

/-- A yield begins (row 1): a job is told; without one the stream stops at once. -/
def Device.yieldBegin (d : Device) : Device :=
  let d1 := ((d.setTransition .yielding).onBoot fun b => { b with begunIn := 0 }).wr Reg.CAP_GRANTED 0
  if d1.fn .job = .on then d1.jobClose dispYield else if d1.fn .run = .on then d1.stopStream else d1

/-- Rows 1 to 4 of a yield are over. -/
def Device.yieldReady (d : Device) : Bool :=
  d.atRest .run && (d.fn .job == .off || d.fn .job == .fault || d.job.phase == .done) && d.edgeFunctions.all d.atRest

/-- Rows 5 to 8: `bad` is the part that the check of the kept image finds changed, 0xFF for the header; `silent` lists the
rails that do not answer. RUN in FAULT stays so (R85). -/
def Device.yieldEnd (d : Device) (us : Nat) (bad : Option Nat) (silent : List Nat) : Device :=
  let d1 := (if d.fn .job = .off then d.tenantWipe else d.jobOff).clearFloorCache
  let d2 := (d1.wrAll [(Reg.DRIVE_SEALED, 0), (Reg.FC_MODE, 0), (Reg.CAP_GRANTED, 0), (Reg.LAST_YIELD_MS, us / 1000)]).onLoader fun l =>
    { l with tenant := [], upload := [] }
  match bad with
  | some seg =>
    let d3 := ((d2.loaderSays ⟨St.LD_DIGEST_FAIL, seg, 0, 0⟩).logEv St.TR_UNSEAL_FAIL 0 St.LD_DIGEST_FAIL).restoreDrive
    (((d3.transitionOver us St.TR_UNSEAL_FAIL).setPersonality .bivouac).wr Reg.EXPERT_ENABLE 0).beginFetch
  | none =>
    let d3 := ((d2.publishImage d2.loader.image).restoreDrive).chooseVariant
    let d4 := (d3.enterPersonality .drive).transitionOver us 0
    let d5 := d4.each (List.range 4) fun d r => d.divUpdate r false
    d5.runStart silent

/-- The end of a transition's drain (R94). -/
def Device.transitionEnd (d : Device) (us : Nat) (bad : Option Nat) (silent : List Nat) : Device :=
  match d.transition with
  | .enterOvernight => if d.atRest .run && d.edgeFunctions.all d.atRest then d.overnightEnter us else d
  | .enterService => if d.atRest .run && d.edgeFunctions.all d.atRest then d.serviceEnter us else d
  | .yielding => if d.yieldReady then d.yieldEnd us bad silent else d
  | _ => d

/-! ### The chip warm restart (R101, Table 3-10) -/

/-- Entries of power and temperature that a chip warm restart leaves as they are (R482). -/
def keptPower (k : Nat) : Bool :=
  k == Reg.HW_THROTTLE || k == Reg.TEMP_MAX_C || (List.range 28).any (fun s => k == Reg.TEMP_C s) ||
    (List.range 4).any (fun r => k == Reg.VDD_CMP_SET_MV r || k == Reg.ARITH_DIV_NOW r || k == Reg.DIV_THERMAL r) ||
    (List.range 8).any (fun s => k == Reg.STACK_TEMP_C s || k == Reg.STACK_REFRESH_WINDOW_MS s)

/-- Read-only entries that keep their values at a chip warm restart (R43), and what chapters keep there: the active lane
roles, the sensors marked faulty, the image's entries, the record's; and of power and temperature the rail voltages with
their divisors, the throttles, and what the sensors show (R482). -/
def keptWarm (k : Nat) : Bool :=
  (match entryAt k with | some e => e.kept | none => false) || keptPower k || k == Reg.SENSOR_FAULT_MASK || k == Reg.TRAIN_RECORD || k == Reg.AGE_RECORD ||
    k == Reg.DRIVE_SEALED || (List.range 12).any (fun g => k == Reg.LANE_ROLE_ACTIVE g || k == Reg.LANE_ROLE_STATUS g) ||
    (decide (Reg.IMAGE_KIND ≤ k) && decide (k ≤ Reg.CUSTOMER_ID))

/-- The port stays up: it was up at detection (R101). -/
def Device.linkStays (d : Device) (p : Nat) : Bool := d.rd (Reg.LINK_PHASE p) == phaseUp || d.rd (Reg.LINK_PHASE p) == phaseRetraining

/-- Bivouac is entered: everything but the Lookouts, DRAM, the image, the log and what R43 keeps goes back to the start,
and writable entries take the snapshot's values (R71, R83, R101). -/
def Device.warmBegin (d : Device) (t : Transition) (endIn : Nat) : Device :=
  let d0 := if d.personality = .drive then d.streamFor reasonWarm else d
  let d1 := if d.personality = .overnight then d0.jobLost.tenantWipe else d0
  let ports := (List.range 4).filter d.linkStays
  let linkKeys := ports.flatMap (fun p => [Reg.LINK_STATE p, Reg.LINK_PHASE p, Reg.LINK_PEER_ID p])
  let keep := fun k => keptWarm k || linkKeys.contains k
  let d2 : Device := { d1 with
    dict := restoreDict d.boot.snap (SMap.keep d1.dict keep)
    blobs := restoreBlobs d.boot.snapBlobs (SMap.keep d1.blobs keep)
    staged := [], stagedNew := [], reqs := [], rings := [], cores := [], strm := {}, hamper := {}, slots := [], world := {}
    fusion := {}, planning := {}, job := {}
    mem := { d1.mem with locked := [], poison := SMap.keep d1.mem.poison (fun l => decide (l * 64 < dramEnd)), cache := []
                         ports := (d1.mem.ports.map (fun p => (p.1, ({ latMax := p.2.latMax } : MemPort)))).filter (fun p => p.2 != {})
                         caFails := [], caOld := [], retrainFails := [], retryFrom := [], retraining := [], activations := [], disturbed := []
                         failedStack := none }
    links := { ports := SMap.keep d1.links.ports ports.contains, retired := d1.links.retired }
    guest := { training := d.rd Reg.GUEST_FENCED == 0 }
    power := { d1.power with pending := [], raising := [], cool := [], ocHigh := [] }
    loader := { image := d.loader.image, flashAt := d.loader.flashAt }
    safety := { d1.safety with tests := d1.safety.tests.map (fun p => (p.1, { p.2 with granted := false, running := none })) }
    boot := { d.boot with regionDemand := 0, restarting := none, reloaded := false, chipDemand := none, begunIn := endIn
                          yieldWaits := false, warm := true, badCores := 0, window := .closed, hostWindow := false, parked := [], parkedBlobs := [] } }
  let d3 := d2.wrAll [(Reg.PERSONALITY_NOW, 3), (Reg.TRANSITION, t.code), (Reg.TRAILHEAD_KIND, 1), (Reg.TRAILHEAD_STEP, 3),
    (Reg.EXPERT_ENABLE, 0), (Reg.ZEROISE_BUSY, bit1 (d2.mem.zeroing != [])), (Reg.RESTART_EPOCH, (d.rd Reg.RESTART_EPOCH + 1) % 256)]
  let d4 := if d.rd Reg.GUEST_FENCED = 1 then d3.setFn .guest .fault else d3
  (((d4.bump Reg.WARM_RESTARTS).powerRestart).disarmAll).tellFunctions

/-- The personality that a restart begun now ends in (R97, Table 3-8); one begun while Service is being left ends in Service. -/
def Device.restartEnd (d : Device) : Nat := if d.personality = .service ∨ d.boot.warm then 2 else 0

/-- The personality that the restart of RUN_RETRY ends in: as one begun where RUN faulted (R85). -/
def Device.retryEnd (d : Device) : Nat := if d.boot.faultedIn = 2 then 2 else 0

/-- A chip warm restart fails (R381): Bivouac is held. -/
def Device.warmFail (d : Device) (detail : Nat) : Device :=
  let d1 := (d.logEv St.RS_WARM_FAIL 0 detail).onBoot fun b => { b with warm := false, held := true }
  ((d1.setCause .B causeWarm true).streamFor reasonBivouac).transitionOver 0 St.RS_WARM_FAIL

/-- A group whose role in the snapshot is not the active one, though it did not fail at step 8 (R423). -/
def Device.roleDiffers (d : Device) : Option Nat :=
  (List.range 12).find? (fun g => d.rd (Reg.LANE_ROLE_STATUS g) == 0 && d.rd (Reg.LANE_ROLE g) != d.rd (Reg.LANE_ROLE_ACTIVE g))

/-- The last rows of a chip warm restart: `failing` fail the injection test, `bad` is the part of the kept image that the
check finds changed, `silent` lists the rails that do not answer. -/
def Device.warmEnd (d : Device) (us : Nat) (failing : List Nat) (bad : Option Nat) (silent : List Nat) : Device :=
  if !d.boot.warm then d else
  let d1 := (d.each (List.range 8) fun d s => d.wr (Reg.STACK_TRAIN_STATE s) 2).trainedNow
  let d2 := (((d1.wrAll [(Reg.ROOT_PLL_LOCKED, 1), (Reg.TRAIN_RECORD_USE, 2)]).wrBlob Reg.TRAIN_RECORD d.boot.training).failCores failing).onBoot
    fun b => { b with cmpTaken := b.cmpGood - Nat.land b.cmpGood b.leftOut, leftOut := 0 }
  match d2.roleDiffers, bad with
  | some g, _ => d2.warmFail g
  | none, some seg => (d2.loaderSays ⟨St.LD_DIGEST_FAIL, seg, 0, 0⟩).warmFail St.LD_DIGEST_FAIL
  | none, none =>
    let p := Personality.ofCode d.boot.begunIn
    let d3 := (((d2.wr Reg.DRIVE_SEALED 0).publishImage d2.loader.image).takeModes.chooseVariant).trainLinks
    let d4 := ((d3.enterPersonality p).transitionOver us 0).onBoot fun b => { b with warm := false, chipDemand := none, regionDemand := 0 }
    (d4.atStep 13).runStart silent

/-- Why a chip warm restart begins (Table 1-4): a failed DRAM channel is logged. -/
def Device.warmCause (d : Device) : ChipCause → Device
  | .demand => d
  | .floorNetwork => d.demandChip 0
  | .dramController stack channel => d.channelFail stack channel
  | .cacheSlice stack => ((d.logEv St.DRAM_CHANNEL_FAIL 0xFE 0 (stack.val * 2 ^ 29)).demandChip 0).onMem fun m =>
      { m with failedStack := some stack.val }

/-- Writes that the failed controller or slice held are lost: what each of the lines of its stack then reads is free
(R234). -/
def Device.loseWrites (d : Device) (lines : List Nat) : Device :=
  match d.mem.failedStack with
  | none => d
  | some s => d.each (lines.filter (fun l => decide (64 * l < dramEnd) && (d.locate (64 * l)).stack == s)) fun d l =>
      (d.onMem fun m => m.store (64 * l) (leBytes (d.freeVal 512) 64)).drawn

/-! ### The region restart (R100, Table 3-9) -/

/-- The lowest region with a fault record. -/
def Device.demandedRegion (d : Device) : Option Region := ((bitList d.boot.regionDemand 7).head?).map Region.ofNum

/-- The cores of a region. -/
def Region.cores (r : Region) : List Nat := if r.num < 4 then (List.range 16).map (· + 16 * r.num) else []

/-- A region restart begins: Lookout B streams if it began in Drive, the watchdogs disarm. -/
def Device.regionBegin (d : Device) (r : Region) : Device :=
  let d1 := if d.personality = .drive then d.streamFor reasonRegion else d
  let d2 := if r.num < 4 then d1.bump (Reg.REGION_RESTARTS r.num) else d1
  let d3 := if d.transition = .none then d2.setTransition .regionRestart else d2
  (d3.disarmAll).onBoot fun b =>
    { b with regionDemand := setBit b.regionDemand r.num false, restarting := some r, reloaded := false, begunIn := d.restartEnd }

/-- The supply that a region needs is there (Table 3-1). -/
def Device.regionPowered (d : Device) (r : Region) : Bool := decide (4 ≤ r.num) || bitAt d.boot.cmpGood r.num

/-- A compute region's rows to 38 ms: its cores are cleared, tested and reloaded (R23, R363). -/
def Device.computeReload (d : Device) (r : Nat) (failing : List Nat) : Device :=
  let cores := (List.range 16).map (· + 16 * r)
  let d1 := { d with cores := SMap.keep d.cores (fun c => decide (c / 16 ≠ r))
                     links := { d.links with requests := d.links.requests.filter (fun q => decide (q.core / 16 ≠ r)) } }
  let tested := cores.filter (fun c => d.rd (Reg.CORE_STATE c) != coreQuarantined)
  let d2 := d1.each tested fun d c =>
    (if bitAt d.strm.coreMask c then d.wr (Reg.CORE_STATE c) coreHalted else d).testRow c (!failing.contains c)
  let d3 := if tested.any failing.contains then d2.demandChip St.SELFTEST_FAIL else d2
  ((d3.expandLanes (d3.variant (d3.rd Reg.VARIANT_IN_USE)) cores).writeLocalInit (cores.filter (bitAt d.strm.coreMask))).hamperRestart r

/-- The sample under reception of each slot of port region A is lost (R23). -/
def Device.portAReload (d : Device) : Device :=
  d.each (List.range 64) fun d n => if d.slotPort n = portIngestA then d.onSlot n fun x => { x with sample := none } else d

/-- The rows of a region restart to 38 ms. -/
def Device.regionReload (d : Device) (r : Region) (failing : List Nat) : Device :=
  let d1 := match r with
    | .world => d.worldRestart
    | .portA => d.portAReload
    | .portB => d
    | r => d.computeReload r.num failing
  d1.onBoot fun b => { b with reloaded := true }

/-- A region restart goes as far as it can: it begins for a region with a fault record, and reloads once the region's
supply is there. -/
def Device.regionRestart (d : Device) (failing : List Nat) : Device :=
  if !d.started ∨ d.boot.chipDemand.isSome then d else
  let d1 := match d.boot.restarting, d.demandedRegion with
    | none, some r => d.regionBegin r
    | _, _ => d
  match d1.boot.restarting with
  | some r => if !d1.boot.reloaded && d1.regionPowered r then d1.regionReload r failing else d1
  | none => d1

/-- The stream resumes at the region's restart entry (R121); a yield that waited begins (R97). -/
def Device.regionResume (d : Device) (us : Nat) : Device :=
  match d.boot.restarting with
  | none => d
  | some r =>
    if !d.boot.reloaded ∨ d.boot.chipDemand.isSome then d else
    let cores := r.cores.filter (bitAt d.strm.coreMask)
    let d1 := d.each cores fun d c => d.coreStart d.strm.coreMask c
    let d2 := if r.num < 4 then d1.seedCores r.cores else d1
    let d3 := (d2.addSat 32 Reg.FLITS_DISCARDED d2.strm.flits.length).onBoot fun b =>
      { b with restarting := none, reloaded := false, yieldWaits := false }
    let d3 := d3.each r.cores fun d c => d.newWindow c
    let d4 := if d3.fn .run = .on then d3.startStream ((d3.variant (d3.rd Reg.VARIANT_IN_USE)).restarts.getD r.num 0) else d3
    let d5 := if d4.transition = .regionRestart then d4.transitionOver us 0 else d4
    if d.boot.yieldWaits then d5.yieldBegin else d5

end Sys2Proof.Machine
end

