-- ==== Sys2Proof/Machine/Access.lean ====
section
/-!
DEFINITION. Accesses to the object dictionary (chapter 2): what an entry reads, the checks of R47 in their order, and what
a write that passes them does.
-/

namespace Sys2Proof.Machine

/-! ### Values on their way -/

/-- A value as it is carried: a mapped word, or bytes of a mailbox or of frames. -/
inductive Carried where
  | word (v : Nat)
  | bytes (b : List Byte)
deriving DecidableEq, Repr

/-- The number carried. -/
def Carried.num : Carried → Nat
  | .word v => v
  | .bytes b => leNat b

/-- The bytes carried. -/
def Carried.list : Carried → List Byte
  | .word v => leBytes v 4
  | .bytes b => b

/-- How an access ends: applied or answered, dropped for its privilege, or failed with a code and the owner's code. -/
inductive Verdict where
  | ok
  | drop
  | fail (code owner : Code)
deriving DecidableEq, Repr

/-- Checks in order: the first that does not pass decides. -/
def Verdict.next (a b : Verdict) : Verdict :=
  match a with
  | .ok => b
  | v => v

/-- A check that fails with `c` when `b` holds. -/
def failIf (b : Bool) (c : Code) (owner : Code := 0) : Verdict := if b then .fail c owner else .ok

/-- The owner refuses with `c`, unless `c` is 0. -/
def ownerCode (c : Code) : Verdict := failIf (c != 0) St.DICT_OWNER_REFUSED c

/-! ### Which entry, which function -/

/-- The guest serves the entry (R445). -/
def isGuestEntry (k : Nat) : Bool := decide (0x9210 * 256 ≤ k) && decide (k < 0x9300 * 256)

/-- The entry is one of the requester's own machinery: its mailbox, its log window. -/
def ownMachinery (k : Nat) : Bool := k / 256 == 0x1110 || k / 256 == 0xF100

/-- The entry that a requester finds at a key: no mailbox for a node (R49), no guest entry while the guest is not ON
(R445); the read allowances of the cores' ports are constants (R247). -/
def Device.entryFor (d : Device) (q : Requester) (k : Nat) : Option EntrySpec :=
  if (q.isNode && k / 256 == 0x1110) || (isGuestEntry k && d.fn .guest != .on) then none
  else (entryAt k).map (fun e =>
    if k / 256 / 16 = 0x421 ∧ k % 16 = 2 ∧ portOf (k / 256) (k % 256) < 64 then { e with access := .const } else e)

/-- The ring whose entries stand at an index. -/
def ringAt (index : Nat) : Option RingId := RingId.all.find? (fun r => r.index == index)

/-- The function whose enable stands at a key. -/
def enableAt (k : Nat) : Option FnId :=
  let i := k / 256
  if k = Reg.FN_ENABLE then some .fieldNet
  else if k = Reg.HAMPER_ENABLE then some .hamper
  else if k = Reg.SCRUB_ENABLE then some .scrub
  else if k = Reg.FUSION_ENABLE then some .fusion
  else if k = Reg.PLAN_ENABLE then some .planning
  else if k = Reg.JOB_ENABLE then some .job
  else if k = Reg.GUEST_ENABLE then some .guest
  else if k % 256 ≠ 1 then none
  else if i / 64 = 0x5100 / 64 then some (.slot (Fin.ofNat 64 (i % 64)))
  else if i / 4 = 0x9010 / 4 then some (.link (Fin.ofNat 4 (i % 4)))
  else (ringAt i).map .ring

/-- The state of the function that owns an entry; an entry without one is as if its owner were OFF. -/
def Device.ownerState (d : Device) (e : EntrySpec) (k : Nat) : FnState :=
  match e.owner with
  | .none => .off
  | .run => d.fn .run
  | .hamper => d.fn .hamper
  | .slot => d.slotState (k / 256 % 64)
  | .fusion => d.fn .fusion
  | .planning => d.fn .planning
  | .job => d.fn .job
  | .port => d.fn (.link (Fin.ofNat 4 (k / 256 % 4)))
  | .guest => d.fn .guest
  | .ring => match ringAt (k / 256) with | some r => d.fn (.ring r) | none => .off

/-- The lengths that BLOBs declare: PATTERN_BLOB's is PATTERN_BYTES (Table 9-12). -/
def Device.blobLength (d : Device) (k n : Nat) : Nat :=
  if k / 65536 = 0x51 ∧ k % 256 = 0x15 then d.rd (Reg.SLOT_PATTERN_BYTES (k / 256 % 64)) else n

/-! ### Reading (R37, R46, R60) -/

/-- The eight words of a log record, word 0 first (Table 2-15). -/
def LogRecord.words (r : LogRecord) : List Nat :=
  [r.reps % 2 ^ 16 * 2 ^ 16 + r.seq % 2 ^ 16, r.status % 2 ^ 16 * 2 ^ 16 + r.status / 256 % 256 * 2 ^ 8 + r.inst % 256, r.bundle % 2 ^ 32,
    r.epoch % 256 * 2 ^ 24 + r.level % 16 * 2 ^ 20 + r.personality % 16 * 2 ^ 16 + r.bundle / 2 ^ 32 % 2 ^ 16, r.mgmt % 2 ^ 32, r.d0, r.d1, r.d2]

/-- A word of the mailbox that MBX_DATA shows (R61). -/
def Mailbox.word (m : Mailbox) (i : Nat) : Nat :=
  leNat ((List.range 4).map (fun j =>
    let a := m.offset + 4 * i + j
    if a < m.len ∧ a < 65536 then SMap.getD m.buf a 0 else 0))

/-- What an entry of the requester's own machinery reads. -/
def Device.ownView (d : Device) (q : Requester) (k : Nat) : Nat :=
  let m := (d.req q).mbx
  let w := (d.req q).window
  let i := k % 256
  if k / 256 = 0x1110 then
    match i with
    | 0 => 0
    | 1 => m.offset
    | 2 => bit1 m.valid * 2 ^ 31 + bit1 (m.op != .idle) * 2 ^ 30 + m.status % 2 ^ 16
    | 3 => m.len
    | 4 => m.gen
    | _ => m.word (i - 16)
  else
    match i with
    | 0 => 0
    | 1 => bit1 w.valid * 2 ^ 31 + bit1 w.busy * 2 ^ 30 + w.recs.length % 32
    | 2 => (d.log.stored.head?.map (·.seq)).getD 0
    | 3 => (d.log.stored.getLast?.map (·.seq)).getD 0
    | _ => (w.recs.flatMap LogRecord.words).getD (i - 16) 0

/-- LAST_ACCESS_STATUS (R54): bit 16 tells that the entry last accessed has a staged write. -/
def Device.lastAccess (d : Device) (q : Requester) : Nat :=
  let r := d.req q
  bit1 (match r.lastKey with | some k => (SMap.find d.staged k).isSome | none => false) * 2 ^ 16 + r.lastStatus % 2 ^ 16

/-- The sequence that SEQ_SELECT shows, where the Hamper is ON and has it. -/
def Device.shownSeq (d : Device) (q : Requester) : Option Nat :=
  let s := (d.req q).seqSelect
  if d.fn .hamper = .on ∧ s < d.rd Reg.SEQ_MAX then some s else none

/-- SEQ_FLAGS of a sequence (Table 7-16). -/
def Device.seqFlagsWord (d : Device) (s : Nat) : Nat :=
  d.seqClass s % 4 * 2 ^ 16 + d.heldSteps s % 256 * 2 ^ 8 + d.seqFlags s % 8

/-- The state of image function `i` (R128): RUN's, unless it is not placed. -/
def Device.funcState (d : Device) (i : Nat) : Nat :=
  if d.rd (Reg.FUNC_PLACED i) = 1 then d.rd Reg.RUN_STATE else d.rd (Reg.FUNC_STATE i)

/-- What a numeric entry reads: views of the units' own state, else the register. -/
def Device.readNum (d : Device) (q : Requester) (k : Nat) : Nat :=
  let i := k / 256
  let s := k % 256
  if ownMachinery k then d.ownView q k
  else if k = Reg.MY_LEVEL then q.level
  else if k = Reg.LAST_ACCESS_STATUS then d.lastAccess q
  else if k = Reg.BUNDLE_COUNT then d.strm.count
  else if k = Reg.BUNDLE_COUNT_LO then d.strm.count % 2 ^ 32
  else if k = Reg.PREDICATES then d.strm.preds
  else if k = Reg.LOOP_DEPTH then d.strm.loops.length
  else if k = Reg.HANDOFF_OCCUPANCY then d.strm.handoff.length
  else if 0x3010 ≤ i ∧ i ≤ 0x302F ∧ s = 2 then d.funcState (i - 0x3010)
  else if i / 64 = 0x3400 / 64 ∧ s = 0x20 then (d.core (i % 64)).readsOut
  else if i / 64 = 0x3400 / 64 ∧ s = 0x25 then ((List.range 8).map (fun b => (d.core (i % 64)).bar b % 256 * 2 ^ (8 * b))).sum
  else if k = Reg.FREE_COUNT then d.freeCount
  else if k = Reg.SEQ_SELECT then (d.req q).seqSelect
  else if i = 0x3904 then
    match d.shownSeq q, s with
    | some n, 1 => d.seqFlagsWord n
    | some n, 2 => d.layerLength n 0
    | some n, 3 => d.recomputeFrom n
    | some n, 4 => d.slotsHeld n
    | _, _ => dictDefault k
  else if k = Reg.ALLOWANCE_SUM then ((List.range 15).map (fun p => d.rd (Reg.PORT_READ_ALLOWANCE (64 + p)))).sum
  else if i / 64 = 0x5100 / 64 ∧ s = 0x17 then d.slotDrainLimit (i % 64)
  else if i = 0x7201 then d.testStatus s
  else if k = Reg.TEST_DEBT then d.testDebt
  else d.shown k

/-- The whole value of an entry as bytes (R60, R64). -/
def Device.readBytes (d : Device) (q : Requester) (e : EntrySpec) (k : Nat) : List Byte :=
  match e.type with
  | .blob n =>
    if k / 256 / 64 = 0x3400 / 64 ∧ k % 256 = 0x24 then
      (List.range 256).flatMap (fun x => leBytes ((d.core (k / 256 % 64)).sem x) 2)
    else padTo ((SMap.find d.boot.parkedBlobs k).getD (d.blob k)) (d.blobLength k n)
  | t => leBytes (d.readNum q k) t.bytes

/-! ### The checks of R47 -/

/-- The first checks: a chip warm restart, and whether the entry exists. -/
def Device.reachCheck (d : Device) (q : Requester) (k : Nat) : Verdict :=
  (failIf (d.boot.warm && k / 65536 != 0x10 && k / 65536 != 0x20) St.DICT_RESTARTING).next
    (failIf (d.entryFor q k).isNone St.DICT_NO_ENTRY)

/-- A read, of a mapped word or of a whole value. -/
def Device.readCheck (d : Device) (q : Requester) (k : Nat) (mapped : Bool) : Verdict :=
  (d.reachCheck q k).next (match d.entryFor q k with
    | none => .ok
    | some e =>
      if e.rd < q.level then .drop
      else (failIf (e.access == .wo) St.DICT_WRITE_ONLY).next (failIf (mapped && e.type.wide) St.DICT_NEEDS_MAILBOX))

/-- The entry is a clock mapping bank. -/
def isClockBank (k : Nat) : Bool := k / 256 / 32 == 0x5020 / 32 && k % 256 < 2

/-- A reserved bit of the value is set, in a BITS32 word or in a BLOB's stated layout. -/
def reservedSet (e : EntrySpec) (k : Nat) (x : Carried) : Bool :=
  match e.type with
  | .blob _ =>
    let b := x.list
    if k = Reg.FOOTPRINT then (List.range 8).any (fun i => !zeroAt b (8 * i + 7) 1)
    else if k = Reg.TRAIN_RECORD then !zeroAt b 17 43
    else if k = Reg.AGE_RECORD then !zeroAt b 48 12
    else isClockBank k && bankRefused b == some St.DICT_RESERVED_BITS
  | _ => e.range.reservedSet x.num

/-- The value fits the entry's type (Table 2-1): bytes have exactly its width. -/
def Device.fitsType (d : Device) (e : EntrySpec) (k : Nat) : Carried → Bool
  | .word v => decide (v ≤ e.type.top) && (e.type != .f32 || !f32NotFinite v)
  | .bytes b =>
    match e.type with
    | .blob n => b.length == d.blobLength k n
    | t => b.length == t.bytes && decide (leNat b ≤ t.top) && (t != .f32 || !f32NotFinite (leNat b))

/-- A disc of a footprint (Table 11-4). -/
def discOk (b : List Byte) (i : Nat) : Bool :=
  let valid := leAt b (8 * i + 6) 1
  if valid = 0 then zeroAt b (8 * i) 6 else valid == 1 && decide (100 ≤ leAt b (8 * i + 4) 2) && decide (leAt b (8 * i + 4) 2 ≤ 5000)

/-- Ranges that depend on the entry's place or on other entries, judged against the values those entries hold (R47). -/
def Device.inContext (d : Device) (k : Nat) (x : Carried) : Bool :=
  let v := x.num
  let i := k / 256
  let s := k % 256
  let held := fun s' => d.shown (key i s')
  if (i = 0x1101 ∨ i = 0x1102) ∧ s < 3 then
    let now := fun s' => if s = s' then v else held s'
    decide (now 1 ≤ now 2) && (now 0 == 0 || decide (now 2 ≤ 8000))
  else if i / 64 = 0x3400 / 64 ∧ (s = 0x2B ∨ (0x30 ≤ s ∧ s ≤ 0x32)) then decide (windowBase v + windowSize v ≤ lmSize)
  else if i = 0x3901 ∧ s = 0x0C then decide (d.rd Reg.SLOT_COUNT ≤ v)
  else if i = 0x4100 then v % 2 ^ 11 == 0 && decide (v < 2 ^ 36)
  else if k = Reg.APERTURE_BASE then v % 2 ^ 30 == 0
  else if i / 16 = 0x421 ∧ s % 16 = 0 then
    let p := portOf i s
    if p = 77 then v == 3 else v != 3 || p == 78
  else if i / 16 = 0x421 ∧ s % 16 = 4 then decide (held (s + 1) < v)
  else if i / 16 = 0x421 ∧ s % 16 = 5 then decide (v < held (s - 1))
  else if i / 16 = 0x501 ∧ s = 1 then if held 0 = 0 then v != 3 else decide (v ≤ 3)
  else if i / 16 = 0x501 ∧ s = 2 then decide (80 ≤ v) && decide (v ≤ if held 0 = 0 then 2500 else 1460)
  else if isClockBank k then bankRefused x.list == none
  else if k = Reg.PHASE_NS then decide (v < d.shown Reg.PERIOD_NS)
  else if k = Reg.CLOSE_LAG_NS then decide (v ≤ d.shown Reg.PERIOD_NS)
  else if i / 16 = 0x602 ∧ s = 3 then decide (v ≤ held 4)
  else if i / 16 = 0x602 ∧ s = 4 then decide (held 3 ≤ v)
  else if k = Reg.FOOTPRINT then (List.range 8).all (discOk x.list)
  else if k = Reg.FTTI_US then decide (d.shown Reg.SHED_LEAD_US ≤ v)
  else if k = Reg.SHED_LEAD_US then decide (v ≤ d.shown Reg.FTTI_US)
  else if i = 0x7100 ∧ s < 4 then bitAt v 1 || bitAt v 3
  else if k = Reg.CKPT_ACK then (d.ackCheckpoint v).2 == 0
  else if k = Reg.STEP_ENTRIES then decide (4 * d.rd Reg.CKPT_K ≤ v)
  else if i = 0x9001 then field v 6 3 == 0
  else if i = 0x9002 ∨ i = 0x9201 then decide (v < 16)
  else if i / 4 = 0x9010 / 4 ∧ s = 2 then !bitAt v 6
  else if k = Reg.COOLANT_REPORT then decide (-40 ≤ signExt 8 v) && decide (signExt 8 v ≤ 70)
  else true

/-- The value lies outside its type or its stated range (0x0107). -/
def Device.outside (d : Device) (e : EntrySpec) (k : Nat) (x : Carried) : Bool :=
  !(d.fitsType e k x && (match e.type with | .blob _ => true | _ => e.range.holds x.num) && d.inContext k x)

/-! ### What owners refuse (0x0111) -/

/-- Entries that steps 6 to 8 have consumed when a fallback window is open (R89). -/
def consumedEarly (k : Nat) : Bool :=
  let i := k / 256
  k == Reg.TRAIN_RECORD || i == 0x4100 || (decide (0x9100 ≤ i) && decide (i ≤ 0x910B))

/-- Entries that are written in a configuration window only (R91, R422). -/
def windowOnly (k : Nat) : Bool :=
  let i := k / 256
  (i == 0x2003) || (decide (0x9100 ≤ i) && decide (i ≤ 0x910B))

/-- A configuration entry of RUN is closed (R84, R89, R91). -/
def Device.configClosed (d : Device) (e : EntrySpec) (k : Nat) : Bool :=
  e.access == .rwb && e.owner == .run &&
    ((d.boot.window == .fallback && consumedEarly k) ||
      (d.boot.window == .closed && d.boot.closedOnce && d.fn .run == .off && (d.rd Reg.TRAILHEAD_STEP != 13 || windowOnly k)))

/-- The window open now takes no writes of the host (R82). -/
def Device.windowLocked (d : Device) (q : Requester) (k : Nat) : Bool :=
  d.boot.window != .closed && !d.boot.hostWindow && q.level != 0 && !ownMachinery k

/-- Why a personality request is refused; 0 where it is accepted (R94, R96, R97). -/
def Device.requestCode (d : Device) (q : Requester) (v : Nat) : Code :=
  if v ≠ 0 ∧ 1 < q.level then St.TR_REFUSED
  else if d.boot.warm then St.TR_BUSY
  else if !d.started then St.TR_REFUSED
  else match d.transition, d.personality with
    | .none, .drive => if v = 0 then St.TR_REFUSED else 0
    | .none, .overnight => if v = 0 then 0 else St.TR_REFUSED
    | .none, .service => if v = 0 then 0 else St.TR_REFUSED
    | .none, .bivouac => St.TR_REFUSED
    | .enterOvernight, _ => if v = 0 then 0 else St.TR_BUSY
    | .regionRestart, .overnight => if v = 0 then 0 else St.TR_BUSY
    | _, _ => St.TR_BUSY

/-- Why an owner refuses that its function is enabled. -/
def Device.enableCode (d : Device) (f : FnId) : Code :=
  match f with
  | .hamper => if d.hamperConfigOk then 0 else St.HAMPER_CONFIG_INVALID
  | .slot _ => if d.personality = .overnight then St.SLOT_NOT_IN_DRIVE else 0
  | .fusion => if d.personality = .overnight then St.FUSION_NOT_IN_DRIVE else 0
  | .planning => if d.personality = .overnight then St.PLAN_NOT_IN_DRIVE else 0
  | .job => if d.personality = .overnight then 0 else St.JOB_NOT_IN_OVERNIGHT
  | .guest =>
    if d.rd Reg.GUEST_FENCED = 1 then St.GUEST_UNFENCE_REFUSED
    else if d.personality = .overnight then St.GUEST_NOT_IN_DRIVE
    else if d.rd Reg.GUEST_PRESENT = 0 ∧ !d.guest.training then St.GUEST_ABSENT else 0
  | .ring .programUpload =>
    if d.fn .run = .off ∧ (d.loader.fetching ∨ d.personality = .overnight) then 0 else St.UPLOAD_WHILE_RUNNING
  | .ring .latticeUpload => if d.fn .planning = .off then 0 else St.LATTICE_UPLOAD_ORDER
  | _ => 0

/-- The slot's calibration commit or ROLE write does not pass (R284). -/
def Device.calibBad (d : Device) (k : Nat) (x : Carried) : Bool :=
  let n := k / 256 % 64
  if k / 65536 ≠ 0x61 then false
  else match k % 256 with
    | 0 => leAt (d.intrinsics n) 0 4 != 0 && !modelFits x.num (leAt (d.intrinsics n) 4 1)
    | 1 => !intrinsicsOk (d.role n) x.list
    | 2 => !extrinsicsOk x.list
    | _ => false

/-- The mailbox machinery's own answer to a write of its words (Table 2-5, R63, R75). R47's list gives BUSY no place: DESIGN
CHOICE, log entry 102, a write while BUSY is 1 that also breaks its range or sets a reserved bit is answered with that
check's code, since the machinery is judged last. -/
def Device.machineryCheck (d : Device) (q : Requester) (k v : Nat) : Verdict :=
  if k / 256 = 0x1110 then
    (failIf ((d.req q).mbx.op != .idle) St.DICT_BUSY).next
      (failIf (k == Reg.MBX_CTL && !(decide (1 ≤ field v 31 28) && decide (field v 31 28 ≤ 3))) St.DICT_MALFORMED)
  else failIf (k == Reg.LOG_CTL && (d.req q).window.busy) St.DICT_BUSY

/-- Everything that an owner may refuse. -/
def Device.ownerCheck (d : Device) (q : Requester) (e : EntrySpec) (k : Nat) (x : Carried) : Verdict :=
  let v := x.num
  (ownerCode (if d.configClosed e k then St.TH_CFG_CLOSED else 0)).next <|
  (ownerCode (if k = Reg.CFG_GO ∧ v = 1 ∧ !d.cfgOpen then St.TH_CFG_CLOSED else 0)).next <|
  (ownerCode (if k = Reg.RUN_RETRY ∧ v = 1 ∧ d.fn .run ≠ .fault then St.TR_REFUSED else 0)).next <|
  (ownerCode (if k = Reg.PERSONALITY_REQ then d.requestCode q v else 0)).next <|
  (ownerCode (if k = Reg.BOOT_PERSONALITY ∧ v = 1 then St.TR_REFUSED else 0)).next <|
  (ownerCode (match enableAt k with | some f => if v = 1 then d.enableCode f else 0 | none => 0)).next <|
  (ownerCode (if d.calibBad k x then St.CALIB_INVALID else 0)).next <|
  (ownerCode (if k / 256 = 0x9002 ∧ d.epochRetired false (k % 256) v then St.EPOCH_REUSE_REFUSED else 0)).next <|
  (ownerCode (if k / 256 = 0x9201 ∧ d.epochRetired true (k % 256) v then St.EPOCH_REUSE_REFUSED else 0)).next <|
  (ownerCode (if k = Reg.ATTEST_NONCE ∧ d.safety.report.isSome then St.ATTEST_BUSY else 0)).next (d.machineryCheck q k v)

/-- The state that an RWB entry or an enable needs (Table 2-2, Table 2-13, R85). A fenced guest's enable has its own
refusal (R449). -/
def Device.stateCheck (d : Device) (q : Requester) (e : EntrySpec) (k : Nat) (x : Carried) : Verdict :=
  let st := d.ownerState e k
  let retry := e.owner == .run && st == .fault && decide (q.level ≤ 1)
  (failIf (e.access == .rwb && st != .off && !retry) St.DICT_FN_NOT_OFF).next
    (match enableAt k with
      | some .guest => failIf (d.rd Reg.GUEST_FENCED != 1 && d.enableRefusal .guest x.num != 0) St.DICT_FN_NOT_OFF
      | some f => failIf (d.enableRefusal f x.num != 0) St.DICT_FN_NOT_OFF
      | none => .ok)

/-- A write, in the order of R47. -/
def Device.writeCheck (d : Device) (q : Requester) (k : Nat) (x : Carried) : Verdict :=
  (d.reachCheck q k).next (match d.entryFor q k with
    | none => .ok
    | some e =>
      if e.wr < q.level then .drop
      else
        (failIf (e.access == .const || e.access == .ro) St.DICT_READ_ONLY).next <|
        (failIf (e.access == .rws && d.personality != .service) St.DICT_NOT_SERVICE).next <|
        (d.stateCheck q e k x).next <|
        (failIf (e.expert && d.rd Reg.EXPERT_ENABLE == 0) St.DICT_EXPERT_LOCKED).next <|
        (failIf (e.type.wide && (match x with | .word _ => true | .bytes _ => false)) St.DICT_NEEDS_MAILBOX).next <|
        (failIf (reservedSet e k x) St.DICT_RESERVED_BITS).next <|
        (failIf (d.outside e k x) St.DICT_RANGE).next (d.ownerCheck q e k x))

/-! ### The end of an access (R46, R54, Table 2-3) -/

/-- Dictionary codes that are logged when an access fails with them. -/
def loggedRefusal (c : Code) : Bool :=
  c == St.DICT_MALFORMED || c == St.DICT_NO_ENTRY || c == St.DICT_READ_ONLY || c == St.DICT_CROSS_TIMEOUT

/-- What the device logs and counts of a verdict. -/
def Device.logVerdict (d : Device) (q : Requester) (v : Verdict) : Device :=
  match v with
  | .ok => d
  | .drop => (d.bump Reg.PRIV_DROPS).logEv St.DICT_PRIV_DROP q.num
  | .fail c _ =>
    let d1 := if c = St.DICT_CROSS_TIMEOUT then d.bump Reg.CROSS_TIMEOUTS else d
    if loggedRefusal c then d1.logEv c q.num else d1

/-- The requester's LAST_ACCESS_STATUS after an access to `k`. -/
def Device.setLast (d : Device) (q : Requester) (k : Nat) (v : Verdict) : Device :=
  d.setReq q (match v with
    | .ok => { d.req q with lastStatus := 0, lastKey := some k }
    | .drop => { d.req q with lastStatus := 0, lastKey := none }
    | .fail c _ => { d.req q with lastStatus := c, lastKey := some k })

/-! ### A write's effect -/

/-- A personality request is accepted (Table 3-8, R97). -/
def Device.request (d : Device) (v : Nat) : Device :=
  let d1 := d.wr Reg.PERSONALITY_REQ v
  match d.transition, d.personality with
  | .enterOvernight, _ => d1.setTransition .yielding
  | .regionRestart, _ => d1.onBoot fun b => { b with yieldWaits := true }
  | _, .drive => d1.edgeBegin (if v = 1 then .enterOvernight else .enterService)
  | _, .overnight => d1.yieldBegin
  | _, _ => d.takeSnapshot.warmBegin .leaveService 0

/-- Forward an access to the guest under a TAG of its own (R445). -/
def Device.askGuest (d : Device) (k len value : Nat) : Device :=
  (d.guestSend { typ := gstDictReq, tag := d.guest.nextTag, len := len, index := k / 256, subindex := k % 256, value := value }).onGuest
    fun g => { g with nextTag := (g.nextTag + 1) % 65536 }

/-- A mailbox operation begins (R60, R62): a snapshot of an entry that the register fabric holds is captured now. The
guest's entries are asked for over the guest transport (R445). -/
def Device.mbxBegin (d : Device) (q : Requester) (v : Nat) : Device :=
  let k := field v 23 0
  let set (d : Device) (f : Mailbox → Mailbox) : Device := d.setReq q { d.req q with mbx := f (d.req q).mbx }
  let ask (d : Device) (len value : Nat) : Device :=
    (d.setReq q { d.req q with mbxAsked := some d.guest.nextTag }).askGuest k len value
  match field v 31 28 with
  | 1 =>
    match d.readCheck q k false, d.entryFor q k with
    | .fail c o, _ => set (d.logVerdict q (.fail c o)) fun m => { m with valid := false, op := .snapshot k false c [] }
    | .drop, some e => set (d.logVerdict q .drop) fun m => { m with valid := false, op := .snapshot k false 0 (zeros e.type.bytes) }
    | .ok, some e =>
      let d1 := set d fun m => { m with valid := false, op := .snapshot k e.cross 0 (if e.cross then [] else d.readBytes q e k) }
      if isGuestEntry k then ask d1 0 0 else d1
    | _, none => set d fun m => { m with valid := false, op := .snapshot k false St.DICT_NO_ENTRY [] }
  | 2 =>
    let m := (d.req q).mbx
    let d1 := set d fun m => { m with valid := false, op := .commit k none }
    if isGuestEntry k ∧ d.writeCheck q k (.bytes (SMap.getList m.buf 0 0 m.len)) = .ok then ask d1 4 (leNat (SMap.getList m.buf 0 0 4)) else d1
  | _ => set d fun m => { m with valid := false, status := 0 }

/-- A write of the requester's own machinery. -/
def Device.writeOwn (d : Device) (q : Requester) (k v : Nat) : Device :=
  let r := d.req q
  let m := r.mbx
  let a := m.offset + 4 * (k % 256 - 16)
  if k = Reg.MBX_CTL then d.mbxBegin q v
  else if k = Reg.MBX_OFFSET then d.setReq q { r with mbx := { m with offset := v } }
  else if k = Reg.MBX_LEN then d.setReq q { r with mbx := { m with len := v, valid := false } }
  else if k = Reg.LOG_CTL then d.setReq q { r with window := { valid := false, busy := true, first := v % 65536 } }
  else if 65536 < a + 4 then d.setReq q { r with mbx := { m with valid := false } }
  else d.setReq q { r with mbx := { m with valid := false, buf := SMap.putList m.buf a 0 (leBytes v 4) } }

/-- The write is staged (R37): not in Service, and not where the entry's owner is OFF. -/
def Device.stages (d : Device) (e : EntrySpec) (k : Nat) : Bool :=
  e.staged && d.personality != .service && d.ownerState e k != .off

/-- The write is held in its entry and does not act: an RWB entry of RUN, while RUN reads FAULT (R85). TRAIN_RECORD and
AGE_RECORD act at the next start only, as they are. -/
def Device.parks (d : Device) (e : EntrySpec) (k : Nat) : Bool :=
  e.access == .rwb && e.owner == .run && d.fn .run == .fault && k != Reg.TRAIN_RECORD && k != Reg.AGE_RECORD

/-- A calibration BLOB is committed (R285). -/
def Device.calibrate (d : Device) (k : Nat) (b : List Byte) : Device :=
  let n := k / 256 % 64
  let d1 := ((d.wrBlob k b).bumpWrap (Reg.CAL_GEN n)).onFusion fun f => { f with calibChanged := true }
  if d1.fn .fusion = .on ∧ (d1.role n = roleImu ∨ d1.role n = roleWheel) then d1.egoReplay else d1

/-- A write that has passed every check takes effect. -/
def Device.applyWrite (d : Device) (q : Requester) (e : EntrySpec) (k : Nat) (x : Carried) : Device :=
  let v := x.num
  if d.parks e k then
    d.onBoot fun b => match e.type with
      | .blob _ => { b with parkedBlobs := SMap.insert b.parkedBlobs k x.list }
      | _ => { b with parked := SMap.insert b.parked k v }
  else
  match e.type with
  | .blob _ =>
    if k = Reg.ATTEST_NONCE then d.attestStart x.list
    else if k / 65536 = 0x61 then d.calibrate k x.list
    else if k = Reg.TRAIN_RECORD then (d.wrBlob k x.list).onBoot fun b => { b with trainWritten := true }
    else if isClockBank k then (d.wrBlob k x.list).bumpWrap (Reg.CLOCK_BANK_COMMITS (k / 256 % 32) (k % 256))
    else d.wrBlob k x.list
  | _ =>
    match enableAt k with
    | some f =>
      if f = .ring .programUpload ∧ v = 1 ∧ d.personality = .overnight ∧ d.fn f = .off then
        (d.onLoader fun l => { l with upload := [] }).writeEnable f v
      else d.writeEnable f v
    | none =>
      if ownMachinery k then d.writeOwn q k v
      else if k = Reg.CFG_GO then (if v = 1 then d.closeWindow else d)
      else if k = Reg.RUN_RETRY then (if v = 1 then d.takeSnapshot.warmBegin .warmRestart d.retryEnd else d)
      else if k = Reg.PERSONALITY_REQ then d.request v
      else if k = Reg.SEQ_SELECT then d.setReq q { d.req q with seqSelect := v }
      else if k = Reg.CKPT_ACK then (d.ackCheckpoint v).1
      else if k = Reg.EPOCH_RELEASE then d.freeEpoch (bitAt v 16) (field v 15 8) (field v 3 0)
      else if k = Reg.COOLANT_REPORT then d.coolantReport v
      else if isGuestEntry k then d
      else if d.stages e k then d.stage k v
      else (d.unstage k).applyEntry k v

/-- A refused calibration commit shows in CALIB_STATUS (Table 10-15). -/
def Device.noteRefusal (d : Device) (k : Nat) (v : Verdict) : Device :=
  match v with
  | .fail _ owner => if k / 65536 = 0x61 ∧ owner = St.CALIB_INVALID then d.wr (Reg.CAL_STATUS (k / 256 % 64)) owner else d
  | _ => d

/-- A whole write: checked, applied or refused; the effect comes first, so that a restart it begins clears what the
requester had. -/
def Device.write (d : Device) (q : Requester) (k : Nat) (x : Carried) : Device × Verdict :=
  let v := (failIf (d.windowLocked q k) St.DICT_OWNER_REFUSED St.TH_CFG_CLOSED)
  let c := match d.writeCheck q k x with | .ok => v | w => w
  match c, d.entryFor q k with
  | .ok, some e => (d.applyWrite q e k x, .ok)
  | w, _ => ((d.logVerdict q w).noteRefusal k w, w)

end Sys2Proof.Machine
end

