-- ==== Sys2Proof/Machine/DictCmds.lean ====
section
/-!
DEFINITION. The commands of the object dictionary (chapter 2): mapped accesses with their crossings, the mailbox, the
field-network transactions, doorbells and ring descriptors, the error log; and every entry write that has a row of its own.
-/

namespace Sys2Proof.Machine

/-! ### Field-network answers (R64 to R66) -/

/-- The payload that one frame to or from a node may carry (R64). -/
def Device.nodeLimit (d : Device) (n : Fin 8) : Nat :=
  let t := field (d.rd (Reg.NODE_CFG n)) 29 28
  if t < 2 ∧ d.rd (Reg.CAN_MODE t) = 1 then 56 else 1024

/-- READ_RESP of `bytes` from `off`: one whole message, or a segment whose session stays open until its last. -/
def Device.sendValue (d : Device) (n : Fin 8) (txn k : Nat) (bytes : List Byte) (seg : Bool) (off : Nat) : Device :=
  let limit := d.nodeLimit n
  let staged := bit1 (SMap.find d.staged k).isSome
  let q := d.req (.node n)
  if !seg && decide (bytes.length ≤ limit) then
    (d.setReq (.node n) { q with session := .none }).sendNode n (nodeFrame 8 txn k (4 + staged) bytes)
  else
    let part := (bytes.drop off).take (limit - 4)
    let last := decide (bytes.length ≤ off + part.length)
    (d.setReq (.node n) { q with session := if last then .none else .reading txn k bytes (off + part.length) }).sendNode n
      (nodeFrame 8 txn k (bit1 last * 4 + 2 + staged) (leBytes off 4 ++ part))

/-- The answer to a node's write. -/
def Device.answerWrite (d : Device) (n : Fin 8) (txn k : Nat) (v : Verdict) : Device :=
  let d1 := d.setReq (.node n) { d.req (.node n) with session := .none }
  match v with
  | .fail c owner => d1.sendAbort n txn k c owner
  | _ => d1.sendNode n (nodeFrame 9 txn k 4 [])

/-- The answer to a node's read. -/
def Device.answerRead (d : Device) (n : Fin 8) (txn k : Nat) (v : Verdict) (bytes : List Byte) (seg : Bool) : Device :=
  match v with
  | .fail c owner => (d.setReq (.node n) { d.req (.node n) with session := .none }).sendAbort n txn k c owner
  | _ => d.sendValue n txn k bytes seg 0

/-! ### Crossings (R56 to R58, R445) -/

/-- The Lookout that holds a cross-domain entry. -/
def lookoutOf (k : Nat) : Option Island :=
  let i := k / 256
  let s := k % 256
  if i = 0x1002 then some (if s = 1 then .A else .B)
  else if i = 0x2103 ∨ i = 0x7001 then some (if s % 2 = 0 then .A else .B)
  else if i = 0x7002 ∨ i = 0x2206 ∨ i = 0x8004 then some .B
  else if 0x7000 ≤ i ∧ i < 0x7400 then some .A else none

/-- The unit that holds the entry can answer. -/
def Device.domainUp (d : Device) (k : Nat) : Bool :=
  match lookoutOf k with
  | some i => d.islUp i
  | none => true

/-- A crossing begins. -/
def Device.cross (d : Device) (q : Requester) (c : Crossing) : Device := d.setReq q { d.req q with crossing := c }

/-- A crossing to the guest begins: it waits for the answer that carries its TAG. -/
def Device.crossGuest (d : Device) (q : Requester) (c : Crossing) (k len value : Nat) : Device :=
  (d.setReq q { d.req q with crossing := c, asked := some d.guest.nextTag }).askGuest k len value

/-- Note a finished access in LAST_ACCESS_STATUS and what it answered; a read of LAST_ACCESS_STATUS leaves it. -/
def Device.finish (d : Device) (q : Requester) (k : Nat) (v : Verdict) (answer : Option Nat) : Device :=
  let d1 := d.setReq q { d.req q with answer := answer }
  if k = Reg.LAST_ACCESS_STATUS then d1 else d1.setLast q k v

/-! ### Mapped accesses (R53 to R58) -/

/-- A mapped write. R53 gives a partial-word write no place in R47's order: DESIGN CHOICE, log entry 102, its 0x0103 comes before
every other check. -/
def Device.mappedWrite (d : Device) (q : Requester) (k v bytes : Nat) (enters : Bool) : Device :=
  let w := Verdict.fail St.DICT_MALFORMED 0
  if bytes % 16 ≠ 15 then (d.logVerdict q w).setLast q k w
  else if isGuestEntry k ∧ d.writeCheck q k (.word v) = .ok ∧ !d.windowLocked q k then
    if enters then d.crossGuest q (.writing k) k 4 v else d.cross q (.writing k)
  else
    let r := d.write q k (.word v)
    r.1.setLast q k r.2

/-- A mapped read of one word. -/
def Device.mappedRead (d : Device) (q : Requester) (k : Nat) (crosses : Bool) : Device :=
  match d.readCheck q k true, d.entryFor q k with
  | .ok, some e =>
    if isGuestEntry k then d.crossGuest q (.reading k) k 0 0
    else if e.cross ∧ !(crosses && d.domainUp k) then d.cross q (.reading k)
    else d.finish q k .ok (some (d.readNum q k))
  | v, _ => (d.logVerdict q v).finish q k v (some 0)

/-- The dictionary is reached: from step 4 by the Lookouts, from step 5 by the host and the nodes; a node while the
field-network service is enabled, the host while its attachment is not stopped (R23). -/
def Device.reached (d : Device) (q : Requester) : Bool :=
  d.floorUp && d.boot.step4 && (q.level == 0 || d.boot.ioUp) && (!q.isNode || d.rd Reg.FN_ENABLE == 1) &&
    (q.level == 0 || q.isNode || !d.hostCut)

/-- Carry out a mapped access. -/
def Device.performAccess (d : Device) (q : Requester) : HeldAccess → Device
  | .write index sub value bytes => d.mappedWrite q (key index sub) value bytes true
  | .crossRead index sub crosses => d.mappedRead q (key index sub) crosses
  | .crossWrite index sub value enters => d.mappedWrite q (key index sub) value 15 enters

/-- Carry out the accesses that waited, in issue order, up to one that stalls. -/
def Device.runHeld (d : Device) (q : Requester) : List HeldAccess → Device
  | [] => d
  | a :: t =>
    if (d.req q).crossing = .none then (d.performAccess q a).runHeld q t else d.setReq q { d.req q with held := a :: t }

/-- An access reaches the register fabric: it waits behind a stalled access of the same requester (R58). -/
def Device.access (d : Device) (q : Requester) (a : HeldAccess) : Device :=
  if !d.reached q then d
  else if (d.req q).crossing = .none then d.performAccess q a
  else d.setReq q { d.req q with held := (d.req q).held ++ [a] }

/-- A write of one word to the entry index:subindex by a requester. -/
def Device.wordWrite (d : Device) (q : Requester) (k v : Nat) : Device := d.access q (.write (k / 256) (k % 256) v 15)

/-- A crossing ends: the access completes with a verdict and a value, and what waited goes on. -/
def Device.crossEnd (d : Device) (q : Requester) (k : Nat) (v : Verdict) (value : Nat) : Device :=
  let r := d.req q
  let d1 := (d.logVerdict q v).setReq q { r with crossing := .none, asked := none, held := [] }
  match q with
  | .node n =>
    let d2 := d1.setLast q k v
    (match r.session with
      | .reading txn _ _ _ => d2.answerRead n txn k v (leBytes value 4) false
      | .writing txn _ _ => d2.answerWrite n txn k v
      | .none => d2).settleFieldNet
  | _ =>
    let answer := match v with | .ok => some value | .drop => some 0 | .fail c _ => if c = St.DICT_CROSS_TIMEOUT then none else some 0
    let d2 := match r.crossing with | .reading _ => d1.finish q k v answer | _ => d1.setLast q k v
    d2.runHeld q r.held

/-- The 4 µs of a crossing pass (R56, R57). -/
def Device.crossTimeout (d : Device) (q : Requester) : Device :=
  match (d.req q).crossing with
  | .none => d
  | .reading k => d.crossEnd q k (.fail St.DICT_CROSS_TIMEOUT 0) 0
  | .writing k => d.crossEnd q k (.fail St.DICT_CROSS_TIMEOUT 0) 0

/-- Every requester of Table 2-4. -/
def allRequesters : List Requester := [.lookoutA, .lookoutB, .fn0, .fn1, .fn2] ++ allNodes.map Requester.node

/-- The guest answers the mailbox operation that waits for its TAG. -/
def Device.mbxAnswered (d : Device) (q : Requester) (k value : Nat) (code : Code) : Device :=
  let set (o : MbxOp) : Device := d.setReq q { d.req q with mbx := { (d.req q).mbx with op := o }, mbxAsked := none }
  match (d.req q).mbx.op with
  | .snapshot k' true _ _ => if k' = k then set (.snapshot k false code (leBytes value 4)) else d
  | .commit k' _ => if k' = k then set (.commit k (some code)) else d
  | _ => d

/-- The guest answers a dictionary access (R445): the TAG names the access; an answer whose access has timed out finds none
and is discarded (R56). -/
def Device.guestAnswered (d : Device) (x : GuestPacket) : Device :=
  let k := key x.index x.subindex
  match allRequesters.find? (fun q => (d.req q).asked == some x.tag) with
  | some q =>
    match (d.req q).crossing with
    | .reading k' => if k' = k then d.crossEnd q k (ownerCode x.status) x.value else d
    | .writing k' => if k' = k then d.crossEnd q k (ownerCode x.status) 0 else d
    | .none => d
  | none =>
    match allRequesters.find? (fun q => (d.req q).mbxAsked == some x.tag) with
    | some q => d.mbxAnswered q k x.value (if x.status = 0 then 0 else St.DICT_OWNER_REFUSED)
    | none => d

/-! ### The mailbox (R60 to R63) -/

/-- A snapshot ends: the buffer holds the value, or STATUS says why not. -/
def Device.snapshotEnd (d : Device) (q : Requester) (status : Code) (bytes : List Byte) : Device :=
  let m := (d.req q).mbx
  d.setReq q { d.req q with
    mbxAsked := none
    mbx :=
      if status = 0 then
        { m with buf := SMap.putList m.buf 0 0 bytes, len := bytes.length, gen := wrapTo 32 (m.gen + 1), valid := true, status := 0, op := .idle }
      else { m with status := status, op := .idle } }

/-- A commit ends with a status. Table 2-6 says "from Table 2-3 or the owner": DESIGN CHOICE, log entry 102, a commit that the
owner refuses shows Table 2-3's 0x0111 and not the owner's code. -/
def Device.commitEnd (d : Device) (q : Requester) (v : Verdict) : Device :=
  d.setReq q { d.req q with
    mbxAsked := none
    mbx := { (d.req q).mbx with op := .idle, status := match v with | .fail c _ => c | _ => 0 } }

/-- A mailbox operation is over; `crossed` says whether its crossing came back within its bound. -/
def Device.mbxDone (d : Device) (q : Requester) (crossed : Bool) : Device :=
  let late := Verdict.fail St.DICT_CROSS_TIMEOUT 0
  match (d.req q).mbx.op with
  | .idle => d
  | .snapshot k true _ _ =>
    match d.entryFor q k with
    | some e =>
      if crossed && d.domainUp k && !isGuestEntry k then d.snapshotEnd q 0 (d.readBytes q e k)
      else (d.logVerdict q late).snapshotEnd q St.DICT_CROSS_TIMEOUT []
    | none => d.snapshotEnd q St.DICT_NO_ENTRY []
  | .snapshot _ false status bytes => d.snapshotEnd q status bytes
  | .commit k answer =>
    let x := Carried.bytes (SMap.getList (d.req q).mbx.buf 0 0 (d.req q).mbx.len)
    let cross : Bool := match d.entryFor q k with | some e => e.cross | none => false
    if isGuestEntry k ∧ d.writeCheck q k x = .ok then
      match answer with
      | some c => d.commitEnd q (failIf (c != 0) c)
      | none => (d.logVerdict q late).commitEnd q late
    else if cross = true ∧ d.writeCheck q k x = .ok ∧ crossed = false then (d.logVerdict q late).commitEnd q late
    else
      let r := d.write q k x
      r.1.commitEnd q r.2

/-! ### Field-network requests (R64 to R67, R73) -/

/-- The valid node that a frame comes from: its identifier on a CAN bus, its source MAC on 10BASE-T1S. -/
def Device.nodeOf (d : Device) (bus ident : Nat) : Option (Fin 8) :=
  (if bus < 2 then d.canNode bus ident
    else if d.rd (Reg.MAC_ADDRESS (bus - 2)) = 0 then none else d.t1sNode (bus - 2) ident).map (Fin.ofNat 8)

/-- A transport violation of a node: logged, and answered with an ABORT (Table 2-14). -/
def Device.nodeWrong (d : Device) (n : Fin 8) (txn k : Nat) (c : Code) : Device :=
  (d.logEv c (Requester.node n).num).sendAbort n txn k c 0

/-- A segment out of order closes the session. -/
def Device.segmentWrong (d : Device) (n : Fin 8) (txn k : Nat) : Device :=
  (d.setReq (.node n) { d.req (.node n) with session := .none }).nodeWrong n txn k St.DICT_SEGMENT

/-- A READ that begins a transaction. -/
def Device.nodeRead (d : Device) (n : Fin 8) (txn k : Nat) (seg : Bool) : Device :=
  let q := Requester.node n
  match d.readCheck q k false, d.entryFor q k with
  | .ok, some e =>
    if isGuestEntry k ∨ (e.cross ∧ !d.domainUp k) then
      let d1 := d.setReq q { d.req q with session := .reading txn k [] 0 }
      if isGuestEntry k then d1.crossGuest q (.reading k) k 0 0 else d1.cross q (.reading k)
    else
      let b := d.readBytes q e k
      (if k = Reg.LAST_ACCESS_STATUS then d else d.setLast q k .ok).answerRead n txn k .ok b seg
  | v, e =>
    ((d.logVerdict q v).setLast q k v).answerRead n txn k v (zeros (match e with | some x => x.type.bytes | none => 0)) seg

/-- A whole WRITE: applied under R47 and answered. -/
def Device.nodeWrite (d : Device) (n : Fin 8) (txn k : Nat) (bytes : List Byte) : Device :=
  let q := Requester.node n
  if isGuestEntry k ∧ d.writeCheck q k (.bytes bytes) = .ok ∧ !d.windowLocked q k then
    (d.setReq q { d.req q with session := .writing txn k bytes }).crossGuest q (.writing k) k 4 (leNat bytes)
  else
    let r := d.write q k (.bytes bytes)
    (r.1.setLast q k r.2).answerWrite n txn k r.2

/-- Whether a frame breaks the form of Table 2-8: too short, a wrong version, a LENGTH that does not match; padding is zero
bytes (R67). -/
def Device.frameBad (d : Device) (n : Fin 8) (f : List Byte) : Bool :=
  let len := leAt f 6 2
  let seg := bitAt (leAt f 5 1) 1
  decide (f.length < 8) || leAt f 0 1 / 16 != 1 || decide (f.length < 8 + len) || decide (d.nodeLimit n < len) ||
    !(f.drop (8 + len)).all (· == 0) || (seg && decide (len < 4)) ||
    (leAt f 0 1 % 16 == 1 && len != (if seg then 4 else 0))

/-- A frame of a node. -/
def Device.nodeRequest (d : Device) (n : Fin 8) (f : List Byte) : Device :=
  let q := d.req (.node n)
  let cmd := leAt f 0 1 % 16
  let txn := leAt f 1 1
  let k := key (leAt f 2 2) (leAt f 4 1)
  let seg := bitAt (leAt f 5 1) 1
  let last := bitAt (leAt f 5 1) 2
  let data := (f.drop 8).take (leAt f 6 2)
  let off := leNat (data.take 4)
  if d.frameBad n f then (d.bump Reg.MALFORMED_FRAMES).nodeWrong n txn k St.DICT_MALFORMED
  else if cmd ≠ 1 ∧ cmd ≠ 2 then d.nodeWrong n txn k St.DICT_BAD_COMMAND
  else match q.crossing, q.session with
    | .none, .none =>
      if seg ∧ off ≠ 0 then d.segmentWrong n txn k
      else if cmd = 1 then d.nodeRead n txn k seg
      else if !seg then d.nodeWrite n txn k data
      else if last then d.nodeWrite n txn k (data.drop 4)
      else d.setReq (.node n) { q with session := .writing txn k (data.drop 4) }
    | .none, .reading t k' bytes next =>
      if cmd ≠ 1 ∨ !seg ∨ t ≠ txn ∨ k' ≠ k then d.nodeWrong n txn k St.DICT_BUSY
      else if off ≠ next then d.segmentWrong n txn k
      else d.sendValue n txn k bytes true off
    | .none, .writing t k' bytes =>
      if cmd ≠ 2 ∨ !seg ∨ t ≠ txn ∨ k' ≠ k then d.nodeWrong n txn k St.DICT_BUSY
      else if off ≠ bytes.length then d.segmentWrong n txn k
      else if last then d.nodeWrite n txn k (bytes ++ data.drop 4)
      else d.setReq (.node n) { q with session := .writing txn k (bytes ++ data.drop 4) }
    | _, _ => d.nodeWrong n txn k St.DICT_BUSY

/-- A dictionary frame arrives on a bus. A malformed frame of a node outside the node table meets two rows of Table 2-14: DESIGN
CHOICE, log entry 102, the second applies, and only UNKNOWN_NODE_FRAMES counts. CAN XL 0 is off its bus while port region A
restarts (R23). -/
def Device.fieldFrame (d : Device) (bus ident : Nat) (f : List Byte) : Device :=
  if bus = 0 ∧ d.dieAStopped then d else
  match d.nodeOf bus ident with
  | none => if d.reached (.node 0) then d.bump Reg.UNKNOWN_NODE_FRAMES else d
  | some n => if d.reached (.node n) then d.nodeRequest n f else d

/-! ### Doorbells and descriptors (R68, R69) -/

/-- A doorbell value that the ring takes: not reduced, at most the ring's size ahead of HEAD, not behind TAIL. -/
def Device.bellOk (d : Device) (r : RingId) (v : Nat) : Bool :=
  let m := 2 * d.rd (r.reg ringEntries)
  let ahead := fun x => (x + m - d.rd (r.reg ringHead)) % m
  d.fn (.ring r) == .on && decide (v < m) && decide (ahead v ≤ d.rd (r.reg ringEntries)) && decide (ahead (d.rd (r.reg ringTail)) ≤ ahead v)

/-- A write of a BAR2 doorbell slot. R54 and R68 do not say whether an accepted doorbell is an access: DESIGN CHOICE, log entry
102, it leaves LAST_ACCESS_STATUS as it was. -/
def Device.doorbell (d : Device) (q : Requester) (r : RingId) (v : Nat) : Device :=
  let level := match entryAt (r.reg 1) with | some e => e.wr | none => 0
  let set (d : Device) (c : Code) : Device := d.setReq q { d.req q with lastStatus := c, lastKey := none }
  if !d.reached q then d
  else if level < q.level then set (d.logVerdict q .drop) 0
  else if d.bellOk r v then d.wr (r.reg ringTail) v
  else set ((d.bump Reg.DOORBELL_REJECTS).logEv St.RING_BAD_DOORBELL (d.ringSlot r)) St.RING_BAD_DOORBELL

/-- The next descriptor of a FROM_DEVICE ring takes from what the ring has to deliver. -/
def Device.fillDescriptor (d : Device) (r : RingId) (x : Descriptor) (addrOk full : Bool) : Device :=
  if !d.ringLive r || d.ringPosted r = 0 || (d.ring r).items = [] then d
  else if !x.usable addrOk then d.ringBad r x full
  else d.ringFill r x full

/-- In Overnight a whole image is judged, and runs when it is accepted (R399). -/
def Device.overnightImage (d : Device) (certOk sigOk : Bool) (silent : List Nat) (e : MemEnv) : Device :=
  if d.personality ≠ .overnight ∨ !imgComplete d.loader.upload then d else
  let img := d.loader.upload.take (imgLength d.loader.upload)
  match d.judgeImage img certOk sigOk with
  | some x => (d.loaderSays x).onLoader fun l => { l with upload := [] }
  | none =>
    match (d.onLoader fun l => { l with upload := [] }).acceptImage img e with
    | (d1, some x) => d1.loaderSays x
    | (d0, none) =>
    let d1 := d0.onLoader fun l => { l with tenant := img }
    (d1.wrAll [(Reg.LOADER_STATUS, 0), (Reg.LOADER_DETAIL, 0)]).chooseVariant.runStart silent

/-- A descriptor of the upload ring, and what a last byte leads to. -/
def Device.upload (d : Device) (x : Descriptor) (addrOk : Bool) (payload : List Byte) (full certOk sigOk : Bool) (silent : List Nat)
    (env : MemEnv) : Device :=
  let d1 := d.uploadDescriptor x addrOk payload full
  if d1.loader.upload ≠ d.loader.upload then d1.overnightImage certOk sigOk silent env else d1

/-- The next descriptor of any ring, by the ring's owner. -/
def Device.descriptor (d : Device) (r : RingId) (x : Descriptor) (addrOk : Bool) (payload : List Byte) (full certOk sigOk : Bool)
    (silent : List Nat) (env : MemEnv) : Device :=
  match r with
  | .programUpload => d.upload x addrOk payload full certOk sigOk silent env
  | .replay => d.replayDescriptor x addrOk payload env full
  | .latticeUpload => d.latticeDescriptor x addrOk payload env full
  | .jobIn => if leAt x.owner 0 1 = 2 then d.jobDescriptor 2 x addrOk payload full env else d.jobDescriptor 1 x addrOk payload full env
  | r => d.fillDescriptor r x addrOk full

/-! ### The error log (R74, R75) -/

/-- The two records merge. -/
def LogRecord.same (a b : LogRecord) : Bool := a.status == b.status && a.inst == b.inst && a.d0 == b.d0

/-- Store a record; a full log loses its oldest. -/
def Device.keepRecord (d : Device) (r : LogRecord) : Device :=
  let l := d.log
  let all := l.stored ++ [{ r with mgmt := d.rd Reg.MGMT_PERIODS, seq := l.nextSeq, reps := 0 }]
  let d1 := { d with log := { l with stored := if 4096 < all.length then all.drop 1 else all, nextSeq := (l.nextSeq + 1) % 65536 } }
  if 4096 < all.length then d1.bump Reg.LOG_LOST else d1

/-- A record reaches the Warden: merged into the newest, or stored under the next SEQ. -/
def Device.storeRecord (d : Device) (r : LogRecord) : Device :=
  let l := d.log
  match l.stored.getLast? with
  | some n =>
    if n.same r then
      { d with log := { l with stored := l.stored.dropLast ++ [{ n with reps := min 65535 (n.reps + 1) }] } }
    else d.keepRecord r
  | none => d.keepRecord r

/-- The records of a window that begins at SEQ `first`. -/
def Log.window (l : Log) (first : Nat) : List LogRecord :=
  match l.stored.getLast? with
  | none => []
  | some n =>
    if l.stored.any (fun r => r.seq == first) then (l.stored.dropWhile (fun r => r.seq != first)).take 16
    else
      let ahead := (first + 65536 - n.seq) % 65536
      if 1 ≤ ahead ∧ ahead ≤ 32767 then [] else l.stored.take 16

/-! ### The commands -/

/-- REGISTER_WRITE (R47, R53): a mapped write with its byte enables. -/
def execRegisterWrite (req : Requester) (index : BitVec 16) (sub : BitVec 8) (value : BitVec 32) (bytes : BitVec 4) (s : State) :
    Host.Outcome State Fault Refusal :=
  s.run fun d => d.access req (.write index.toNat sub.toNat value.toNat bytes.toNat)

/-- CROSS_DOMAIN_READ (R56): a mapped read of one word; `crosses` says whether a crossing comes back in time. -/
def execCrossDomainRead (req : Requester) (index : BitVec 16) (sub : BitVec 8) (crosses : Bool) (s : State) :
    Host.Outcome State Fault Refusal :=
  s.run fun d => d.access req (.crossRead index.toNat sub.toNat crosses)

/-- CROSS_DOMAIN_WRITE (R57): `enters` says whether the write enters the crossing's buffer in time. -/
def execCrossDomainWrite (req : Requester) (index : BitVec 16) (sub : BitVec 8) (value : BitVec 32) (enters : Bool) (s : State) :
    Host.Outcome State Fault Refusal :=
  s.run fun d => d.access req (.crossWrite index.toNat sub.toNat value.toNat enters)

/-- DICT_CROSS_TIMEOUT (R56, R57). -/
def execDictCrossTimeout (req : Requester) (s : State) : Host.Outcome State Fault Refusal := s.run fun d => d.crossTimeout req

/-- The MBX_CTL word of an operation (Table 2-5). -/
def mbxWord (op index sub : Nat) : Nat := op * 2 ^ 28 + index * 2 ^ 8 + sub

/-- MBX_SNAPSHOT (R60). -/
def execMbxSnapshot (req : Requester) (index : BitVec 16) (sub : BitVec 8) (s : State) : Host.Outcome State Fault Refusal :=
  s.run fun d => d.wordWrite req Reg.MBX_CTL (mbxWord 1 index.toNat sub.toNat)

/-- MBX_COMMIT (R62). -/
def execMbxCommit (req : Requester) (index : BitVec 16) (sub : BitVec 8) (s : State) : Host.Outcome State Fault Refusal :=
  s.run fun d => d.wordWrite req Reg.MBX_CTL (mbxWord 2 index.toNat sub.toNat)

/-- MBX_RELEASE (R61). -/
def execMbxRelease (req : Requester) (s : State) : Host.Outcome State Fault Refusal :=
  s.run fun d => d.wordWrite req Reg.MBX_CTL (mbxWord 3 0 0)

/-- MBX_OPERATION_DONE (R60, R62). -/
def execMbxOperationDone (req : Requester) (crossed : Bool) (s : State) : Host.Outcome State Fault Refusal :=
  s.run fun d => d.mbxDone req crossed

/-- MBX_DATA_WRITE (R61). -/
def execMbxDataWrite (req : Requester) (word : Fin 240) (value : BitVec 32) (s : State) : Host.Outcome State Fault Refusal :=
  s.run fun d => d.wordWrite req (Reg.MBX_DATA word) value.toNat

/-- MBX_LEN_WRITE (R61). -/
def execMbxLenWrite (req : Requester) (value : BitVec 32) (s : State) : Host.Outcome State Fault Refusal :=
  s.run fun d => d.wordWrite req Reg.MBX_LEN value.toNat

/-- READ (R64). -/
def execRead (bus : Fin 4) (ident : BitVec 48) (frame : List Byte) (s : State) : Host.Outcome State Fault Refusal :=
  s.run fun d => d.fieldFrame bus ident.toNat frame

/-- WRITE (R64). -/
def execWrite (bus : Fin 4) (ident : BitVec 48) (frame : List Byte) (s : State) : Host.Outcome State Fault Refusal :=
  s.run fun d => d.fieldFrame bus ident.toNat frame

/-- DICT_SESSION_TIMEOUT (R65): an open session without its next segment closes. -/
def execDictSessionTimeout (node : Fin 8) (s : State) : Host.Outcome State Fault Refusal :=
  s.run fun d =>
    let q := d.req (.node node)
    if q.session = .none ∨ q.crossing ≠ .none then d
    else (d.logEv St.DICT_SESSION_TIMEOUT (Requester.node node).num).abortSession node St.DICT_SESSION_TIMEOUT

/-- FN_ENABLE (R72). -/
def execFnEnable (req : Requester) (value : BitVec 32) (s : State) : Host.Outcome State Fault Refusal :=
  s.run fun d => d.wordWrite req Reg.FN_ENABLE value.toNat

/-- DOORBELL (R68). -/
def execDoorbell (req : Requester) (ring : RingId) (value : BitVec 32) (s : State) : Host.Outcome State Fault Refusal :=
  s.run fun d => d.doorbell req ring value.toNat

/-- RING_DESCRIPTOR (R69). -/
def execRingDescriptor (ring : RingId) (desc : Descriptor) (addrOk : Bool) (payload : List Byte) (full certOk sigOk : Bool)
    (silent : List (Fin 11)) (env : MemEnv) (s : State) : Host.Outcome State Fault Refusal :=
  s.run fun d => d.descriptor ring desc addrOk payload full certOk sigOk (silent.map (·.val)) env

/-- RING_ENABLE (R486). -/
def execRingEnable (req : Requester) (ring : RingId) (value : BitVec 32) (s : State) : Host.Outcome State Fault Refusal :=
  s.run fun d => d.wordWrite req (ring.reg 1) value.toNat

/-- LOG_CTL (R75). -/
def execLogCtl (req : Requester) (value : BitVec 32) (s : State) : Host.Outcome State Fault Refusal :=
  s.run fun d => d.wordWrite req Reg.LOG_CTL value.toNat

/-- LOG_SNAPSHOT_DONE (R75): the window holds up to 16 records in SEQ order. -/
def execLogSnapshotDone (req : Requester) (s : State) : Host.Outcome State Fault Refusal :=
  s.run fun d =>
    let r := d.req req
    if r.window.busy then d.setReq req { r with window := { r.window with valid := true, busy := false, recs := d.log.window r.window.first } }
    else d

/-- LOG_RECORD_STORE (R74): the record `which` of those on their way reaches the Warden. -/
def execLogRecordStore (which : Nat) (s : State) : Host.Outcome State Fault Refusal :=
  s.run fun d =>
    match d.log.inbox[which]? with
    | none => d
    | some r => { d with log := { d.log with inbox := d.log.inbox.eraseIdx which } }.storeRecord r

/-- The status code that a free value names: a high byte of Table 0-5 but success, a low byte that is not 0 (R10, R11). -/
def codeOf (v : Nat) : Code := (v / 256 % 14 + 1) * 256 + (v % 255 + 1)

/-- USB4_LINK_RECOVERY (R73): counted, with a log record whose STATUS the spec does not state: any code of R10's form. -/
def execUsb4LinkRecovery (s : State) : Host.Outcome State Fault Refusal :=
  s.run fun d => (d.drawn.bump Reg.USB4_RECOVERIES).logEv (codeOf (d.freeVal 16)) 0

/-- PROGRAM_UPLOAD (R126, R399): the verdicts of the signature checks serve when the descriptor completes an image. -/
def execProgramUpload (desc : Descriptor) (addrOk : Bool) (payload : UploadData) (full certOk sigOk : Bool) (silent : List (Fin 11))
    (s : State) : Host.Outcome State Fault Refusal :=
  s.run fun d => d.upload desc addrOk payload.bytes full certOk sigOk (silent.map (·.val)) payload.env

/-- CFG_GO (R81). -/
def execCfgGo (req : Requester) (value : BitVec 32) (s : State) : Host.Outcome State Fault Refusal :=
  s.run fun d => d.wordWrite req Reg.CFG_GO value.toNat

/-- RUN_RETRY (R85). -/
def execRunRetry (req : Requester) (value : BitVec 32) (s : State) : Host.Outcome State Fault Refusal :=
  s.run fun d => d.wordWrite req Reg.RUN_RETRY value.toNat

/-- ENTER_OVERNIGHT (R96): PERSONALITY_REQ = OVERNIGHT. -/
def execEnterOvernight (req : Requester) (s : State) : Host.Outcome State Fault Refusal :=
  s.run fun d => d.wordWrite req Reg.PERSONALITY_REQ 1

/-- YIELD (R417): PERSONALITY_REQ = DRIVE. -/
def execYield (req : Requester) (s : State) : Host.Outcome State Fault Refusal :=
  s.run fun d => d.wordWrite req Reg.PERSONALITY_REQ 0

/-- ENTER_SERVICE (R96): PERSONALITY_REQ = SERVICE. -/
def execEnterService (req : Requester) (s : State) : Host.Outcome State Fault Refusal :=
  s.run fun d => d.wordWrite req Reg.PERSONALITY_REQ 2

/-- LEAVE_SERVICE (Table 3-8): PERSONALITY_REQ = DRIVE in Service. -/
def execLeaveService (req : Requester) (s : State) : Host.Outcome State Fault Refusal :=
  s.run fun d => d.wordWrite req Reg.PERSONALITY_REQ 0

/-- HAMPER_ENABLE (R215). -/
def execHamperEnable (req : Requester) (value : BitVec 32) (s : State) : Host.Outcome State Fault Refusal :=
  s.run fun d => d.wordWrite req Reg.HAMPER_ENABLE value.toNat

/-- SCRUB_ENABLE (R243). -/
def execScrubEnable (req : Requester) (value : BitVec 32) (s : State) : Host.Outcome State Fault Refusal :=
  s.run fun d => d.wordWrite req Reg.SCRUB_ENABLE value.toNat

/-- SLOT_ENABLE (R257, R275). -/
def execSlotEnable (req : Requester) (slot : Fin 64) (value : BitVec 32) (s : State) : Host.Outcome State Fault Refusal :=
  s.run fun d => d.wordWrite req (Reg.SLOT_ENABLE slot) value.toNat

/-- FUSION_ENABLE (R279, R311). -/
def execFusionEnable (req : Requester) (value : BitVec 32) (s : State) : Host.Outcome State Fault Refusal :=
  s.run fun d => d.wordWrite req Reg.FUSION_ENABLE value.toNat

/-- PLAN_ENABLE (R315, R344). -/
def execPlanEnable (req : Requester) (value : BitVec 32) (s : State) : Host.Outcome State Fault Refusal :=
  s.run fun d => d.wordWrite req Reg.PLAN_ENABLE value.toNat

/-- JOB_ENABLE (R402, R418). -/
def execJobEnable (req : Requester) (value : BitVec 32) (s : State) : Host.Outcome State Fault Refusal :=
  s.run fun d => d.wordWrite req Reg.JOB_ENABLE value.toNat

/-- GUEST_ENABLE (R442, R446). -/
def execGuestEnable (req : Requester) (value : BitVec 32) (s : State) : Host.Outcome State Fault Refusal :=
  s.run fun d => d.wordWrite req Reg.GUEST_ENABLE value.toNat

/-- LINK_ENABLE (R425, R435). -/
def execLinkEnable (req : Requester) (port : PortNo) (value : BitVec 32) (s : State) : Host.Outcome State Fault Refusal :=
  s.run fun d => d.wordWrite req (Reg.LINK_ENABLE port) value.toNat

/-- ATTEST_NONCE (R401): the nonce as a requester commits it. -/
def execAttestNonce (req : Requester) (nonce : List Byte) (s : State) : Host.Outcome State Fault Refusal :=
  s.run fun d => if d.reached req then (d.write req Reg.ATTEST_NONCE (.bytes nonce)).1 else d

/-- CKPT_ACK (R415). -/
def execCkptAck (req : Requester) (value : BitVec 32) (s : State) : Host.Outcome State Fault Refusal :=
  s.run fun d => d.wordWrite req Reg.CKPT_ACK value.toNat

/-- EPOCH_RELEASE (R439). -/
def execEpochRelease (req : Requester) (value : BitVec 32) (s : State) : Host.Outcome State Fault Refusal :=
  s.run fun d => d.wordWrite req Reg.EPOCH_RELEASE value.toNat

/-- COOLANT_REPORT (R467). -/
def execCoolantReport (req : Requester) (value : BitVec 32) (s : State) : Host.Outcome State Fault Refusal :=
  s.run fun d => d.wordWrite req Reg.COOLANT_REPORT value.toNat

/-- DICT_RSP (R445). -/
def execDictRsp (x : GuestArrival) (s : State) : Host.Outcome State Fault Refusal :=
  s.run fun d => d.guestArrive gstDictRsp x fun d y => (d.guestAnswered y).guestFree y

/-- ETH_FRAME (R258): a 10BASE-T1S frame of a dictionary node is no sample. -/
def execEthFrame (port : Fin 10) (frame : List Byte) (fcsOk : Bool) (room : Option (Fin 65536)) (env : MemEnv) (s : State) :
    Host.Outcome State Fault Refusal :=
  s.run fun d =>
    if 8 ≤ port.val ∧ (d.nodeOf (port.val - 6) (beNat (slice frame 6 6))).isSome ∧ beNat (slice frame 12 2) = d.rd Reg.ETHERTYPE then d
    else d.ethFrame port frame fcsOk (room.map (·.val)) env

/-- CAN_FRAME (R258): a frame of a dictionary node is no sample. -/
def execCanFrame (bus : Fin 2) (ident : BitVec 11) (data : List Byte) (room : Option (Fin 65536)) (env : MemEnv) (s : State) :
    Host.Outcome State Fault Refusal :=
  s.run fun d => if (d.nodeOf bus ident.toNat).isSome then d else d.canFrame bus ident.toNat data (room.map (·.val)) env

/-- RX_LINK_STATE (R274): DOWN 0, SYNC 1, UP 2. -/
def execRxLinkState (rx : Fin 16) (st : Fin 3) (s : State) : Host.Outcome State Fault Refusal :=
  s.run fun d => d.wr (Reg.RX_LINK rx) st

/-- ETH_LINK_STATE (R274). -/
def execEthLinkState (port : Fin 8) (up : Bool) (s : State) : Host.Outcome State Fault Refusal :=
  s.run fun d => d.wr (Reg.ETH_LINK_UP port) (bit1 up)

/-- HOST_ROUTER_ENUMERATION (R86): the first port on which a host router enumerates the device is the boot host's. -/
def execHostRouterEnumeration (port : Fin 2) (s : State) : Host.Outcome State Fault Refusal :=
  s.run fun d => if d.floorUp ∧ d.boot.hostPort = none then d.onBoot fun b => { b with hostPort := some port.val } else d

end Sys2Proof.Machine
end

