-- ==== Sys2Proof/Machine/StartCmds.lean ====
section
/-!
DEFINITION. The commands of start-up, reset, transitions and restarts (chapters 1, 3 and 12): pins, Trailhead steps and
their bounds, the flash record, the ends of transitions and restarts, clock faults and trips.
-/

namespace Sys2Proof.Machine

/-! ### Pins (R76, R471) -/

/-- A read-only entry that the Lookout keeps of itself. -/
def islGone (i : Island) (k : Nat) : Bool :=
  match entryAt k with
  | some e => e.access == .ro && (match i with
    | .A => k == Reg.FRAME_COUNT || k / 256 == 0x7202 || k / 65536 == 0x73 || k == Reg.LOOKOUT_A_FW_VERSION ||
        k == Reg.ISL_PERIPH_COUNT 0 || k == Reg.ISL_CLOCK_FAULTS 0 || k == Reg.APP_STATUS 0 || k == Reg.FAULT_CAUSE 0
    | .B => k / 256 == 0x7002 || k == Reg.TRIP_COUNT || k / 256 == 0x8004 || k == Reg.LOOKOUT_B_FW_VERSION ||
        k == Reg.ISL_PERIPH_COUNT 1 || k == Reg.ISL_CLOCK_FAULTS 1 || k == Reg.APP_STATUS 1 || k == Reg.FAULT_CAUSE 1)
  | none => false

/-- A Lookout's registers read their defaults when its reset is released. Lookout A counts frames and tests, Lookout B the
stream, the trips and the attestation. -/
def Device.islDefaults (d : Device) (i : Island) : Device :=
  { d with dict := SMap.keep d.dict (fun k => !islGone i k), blobs := SMap.keep d.blobs (fun k => !islGone i k) }

/-- What a Lookout holds beside its registers is cleared with its reset. -/
def Device.islCleared (d : Device) (i : Island) : Device :=
  let d1 := (d.islDefaults i).onIsl i fun x => { lost := x.lost }
  match i with
  | .A => ((d1.disarmAll).onSafety fun s => { s with events := [], appRecords := [], tests := [], slices := 0, shedSeq := 0 }).onBoot fun b =>
      { b with step1A := false, romFailed := setBit b.romFailed 0 false }
  | .B => (d1.onSafety fun s => { s with trajectory := [], fallback := [], streams := [], reason := 0, streamSeq := 0, expired := false }).onBoot fun b =>
      { b with step1B := false, step2 := false, romFailed := setBit (setBit b.romFailed 1 false) 2 false }

/-- A Lookout's reset pin. -/
def Device.islReset (d : Device) (i : Island) (released : Bool) : Device :=
  d.onBoot fun b => match i with | .A => { b with islA := released } | .B => { b with islB := released }

/-- RESET_N is asserted, or PWR_GOOD_FLOOR falls: the latch of a trip clears while RESET_N is low (R471). -/
def Device.resetAssert (d : Device) : Device :=
  let d1 := if d.boot.resetHigh && d.boot.floorGood then d.coldReset else d
  (d1.onBoot fun b => { b with resetHigh := false }).onPower fun p => { p with trip := false }

/-- RESET_N is released: BOOT_SRC is sampled, and the floor starts. -/
def Device.resetRelease (d : Device) (src : Nat) : Device :=
  if d.boot.resetHigh then d
  else ((d.onBoot fun b => { b with resetHigh := true }).wr Reg.BOOT_SRC_SAMPLED src).coldStart

/-! ### The flash record (R82, Table 3-3) -/

/-- The record's header is valid. -/
def recordHeader (b : List Byte) : Bool :=
  let n := leAt b 4 4
  leAt b 0 4 == 0x43464B4E && decide (16 ≤ n) && decide (n ≤ 1048576) && decide (n ≤ b.length) && leAt b 8 4 % 4096 == 0 &&
    leAt b 12 4 == crc32 (slice b 16 (n - 16))

/-- Apply the record's writes in order, from the entry numbered `i` on, as writes of a P1 requester. A refused write ends
the record; the entry with index 0 ends the list, and the window closes. -/
def Device.recordApply (d : Device) (b : List Byte) (i : Nat) : Nat → Device
  | 0 => d.recordRefused i
  | fuel + 1 =>
    let k := key (leAt b 0 2) (leAt b 2 1)
    let n := leAt b 4 4
    let x := Carried.bytes ((b.drop 8).take n)
    if b.length < 8 then d.recordRefused i
    else if leAt b 0 2 = 0 then d.closeWindow
    else if leAt b 3 1 ≠ 0 ∨ b.length < 8 + n then d.recordRefused i
    else match d.writeCheck .fn0 k x, d.entryFor .fn0 k with
      | .ok, some e => (d.applyWrite .fn0 e k x).recordApply (b.drop (8 + (n + 3) / 4 * 4)) (i + 1) fuel
      | _, _ => d.recordRefused i

/-- The start configuration record. -/
def Device.flashRecord (d : Device) (b : List Byte) : Device :=
  if recordHeader b then
    (d.onLoader fun l => { l with flashAt := leAt b 8 4 }).recordApply (slice b 16 (leAt b 4 4 - 16)) 0 (leAt b 4 4)
  else d.recordRefused 0

/-! ### Trailhead (R79) -/

/-- Step 4 reads the sensors: at a trip threshold the device trips again, and Trailhead stops (R471). -/
def Device.floorInit (d : Device) (temps sensed : List Int) (us : Nat) : Device :=
  let d1 := d.timeStep 4 us
  let d2 := d1.each (List.zipIdx (temps.take 28)) fun d p => d.setTemp p.2 p.1
  let d3 := d2.each (List.zipIdx (sensed.take 8)) fun d p => d.setStackTemp p.2 p.1
  if (temps.take 28).any (fun t => decide (130 ≤ t)) || (sensed.take 8).any (fun t => decide (110 ≤ t)) then
    (d3.tripReset.atStep 0xFF).setCause .B causeTrailhead true
  else (d3.onBoot fun b => { b with step4 := true }).advanceEarly

/-- Trailhead is at step `n`, on a floor that runs. -/
def Device.stepIs (d : Device) (n : Nat) : Bool := d.floorUp && d.rd Reg.TRAILHEAD_STEP == n

/-- A step completes. A step that is not in progress has no effect. -/
def Device.stepDone (d : Device) (us : Nat) : StepResult → Device
  | .romSelfTest i =>
    let done := match i with | .A => d.boot.step1A | .B => d.boot.step1B
    if d.islReleased i ∧ !done ∧ !bitAt d.boot.romFailed i.num then
      ((d.timeStep 1 us).onBoot fun b => match i with | .A => { b with step1A := true } | .B => { b with step1B := true }).advanceEarly
    else d
  | .puf uid pub =>
    if d.boot.step1B ∧ !d.boot.step2 ∧ !bitAt d.boot.romFailed 2 then
      ((((d.timeStep 2 us).wr Reg.UNIQUE_ID uid.toNat).wrBlob Reg.IDENTITY_PUBKEY (padTo (pub.take 97) 97)).onBoot fun b =>
        { b with step2 := true }).advanceEarly
    else d
  | .pllLock =>
    if d.floorUp ∧ !d.boot.step3 ∧ d.rd Reg.TRAILHEAD_STEP < 5 then
      (((d.timeStep 3 us).wr Reg.ROOT_PLL_LOCKED 1).onBoot fun b => { b with step3 := true }).advanceEarly
    else d
  | .floorInit temps sensed =>
    if d.floorUp ∧ d.boot.step3 ∧ !d.boot.step4 ∧ d.rd Reg.TRAILHEAD_STEP < 5 then d.floorInit temps sensed us else d
  | .ucie => if d.stepIs 5 then (d.timeStep 5 us).ucieStep else d
  | .flashRecord bytes => if d.stepIs 20 && !d.boot.hostWindow then d.flashRecord bytes else d
  | .dram sensed failed channels =>
    if d.stepIs 6 then ((d.timeStep 6 us).dramStep sensed (failed.map (·.val)) channels).atStep 7 else d
  | .comparators failing ro =>
    if d.stepIs 7 then (((d.timeStep 7 us).failCores (failing.map (·.val))).ageStart ro).atStep 8 else d
  | .lanes => if d.stepIs 8 then (d.timeStep 8 us).lanesStep else d
  | .flashImage bytes => if d.stepIs 9 && d.loader.fetching && d.loader.fromFlash && d.loader.image == [] then d.flashImage bytes us else d
  | .hostImage => if d.stepIs 9 then d.hostImage us else d
  | .verify certOk sigOk env => if d.stepIs 10 then d.verifyStep certOk sigOk env us else d
  | .variant => if d.stepIs 11 then ((d.timeStep 11 us).takeModes.chooseVariant).atStep 12 else d
  | .entry fwA fwB silent => if d.stepIs 12 then d.entryStep fwA.toNat fwB.toNat (silent.map (·.val)) us else d

/-! ### Clock faults (R34, Table 1-4) -/

/-- The main domain runs: the root PLL has locked in this start. -/
def Device.mainRuns (d : Device) : Bool := d.floorUp && d.boot.step3

/-- A window of 10 µs ends at a Lookout: two in a row out of range declare a main-clock fault, two in range end it. -/
def Device.periphWindow (d : Device) (i : Island) (count : Nat) : Device :=
  if !d.islUp i then d else
  let d1 := d.wr (Reg.ISL_PERIPH_COUNT i.num) count
  let x := d.isl i
  if count < 990 ∨ 1010 < count then
    let d2 := d1.onIsl i fun y => { y with clockBad := min 2 (y.clockBad + 1), clockGood := 0 }
    if x.clockBad + 1 = 2 then
      let d3 := (d2.bump (Reg.ISL_CLOCK_FAULTS i.num)).setCause i causeClock true
      if d3.mainRuns then d3.demandChip St.TH_PLL_NO_LOCK else d3
    else d2
  else
    let d2 := d1.onIsl i fun y => { y with clockBad := 0, clockGood := min 2 (y.clockGood + 1) }
    if 2 ≤ x.clockGood + 1 then d2.setCause i causeClock false else d2

/-! ### The commands -/

/-- ISL_RESET_RELEASE (R76): the Lookout begins step 1. -/
def execIslResetRelease (i : Island) (s : State) : Host.Outcome State Fault Refusal :=
  s.run fun d => if d.islReleased i then d else ((d.islCleared i).islReset i true).advanceEarly

/-- ISL_RESET_ASSERT (R76, R18): the Lookout stops; the main chip is not reset. -/
def execIslResetAssert (i : Island) (s : State) : Host.Outcome State Fault Refusal :=
  s.run fun d => (d.islReset i false).onIsl i fun x => { x with firmware := false, transit := none }

/-- RESET_N_ASSERT (R76). -/
def execResetNAssert (s : State) : Host.Outcome State Fault Refusal := s.run Device.resetAssert

/-- RESET_N_RELEASE (R76). -/
def execResetNRelease (bootSrc : Fin 4) (s : State) : Host.Outcome State Fault Refusal := s.run fun d => d.resetRelease bootSrc

/-- PWR_GOOD_FLOOR_FALL (R76): treated as an assertion of RESET_N. -/
def execPwrGoodFloorFall (s : State) : Host.Outcome State Fault Refusal :=
  s.run fun d => (if d.floorUp then d.coldReset else d).onBoot fun b => { b with floorGood := false }

/-- PWR_GOOD_FLOOR_RISE (R76): step 3 begins once RESET_N is high too. -/
def execPwrGoodFloorRise (s : State) : Host.Outcome State Fault Refusal :=
  s.run fun d => if d.boot.floorGood then d else (d.onBoot fun b => { b with floorGood := true }).coldStart

/-- PWR_GOOD_CMP_FALL (R76): a region fault while the device runs. -/
def execPwrGoodCmpFall (r : RegionNo) (s : State) : Host.Outcome State Fault Refusal :=
  s.run fun d =>
    let d1 := d.onBoot fun b => { b with cmpGood := setBit b.cmpGood r false }
    if d.started ∧ bitAt d.boot.cmpGood r then d1.regionFault (Region.ofNum r) 0 else d1

/-- PWR_GOOD_CMP_RISE (R76, R77). -/
def execPwrGoodCmpRise (r : RegionNo) (s : State) : Host.Outcome State Fault Refusal :=
  s.run fun d => d.onBoot fun b => { b with cmpGood := setBit b.cmpGood r true }

/-- TRAILHEAD_STEP_COMPLETE (R79). -/
def execTrailheadStepComplete (us : BitVec 32) (res : StepResult) (s : State) : Host.Outcome State Fault Refusal :=
  s.run fun d => d.stepDone us.toNat res

/-- TRAILHEAD_STEP_TIMEOUT (R80). -/
def execTrailheadStepTimeout (step : Fin 13) (detail : BitVec 32) (s : State) : Host.Outcome State Fault Refusal :=
  s.run fun d => d.stepFail step detail.toNat

/-- TH_CFG_TIMEOUT (R81, R89): no CFG_GO within 10,000 ms. -/
def execThCfgTimeout (s : State) : Host.Outcome State Fault Refusal :=
  s.run fun d => if d.cfgOpen then d.thStop St.TH_CFG_TIMEOUT 0 else d

/-- TRANSITION_DONE (R94). -/
def execTransitionDone (us : BitVec 32) (bad : Option (Fin 256)) (silent : List (Fin 11)) (s : State) : Host.Outcome State Fault Refusal :=
  s.run fun d => d.transitionEnd us.toNat (bad.map (·.val)) (silent.map (·.val))

/-- REGION_RESTART (R100): `own` is a region whose network, floor join, world engine or port region has an error of its own
(Table 1-4). -/
def execRegionRestart (cause : RegionCause) (s : State) : Host.Outcome State Fault Refusal :=
  s.run fun d =>
    let d1 := match cause.own with
      | some r => if d.started then d.regionFault r 0 else d
      | none => d
    d1.regionRestart (cause.failing.map (·.val))

/-- REGION_RESTART_RESUME (R100, R121). -/
def execRegionRestartResume (us : BitVec 32) (s : State) : Host.Outcome State Fault Refusal := s.run fun d => d.regionResume us.toNat

/-- RS_REGION_TIMEOUT (R100): the restart of a region passes 120 ms. -/
def execRsRegionTimeout (s : State) : Host.Outcome State Fault Refusal :=
  s.run fun d =>
    match d.boot.restarting with
    | some r =>
      let d1 := (d.logEv St.RS_REGION_TIMEOUT r.num).demandChip St.RS_REGION_TIMEOUT
      if d.regionPowered r then d1 else d1.onBoot fun b => { b with leftOut := setBit b.leftOut r.num true }
    | none => d

/-- WARM_RESTART (R101). A chip-level error while Service is being left begins a warm restart too (R97). -/
def execWarmRestart (cause : WarmCause) (s : State) : Host.Outcome State Fault Refusal :=
  s.run fun d =>
    if !d.started && !(d.boot.warm && d.transition == .leaveService) then d else
    let d1 := (d.warmCause cause.cause).loseWrites (cause.lost.map (·.toNat))
    if d1.boot.chipDemand.isSome then d1.warmBegin .warmRestart d1.restartEnd else d1

/-- WARM_RESTART_COMPLETE (R101). -/
def execWarmRestartComplete (us : BitVec 32) (failing : List CoreNo) (bad : Option (Fin 256)) (silent : List (Fin 11)) (s : State) :
    Host.Outcome State Fault Refusal :=
  s.run fun d => d.warmEnd us.toNat (failing.map (·.val)) (bad.map (·.val)) (silent.map (·.val))

/-- RS_WARM_FAIL (R381). -/
def execRsWarmFail (detail : BitVec 32) (s : State) : Host.Outcome State Fault Refusal :=
  s.run fun d => if d.boot.warm then d.warmFail detail.toNat else d

/-- PLL_LOCK_LOSS (Table 1-4). -/
def execPllLockLoss (s : State) : Host.Outcome State Fault Refusal :=
  s.run fun d =>
    if d.mainRuns then (((d.bump Reg.PLL_LOCK_LOSSES).wr Reg.ROOT_PLL_LOCKED 0).logEv St.TH_PLL_NO_LOCK 0).demandChip St.TH_PLL_NO_LOCK
    else d

/-- ISL_PERIPH_WINDOW (R34). -/
def execIslPeriphWindow (i : Island) (count : BitVec 16) (s : State) : Host.Outcome State Fault Refusal :=
  s.run fun d => d.periphWindow i count.toNat

/-- THERMAL_TRIP (R471): a sensor reads `t`. -/
def execThermalTrip (sensor : Fin 36) (t : BitVec 16) (s : State) : Host.Outcome State Fault Refusal :=
  s.run fun d =>
    if !d.floorUp then d else
    let d1 := d.sensorReads sensor t.toInt
    if d1.sensorAt sensor 130 110 then d1.tripReset else d1

end Sys2Proof.Machine
end

