-- ==== Sys2Proof/Machine/Mgmt.lean ====
section
/-!
DEFINITION. The Warden's management loop (R38): what one 1 ms iteration does with power and temperature, the job and the
Hamper, the regulation snapshots, periodic retraining, and the records of counted events.
-/

namespace Sys2Proof.Machine

/-- One record per code and instance whose count changed, with the increase (R178, R278, R451). -/
def Device.flushTallies (d : Device) : Device :=
  { d.each d.tallies (fun d p => d.logEv (p.1 / 256) (p.1 % 256) p.2) with tallies := [] }

/-- The first correction of each stack in the period is logged (R240); the period's failed parity retries become those of
the period before (R241). -/
def Device.flushCorrections (d : Device) : Device :=
  let d1 := d.each d.mem.corrections fun d p => { d with log := { d.log with inbox := d.log.inbox ++ [p.2] } }
  d1.onMem fun m => { m with corrections := [], caFails := [], caOld := m.caFails }

/-- The read allowance of port `p` is full: a core's 192 reads (R20). The requests of ports 64 to 78 that stand before their
command are the iteration's to say (DESIGN CHOICE, log 105). -/
def Device.allowanceFull (d : Device) (m : MgmtInput) (p : Nat) : Bool :=
  if p < 64 then decide (192 ≤ (d.core p).readsOut) else m.full.any (·.val = p)

/-- An RT request of port `p` is outstanding with deadline 0 (Table 8-6): a core's transaction in flight that was issued so,
or one that waiting has lowered so. -/
def Device.deadlineOut (d : Device) (m : MgmtInput) (p : Nat) : Bool :=
  let due := m.due.any (·.val = p)
  decide (d.rd (Reg.PORT_CLASS p) = 0) &&
    if p < 64 then (d.core p).chans.any fun q => q.2.any fun o => o.flights.any fun x => due || decide (x.deadline = 0) else due

/-- What arbitration has added to the cores' counters since the last iteration (R19): the cycles themselves are not
modelled (DESIGN CHOICE, log 5). -/
def Device.bankWaits (d : Device) (l : List BankWait) : Device :=
  d.each l fun d w => (d.addSat 32 (Reg.CORE_STARVE_GRANTS w.core) w.grants.toNat).addSat 64 (Reg.CORE_BANK_WAIT_CYCLES w.core) w.cycles.toNat

/-- The regulation state of port `p` is shown in its entries (R254); deadline misses are logged once (R252). -/
def Device.portSnapshot (d : Device) (i : MgmtInput) (p : Nat) : Device :=
  let m := d.mport p
  let now := m.conditions (d.allowanceFull i p) (d.deadlineOut i p)
  let d1 := if m.misses ≠ m.missesLogged then d.logMem St.MEM_DEADLINE_MISS p m.lateAddr else d
  let d2 := d1.wrAll [(Reg.PORT_FLAGS p, now + 65536 * Nat.lor m.period now), (Reg.PORT_BUDGET_EXHAUSTED p, m.exhausted),
    (Reg.PORT_BYTES_LAST_WINDOW p, satTo 32 m.lastBytes), (Reg.PORT_LAT_AVG p, satTo 16 m.lat), (Reg.PORT_LAT_MAX p, satTo 32 m.latMax),
    (Reg.PORT_DEADLINE_MISSES p, m.misses), (Reg.PORT_PANIC_EVENTS p, m.panics), (Reg.PORT_ROW_THROTTLES p, m.throttles)]
  let d3 := if m.hist = [] then d2
    else d2.wrBlob (Reg.PORT_LAT_HISTOGRAM p) ((List.range 8).map (fun i => leBytes (SMap.getD m.hist i 0) 4)).flatten
  d3.onPort p fun m => { m with period := now, missesLogged := m.misses }

/-- The Warden starts a retraining in each stack that has one due (R236). -/
def Device.retrainStep (d : Device) : Device :=
  if !d.boot.trained ∨ d.boot.warm then d else d.each (List.range 8) fun d s => d.retrainNext s

/-- Time since the last complete test of each core (R371). -/
def Device.ageTests (d : Device) (ms : Nat) : Device :=
  d.each ((List.range 64).filter d.tested) fun d c => d.onTest c fun t => { t with sinceMs := min 0xFFFFFF (t.sinceMs + ms) }

/-- Periods that the loop skipped (R38). -/
def Device.skipPeriods (d : Device) (n : Nat) : Device :=
  if n = 0 then d else (d.addSat 32 Reg.MGMT_SKIPPED n).logEv St.MGMT_PERIOD_SKIPPED 0 n

/-- One iteration of the management loop. -/
def Device.mgmt (d : Device) (m : MgmtInput) : Device :=
  let d1 := ((d.skipPeriods m.skipped.toNat).powerIteration m).jobIteration m.outRoom m.ckptRoom m.env
  let d2 := ((d1.bankWaits m.waits).each (List.range 79) fun d p => d.portSnapshot m p).retrainStep
  let d3 := (((d2.flushTallies).flushCorrections).ageTests (m.skipped.toNat + 1)).onMem fun x =>
    { x with elapsed := x.elapsed + m.skipped.toNat + 1 }
  let d4 := (d3.onGuest fun g => { g with malformed := 0, overruns := 0 }).edgeStep
  d4.bumpWrap Reg.MGMT_PERIODS

/-- MGMT_ITERATION (R38): the Warden runs from step 4 on. -/
def execMgmtIteration (m : MgmtInput) (s : State) : Host.Outcome State Fault Refusal :=
  s.run fun d => if d.mainRuns && d.boot.step4 then d.mgmt m else d

end Sys2Proof.Machine
end

