-- ==== Sys2Proof/Machine/Vector.lean ====
section
/-!
DEFINITION. The vector engine (Tables 5-7, 5-8 and 6-6, R138, R169 to R171): results lane by lane, and the start and
completion of its operations.
-/

namespace Sys2Proof.Machine

/-- The operation reads b (Table 5-7). -/
def veBinary (op : Nat) : Bool := op ≤ 0x07

/-- A code of −0 in a VE output format; the integer formats have none. -/
def negZero (f : Nat) : Nat :=
  match f with
  | 2 => 0x80 | 3 => 0x80 | 4 => 0x8000 | 5 => 0x8000 | 6 => 0x80000000 | _ => 0

/-- Encode a result that Table 6-6 states exactly, keeping the sign of a zero. -/
def encodeExact (f : Nat) (rnd : Rounding) (x : Num) : Encoded :=
  match x with
  | .zero true => ⟨negZero f, false⟩
  | x => encodeVe f rnd x

/-- FP32 bits that keep the sign of a zero (R170). -/
def f32Bits (x : Num) : Nat := (encodeExact 6 .nearest x).code

/-- The FP32 stage of a unary operation: RECIP of an infinity is a zero of its sign (Table 6-6). -/
def unaryStage (op : Nat) (x : Num) : Num :=
  match op, x with
  | 0x11, .inf s => .zero s
  | 0x10, x => ofF32 (expF32 (f32Bits x))
  | 0x11, x => ofF32 (recipF32 (f32Bits x))
  | _, x => ofF32 (rsqrtF32 (f32Bits x))

/-- One lane of an element-wise operation, encoded in the output format (Tables 5-7, 6-6). -/
def laneResult (op f : Nat) (rnd : Rounding) (a b addend : Num) : Encoded :=
  match op with
  | 0x01 => encodeVe f rnd (a.add b)
  | 0x02 => encodeVe f rnd (a.add b.neg)
  | 0x03 => encodeVe f rnd (a.mul b)
  | 0x04 => encodeVe f rnd ((a.mul b).add addend)
  | 0x05 => encodeExact f rnd (Num.max a b)
  | 0x06 => encodeExact f rnd (Num.min a b)
  | 0x07 => encodeVe f rnd (if Num.gt a b then .fin false 1 1 0 else .zero false)
  | 0x30 => encodeVe f rnd a
  | _ => encodeExact f rnd (unaryStage op a)

/-- The reduced value of one vector: RSUM's tree (R170) or RMAX. -/
def reduceLanes (op : Nat) (l : List Num) : Num :=
  if op = 0x20 then ofF32 ((sumTree 8 (l.map toF32)).headD 0)
  else
    match l with
    | [] => .nan
    | x :: t => ofF32 (f32Bits (t.foldl Num.max x))

/-- The value of element `i` at byte `base` in format `f`. -/
def Core.veElement (c : Core) (f base i : Nat) : Num := elementValue f (c.element (elementBits f) base i)

/-- The encoded results of a VE operation, in order. -/
def Device.veLanes (d : Device) (c : Core) (o : VeOp) : List Encoded :=
  let x := o.operands
  let fi := veFmtIn x
  let fo := veFmtOut x
  let a (i : Nat) : Num := c.veElement fi (veSrcA x * 32) i
  let b (i : Nat) : Num := if veBImm x then ofF32 o.imm else c.veElement fi (veSrcB x * 32) i
  let n := 256 * veLen x
  if o.op = 0x20 ∨ o.op = 0x21 then
    (List.range n).map (fun i =>
      if i % 256 = 0 then
        encodeExact fo (d.rounding c (veRnd x) i) (reduceLanes o.op ((List.range 256).map (fun j => a (i + j))))
      else ⟨0, false⟩)
  else
    (List.range n).map (fun i =>
      laneResult o.op fo (d.rounding c (veRnd x) i) (a i) (if veBinary o.op then b i else .zero false)
        (if o.op = 0x04 then c.veElement fo (veDst x * 32) i else .zero false))

/-- The results as bytes, with the events of R178. -/
def Device.veResult (d : Device) (c : Core) (o : VeOp) : EngineResult :=
  let fo := veFmtOut o.operands
  let l := d.veLanes c o
  let vals := l.map (fun e => elementValue fo e.code)
  { writes := [(veDst o.operands * 32, pack (elementBits fo) (l.map (·.code)))]
    nans := (vals.filter (· == .nan)).length
    infs := (vals.filter (fun v => match v with | .inf _ => true | _ => false)).length
    sats := (l.filter (·.sat)).length }

/-- Why a VE operation stops its core at its start (R138, R22). The range of an SRC_B that the operation does not read is not
judged (DESIGN CHOICE, log 103). -/
def Core.veStop (c : Core) (o : VeOp) : Option Stop :=
  let x := o.operands
  if 6 < veFmtIn x ∨ 6 < veFmtOut x then some ⟨St.OPERAND_INVALID, veSrcA x⟩ else
  let bytesIn := 32 * elementBits (veFmtIn x) * veLen x
  let dst : Span := (veDst x * 32, 32 * elementBits (veFmtOut x) * veLen x)
  let srcB : List Span := if veBinary o.op && !veBImm x then [(veSrcB x * 32, bytesIn)] else []
  c.rangeStop ([(veSrcA x * 32, bytesIn)] ++ srcB ++ (if o.op = 0x04 then [dst] else [])) [dst]

/-- The operation at the head of the VE queue starts when the engine is free (R130, R29). -/
def Device.veStart (d : Device) (c : Nat) (ecc : List (Nat × Bool)) : Device :=
  match (d.core c).veQueue with
  | [] => d
  | o :: rest =>
    if (d.core c).veRun.isSome || SMap.getD d.strm.divChange (c / 16) 0 != 0 then d else
    let d0 := d.lmEcc c ecc
    let k := d0.core c
    let d1 := (d0.onCore c fun k => { k with veQueue := rest }).recent (.room c 1)
    match k.veStop o with
    | some st => d1.coreFault c st.code (faultDetail 2 0 0 st.granule)
    | none =>
      let n := 256 * veLen o.operands
      ((d1.onCore c fun k' => { k' with veRun := some (o, d0.begun k (d0.veResult k o)) }).stir c n (veRnd o.operands)).drew n

/-- The VE operation under way completes (R149). -/
def Device.veComplete (d : Device) (c : Nat) : Device :=
  match (d.core c).veRun with
  | none => d
  | some (o, r) =>
    let d0 := d.onCore c fun k => { k with veRun := none }
    (((d0.finalDraw c r).applyResult c (d0.finalResult c r fun d k => d.veResult k o)).raiseDone c 2 0 o.done).settleRun

/-! ### The commands -/

/-- VE_OPERATION_START (R130). -/
def execVeOperationStart (core : CoreNo) (ecc : List (Granule × Bool)) (s : State) : Host.Outcome State Fault Refusal :=
  s.run fun d => d.veStart core (ecc.map (fun p => (p.1.val, p.2)))

/-- VE_OPERATION_COMPLETE (R149). -/
def execVeOperationComplete (core : CoreNo) (s : State) : Host.Outcome State Fault Refusal :=
  s.run fun d => d.veComplete core

end Sys2Proof.Machine
end

