-- ==== Sys2Proof/Machine/Dispatch.lean ====
section
/-!
DEFINITION. The dispatch of every command to its meaning: one arm per row of spec/opcode_table.json, in the table's
order.
-/

namespace Sys2Proof.Machine

def exec (i : Instr) (s : State) : Host.Outcome State Fault Refusal :=
  match i with
  | .islResetRelease isl => Sys2Proof.Machine.execIslResetRelease isl s
  | .islResetAssert isl => Sys2Proof.Machine.execIslResetAssert isl s
  | .resetNAssert => Sys2Proof.Machine.execResetNAssert s
  | .resetNRelease bootSrc => Sys2Proof.Machine.execResetNRelease bootSrc s
  | .pwrGoodFloorFall => Sys2Proof.Machine.execPwrGoodFloorFall s
  | .pwrGoodCmpFall r => Sys2Proof.Machine.execPwrGoodCmpFall r s
  | .pwrGoodCmpRise r => Sys2Proof.Machine.execPwrGoodCmpRise r s
  | .trailheadStepComplete us res => Sys2Proof.Machine.execTrailheadStepComplete us res s
  | .trailheadStepTimeout step detail => Sys2Proof.Machine.execTrailheadStepTimeout step detail s
  | .cfgGo req value => Sys2Proof.Machine.execCfgGo req value s
  | .thCfgTimeout => Sys2Proof.Machine.execThCfgTimeout s
  | .runRetry req value => Sys2Proof.Machine.execRunRetry req value s
  | .enterOvernight req => Sys2Proof.Machine.execEnterOvernight req s
  | .yield req => Sys2Proof.Machine.execYield req s
  | .enterService req => Sys2Proof.Machine.execEnterService req s
  | .leaveService req => Sys2Proof.Machine.execLeaveService req s
  | .transitionDone us bad silent => Sys2Proof.Machine.execTransitionDone us bad silent s
  | .regionRestart cause => Sys2Proof.Machine.execRegionRestart cause s
  | .regionRestartResume us => Sys2Proof.Machine.execRegionRestartResume us s
  | .rsRegionTimeout => Sys2Proof.Machine.execRsRegionTimeout s
  | .warmRestart cause => Sys2Proof.Machine.execWarmRestart cause s
  | .warmRestartComplete us failing bad silent => Sys2Proof.Machine.execWarmRestartComplete us failing bad silent s
  | .rsWarmFail detail => Sys2Proof.Machine.execRsWarmFail detail s
  | .pllLockLoss => Sys2Proof.Machine.execPllLockLoss s
  | .islPeriphWindow isl count => Sys2Proof.Machine.execIslPeriphWindow isl count s
  | .mgmtIteration m => Sys2Proof.Machine.execMgmtIteration m s
  | .divisorChange r => Sys2Proof.Machine.execDivisorChange r s
  | .registerWrite req index sub value bytes => Sys2Proof.Machine.execRegisterWrite req index sub value bytes s
  | .crossDomainRead req index sub crosses => Sys2Proof.Machine.execCrossDomainRead req index sub crosses s
  | .crossDomainWrite req index sub value enters => Sys2Proof.Machine.execCrossDomainWrite req index sub value enters s
  | .dictCrossTimeout req => Sys2Proof.Machine.execDictCrossTimeout req s
  | .mbxSnapshot req index sub => Sys2Proof.Machine.execMbxSnapshot req index sub s
  | .mbxCommit req index sub => Sys2Proof.Machine.execMbxCommit req index sub s
  | .mbxRelease req => Sys2Proof.Machine.execMbxRelease req s
  | .mbxOperationDone req crossed => Sys2Proof.Machine.execMbxOperationDone req crossed s
  | .mbxDataWrite req word value => Sys2Proof.Machine.execMbxDataWrite req word value s
  | .mbxLenWrite req value => Sys2Proof.Machine.execMbxLenWrite req value s
  | .read bus ident frame => Sys2Proof.Machine.execRead bus ident frame s
  | .write bus ident frame => Sys2Proof.Machine.execWrite bus ident frame s
  | .dictSessionTimeout node => Sys2Proof.Machine.execDictSessionTimeout node s
  | .fnEnable req value => Sys2Proof.Machine.execFnEnable req value s
  | .doorbell req ring value => Sys2Proof.Machine.execDoorbell req ring value s
  | .ringDescriptor ring desc addrOk payload full certOk sigOk silent env => Sys2Proof.Machine.execRingDescriptor ring desc addrOk payload full certOk sigOk silent env s
  | .ringEnable req ring value => Sys2Proof.Machine.execRingEnable req ring value s
  | .drainLimitExpired fn tags full room env => Sys2Proof.Machine.execDrainLimitExpired fn tags full room env s
  | .ringCplDiscarded ring => Sys2Proof.Machine.execRingCplDiscarded ring s
  | .logCtl req value => Sys2Proof.Machine.execLogCtl req value s
  | .logSnapshotDone req => Sys2Proof.Machine.execLogSnapshotDone req s
  | .logRecordStore which => Sys2Proof.Machine.execLogRecordStore which s
  | .usb4LinkRecovery => Sys2Proof.Machine.execUsb4LinkRecovery s
  | .bar4Access req offset write len env => Sys2Proof.Machine.execBar4Access req offset write len env s
  | .bundleIssue => Sys2Proof.Machine.execBundleIssue s
  | .pgHoldTimeout => Sys2Proof.Machine.execPgHoldTimeout s
  | .pgApplyLate => Sys2Proof.Machine.execPgApplyLate s
  | .pgCounterWarn => Sys2Proof.Machine.execPgCounterWarn s
  | .pgCounterSaturated => Sys2Proof.Machine.execPgCounterSaturated s
  | .brTrue addr pred target => Sys2Proof.Machine.execBrTrue addr pred target s
  | .brFalse addr pred target => Sys2Proof.Machine.execBrFalse addr pred target s
  | .jump target => Sys2Proof.Machine.execJump target s
  | .rdAnd reg bit pred => Sys2Proof.Machine.execRdAnd reg bit pred s
  | .rdOr reg bit pred => Sys2Proof.Machine.execRdOr reg bit pred s
  | .rdSelect reg bit core pred => Sys2Proof.Machine.execRdSelect reg bit core pred s
  | .lpStart addr count last => Sys2Proof.Machine.execLpStart addr count last s
  | .applyMark => Sys2Proof.Machine.execApplyMark s
  | .halt => Sys2Proof.Machine.execHalt s
  | .watchdogKick stage intervalUs => Sys2Proof.Machine.execWatchdogKick stage intervalUs s
  | .testWindowGrant core len => Sys2Proof.Machine.execTestWindowGrant core len s
  | .waitGe core sem n => Sys2Proof.Machine.execWaitGe core sem n s
  | .add core sem n => Sys2Proof.Machine.execAdd core sem n s
  | .sub core sem n => Sys2Proof.Machine.execSub core sem n s
  | .barArrive core bar => Sys2Proof.Machine.execBarArrive core bar s
  | .barWait core bar => Sys2Proof.Machine.execBarWait core bar s
  | .send core peer granule => Sys2Proof.Machine.execSend core peer granule s
  | .recv core peer granule => Sys2Proof.Machine.execRecv core peer granule s
  | .sendAndRecv core sendPeer recvPeer sendGranule recvGranule => Sys2Proof.Machine.execSendAndRecv core sendPeer recvPeer sendGranule recvGranule s
  | .programUpload desc addrOk payload full certOk sigOk silent => Sys2Proof.Machine.execProgramUpload desc addrOk payload full certOk sigOk silent s
  | .worldJobDispatch => Sys2Proof.Machine.execWorldJobDispatch s
  | .matmulTile core sr done operands => Sys2Proof.Machine.execMatmulTile core sr done operands s
  | .convTile core sr done operands => Sys2Proof.Machine.execConvTile core sr done operands s
  | .drain core sr done operands => Sys2Proof.Machine.execDrain core sr done operands s
  | .attnStep core sr done operands => Sys2Proof.Machine.execAttnStep core sr done operands s
  | .initStep core sr done operands => Sys2Proof.Machine.execInitStep core sr done operands s
  | .finish core sr done operands => Sys2Proof.Machine.execFinish core sr done operands s
  | .accept core sr done operands => Sys2Proof.Machine.execAccept core sr done operands s
  | .teOperationStart core ecc => Sys2Proof.Machine.execTeOperationStart core ecc s
  | .teOperationComplete core which replay disagree => Sys2Proof.Machine.execTeOperationComplete core which replay disagree s
  | .veAdd core done operands imm => Sys2Proof.Machine.execVeAdd core done operands imm s
  | .veSub core done operands imm => Sys2Proof.Machine.execVeSub core done operands imm s
  | .mul core done operands imm => Sys2Proof.Machine.execMul core done operands imm s
  | .fma core done operands imm => Sys2Proof.Machine.execFma core done operands imm s
  | .max core done operands imm => Sys2Proof.Machine.execMax core done operands imm s
  | .min core done operands imm => Sys2Proof.Machine.execMin core done operands imm s
  | .cmpGt core done operands imm => Sys2Proof.Machine.execCmpGt core done operands imm s
  | .exp core done operands imm => Sys2Proof.Machine.execExp core done operands imm s
  | .recip core done operands imm => Sys2Proof.Machine.execRecip core done operands imm s
  | .rsqrt core done operands imm => Sys2Proof.Machine.execRsqrt core done operands imm s
  | .rsum core done operands imm => Sys2Proof.Machine.execRsum core done operands imm s
  | .rmax core done operands imm => Sys2Proof.Machine.execRmax core done operands imm s
  | .convert core done operands imm => Sys2Proof.Machine.execConvert core done operands imm s
  | .veOperationStart core ecc => Sys2Proof.Machine.execVeOperationStart core ecc s
  | .veOperationComplete core => Sys2Proof.Machine.execVeOperationComplete core s
  | .seAdd core rd ra rb immSel imm => Sys2Proof.Machine.execSeAdd core rd ra rb immSel imm s
  | .seSub core rd ra rb immSel imm => Sys2Proof.Machine.execSeSub core rd ra rb immSel imm s
  | .seAnd core rd ra rb immSel imm => Sys2Proof.Machine.execSeAnd core rd ra rb immSel imm s
  | .seOr core rd ra rb immSel imm => Sys2Proof.Machine.execSeOr core rd ra rb immSel imm s
  | .xor core rd ra rb immSel imm => Sys2Proof.Machine.execXor core rd ra rb immSel imm s
  | .shl core rd ra rb immSel imm => Sys2Proof.Machine.execShl core rd ra rb immSel imm s
  | .shr core rd ra rb immSel imm => Sys2Proof.Machine.execShr core rd ra rb immSel imm s
  | .sltu core rd ra rb immSel imm => Sys2Proof.Machine.execSltu core rd ra rb immSel imm s
  | .seq core rd ra rb immSel imm => Sys2Proof.Machine.execSeq core rd ra rb immSel imm s
  | .mov core rd rb immSel imm => Sys2Proof.Machine.execMov core rd rb immSel imm s
  | .ld32 core rd ra rb immSel imm => Sys2Proof.Machine.execLd32 core rd ra rb immSel imm s
  | .st32 core rd ra rb immSel imm => Sys2Proof.Machine.execSt32 core rd ra rb immSel imm s
  | .barcfg core bar rb immSel imm => Sys2Proof.Machine.execBarcfg core bar rb immSel imm s
  | .semrd core rd rb immSel imm => Sys2Proof.Machine.execSemrd core rd rb immSel imm s
  | .seLoadComplete core ecc => Sys2Proof.Machine.execSeLoadComplete core ecc s
  | .xfer core chan done descLine => Sys2Proof.Machine.execXfer core chan done descLine s
  | .prefetch core chan done descLine => Sys2Proof.Machine.execPrefetch core chan done descLine s
  | .fence core chan done => Sys2Proof.Machine.execFence core chan done s
  | .readWalk core chan => Sys2Proof.Machine.execReadWalk core chan s
  | .append core chan => Sys2Proof.Machine.execAppend core chan s
  | .refill core chan => Sys2Proof.Machine.execRefill core chan s
  | .deOperationStart core chan ecc => Sys2Proof.Machine.execDeOperationStart core chan ecc s
  | .deTransactionIssue core chan => Sys2Proof.Machine.execDeTransactionIssue core chan s
  | .deReadReturn core chan which ecc env => Sys2Proof.Machine.execDeReadReturn core chan which ecc env s
  | .deWriteAck core chan which env => Sys2Proof.Machine.execDeWriteAck core chan which env s
  | .deAckTimeout core chan => Sys2Proof.Machine.execDeAckTimeout core chan s
  | .deOperationComplete core chan which => Sys2Proof.Machine.execDeOperationComplete core chan which s
  | .walkRetry core chan => Sys2Proof.Machine.execWalkRetry core chan s
  | .appendPublish core chan => Sys2Proof.Machine.execAppendPublish core chan s
  | .inboundTransfer core ep offset data poison last sem => Sys2Proof.Machine.execInboundTransfer core ep offset data poison last sem s
  | .hamperEnable req value => Sys2Proof.Machine.execHamperEnable req value s
  | .floorCacheAccess port addr len write poison alloc env => Sys2Proof.Machine.execFloorCacheAccess port addr len write poison alloc env s
  | .atomicRead port addr acc => Sys2Proof.Machine.execAtomicRead port addr acc s
  | .atomicAdd port addr acc value => Sys2Proof.Machine.execAtomicAdd port addr acc value s
  | .atomicAnd port addr acc value => Sys2Proof.Machine.execAtomicAnd port addr acc value s
  | .atomicOr port addr acc value => Sys2Proof.Machine.execAtomicOr port addr acc value s
  | .atomicMin port addr acc value => Sys2Proof.Machine.execAtomicMin port addr acc value s
  | .atomicMax port addr acc value => Sys2Proof.Machine.execAtomicMax port addr acc value s
  | .atomicSwap port addr acc value => Sys2Proof.Machine.execAtomicSwap port addr acc value s
  | .atomicCompareAndSwap port addr acc expected value => Sys2Proof.Machine.execAtomicCompareAndSwap port addr acc expected value s
  | .refresh stack channel bank row => Sys2Proof.Machine.execRefresh stack channel bank row s
  | .retrainingComplete stack channel ok => Sys2Proof.Machine.execRetrainingComplete stack channel ok s
  | .dramRowDisturb => Sys2Proof.Machine.execDramRowDisturb s
  | .rowThrottleEnd port stack => Sys2Proof.Machine.execRowThrottleEnd port stack s
  | .scrubEnable req value => Sys2Proof.Machine.execScrubEnable req value s
  | .patrolScrub fault => Sys2Proof.Machine.execPatrolScrub fault s
  | .zeroiseComplete => Sys2Proof.Machine.execZeroiseComplete s
  | .regWindowEnd port => Sys2Proof.Machine.execRegWindowEnd port s
  | .slotEnable req slot value => Sys2Proof.Machine.execSlotEnable req slot value s
  | .frameStart rx vc frame hdr env => Sys2Proof.Machine.execFrameStart rx vc frame hdr env s
  | .longPacket rx vc dt payload crcOk hdr room env => Sys2Proof.Machine.execLongPacket rx vc dt payload crcOk hdr room env s
  | .frameEnd rx vc hdr => Sys2Proof.Machine.execFrameEnd rx vc hdr s
  | .ethFrame port frame fcsOk room env => Sys2Proof.Machine.execEthFrame port frame fcsOk room env s
  | .canFrame bus ident data room env => Sys2Proof.Machine.execCanFrame bus ident data room env s
  | .spiDrdy port data room env => Sys2Proof.Machine.execSpiDrdy port data room env s
  | .replay desc addrOk payload env full => Sys2Proof.Machine.execReplay desc addrOk payload env full s
  | .sampleComplete slot corrupt room env => Sys2Proof.Machine.execSampleComplete slot corrupt room env s
  | .dropout slot env => Sys2Proof.Machine.execDropout slot env s
  | .fusionEnable req value => Sys2Proof.Machine.execFusionEnable req value s
  | .imuSample slot idx env => Sys2Proof.Machine.execImuSample slot idx env s
  | .wheelSample slot idx env => Sys2Proof.Machine.execWheelSample slot idx env s
  | .lidarPacket slot idx offset env => Sys2Proof.Machine.execLidarPacket slot idx offset env s
  | .detections env => Sys2Proof.Machine.execDetections env s
  | .awaitInstant => Sys2Proof.Machine.execAwaitInstant s
  | .instantGuardClosed env => Sys2Proof.Machine.execInstantGuardClosed env s
  | .instantOutputDone room planRoom env => Sys2Proof.Machine.execInstantOutputDone room planRoom env s
  | .planEnable req value => Sys2Proof.Machine.execPlanEnable req value s
  | .latticeUpload desc addrOk payload env full => Sys2Proof.Machine.execLatticeUpload desc addrOk payload env full s
  | .build env => Sys2Proof.Machine.execBuild env s
  | .buildStart env => Sys2Proof.Machine.execBuildStart env s
  | .epochComplete env => Sys2Proof.Machine.execEpochComplete env s
  | .expand env => Sys2Proof.Machine.execExpand env s
  | .expandDone env => Sys2Proof.Machine.execExpandDone env s
  | .select env => Sys2Proof.Machine.execSelect env s
  | .planDeadline env => Sys2Proof.Machine.execPlanDeadline env s
  | .trajectoryRecordDone room intact env => Sys2Proof.Machine.execTrajectoryRecordDone room intact env s
  | .outFrameDropped output => Sys2Proof.Machine.execOutFrameDropped output s
  | .outputSubstituted ageMs => Sys2Proof.Machine.execOutputSubstituted ageMs s
  | .lookoutAEvent => Sys2Proof.Machine.execLookoutAEvent s
  | .sliceStart core inTime => Sys2Proof.Machine.execSliceStart core inTime s
  | .sliceComplete core passed => Sys2Proof.Machine.execSliceComplete core passed s
  | .stageShed due env retry => Sys2Proof.Machine.execStageShed due env retry s
  | .testOverdue core => Sys2Proof.Machine.execTestOverdue core s
  | .wdLate stage => Sys2Proof.Machine.execWdLate stage s
  | .peerStatusSend isl => Sys2Proof.Machine.execPeerStatusSend isl s
  | .peerStatusMessage isl => Sys2Proof.Machine.execPeerStatusMessage isl s
  | .peerLost isl => Sys2Proof.Machine.execPeerLost isl s
  | .fallbackFrame ageMs => Sys2Proof.Machine.execFallbackFrame ageMs s
  | .appDemand isl demand => Sys2Proof.Machine.execAppDemand isl demand s
  | .islandSelfFault isl => Sys2Proof.Machine.execIslandSelfFault isl s
  | .attestNonce req nonce => Sys2Proof.Machine.execAttestNonce req nonce s
  | .attestReportReady signature => Sys2Proof.Machine.execAttestReportReady signature s
  | .jobEnable req value => Sys2Proof.Machine.execJobEnable req value s
  | .admitRequest desc addrOk payload full env => Sys2Proof.Machine.execAdmitRequest desc addrOk payload full env s
  | .release desc addrOk full => Sys2Proof.Machine.execRelease desc addrOk full s
  | .ckptAck req value => Sys2Proof.Machine.execCkptAck req value s
  | .yieldForced => Sys2Proof.Machine.execYieldForced s
  | .ckptFinalLost => Sys2Proof.Machine.execCkptFinalLost s
  | .linkEnable req port value => Sys2Proof.Machine.execLinkEnable req port value s
  | .linkMgmt port systemId deviceId => Sys2Proof.Machine.execLinkMgmt port systemId deviceId s
  | .linkTrainTimeout port => Sys2Proof.Machine.execLinkTrainTimeout port s
  | .memWrite port x env => Sys2Proof.Machine.execMemWrite port x env s
  | .chanXfer port x env => Sys2Proof.Machine.execChanXfer port x env s
  | .answer port x => Sys2Proof.Machine.execAnswer port x s
  | .credit port x lane => Sys2Proof.Machine.execCredit port x lane s
  | .throttle port x => Sys2Proof.Machine.execThrottle port x s
  | .linkNegativeAck port seq => Sys2Proof.Machine.execLinkNegativeAck port seq s
  | .fastRetrain port => Sys2Proof.Machine.execFastRetrain port s
  | .linkRetrained port ok => Sys2Proof.Machine.execLinkRetrained port ok s
  | .transferAbandoned core ep which => Sys2Proof.Machine.execTransferAbandoned core ep which s
  | .epochRelease req value => Sys2Proof.Machine.execEpochRelease req value s
  | .epochDrainExpiry guest channel epoch => Sys2Proof.Machine.execEpochDrainExpiry guest channel epoch s
  | .guestTrainingAttempt t => Sys2Proof.Machine.execGuestTrainingAttempt t s
  | .guestEnable req value => Sys2Proof.Machine.execGuestEnable req value s
  | .rdReq x env => Sys2Proof.Machine.execRdReq x env s
  | .wrReq x env => Sys2Proof.Machine.execWrReq x env s
  | .chXfer x env => Sys2Proof.Machine.execChXfer x env s
  | .dictRsp x => Sys2Proof.Machine.execDictRsp x s
  | .guestCredit x pool => Sys2Proof.Machine.execGuestCredit x pool s
  | .nack x => Sys2Proof.Machine.execNack x s
  | .guestSidebandViolation => Sys2Proof.Machine.execGuestSidebandViolation s
  | .guestRetrainingComplete ok => Sys2Proof.Machine.execGuestRetrainingComplete ok s
  | .vrSettle r readMv => Sys2Proof.Machine.execVrSettle r readMv s
  | .loadhintLead core => Sys2Proof.Machine.execLoadhintLead core s
  | .loadhintHold core => Sys2Proof.Machine.execLoadhintHold core s
  | .ocAlert r => Sys2Proof.Machine.execOcAlert r s
  | .thermalHw sensor t => Sys2Proof.Machine.execThermalHw sensor t s
  | .thermalHwRelease r => Sys2Proof.Machine.execThermalHwRelease r s
  | .thermalTrip sensor t => Sys2Proof.Machine.execThermalTrip sensor t s
  | .coolantReport req value => Sys2Proof.Machine.execCoolantReport req value s
  | .coolantStale => Sys2Proof.Machine.execCoolantStale s
  | .pwrGoodFloorRise => Sys2Proof.Machine.execPwrGoodFloorRise s
  | .fusionStartTimeout => Sys2Proof.Machine.execFusionStartTimeout s
  | .linkThrottleEnd port => Sys2Proof.Machine.execLinkThrottleEnd port s
  | .rxLinkState rx st => Sys2Proof.Machine.execRxLinkState rx st s
  | .ethLinkState port up => Sys2Proof.Machine.execEthLinkState port up s
  | .hostRouterEnumeration port => Sys2Proof.Machine.execHostRouterEnumeration port s
  | .heartbeatToggle isl => Sys2Proof.Machine.execHeartbeatToggle isl s
  | .islSupplyOrCrystalLoss isl => Sys2Proof.Machine.execIslSupplyOrCrystalLoss isl s

end Sys2Proof.Machine
end

