-- ==== Sys2Proof/Safety.lean ====
section
/-!
DEFINITION. What a safe run is: every step of it answers a next state. With it the terms that claims use: what it is
for a command to complete, and the invariant that every step keeps.
-/

namespace Sys2Proof.Machine

/-- The step at `s` answers a next state. -/
def Safe (s : State) : Prop := ∃ t, step s = .next t

/-- `k` steps from `s`, each answering a next state, end at the state given; a run that stops answers none. -/
def run : Nat → State → Option State
  | 0, s => some s
  | k + 1, s =>
    match step s with
    | .next t => run k t
    | .fault _ => none
    | .refused _ => none

/-- The command answers a next state, the queue is as before, and of the block's next state `p` holds. -/
def Completes (c : Instr) (s : State) (p : Device → Prop) : Prop :=
  ∃ t, exec c s = .next t ∧ t.pending = s.pending ∧ p t.dev

/-- `e` differs from `d` at most in core `c`. -/
def Device.coreOnly (d e : Device) (c : Nat) : Prop := e = { d with cores := e.cores } ∧ ∀ j, j ≠ c → e.core j = d.core j

/-- Every register but those at the keys `ks` reads as before. -/
def Device.kept (d e : Device) (ks : List Nat) : Prop := ∀ k, k ∉ ks → e.rd k = d.rd k

/-- `e` differs from `d` at most in the registers at the keys `ks`. -/
def Device.regsOnly (d e : Device) (ks : List Nat) : Prop := e = { d with dict := e.dict } ∧ d.kept e ks

/-- Core `c`, which was not halted, has halted with `code` (R153): its state and fault record, its queues empty, the
code logged, and the bundle stream stopped. -/
def Device.haltedBy (d e : Device) (c : Nat) (code : Code) (detail : Nat) : Prop :=
  e.rd (Reg.CORE_STATE c) = coreHalted ∧ e.rd (Reg.CORE_FAULT_CODE c) = code ∧
  e.rd (Reg.CORE_FAULT_BUNDLE c) = d.strm.count ∧ e.rd (Reg.CORE_FAULT_DETAIL c) = detail ∧
  e.rd (Reg.CORE_FAULTS c) = satTo 32 (d.rd (Reg.CORE_FAULTS c) + 1) ∧
  (e.core c).teQueue = [] ∧ (e.core c).veQueue = [] ∧ e.strm.running = false ∧
  e.log.inbox = d.log.inbox ++ [d.record code c detail 0 0]

/-- Core `c` has gained one operation at the end of its TE queue, and nothing else changes. -/
def Device.teGained (d e : Device) (c : CoreNo) (op : Nat) (sr : Bool) (done : Option SemNo) (operands : Nat) : Prop :=
  d.coreOnly e c ∧ ∃ o : TeOp, e.core c = { d.core c with teQueue := (d.core c).teQueue ++ [o] } ∧
    o.op = op ∧ o.sr = sr ∧ o.done = done.map (·.val) ∧ o.operands = operands ∧ o.bundle = d.strm.count

/-- Channel `ch` of core `c` has gained the operation `o`, queued, at its end, and nothing else changes. -/
def Device.chanGained (d e : Device) (c ch : Nat) (o : DeOp) : Prop :=
  d.coreOnly e c ∧ e.core c = { d.core c with chans := (e.core c).chans } ∧ (e.core c).chan ch = (d.core c).chan ch ++ [o] ∧
    (∀ j, j ≠ ch → (e.core c).chan j = (d.core c).chan j) ∧ o.phase = .queued ∧ o.walk = none ∧ o.flights = []

/-- Of the cores, only core `c` differs, and of it only the operations of channel `ch`, which are now `l`. -/
def Device.chanIs (d e : Device) (c ch : Nat) (l : List DeOp) : Prop :=
  (∀ j, j ≠ c → e.core j = d.core j) ∧ e.core c = { d.core c with chans := (e.core c).chans } ∧ (e.core c).chan ch = l ∧
    ∀ j, j ≠ ch → (e.core c).chan j = (d.core c).chan j

/-- Scalar register `r` of core `c` reads `v`, and nothing else changes. -/
def Device.sregSet (d e : Device) (c r v : Nat) : Prop :=
  d.coreOnly e c ∧ e.core c = { d.core c with sregs := (e.core c).sregs } ∧ (e.core c).sreg r = v ∧
    ∀ j, j ≠ r → (e.core c).sreg j = (d.core c).sreg j

/-- Semaphore `m` of core `c` counts `v`, and nothing else changes. -/
def Device.semSet (d e : Device) (c m v : Nat) : Prop :=
  d.coreOnly e c ∧ e.core c = { d.core c with sems := (e.core c).sems } ∧ (e.core c).sem m = v ∧
    ∀ j, j ≠ m → (e.core c).sem j = (d.core c).sem j

/-- One cycle of HOLD that core `c` alone asserts, for the causes given (R110, R112): only the hold's counters change. -/
def Device.heldBy (d e : Device) (c causes : Nat) : Prop :=
  e = { d with dict := e.dict, strm := { d.strm with holdCycles := d.strm.holdCycles + 1 } } ∧
    e.rd Reg.HOLD_CAUSES = causes ∧ e.rd Reg.HOLD_CORES = 2 ^ c ∧ e.rd Reg.HOLD_CYCLES = satTo 64 (d.rd Reg.HOLD_CYCLES + 1) ∧
    d.kept e [Reg.HOLD_CAUSES, Reg.HOLD_CORES, Reg.HOLD_CYCLES, Reg.HOLD_EVENTS, Reg.LONGEST_HOLD_CYCLES]

/-- Core `c` has sent a flit of granule `g` to core `dest` (R119): its 32 bytes as the core now reads them (R135) and its poison
mark, due 4 bundles later inside a region and 8 across; nothing else changes. -/
def Device.flitSent (d e : Device) (c dest : CoreNo) (g : Granule) : Prop :=
  ∃ f : Flit, e = { d.looked c with strm := { d.strm with flits := d.strm.flits ++ [f] } } ∧ f.src = c ∧ f.dst = dest ∧
    f.data = (d.seen c).read (g * 32) 32 ∧ f.poisoned = (d.core c).poisonedIn (g * 32) 32 ∧
    f.arrives = d.strm.index + if c.val / 16 = dest.val / 16 then 4 else 8

/-- The flits of the plane without those due at core `c` in the bundle now issuing. -/
def Device.flitsLeft (d : Device) (c : Nat) : List Flit :=
  d.strm.flits.filter (fun f => !(f.dst == c && f.arrives == d.strm.index))

/-- The core with a flit written to granule `g`. -/
def Core.takesFlit (k : Core) (g : Nat) (f : Flit) : Core :=
  if f.poisoned then k.writePoison (g * 32) f.data else k.write (g * 32) f.data

/-- The stream goes on at address `n` with the loop levels `l`, and nothing else changes. -/
def Device.goesTo (d e : Device) (n : Nat) (l : List Loop) : Prop :=
  e = { d with strm := { d.strm with nextAddr := n, loops := l } }

/-- The stream fault `c` at address `a` (R118): logged, the stream stopped, a chip warm restart demanded. -/
def Device.streamFaulted (d e : Device) (c : Code) (a : Nat) : Prop :=
  e = { d with log := e.log, strm := { d.strm with running := false }, boot := e.boot } ∧
    e.log = { d.log with inbox := d.log.inbox ++ [d.record c 0 a 0 0] } ∧ e.strm.running = false ∧
    e.boot = if d.boot.chipDemand.isSome then d.boot else { d.boot with chipDemand := some c }

/-- The predicate `p` becomes `v` for the bundles from the 16th after this one on (R116), and nothing else changes. -/
def Device.reduced (d e : Device) (p : Nat) (v : Bool) : Prop :=
  e = { d with strm := { d.strm with reductions := e.strm.reductions } } ∧
    (∀ i, i < d.strm.index + 16 → e.strm.predsAt i = d.strm.predsAt i) ∧
    ∀ i, d.strm.index + 16 ≤ i → bitAt (e.strm.predsAt i) p = v ∧
      ∀ j, j ≠ p → bitAt (e.strm.predsAt i) j = bitAt (d.strm.predsAt i) j

/-- The registers that the results of an operation on core `c` count in (R178, R203). -/
def resultKeys (c : Nat) : List Nat := [Reg.NAN_RESULTS c, Reg.INF_RESULTS c, Reg.SATURATIONS c, Reg.HAMPER_EVENTS 7]

/-- An operation's results have reached core `c` and its DONE semaphore has risen (R149): the accumulator sets, the row
state and the result register it states, one more on the semaphore alone, the events counted; device memory and the other
cores as before. -/
def Device.resultLanded (d e : Device) (c : Nat) (r : EngineResult) (done : Option Nat) : Prop :=
  (∀ m, done = some m → (e.core c).sem m = (d.core c).sem m + 1 ∧ ∀ j, j ≠ m → (e.core c).sem j = (d.core c).sem j) ∧
  (done = none → (e.core c).sems = (d.core c).sems) ∧
  (e.core c).lm = (r.writes.foldl (fun k w => k.write w.1 w.2) (d.core c)).lm ∧
  (∀ x, r.sets = [(0, x)] → (e.core c).acc0 = x ∧ (e.core c).acc1 = (d.core c).acc1) ∧
  (∀ x, r.sets = [(1, x)] → (e.core c).acc1 = x ∧ (e.core c).acc0 = (d.core c).acc0) ∧
  (r.sets = [] → (e.core c).acc0 = (d.core c).acc0 ∧ (e.core c).acc1 = (d.core c).acc1) ∧
  (∀ x, r.attn = some x → (e.core c).rows = x.1 ∧ (e.core c).nodeInc = x.2) ∧
  (∀ x, r.reg = some x → (e.core c).sreg x.1 = x.2 % 2 ^ 32) ∧
  (r.reg = none → (e.core c).sregs = (d.core c).sregs) ∧
  e.rd (Reg.NAN_RESULTS c) = satTo 32 (d.rd (Reg.NAN_RESULTS c) + r.nans) ∧
  (∀ j, j ≠ c → e.core j = d.core j) ∧ e.mem = d.mem

/-- The range of `n` bytes at device address `a` is DRAM that no seal closes, so that the map backs it whatever the cache's
partitions (R218). -/
def Device.plain (d : Device) (a n : Nat) : Prop := a + n ≤ dramEnd ∧ (drivePartEnd ≤ a ∨ d.rd Reg.DRIVE_SEALED ≠ 1)

/-- Every byte of a range is memory that the chip backs and that answers (R218, R225): the range lies on one side of the locked
window's base, and no address of it is refused. -/
def Device.served (d : Device) (a n : Nat) : Prop :=
  (a + n ≤ lockedBase ∨ lockedBase ≤ a) ∧ ∀ b, a ≤ b → b < a + n → d.mapCode b = 0

/-- An atomic operation of `port` on the `w` bytes at `a` has been answered with the old value (R227): the word reads `v`
where a value is stored and is as before where none is, every other byte is as before, and so are the other ports, the
cores, and every register but the floor cache's counters. -/
def Device.atomicDone (d e : Device) (port a w : Nat) (v : Option Nat) : Prop :=
  (e.mport port).answer = { data := d.mem.bytes a w } ∧ (∀ q, q ≠ port → e.mport q = d.mport q) ∧
    e.memNat a w = v.getD (d.memNat a w) ∧ (∀ b n, b + n ≤ a ∨ a + w ≤ b → e.mem.bytes b n = d.mem.bytes b n) ∧
    e.cores = d.cores ∧ d.kept e [Reg.FC_HITS, Reg.FC_MISSES]

/-- The walk `w` on core `c` may write (R193): its sequence is active and not preempted, its format allowed, its run's scales
good, no other append under way, its positions those of its mode, and no page of the other format in its range. -/
def Device.appendReady (d : Device) (c : Nat) (w : Walk) : Prop :=
  d.seqActive w.seq = true ∧ d.seqPreempted w.seq = false ∧ bitAt (d.rd Reg.FORMATS_ALLOWED) w.formatBit = true ∧
    d.runOk (d.core c) w = true ∧ bitAt (d.busyWord w.seq w.layer) 0 = false ∧ w.modeOk (d.layerLength w.seq w.layer) (d.rd Reg.MAX_PAGES) = true ∧
    ∀ q, w.firstPage ≤ q → q < w.firstPage + w.pages →
      pageValid (d.pageAt w.seq w.layer q) = true → pageFormatBit (d.pageAt w.seq w.layer q) = w.formatBit

/-- The writes that a walk takes for a run that starts a page (R182, R193, R194): the run's elements, its block scales, and
its tile scales padded to 128 bytes, each to its place in slot `p`. -/
def Device.pageWrites (d : Device) (c : Nat) (w : Walk) (p : Nat) : List InFlight :=
  let k := d.core c
  let be := elemBytes w.format d.kvElems
  let bs := scaleBytes d.kvElems
  let a := d.slotAddr p
  k.pageWrite w.srcElem a ((d.seen c).read w.srcElem (w.count * be)) true ++
    k.pageWrite w.srcScale (a + 16 * be) (k.read w.srcScale (w.count * bs)) true ++
    k.pageWrite w.srcTile (a + 16 * (be + bs))
      (padTo (((List.range d.kvGroups).map (fun g => leBytes (k.readNat (w.srcTile + 4 * g) 4) 4)).flatten) 128) false

/-- Of the ports' regulation state, only that of port `p` differs; nothing else does. -/
def Device.portOnly (d e : Device) (p : Nat) : Prop :=
  e = { d with mem := { d.mem with ports := e.mem.ports } } ∧ ∀ q, q ≠ p → e.mport q = d.mport q

/-- Of what the device keeps for requesters, only that for `q` differs; nothing else does. -/
def Device.reqOnly (d e : Device) (q : Requester) : Prop :=
  e = { d with reqs := e.reqs } ∧ ∀ r, r ≠ q → e.req r = d.req r

/-- No packet waits in a receive buffer, and no transport drains. -/
def Device.nothingHeld (d : Device) : Prop :=
  d.guest.held = [] ∧ d.fn .guest ≠ .draining ∧ ∀ p : Fin 4, (d.linkPort p).held = [] ∧ d.fn (.link p) ≠ .draining

/-- The requester's mapped write of `v` to the entry at `k` is taken: the dictionary is reached, no crossing of it stalls,
every check of R47 passes, the window open now, if any, does not refuse it, and it need not wait for the next start (R85).
The guest serves no such entry. -/
abbrev Device.takes (d : Device) (q : Requester) (k v : Nat) : Prop :=
  d.reached q = true ∧ (d.req q).crossing = .none ∧ d.writeCheck q k (.word v) = .ok ∧ d.windowLocked q k = false ∧
    isGuestEntry k = false ∧ (d.entryFor q k).any (d.parks · k) = false

/-- A write of the entry at `k` does no more than set it: it is no enable, no command, nothing of the requester's own
machinery, and holds no divider and no epoch. -/
def plainEntry (k : Nat) : Bool :=
  (enableAt k).isNone && !ownMachinery k && !isGuestEntry k && k / 256 != 0x9002 && k / 256 != 0x9201 && k / 256 != 0x2101 &&
    !([Reg.CFG_GO, Reg.RUN_RETRY, Reg.PERSONALITY_REQ, Reg.SEQ_SELECT, Reg.CKPT_ACK, Reg.EPOCH_RELEASE, Reg.COOLANT_REPORT].contains k)

/-- A taken write of `q` to the entry at `k` has left `q` the status 0 (R54), and nothing else of it changed. -/
def Device.noted (d e : Device) (q : Requester) (k : Nat) : Prop :=
  e.req q = { d.req q with lastStatus := 0, lastKey := some k } ∧ ∀ r, r ≠ q → e.req r = d.req r

/-- The command `c` of `q` writes `v` to the enable of the function `f` (Table 2-13). -/
def writesEnable (c : Instr) (q : Requester) (v : BitVec 32) (f : FnId) : Prop :=
  (c = .fnEnable q v ∧ f = .fieldNet) ∨ (c = .hamperEnable q v ∧ f = .hamper) ∨ (c = .scrubEnable q v ∧ f = .scrub) ∨
  (∃ n, c = .slotEnable q n v ∧ f = .slot n) ∨ (c = .fusionEnable q v ∧ f = .fusion) ∨ (c = .planEnable q v ∧ f = .planning) ∨
  (c = .jobEnable q v ∧ f = .job) ∨ (∃ p, c = .linkEnable q p v ∧ f = .link p) ∨ (c = .guestEnable q v ∧ f = .guest) ∨
  (∃ r, c = .ringEnable q r v ∧ f = .ring r)

/-- A power event (R451, Table 15-8): its counter counts one, and the first of its code in the iteration is one record. -/
def Device.ptCounted (d e : Device) (code d0 : Nat) : Prop :=
  e.rd (Reg.PT_EVENTS (code % 256 - 1)) = satTo 32 (d.rd (Reg.PT_EVENTS (code % 256 - 1)) + 1) ∧
    e.log.inbox = d.log.inbox ++ (if d.power.logged.contains code then [] else [d.record code 0 d0 0 0])

/-- `e` is `d` but for the island of Lookout `i`, which is now `x`, and its LOOKOUT_STATE, which shows it. -/
def Device.islOnly (d e : Device) (i : Island) (x : Isl) : Prop :=
  e = { d with dict := e.dict, safety := match i with | .A => { d.safety with a := x } | .B => { d.safety with b := x } } ∧
    e.rd (Reg.LOOKOUT_STATE i.num) = x.state ∧ d.kept e [Reg.LOOKOUT_STATE i.num]

/-- Everything but the Lookouts stands as a reset of the floor leaves it (R76): cores, slots, rings, device memory, stream and
links empty, no start step begun; each Lookout as it was. -/
def Device.floorReset (d e : Device) : Prop :=
  e.cores = [] ∧ e.slots = [] ∧ e.rings = [] ∧ e.mem = {} ∧ e.strm = {} ∧ e.links = {} ∧ e.rd Reg.TRAILHEAD_STEP = 0 ∧
    ∀ i, e.isl i = d.isl i ∧ e.islReleased i = d.islReleased i

/-- A cold start has begun (R79): the kind reads cold, TRAILHEAD_STEP the first step that is not done. -/
def Device.coldBegun (d e : Device) : Prop :=
  e.rd Reg.TRAILHEAD_KIND = 0 ∧ e.rd Reg.TRAILHEAD_STEP = d.boot.earlyStep ∧ e.boot = { d.boot with resetHigh := true, floorGood := true } ∧
    e.cores = d.cores ∧ e.mem = d.mem ∧ ∀ i, e.isl i = d.isl i

/-- The steps on the islands and the floor are not all done in `b`, and none has failed for the identity (R79). -/
def Boot.early (b : Boot) : Prop := bitAt b.romFailed 2 = false ∧ (b.islandsDone && b.step3 && b.step4) = false

/-- Step 1 is done on island `i`. -/
def Boot.step1 (b : Boot) : Island → Bool
  | .A => b.step1A
  | .B => b.step1B

/-- Trailhead has stopped with the code `c` (R80, R93): TRAILHEAD_STEP reads 0xFF, TRAILHEAD_STATUS keeps the first code of the
start, the code is logged, Lookout B's cause is set, no window is open; cores and device memory are as before. -/
def Device.startStopped (d e : Device) (c : Code) (detail : Nat) : Prop :=
  e.rd Reg.TRAILHEAD_STEP = 0xFF ∧ e.rd Reg.TRAILHEAD_STATUS = (if d.rd Reg.TRAILHEAD_STATUS = 0 then c else d.rd Reg.TRAILHEAD_STATUS) ∧
    bitAt (e.rd (Reg.FAULT_CAUSE 1)) causeTrailhead = true ∧ e.boot.window = .closed ∧ e.boot.hostWindow = false ∧
    e.log.inbox = d.log.inbox ++ [d.record c 0 detail 0 0] ∧ e.cores = d.cores ∧ e.mem = d.mem

/-- The start-up window has closed (R81, R83): the snapshot is taken and counted, step 6 begins and zeroises memory. -/
def Device.windowDone (d e : Device) : Prop :=
  e.boot.window = .closed ∧ e.boot.hostWindow = false ∧ e.boot.closedOnce = true ∧ e.rd Reg.SNAPSHOT_GEN = satTo 32 (d.rd Reg.SNAPSHOT_GEN + 1) ∧
    e.rd Reg.TRAILHEAD_STEP = 6 ∧ e.rd Reg.ZEROISE_BUSY = 1 ∧ e.cores = d.cores ∧ e.mem = d.mem

/-- A chip warm restart has begun (R99, R101, Table 3-10), which ends in the personality of the code `endIn`: the personality
reads Bivouac, the epoch has moved on, and cores, slots, rings and stream are as after reset. -/
def Device.restartBegun (d e : Device) (t : Transition) (endIn : Nat) : Prop :=
  e.rd Reg.PERSONALITY_NOW = 3 ∧ e.rd Reg.TRANSITION = t.code ∧ e.rd Reg.TRAILHEAD_KIND = 1 ∧ e.rd Reg.TRAILHEAD_STEP = 3 ∧
    e.rd Reg.EXPERT_ENABLE = 0 ∧ e.rd Reg.RESTART_EPOCH = (d.rd Reg.RESTART_EPOCH + 1) % 256 ∧ e.cores = [] ∧ e.slots = [] ∧ e.rings = [] ∧
    e.strm.running = false ∧ e.boot.warm = true ∧ e.boot.begunIn = endIn ∧ e.boot.chipDemand = none

/-- A chip warm restart has failed (R101, Table 3-7): the device holds Bivouac until RESET_N, the transition has ended with
0x0217, Lookout B's cause is set; cores and memory are as before. -/
def Device.restartFailed (d e : Device) : Prop :=
  e.boot.warm = false ∧ e.boot.held = true ∧ e.transition = .none ∧ e.rd Reg.LAST_TRANSITION_STATUS = 0x0217 ∧
    bitAt (e.rd (Reg.FAULT_CAUSE 1)) causeWarm = true ∧ e.cores = d.cores

/-- The ring `r`, which is ON, has taken its next descriptor and owes the host its completion `c`, where the host wants one
or its status is not 0 (R69): HEAD moves on, LAST_STATUS reads the status. -/
def Device.ringTook (d e : Device) (r : RingId) (wanted : Bool) (c : Completion) : Prop :=
  e.rd (r.reg ringHead) = (d.rd (r.reg ringHead) + 1) % (2 * d.rd (r.reg ringEntries)) ∧ e.rd (r.reg ringLastStatus) = c.status ∧
    (e.ring r).owed = (d.ring r).owed ++ (if c.status ≠ 0 ∨ wanted = true then [c] else []) ∧ ∀ r', r' ≠ r → e.ring r' = d.ring r'

/-- The admission request that a descriptor of JOB_IN spells (R406). -/
def Device.admitAsked (d : Device) (x : Descriptor) : JobReq :=
  { seq := leAt x.owner 2 2, cls := leAt x.owner 1 1, need := d.slotsFor (leAt x.owner 4 4), addr := 64 * leAt x.owner 8 6, tokens := leAt x.owner 4 4 }

/-- The memory after an ADMIT's buffer of tokens has gone to its address, where no error meets it. -/
def Device.promptMoved (d : Device) (x : Descriptor) (payload : List Byte) (env : MemEnv) : Device :=
  (d.portWrite portTenant (d.admitAsked x).addr (padTo payload (min x.len.toNat (4 * (d.admitAsked x).tokens))) [] false env).1

/-- `e` is `d` but for its link port `p`, whose state is `x`, and registers. -/
def Device.linkOnly (d e : Device) (p : Nat) (x : LinkPort) : Prop :=
  e.linkPort p = x ∧ (∀ q, q ≠ p → e.linkPort q = d.linkPort q) ∧ e = { d with dict := e.dict, links := { d.links with ports := e.links.ports }, tallies := e.tallies }

/-- An arrival that the port `p` takes: the port is up, the packet sound, next in order and for this device (R433, R440). -/
def Device.linkTakes (d : Device) (p : Fin 4) (x : LinkArrival) : Prop :=
  d.rd (Reg.LINK_PHASE p) = phaseUp ∧ d.linkCut p = false ∧ x.crcOk = true ∧ x.seq.toNat % 4096 = (d.linkPort p).rxSeq ∧ x.malformed = false ∧
    x.dstDev.toNat % 64 = d.ownId

/-- The core after a write of an inbound transfer has landed at `a`: the bytes and their marks, and with the last one its
semaphore one higher (R151). -/
def Core.landed (k : Core) (a : Nat) (data : List Byte) (bad : List Nat) (last : Bool) (sem : Nat) : Core :=
  if last then (k.writeBad a data bad).setSem sem (k.sem sem + 1) else k.writeBad a data bad

/-- A packet of type `typ` that the guest's transport takes: live, sound, next in order, within its credits and well formed
(R443, R444, R447). -/
def Device.guestTakes (d : Device) (typ : Nat) (x : GuestArrival) : Prop :=
  d.guestLive = true ∧ x.crcOk = true ∧ x.seq.toNat % 4096 = d.guest.rxSeq ∧ x.malformed typ = false ∧
    ((x.packet typ).isControl = true ∨ (d.guest.peerHdr ≠ 0 ∧ (x.packet typ).flits ≤ d.guest.peerData))

/-- A packet of this type, tag, status and data stands sent or waits to be sent to the guest. -/
def Guest.owed (g : Guest) (typ tag : Nat) (code : Code) (data : List Byte) : Prop :=
  ∃ x, (x ∈ g.replay ∨ x ∈ g.queue) ∧ x.typ = typ ∧ x.tag = tag ∧ x.status = code ∧ x.data = data

/-- A channel write that nothing stops (R152, R437, R438): RUN is ON, its channel is bound to endpoint `ep` of core `c`, whose
region and self-test do not stop it, in the window, in the channel's epoch, with a transfer open or free and the semaphore below its end. -/
def Device.chanOpen (d : Device) (w : ChanWrite) (c ep : Nat) : Prop :=
  d.fn .run = .on ∧ d.boundTo w.guest w.channel = some (c, ep) ∧ d.regionStopped (Region.ofNum (c / 16)) = false ∧
    d.epTakes c ep w.off w.data.length = true ∧ (SMap.getD (d.core c).transfers ep []).any (fun x => x.same w.transfer && x.dropped) = false ∧
    d.rd (chanEpochKey w.guest w.channel) % 16 = w.epoch ∧ d.rd (Reg.CORE_STATE c) ≠ coreTesting ∧
    ((SMap.getD (d.core c).transfers ep []).contains w.transfer = true ∨ (SMap.getD (d.core c).transfers ep []).length < 16) ∧
    (d.core c).sem (d.epSem c ep) < 65535

/-- The core `c` after such a write at its endpoint `ep`. -/
def Device.chanLanded (d : Device) (w : ChanWrite) (c ep : Nat) : Core :=
  let k := d.core c
  ({ k with transfers := SMap.put k.transfers ep (keepTransfer (SMap.getD k.transfers ep []) w.transfer false w.last) [] }).landed
    (windowBase (d.epWindow c ep) + w.off) w.data w.bad w.last (d.epSem c ep)

/-- DRAM takes a store of `n` bytes at `a` from an ingest port with no error and no change of a buffer's level (R269). -/
def Device.takesStore (d : Device) (a n : Nat) (env : MemEnv) : Prop :=
  d.plain a n ∧ d.mem.poison = [] ∧ env.faults = [] ∧ env.level = none

/-- No byte of memory outside `[a, a + n)` and `[b, b + m)` differs. -/
def Device.storedOnly (d e : Device) (a n b m : Nat) : Prop :=
  ∀ x k, (x + k ≤ a ∨ a + n ≤ x) → (x + k ≤ b ∨ b + m ≤ x) → e.mem.bytes x k = d.mem.bytes x k

/-- The slot `n` holds `x`, and every other slot stays. -/
def Device.slotOnly (d e : Device) (n : Nat) (x : Slot) : Prop := e.slot n = x ∧ ∀ m, m ≠ n → e.slot m = d.slot m

/-- The slot `n` has begun a sample and received it whole: it waits as `x`, its data `l` stands in its buffer, and nothing of
memory but that buffer and the sample's record differs (R266, R267). -/
def Device.sampleStored (d e : Device) (n : Nat) (x : Sample) (l : List Byte) : Prop :=
  d.slotOnly e n { d.slot n with seq := wrapTo 32 ((d.slot n).seq + 1), sample := none, ending := (d.slot n).ending ++ [x] } ∧
    e.mem.bytes (d.bufAddr n (d.slot n).seq) l.length = l ∧
    d.storedOnly e (d.recAddr n (d.slot n).seq) 64 (d.bufAddr n (d.slot n).seq) l.length ∧ d.kept e [Reg.FC_HITS, Reg.FC_MISSES]

/-- DRAM takes the record and the `n` bytes of data of the slot's next sample, which its buffer holds. -/
def Device.takesSample (d : Device) (slot n : Nat) (env : MemEnv) : Prop :=
  d.takesStore (d.recAddr slot (d.slot slot).seq) 64 env ∧ d.takesStore (d.bufAddr slot (d.slot slot).seq) n env ∧
    n ≤ d.rd (Reg.SLOT_BUF_BYTES slot) - 64

/-- The world engine's accesses meet no error: no poison, no fault in `env`, the drive partition not sealed (R244). -/
def Device.memSound (d : Device) (env : MemEnv) : Prop := d.mem.poison = [] ∧ env.faults = [] ∧ d.rd Reg.DRIVE_SEALED ≠ 1

/-- The record `i` of slot `n` stands in memory DONE and usable (R267). -/
def Device.usableAt (d : Device) (n i : Nat) : Prop :=
  leAt (d.mem.bytes (d.rd (Reg.SLOT_REC_BASE n) + 64 * i) 64) 4 1 = 2 ∧
    bitAt (leAt (d.mem.bytes (d.rd (Reg.SLOT_REC_BASE n) + 64 * i) 64) 30 2) fUsable = true ∧ d.rd (Reg.SLOT_REC_BASE n) + 64 * i + 64 ≤ dramEnd

/-- With the ego horizon `h` no instant closes: no slot is required, and the horizon lies short of the open instant's close (R291). -/
def Device.staysOpen (d : Device) (h : Option Int) : Prop :=
  d.rd Reg.REQUIRED_MASK = 0 ∧ ∀ k e, d.fusion.open? = some k → h = some e → e < d.instantTime k + (d.rd Reg.CLOSE_LAG_NS : Int)

/-- The core of job `j` takes its record: its window holds it, it does not test, and the semaphore is below its end (R293). -/
def Device.jobReady (d : Device) (j : WorldJob) : Prop :=
  j.core < 192 ∧ d.epTakes j.core 3 (64 * j.job) 64 = true ∧ d.rd (Reg.CORE_STATE j.core) ≠ coreTesting ∧ (d.core j.core).sem j.sem < 65535

/-- The record of job `j` has landed in its core's window with this status, instant and output, and its semaphore rose. -/
def Device.jobTold (d e : Device) (j : WorldJob) (status : Code) (instant out : Nat) : Prop :=
  e.core j.core = (d.core j.core).landed (windowBase (d.epWindow j.core 3) + 64 * j.job)
    (leBytes status 2 ++ leBytes j.cls 1 ++ [0] ++ leBytes j.arg 4 ++ leBytes instant 8 ++ leBytes out 8 ++ zeros 40) [] true j.sem ∧
    ∀ c, c ≠ j.core → e.core c = d.core c

/-- FLAGS of a record of cycle `c` (Table 11-11): those given, SDF_STALE and RESTARTED. -/
def Device.commonFlags (d : Device) (c : Cycle) (flags : Nat) : Nat :=
  Nat.lor flags (Nat.lor (if c.stale then flagStale else 0) (if d.planning.outSeq = 0 then flagRestarted else 0))

/-- The reads that a choice for cycle `c` makes are served, and so is its record's buffer (R337, R340). -/
def Device.choiceServed (d : Device) (c : Cycle) (x : Choice) : Prop :=
  (∀ p ∈ d.checkReads c (x.clearance.map (·.epoch)) (x.index :: List.range (d.binMrm c.bin)), d.served p.1 p.2) ∧
    d.served (d.trajBuffer c.instant) 576

/-- The record of choice `x` has been chosen for cycle `c`: the cycle holds it with its fallback and its job, no SELECT waits,
and memory holds it with STATE FILLING (R338, R340, R342); beside it no byte of memory changed. -/
def Device.chosenAs (d e : Device) (c : Cycle) (job : Option WorldJob) (status flags : Nat) (x : Choice) : Prop :=
  let record := d.recordBytes c status (d.commonFlags c flags) x
  let epoch := x.clearance.map (·.epoch)
  e.planning = { d.planning with
    cycle := some { c with chosen := some ⟨record, d.recordBytes c status flagFallback (d.fallbackChoice c epoch), job, epoch⟩, waiting := none } } ∧
    e.mem.bytes = (d.mem.store (d.trajBuffer c.instant) (record.take 5 ++ 1 :: record.drop 6)).bytes

/-- The ring `r` is ON and has a descriptor to take. -/
abbrev Device.ringReady (d : Device) (r : RingId) : Prop := d.fn (.ring r) = .on ∧ d.ringPosted r ≠ 0 ∧ d.hostCut = false

/-- From each record to the next, and from the last to `n`, SEQ rises by one modulo 65,536 (R74). -/
def seqsTo : List LogRecord → Nat → Bool
  | [], _ => true
  | [r], n => (r.seq + 1) % 65536 == n
  | r :: r' :: t, n => (r.seq + 1) % 65536 == r'.seq && seqsTo (r' :: t) n

/-- The log is in order: at most 4,096 records, SEQ without a gap, REPEAT within its 16 bits (R74). -/
def Log.ordered (l : Log) : Bool :=
  decide (l.stored.length ≤ 4096) && decide (l.nextSeq < 65536) && seqsTo l.stored l.nextSeq && l.stored.all (fun r => decide (r.reps ≤ 65535))

/-- The invariant: the dictionary, BLOBs, requesters, rings, host memory, cores, slots and tallies stand in canonical form,
memory does, and the log is in order. -/
def Device.sound (d : Device) : Prop :=
  (SMap.wf dictDefault d.dict = true ∧ SMap.wf blobDefault d.blobs = true ∧ SMap.wf (fun _ => ({} : ReqState)) d.reqs = true ∧
    SMap.wf (fun _ => ({} : Ring)) d.rings = true ∧ SMap.wf (fun _ => (0 : Byte)) d.host = true) ∧
  (SMap.wf (fun _ => ({} : Core)) d.cores = true ∧ SMap.wf (fun _ => ({} : Slot)) d.slots = true ∧
    SMap.wf (fun _ => 0) d.tallies = true) ∧
  d.mem.wf = true ∧ d.log.ordered = true

end Sys2Proof.Machine
end

