-- ==== Sys2Proof/Certificates/Slice0/Obligations.lean ====
section
/-!
DEFINITION. The statements for the provers: what the commands of the block do, and what every step of it keeps.
-/

open Sys2Proof Sys2Proof.Machine

/-- A step takes the command at the front of the queue and is exec of it on the state whose queue holds the rest. From:
spec/opcode_table.json (the block's commands). -/
def Obligations.StepRunsFrontCommand : Prop :=
  ∀ (c : Instr) (rest : List Instr) (d : Device),
    step { pending := c :: rest, dev := d } = exec c { pending := rest, dev := d }

/-- With no command waiting the block idles: a step changes nothing (the model's choice, assumption 1). From:
spec/opcode_table.json (no row for a tick). -/
def Obligations.EmptyQueueIdles : Prop :=
  ∀ s : State, s.pending = [] → step s = .next s

/-- No command stops the block: each, on every state, answers a next state and leaves the queue as it was. From:
spec/opcode_table.json, spec/01_package_and_levels.md, Table 1-4. -/
def Obligations.EveryCommandCompletes : Prop :=
  ∀ (c : Instr) (s : State), ∃ t, exec c s = .next t ∧ t.pending = s.pending

/-- As many steps as there are waiting commands run all of them and leave the queue empty. From: spec/opcode_table.json.
-/
def Obligations.QueuedCommandsAllRun : Prop :=
  ∀ s : State, ∃ t, run s.pending.length s = some t ∧ t.pending = []

/-- Every step keeps the block sound: its maps and memory canonical, and the error log in SEQ order without a gap. From:
spec/02_object_dictionary.md, R74, spec/08_memory_and_regulation.md, spec/09_sensor_ingest.md. -/
def Obligations.EveryStepKeepsBlockSound : Prop :=
  ∀ s t : State, s.dev.sound → step s = .next t → t.dev.sound

/-- The block after reset is sound. From: spec/02_object_dictionary.md, R43 and R74. -/
def Obligations.ResetIsSound : Prop :=
  State.reset.dev.sound

/-- A TE operation of an active core enters the end of that core's TE queue; a core that takes no part is untouched.
From: spec/05_cores_and_signalling.md, Tables 5-1 and 5-3, spec/07_attention_and_hamper.md, Table 7-8,
spec/05_cores_and_signalling.md, R130 and R153. -/
def Obligations.TensorOperationsEnterQueue : Prop :=
  (∀ (s : State) (core : CoreNo) (sr : Bool) (done : Option SemNo) (x : BitVec 80) (y : BitVec 78), s.dev.active core = true →
    Completes (.matmulTile core sr done x) s (fun e => s.dev.teGained e core 0x01 sr done x.toNat) ∧
    Completes (.convTile core sr done x) s (fun e => s.dev.teGained e core 0x02 sr done x.toNat) ∧
    Completes (.drain core sr done x) s (fun e => s.dev.teGained e core 0x03 sr done x.toNat) ∧
    Completes (.attnStep core sr done y) s (fun e => s.dev.teGained e core 0x10 sr done y.toNat) ∧
    Completes (.initStep core sr done y) s (fun e => s.dev.teGained e core 0x10 sr done (2 ^ 78 + y.toNat)) ∧
    Completes (.finish core sr done y) s (fun e => s.dev.teGained e core 0x10 sr done (2 * 2 ^ 78 + y.toNat)) ∧
    Completes (.accept core sr done y) s (fun e => s.dev.teGained e core 0x10 sr done (3 * 2 ^ 78 + y.toNat))) ∧
  (∀ (s : State) (core : CoreNo) (sr : Bool) (done : Option SemNo) (x : BitVec 80) (y : BitVec 78), s.dev.active core = false →
    ∀ c, c = .matmulTile core sr done x ∨ c = .convTile core sr done x ∨ c = .drain core sr done x ∨
      c = .attnStep core sr done y ∨ c = .initStep core sr done y ∨ c = .finish core sr done y ∨ c = .accept core sr done y →
      exec c s = .next s)

/-- A VE operation of an active core enters the end of that core's VE queue; a core that takes no part is untouched.
From: spec/05_cores_and_signalling.md, Tables 5-1 and 5-7, spec/05_cores_and_signalling.md, R130 and R153. -/
def Obligations.VectorOperationsEnterQueue : Prop :=
  ∀ (s : State) (core : CoreNo) (done : Option SemNo) (x : BitVec 111) (imm : BitVec 32),
    (∀ p, p ∈ ([(.veAdd core done x imm, 0x01), (.veSub core done x imm, 0x02), (.mul core done x imm, 0x03),
        (.fma core done x imm, 0x04), (.max core done x imm, 0x05), (.min core done x imm, 0x06), (.cmpGt core done x imm, 0x07),
        (.exp core done x imm, 0x10), (.recip core done x imm, 0x11), (.rsqrt core done x imm, 0x12),
        (.rsum core done x imm, 0x20), (.rmax core done x imm, 0x21), (.convert core done x imm, 0x30)] : List (Instr × Nat)) →
      (s.dev.active core = true → Completes p.1 s fun e => s.dev.coreOnly e core ∧
        e.core core = { s.dev.core core with
          veQueue := (s.dev.core core).veQueue ++ [⟨p.2, done.map (·.val), x.toNat, imm.toNat⟩] }) ∧
      (s.dev.active core = false → exec p.1 s = .next s))

/-- A DE operation of an active core enters the end of its channel; other channels, cores and a core that takes no part
are untouched. From: spec/05_cores_and_signalling.md, Tables 5-1, 5-11, spec/05_cores_and_signalling.md, R130, R153 and
R487. -/
def Obligations.DmaOperationsEnterChannel : Prop :=
  (∀ (s : State) (core : CoreNo) (ch : Fin 16) (done : Option SemNo) (line : BitVec 16), s.dev.active core = true →
    Completes (.xfer core ch done line) s (fun e => ∃ o, s.dev.chanGained e core ch o ∧ o.op = 0x01 ∧ o.done = done.map (·.val) ∧
      deDescLine o.operands = line.toNat) ∧
    Completes (.prefetch core ch done line) s (fun e => ∃ o, s.dev.chanGained e core ch o ∧ o.op = 0x02 ∧ o.done = done.map (·.val) ∧
      deDescLine o.operands = line.toNat) ∧
    Completes (.fence core ch done) s (fun e => ∃ o, s.dev.chanGained e core ch o ∧ o.op = 0x03 ∧ o.done = done.map (·.val))) ∧
  (∀ (s : State) (core : CoreNo) (ch : Fin 16) (done : Option SemNo) (line : BitVec 16), s.dev.active core = false →
    exec (.xfer core ch done line) s = .next s ∧ exec (.prefetch core ch done line) s = .next s ∧
    exec (.fence core ch done) s = .next s)

/-- Each SE arithmetic operation of an active core writes Table 5-10's value to RD, from RA and RB or IMM, and nothing
else. From: spec/05_cores_and_signalling.md, Tables 5-9 and 5-10. -/
def Obligations.ScalarArithmeticWritesRd : Prop :=
  ∀ (s : State) (core : CoreNo) (rd ra rb : SReg) (immSel : Bool) (imm : BitVec 32),
    let a := (s.dev.core core).sreg ra
    let b := if immSel then imm.toNat else (s.dev.core core).sreg rb
    let A := BitVec.ofNat 32 a
    let B := BitVec.ofNat 32 b
    ∀ p, p ∈ ([(.seAdd core rd ra rb immSel imm, (A + B).toNat), (.seSub core rd ra rb immSel imm, (A - B).toNat),
        (.seAnd core rd ra rb immSel imm, (A &&& B).toNat), (.seOr core rd ra rb immSel imm, (A ||| B).toNat),
        (.xor core rd ra rb immSel imm, (A ^^^ B).toNat), (.shl core rd ra rb immSel imm, (A <<< (b % 32)).toNat),
        (.shr core rd ra rb immSel imm, a / 2 ^ (b % 32) % 2 ^ 32), (.sltu core rd ra rb immSel imm, if a < b then 1 else 0),
        (.seq core rd ra rb immSel imm, if a = b then 1 else 0), (.mov core rd rb immSel imm, B.toNat)] : List (Instr × Nat)) →
      (s.dev.active core = true → Completes p.1 s fun e => s.dev.sregSet e core rd p.2) ∧
      (s.dev.active core = false → exec p.1 s = .next s)

/-- LD32 and ST32 begin a word access or halt the core on a bad address, BARCFG sets P_b, SEMRD reads a semaphore; an
access completes. From: spec/05_cores_and_signalling.md, Table 5-10, spec/05_cores_and_signalling.md, R139, R148 and
R153. -/
def Obligations.ScalarMemoryAndSetup : Prop :=
  (∀ (s : State) (core : CoreNo) (rd ra rb : SReg) (immSel : Bool) (imm : BitVec 32), s.dev.active core = true →
    let k := s.dev.core core
    let b := if immSel then imm.toNat else k.sreg rb
    let a := (k.sreg ra + b) % 2 ^ 32
    (a % 4 = 0 ∧ a + 4 ≤ 4194304 →
      Completes (.ld32 core rd ra rb immSel imm) s (fun e => s.dev.coreOnly e core ∧
        ∃ v, e.core core = { k with loads := k.loads ++ [⟨true, rd, a, v⟩] }) ∧
      Completes (.st32 core rd ra rb immSel imm) s (fun e => s.dev.coreOnly e core ∧
        e.core core = { k with loads := k.loads ++ [⟨false, rd, a, k.sreg rd⟩] })) ∧
    (a % 4 ≠ 0 ∨ 4194304 < a + 4 →
      Completes (.ld32 core rd ra rb immSel imm) s (fun e => s.dev.haltedBy e core 0x0408 (faultDetail 4 0 0 (a / 32))) ∧
      Completes (.st32 core rd ra rb immSel imm) s (fun e => s.dev.haltedBy e core 0x0408 (faultDetail 4 0 0 (a / 32))))) ∧
  (∀ (s : State) (core : CoreNo) (bar : BarNo) (rd rb : SReg) (immSel : Bool) (imm : BitVec 32), s.dev.active core = true →
    let k := s.dev.core core
    let b := if immSel then imm.toNat else k.sreg rb
    Completes (.barcfg core bar rb immSel imm) s (fun e =>
      e = { s.dev with cores := e.cores, strm := { s.dev.strm with recent := e.strm.recent } } ∧
      (∀ j, j ≠ core.val → e.core j = s.dev.core j) ∧ (e.core core).bar bar = b % 256 ∧
      (∀ j, j ≠ bar.val → (e.core core).bar j = k.bar j) ∧ e.core core = { k with bars := (e.core core).bars }) ∧
    Completes (.semrd core rd rb immSel imm) s (fun e => s.dev.sregSet e core rd (k.sem (b % 256) % 2 ^ 32))) ∧
  (∀ (s : State) (core : CoreNo) (x : ScalarAccess) (rest : List ScalarAccess),
    (s.dev.core core).loads = x :: rest → s.dev.fn .run ≠ .draining → s.dev.fn .hamper ≠ .draining →
    (x.load = false → Completes (.seLoadComplete core []) s fun e => s.dev.coreOnly e core ∧
      e.core core = ({ s.dev.core core with loads := rest } : Core).write x.addr (leBytes x.value 4)) ∧
    (x.load = true → (s.dev.core core).poisonedIn x.addr 4 = false → Completes (.seLoadComplete core []) s fun e =>
      e = { s.dev.looked core with cores := e.cores, strm := { s.dev.strm with recent := e.strm.recent } } ∧
      (∀ j, j ≠ core.val → e.core j = s.dev.core j) ∧
      e.core core = ({ s.dev.core core with loads := rest } : Core).setSreg x.rd (leNat ((s.dev.seen core).read x.addr 4))))

/-- SYNC ADD and SUB change one semaphore or halt the core at the ends of its range; WAIT_GE and BAR_WAIT hold or pass;
barriers count arrivals. From: spec/05_cores_and_signalling.md, R146, R147 and R148, spec/04_kweub_bundle_stream.md,
R110, R112 and Table 4-7. -/
def Obligations.SemaphoreAndBarrierActions : Prop :=
  (∀ (s : State) (core : CoreNo) (sem : SemNo) (n : BitVec 16), s.dev.active core = true →
    let v := (s.dev.core core).sem sem
    (v + n.toNat ≤ 65535 → Completes (.add core sem n) s fun e => s.dev.semSet e core sem (v + n.toNat)) ∧
    (65535 < v + n.toNat → Completes (.add core sem n) s fun e =>
      s.dev.haltedBy e core St.SEM_OVERFLOW (faultDetail 0 0 sem 0)) ∧
    (n.toNat ≤ v → Completes (.sub core sem n) s fun e => s.dev.semSet e core sem (v - n.toNat)) ∧
    (v < n.toNat → Completes (.sub core sem n) s fun e =>
      s.dev.haltedBy e core St.SEM_UNDERFLOW (faultDetail 0 0 sem 0)) ∧
    (n.toNat ≤ s.dev.judgedSem core sem → Completes (.waitGe core sem n) s fun e => e = s.dev) ∧
    (s.dev.judgedSem core sem < n.toNat → Completes (.waitGe core sem n) s fun e => s.dev.heldBy e core 1)) ∧
  (∀ (s : State) (core : CoreNo) (b : BarNo), s.dev.active core = true →
    let v := (s.dev.core core).sem (248 + b.val)
    let p := (s.dev.core core).bar b
    (p ≠ 0 → v + 1 ≤ 65535 → Completes (.barArrive core b) s fun e => s.dev.semSet e core (248 + b.val) (v + 1)) ∧
    (p = 0 → Completes (.barArrive core b) s fun e =>
      s.dev.haltedBy e core St.SEM_BARRIER_UNSET (faultDetail 0 0 (248 + b.val) 0)) ∧
    (p ≠ 0 → s.dev.judgedBar core b ≤ s.dev.judgedSem core (248 + b.val) → p ≤ v → Completes (.barWait core b) s fun e =>
      s.dev.semSet e core (248 + b.val) (v - p)) ∧
    (p ≠ 0 → s.dev.judgedBar core b ≤ s.dev.judgedSem core (248 + b.val) → v < p → Completes (.barWait core b) s fun e =>
      s.dev.haltedBy e core St.SEM_UNDERFLOW (faultDetail 0 0 (248 + b.val) 0)) ∧
    (p = 0 → s.dev.judgedBar core b ≤ s.dev.judgedSem core (248 + b.val) → Completes (.barWait core b) s fun e =>
      s.dev.haltedBy e core St.SEM_BARRIER_UNSET (faultDetail 0 0 (248 + b.val) 0)) ∧
    (s.dev.judgedSem core (248 + b.val) < s.dev.judgedBar core b → Completes (.barWait core b) s fun e => s.dev.heldBy e core 2))

/-- A flit arrives 4 or 8 issued bundles after it was sent and is written only where the slot's RECV names its source;
otherwise the core faults. Rules: R119, R120. -/
def Obligations.NetworkPlaneSendsAndReceives : Prop :=
  (∀ (s : State) (core peer : CoreNo) (g : Granule) (ecc : Option Bool), s.dev.active core = true →
    Completes (.send core peer ⟨g, ecc⟩) s fun e => (s.dev.lmEcc core (ecc.toList.map fun b => (g.val, b))).flitSent e core peer g) ∧
  (∀ (s : State) (core peer : CoreNo) (g : Granule) (f : Flit), s.dev.active core = true →
    s.dev.arriving core s.dev.strm.index = [f] → f.src = peer.val →
    Completes (.recv core peer g) s (fun e =>
      e = { s.dev with cores := e.cores, strm := { s.dev.strm with flits := s.dev.flitsLeft core } } ∧
      (∀ j, j ≠ core.val → e.core j = s.dev.core j) ∧ e.core core = (s.dev.core core).takesFlit g f) ∧
    (∀ (dest : CoreNo) (h : Granule) (ecc : Option Bool), Completes (.sendAndRecv core dest peer ⟨h, ecc⟩ g) s fun e =>
      ∃ x, let d := s.dev.lmEcc core (ecc.toList.map fun b => (h.val, b))
        d.flitSent x core dest h ∧ e = { x with cores := e.cores, strm := { x.strm with flits := x.flitsLeft core } } ∧
        (∀ j, j ≠ core.val → e.core j = d.core j) ∧ e.core core = (d.core core).takesFlit g f)) ∧
  (∀ (s : State) (core dest peer : CoreNo) (h g : Granule) (ecc : Option Bool), s.dev.active core = true →
    let arr := s.dev.arriving core s.dev.strm.index
    ∀ c, c = .recv core peer g ∨ c = .sendAndRecv core dest peer ⟨h, ecc⟩ g →
    ((arr = [] ∨ ∃ f, arr = [f] ∧ f.src ≠ peer.val) → Completes c s fun e =>
      s.dev.haltedBy e core 0x0310 (faultDetail 6 0 0 g) ∧ e.rd Reg.NOC_FAULTS = satTo 32 (s.dev.rd Reg.NOC_FAULTS + 1) ∧
      (e.core core).lm = (s.dev.core core).lm) ∧
    ((∃ f f' t, arr = f :: f' :: t) → Completes c s fun e =>
      s.dev.haltedBy e core 0x0311 (faultDetail 6 0 0 g) ∧ e.rd Reg.NOC_FAULTS = satTo 32 (s.dev.rd Reg.NOC_FAULTS + 1) ∧
      (e.core core).lm = (s.dev.core core).lm)) ∧
  (∀ (d : Device) (c : CoreNo) (f : Flit), d.active c = true → d.arriving c d.strm.index = [f] →
    d.haltedBy (d.coreIssue c 0) c 0x0310 (faultDetail 6 0 0 0) ∧ ((d.coreIssue c 0).core c).lm = (d.core c).lm)

/-- A taken branch or a jump sets the next address and empties the loops; a branch not taken goes on; LP_START pushes a
level or faults. From: spec/04_kweub_bundle_stream.md, R117 and R118, Table 4-6. -/
def Obligations.BranchesAndLoops : Prop :=
  (∀ (s : State) (a t : BundleAddr) (p : PredNo),
    let v := bitAt (s.dev.strm.predsAt s.dev.strm.index) p
    let l := s.dev.strm.loops
    let inner := ∀ x r, l = x :: r → x.last ≠ a.val
    (v = true → Completes (.brTrue a p t) s fun e => s.dev.goesTo e t []) ∧
    (v = false → Completes (.brFalse a p t) s fun e => s.dev.goesTo e t []) ∧
    (v = false → inner → a.val + 1 ≠ s.dev.rd Reg.STREAM_LENGTH_LOADED → Completes (.brTrue a p t) s fun e => s.dev.goesTo e (a.val + 1) l) ∧
    (v = true → inner → a.val + 1 ≠ s.dev.rd Reg.STREAM_LENGTH_LOADED → Completes (.brFalse a p t) s fun e => s.dev.goesTo e (a.val + 1) l) ∧
    (v = false → inner → a.val + 1 = s.dev.rd Reg.STREAM_LENGTH_LOADED → Completes (.brTrue a p t) s fun e => s.dev.streamFaulted e 0x0314 a) ∧
    (v = true → inner → a.val + 1 = s.dev.rd Reg.STREAM_LENGTH_LOADED → Completes (.brFalse a p t) s fun e => s.dev.streamFaulted e 0x0314 a) ∧
    Completes (.jump t) s fun e => s.dev.goesTo e t []) ∧
  (∀ (s : State) (a last : BundleAddr) (n : BitVec 16),
    let l := s.dev.strm.loops
    let bad := 4 ≤ l.length ∨ ∃ x r, l = x :: r ∧ x.last < last.val
    (¬ bad → Completes (.lpStart a n last) s fun e =>
      s.dev.goesTo e (a.val + 1) (⟨a.val + 1, last, if n = 0 then 65536 else n.toNat⟩ :: l)) ∧
    (bad → Completes (.lpStart a n last) s fun e => s.dev.streamFaulted e 0x0313 a))

/-- RD_AND, RD_OR and RD_SELECT sample the cores of the mask as they stand; the predicate changes for the 16th bundle
after, not before. Rules: R116. -/
def Obligations.ReductionsBecomeVisible : Prop :=
  ∀ (s : State) (reg : SReg) (bit : Fin 32) (core : CoreNo) (p : PredNo),
    let sampled := fun c => bitAt ((s.dev.core c).sreg reg) bit
    Completes (.rdAnd reg bit p) s (fun e => s.dev.reduced e p (decide (∀ c, c ∈ bitList s.dev.strm.coreMask 64 → sampled c = true))) ∧
    Completes (.rdOr reg bit p) s (fun e => s.dev.reduced e p (decide (∃ c, c ∈ bitList s.dev.strm.coreMask 64 ∧ sampled c = true))) ∧
    Completes (.rdSelect reg bit core p) s (fun e => s.dev.reduced e p (sampled core))

/-- HALT drains RUN, an apply mark applies what was staged, a grant opens a window, a kick reaches its watchdog, the
world engine takes a job. From: spec/04_kweub_bundle_stream.md, R106, R108, R109 and R122, spec/02_object_dictionary.md,
R37, spec/12_safety_and_lookouts.md, R366 and R374, spec/10_fusion.md, R293. -/
def Obligations.ChipSlotActions : Prop :=
  (∀ s : State, s.dev.strm.running = true → s.dev.fn .hamper ≠ .draining → s.dev.enginesIdle = false → s.dev.rd Reg.SAFETY_FN_MASK = 0 →
    Completes .halt s fun e => e.strm = { s.dev.strm with running := false, noMore := true, skid := [], flits := [] } ∧
      e.rd Reg.RUN_STATE = 3 ∧ e.rd Reg.FLITS_DISCARDED = satTo 32 (s.dev.rd Reg.FLITS_DISCARDED + s.dev.strm.flits.length) ∧
      e.log.inbox = s.dev.log.inbox ++ [s.dev.record 0x0315 0 0 0 0] ∧ e.cores = s.dev.cores ∧ e.mem = s.dev.mem ∧
      s.dev.kept e [Reg.RUN_STATE, Reg.FLITS_DISCARDED]) ∧
  (∀ (s : State) (k v : Nat), s.dev.staged = [(k, v)] → k ∉ s.dev.stagedNew → k / 256 ≠ 0x9002 → k / 256 ≠ 0x9201 → k / 256 ≠ 0x2101 →
    k ≠ Reg.APPLY_MARKS →
    Completes .applyMark s fun e => e.rd k = v ∧ e.rd Reg.APPLY_MARKS = (s.dev.rd Reg.APPLY_MARKS + 1) % 2 ^ 32 ∧
      e = { s.dev with dict := e.dict, staged := [], strm := { s.dev.strm with sinceApply := 0 } } ∧ s.dev.kept e [k, Reg.APPLY_MARKS]) ∧
  (∀ (s : State) (core : CoreNo) (n : Fin 256), (s.dev.test core).next = none →
    (n.val = 0 → Completes (.testWindowGrant core n) s fun e => e = s.dev) ∧
    (n.val ≠ 0 → Completes (.testWindowGrant core n) s fun e =>
      e = { s.dev with strm := { s.dev.strm with windows := e.strm.windows } } ∧
      (∀ i, e.inWindow core i = (decide (i < s.dev.strm.index + n.val * 4096) || s.dev.inWindow core i)) ∧
      ∀ j i, j ≠ core.val → e.inWindow j i = s.dev.inWindow j i)) ∧
  (∀ (s : State) (st : Fin 16) (us : BitVec 32), s.dev.strm.kicks.contains st.val = true → s.dev.firmware .A = true →
    bitAt (s.dev.rd Reg.WD_STAGES) st = true → s.dev.rd Reg.FRAME_STAGE ≠ st.val → s.dev.rd (Reg.WD_STATE st) = 0 →
    Completes (.watchdogKick st us) s fun e => e = { s.dev with dict := e.dict, strm := { s.dev.strm with kicks := s.dev.strm.kicks.erase st } } ∧
      e.rd (Reg.WD_STATE st) = (if s.dev.strm.running = true then 1 else 0) ∧ s.dev.kept e [Reg.WD_STATE st]) ∧
  (∀ (s : State) (j : WorldJob) (rest : List WorldJob), s.dev.strm.handoff = j :: rest → s.dev.regionStopped .world = false →
    s.dev.fusion.lists.length + s.dev.fusion.lateLists.length + s.dev.world.taken.length < 256 → s.dev.world.waits.length + s.dev.world.taken.length < 32 →
    s.dev.fn (if 8 ≤ j.cls then .planning else .fusion) = .on →
    Completes .worldJobDispatch s fun e => e.strm.handoff = rest ∧ e.world = { s.dev.world with taken := s.dev.world.taken ++ [j] } ∧
      e = { s.dev with world := e.world, strm := { s.dev.strm with handoff := rest, recent := e.strm.recent } })

/-- A bundle that no condition holds back issues and the bundle counter counts one; a bundle held back does not, and
only the hold's counters change. From: spec/04_kweub_bundle_stream.md, R110, R112 and R114,
spec/04_kweub_bundle_stream.md, Table 4-7. -/
def Obligations.BundlesIssueOrHold : Prop :=
  ∀ (s : State) (a : Nat) (rest : List Nat),
    (s.dev.strm.running = false → Completes .bundleIssue s fun e =>
      e = { s.dev with strm := { s.dev.strm with recent := e.strm.recent, divChange := e.strm.divChange, faults := [] } }) ∧
    (s.dev.strm.running = true → s.dev.strm.skid = a :: rest → 3 ≤ rest.length →
      (s.dev.holds a = [] → s.dev.floorHold a = false → Completes .bundleIssue s fun e =>
        e.strm.count = min (s.dev.strm.count + 1) (2 ^ 48 - 1) ∧ e.strm.index = s.dev.strm.index + 1) ∧
      (s.dev.holds a ≠ [] ∨ s.dev.floorHold a = true → Completes .bundleIssue s fun e =>
        e = { s.dev with dict := e.dict, strm := { s.dev.strm with recent := e.strm.recent, divChange := e.strm.divChange, faults := [],
                                                                    holdCycles := s.dev.strm.holdCycles + 1 }
                         stagedNew := [] } ∧
        e.rd Reg.HOLD_CYCLES = satTo 64 (s.dev.rd Reg.HOLD_CYCLES + 1) ∧
        e.rd Reg.HOLD_CORES = (s.dev.holds a).foldl (fun m p => setBit m p.1 true) 0))

/-- A hold too long faults the core that asserts it; a late apply mark, the counter at 2^47 and the saturated counter
are logged. From: spec/04_kweub_bundle_stream.md, R108, R113 and R115. -/
def Obligations.StreamStatusEvents : Prop :=
  (∀ (s : State) (a : Nat) (rest : List Nat) (c : CoreNo) (causes : Nat), s.dev.strm.skid = a :: rest → s.dev.strm.holdCycles ≠ 0 →
    (s.dev.holds a = [(c.val, causes)] → s.dev.active c = true → Completes .pgHoldTimeout s fun e => s.dev.haltedBy e c 0x0319 0) ∧
    (s.dev.holds a = [] → s.dev.floorHold a = true → s.dev.boot.regionDemand = 0 → s.dev.boot.restarting = none →
      s.dev.transition = .none → Completes .pgHoldTimeout s fun e =>
        e.strm.running = false ∧ bitAt e.boot.regionDemand 4 = true ∧ e.log = { s.dev.log with inbox := s.dev.log.inbox ++ [s.dev.record 0x0319 0 0 0 0] })) ∧
  (∀ s : State, 8000000 ≤ s.dev.strm.sinceApply → s.dev.staged ≠ [] → Completes .pgApplyLate s fun e =>
    e = { s.dev with log := { s.dev.log with inbox := s.dev.log.inbox ++ [s.dev.record 0x031A 0 0 0 0] } }) ∧
  (∀ s : State, 2 ^ 47 ≤ s.dev.strm.count → s.dev.rd Reg.COUNTER_WARN = 0 → Completes .pgCounterWarn s fun e =>
    e.rd Reg.COUNTER_WARN = 1 ∧ e = { s.dev with dict := e.dict, log := e.log } ∧ s.dev.kept e [Reg.COUNTER_WARN] ∧
      e.log = { s.dev.log with inbox := s.dev.log.inbox ++ [s.dev.record 0x0316 0 0 0 0] }) ∧
  (∀ s : State, s.dev.strm.count = 2 ^ 48 - 1 →
    (s.dev.strm.saturated = false → Completes .pgCounterSaturated s fun e =>
      e = { s.dev with strm := { s.dev.strm with saturated := true },
                       log := { s.dev.log with inbox := s.dev.log.inbox ++ [s.dev.record 0x0317 0 0 0 0] } }) ∧
    (s.dev.strm.saturated = true → Completes .pgCounterSaturated s fun e => e = s.dev))

/-- The oldest TE operation starts or stops its core; a completion writes its results, raises DONE_SEM, and ends with
the comparison when it is replayed. From: spec/05_cores_and_signalling.md, R130, R137 and R149,
spec/15_power_cooling_package.md, R462, spec/12_safety_and_lookouts.md, R359, R360 and R364. -/
def Obligations.TensorEngineRuns : Prop :=
  (∀ (s : State) (core : CoreNo) (o : TeOp) (rest : List TeOp),
    let k : Core := { s.dev.core core with hint := .ready }
    (s.dev.core core).teQueue = o :: rest → (∀ r, r ∈ (s.dev.core core).teRuns → o.alongside r.op = true) →
    SMap.getD s.dev.strm.divChange (core / 16) 0 = 0 →
    ((s.dev.core core).hint = .ready ∨ s.dev.rd Reg.LOADHINT_LEAD_NS = 0 →
      (s.dev.teStop k o = none → Completes (.teOperationStart core []) s fun e =>
        (∃ r, (e.core core).teRuns = (s.dev.core core).teRuns ++ [r] ∧ r.op = o ∧ r.result = s.dev.begun k (s.dev.teResult k o)) ∧
        e.core core = { k with teQueue := rest, teRuns := (e.core core).teRuns, chains := (e.core core).chains,
                               nextTransform := (e.core core).nextTransform, spotCount := (e.core core).spotCount
                               lfsr := (e.core core).lfsr } ∧
        (∀ j, j ≠ core.val → e.core j = s.dev.core j) ∧ e.mem = s.dev.mem ∧ s.dev.kept e [Reg.SCALE_INVALID core]) ∧
      (∀ st, s.dev.teStop k o = some st → st.code ≠ St.SPARSE_META_INVALID → s.dev.active core = true →
        Completes (.teOperationStart core []) s fun e => s.dev.haltedBy e core st.code (faultDetail 1 0 0 st.granule))) ∧
    ((s.dev.core core).hint ≠ .ready → s.dev.rd Reg.LOADHINT_LEAD_NS ≠ 0 → Completes (.teOperationStart core []) s fun e =>
      s.dev.coreOnly e core ∧ e.core core = { s.dev.core core with hint := .waiting })) ∧
  (∀ (s : State) (core : CoreNo),
    ((s.dev.core core).hint = .waiting → Completes (.loadhintLead core) s fun e =>
      s.dev.coreOnly e core ∧ e.core core = { s.dev.core core with hint := .ready }) ∧
    ((s.dev.core core).hint = .ready → (s.dev.core core).teRuns = [] → Completes (.loadhintHold core) s fun e =>
      s.dev.coreOnly e core ∧ e.core core = { s.dev.core core with hint := .idle })) ∧
  (∀ (s : State) (core : CoreNo) (which : Fin 2) (replay : List (ReplayElement × BitVec 32)) (run : TeRun),
    (s.dev.core core).teRuns[which.val]? = some run → s.dev.fn .run ≠ .draining → s.dev.fn .hamper ≠ .draining →
    (∀ m, run.op.done = some m → (s.dev.core core).sem m < 65535) →
    let d0 := s.dev.onCore core fun k => { k with teRuns := dropAt k.teRuns which }
    let r := d0.finalResult core run.result fun d k => d.teResult k run.op
    ((d0.core core).quiet run.result = true → r = run.result) ∧
    (run.replay = none → Completes (.teOperationComplete core which replay false) s fun e =>
      (e.core core).teRuns = dropAt (s.dev.core core).teRuns which ∧ s.dev.resultLanded e core r run.op.done ∧
      s.dev.kept e (resultKeys core)) ∧
    (∀ ch, run.replay = some ch →
      r.mismatch (s.dev.rd (Reg.BAND_ULP (core / 16))) (replay.map (fun p => (p.1, p.2.toNat))) = none →
      Completes (.teOperationComplete core which replay false) s fun e =>
        (e.core core).teRuns = dropAt (s.dev.core core).teRuns which ∧ s.dev.resultLanded e core r run.op.done ∧
        e.rd (Reg.REPLAYED_OPS (core / 16)) = satTo 64 (s.dev.rd (Reg.REPLAYED_OPS (core / 16)) + 1) ∧
        s.dev.kept e (Reg.REPLAYED_OPS (core / 16) :: resultKeys core)))

/-- The oldest VE operation starts or stops its core when the engine is free; its completion writes its results and
raises DONE_SEM. From: spec/05_cores_and_signalling.md, R130, R138 and R149, spec/01_package_and_levels.md, R29. -/
def Obligations.VectorEngineRuns : Prop :=
  (∀ (s : State) (core : CoreNo) (o : VeOp) (rest : List VeOp), (s.dev.core core).veQueue = o :: rest →
    SMap.getD s.dev.strm.divChange (core / 16) 0 = 0 →
    ((s.dev.core core).veRun = none → (s.dev.core core).veStop o = none → Completes (.veOperationStart core []) s fun e =>
      e.core core = { s.dev.core core with veQueue := rest, veRun := some (o, s.dev.begun (s.dev.core core) (s.dev.veResult (s.dev.core core) o))
                                           lfsr := if s.dev.stirs (veRnd o.operands) then (Config.generatorAfter (s.dev.core core).lfsr (256 * veLen o.operands)).toNat
                                             else (s.dev.core core).lfsr } ∧
      (∀ j, j ≠ core.val → e.core j = s.dev.core j) ∧
      e = { s.dev with cores := e.cores, draws := e.draws, strm := { s.dev.strm with recent := e.strm.recent } }) ∧
    (∀ st, (s.dev.core core).veRun = none → (s.dev.core core).veStop o = some st → s.dev.active core = true →
      Completes (.veOperationStart core []) s fun e => s.dev.haltedBy e core st.code (faultDetail 2 0 0 st.granule)) ∧
    ((s.dev.core core).veRun ≠ none → Completes (.veOperationStart core []) s fun e => e = s.dev)) ∧
  (∀ (s : State) (core : CoreNo) (o : VeOp) (r : EngineResult), (s.dev.core core).veRun = some (o, r) → s.dev.fn .run ≠ .draining →
    s.dev.fn .hamper ≠ .draining → (∀ m, o.done = some m → (s.dev.core core).sem m < 65535) →
    let d0 := s.dev.onCore core fun k => { k with veRun := none }
    let f := d0.finalResult core r fun d k => d.veResult k o
    ((d0.core core).quiet r = true → f = r) ∧
    Completes (.veOperationComplete core) s fun e => (e.core core).veRun = none ∧ s.dev.resultLanded e core f o.done ∧
      s.dev.kept e (resultKeys core))

/-- A DE operation that may start is judged and runs or stops its core; a write left unacknowledged for ACK_TIMEOUT_US
stops it too. From: spec/05_cores_and_signalling.md, R140, R144, R149 and R487. -/
def Obligations.DmaOperationsStartAndTimeOut : Prop :=
  (∀ (s : State) (core : CoreNo) (chan : Fin 16) (i : Nat) (o : DeOp), (s.dev.core core).startable chan = some (i, o) →
    (o.op = opFence → Completes (.deOperationStart core chan []) s fun e =>
      e = { s.dev with cores := e.cores } ∧
      s.dev.chanIs e core chan (((s.dev.core core).chan chan).set i { o with phase := .running })) ∧
    (o.op ≠ opFence → o.op ≠ opWalk →
      ((s.dev.core core).firstPoison (deDescLine o.operands * 64) 64 = none →
        ((s.dev.core core).descBad o.op (deDescLine o.operands * 64) = false → Completes (.deOperationStart core chan []) s fun e =>
          e = { s.dev with cores := e.cores } ∧
          s.dev.chanIs e core chan (((s.dev.core core).chan chan).set i
            { o with phase := .running, desc := (s.dev.core core).desc (deDescLine o.operands * 64), row := 0, off := 0, flights := [] })) ∧
        ((s.dev.core core).descBad o.op (deDescLine o.operands * 64) = true → s.dev.active core = true →
          Completes (.deOperationStart core chan []) s fun e =>
            s.dev.haltedBy e core St.DESC_INVALID (faultDetail 3 chan 0 (deDescLine o.operands * 64 / 32)))) ∧
      (∀ g, (s.dev.core core).firstPoison (deDescLine o.operands * 64) 64 = some g → s.dev.active core = true →
        Completes (.deOperationStart core chan []) s fun e => s.dev.haltedBy e core St.POISON_CONSUMED (faultDetail 3 chan 0 g)))) ∧
  (∀ (s : State) (core : CoreNo) (chan : Fin 16),
    ((s.dev.core core).writesOut chan ≠ 0 → s.dev.active core = true → Completes (.deAckTimeout core chan) s fun e =>
      s.dev.haltedBy e core St.DE_ACK_TIMEOUT (faultDetail 3 chan 0 0)) ∧
    ((s.dev.core core).writesOut chan = 0 → Completes (.deAckTimeout core chan) s fun e => e = s.dev))

/-- A DE transaction is issued, returns or is acknowledged, and a finished operation leaves its channel with its
DONE_SEM raised. From: spec/05_cores_and_signalling.md, R141, R142, R143, R144, R149 and R487. -/
def Obligations.DmaTransactionsMove : Prop :=
  (∀ (s : State) (core : CoreNo) (ch : Fin 16) (i : Nat) (o : DeOp) (x : InFlight), (s.dev.core core).issuing ch = some (i, o) → o.next = some x →
    (o.reads = false → o.writes = false → x.arrived = false → Completes (.deTransactionIssue core ⟨some ch, []⟩) s fun e =>
      (s.dev.looked core).coreOnly e core ∧ (e.core core).chan ch = ((s.dev.core core).chan ch).set i (o.advance x.len) ∧
      (e.core core).lm = ((s.dev.core core).writeBad x.dst ((s.dev.seen core).read x.src x.len) ((s.dev.core core).badOf x.src x.len)).lm) ∧
    (∀ left, o.reads = true → s.dev.grantee core = some (ch.val, left) → (s.dev.mport core).exhaustedNow = false →
      (s.dev.core core).writable ch = none → Completes (.deTransactionIssue core ⟨none, []⟩) s fun e =>
        let y := { x with no := (s.dev.core core).issueNo, prio := s.dev.priority core, deadline := s.dev.deadline core }
        e.core core = { s.dev.core core with rrChan := ch, rrLeft := left, issueNo := (s.dev.core core).issueNo + 1, chans := (e.core core).chans } ∧
        (∀ j, j ≠ core.val → e.core j = s.dev.core j) ∧
        (e.core core).chan ch = ((s.dev.core core).chan ch).set i { o.advance x.len with flights := (o.advance x.len).flights ++ [y] } ∧
        e.mport core = { s.dev.mport core with bytes := (s.dev.mport core).bytes + x.len } ∧ e.mem.dram = s.dev.mem.dram ∧
        s.dev.kept e [Reg.CORE_READS_PEAK core])) ∧
  (∀ (s : State) (core : CoreNo) (ch : Fin 16) (which : Fin 192) (env : MemEnv) (i j : Nat) (o : DeOp) (x : InFlight),
    ((s.dev.core core).flightsOf ch (fun o x => o.reads && !x.arrived))[which.val]? = some (i, o, j, x) → s.dev.deWaits core o x = false →
    o.desc.srcSpace = spaceCore → o.writes = false → o.op ≠ opPrefetch → Completes (.deReadReturn core ch which [] env) s fun e =>
      e = { s.dev.looked o.desc.srcUnit with cores := e.cores, mem := { s.dev.mem with ports := e.mem.ports } } ∧
      (∀ j, j ≠ core.val → e.core j = s.dev.core j) ∧
      (e.core core).chan ch = ((s.dev.core core).chan ch).set i { o with flights := dropAt o.flights j } ∧
      (e.core core).lm = ((s.dev.core core).writeBad x.dst ((s.dev.seen o.desc.srcUnit).read x.src x.len)
        ((s.dev.core o.desc.srcUnit).badOf x.src x.len)).lm) ∧
  (∀ (s : State) (core : CoreNo) (ch : Fin 16) (which : Fin 64) (env : MemEnv) (i j : Nat) (o : DeOp) (x : InFlight),
    ((s.dev.core core).flightsOf ch (fun _ x => x.writing && x.tag == none))[which.val]? = some (i, o, j, x) → s.dev.deWaits core o x = false →
    o.desc.dstSpace = spaceCore → Completes (.deWriteAck core ch which env) s fun e =>
      e = { s.dev with cores := e.cores, mem := { s.dev.mem with ports := e.mem.ports } } ∧
      (∀ j, j ≠ core.val → j ≠ o.desc.dstUnit → e.core j = s.dev.core j) ∧
      (e.core core).chan ch = ((s.dev.core core).chan ch).set i (o.land j 0) ∧
      (e.core o.desc.dstUnit).lm = ((s.dev.core o.desc.dstUnit).writeBad x.dst x.data x.bad).lm ∧
      (e.core o.desc.dstUnit).poison = ((s.dev.core o.desc.dstUnit).writeBad x.dst x.data x.bad).poison) ∧
  (∀ (s : State) (core : CoreNo) (ch : Fin 16) (which : Fin 4) (env : MemEnv) (o : DeOp), ((s.dev.core core).chan ch)[which.val]? = some o → o.walk = none →
    o.finished which = true → s.dev.fn .run ≠ .draining → s.dev.fn .hamper ≠ .draining → (∀ m, o.done = some m → (s.dev.core core).sem m < 65535) →
    Completes (.deOperationComplete core ⟨ch, env⟩ which) s fun e =>
      (∀ j, j ≠ core.val → e.core j = s.dev.core j) ∧ (e.core core).chan ch = dropAt ((s.dev.core core).chan ch) which ∧
      (e.core core).lm = (s.dev.core core).lm ∧ (∀ m, o.done = some m → (e.core core).sem m = (s.dev.core core).sem m + 1 ∧
        ∀ n, n ≠ m → (e.core core).sem n = (s.dev.core core).sem n) ∧ (o.done = none → (e.core core).sems = (s.dev.core core).sems) ∧
      e = { s.dev with cores := e.cores, strm := { s.dev.strm with recent := e.strm.recent } })

/-- A master port's access to backed memory that meets no error answers the bytes read, or stores the bytes written and
no other byte. From: spec/08_memory_and_regulation.md, R218, R220, R221, R233, R249 and R251. -/
def Obligations.PortsReadAndWriteMemory : Prop :=
  (∀ (s : State) (port : Fin 79) (addr : BitVec 64) (len : Fin 4097) (poison alloc : Bool) (env : MemEnv),
    env.faults = [] → env.level = none → s.dev.plain addr.toNat len → s.dev.mem.poison = [] → s.dev.zeroWait addr.toNat len = false →
    (s.dev.mport port).exhaustedNow = false →
    (Completes (.floorCacheAccess port addr len none poison alloc env) s fun e =>
      (e.mport port).answer = { data := s.dev.mem.bytes addr.toNat len, priority := s.dev.priority port } ∧
      e.mem.dram = s.dev.mem.dram ∧ e.mem.locked = s.dev.mem.locked ∧ (∀ q, q ≠ port.val → e.mport q = s.dev.mport q) ∧
      e.cores = s.dev.cores ∧ s.dev.kept e [Reg.FC_HITS, Reg.FC_MISSES]) ∧
    ∀ bytes : List Byte, bytes.length = len.val → Completes (.floorCacheAccess port addr len (some bytes) false alloc env) s fun e =>
      (e.mport port).answer = { priority := s.dev.priority port } ∧ e.mem.bytes addr.toNat len = bytes ∧
      (∀ b n, b + n ≤ addr.toNat ∨ addr.toNat + len ≤ b → e.mem.bytes b n = s.dev.mem.bytes b n) ∧
      (∀ q, q ≠ port.val → e.mport q = s.dev.mport q) ∧ e.cores = s.dev.cores ∧ s.dev.kept e [Reg.FC_HITS, Reg.FC_MISSES]) ∧
  (∀ (s : State) (offset : Fin 1073741824) (len : Fin 4097) (env : MemEnv),
    env.faults = [] → env.level = none → s.dev.plain (s.dev.rd Reg.APERTURE_BASE + offset) len → s.dev.mem.poison = [] →
    s.dev.zeroWait (s.dev.rd Reg.APERTURE_BASE + offset) len = false → (s.dev.mport portHost).exhaustedNow = false →
    (Completes (.bar4Access .fn0 offset none len env) s fun e =>
      (e.req .fn0).answer = some (leNat (s.dev.mem.bytes (s.dev.rd Reg.APERTURE_BASE + offset) len)) ∧ e.mem.dram = s.dev.mem.dram ∧
      e.cores = s.dev.cores ∧ s.dev.kept e [Reg.FC_HITS, Reg.FC_MISSES]) ∧
    ∀ bytes : List Byte, bytes.length = len.val → Completes (.bar4Access .fn0 offset (some bytes) len env) s fun e =>
      e.mem.bytes (s.dev.rd Reg.APERTURE_BASE + offset) len = bytes ∧
      (∀ b n, b + n ≤ s.dev.rd Reg.APERTURE_BASE + offset ∨ s.dev.rd Reg.APERTURE_BASE + offset + len ≤ b →
        e.mem.bytes b n = s.dev.mem.bytes b n) ∧ e.cores = s.dev.cores ∧ s.dev.kept e [Reg.FC_HITS, Reg.FC_MISSES]) ∧
  (∀ (s : State) (req : Requester) (offset : Fin 1073741824) (len : Fin 4097) (env : MemEnv),
    (req = .fn1 ∨ req = .fn2 →
      Completes (.bar4Access req offset none len env) s (fun e => e = s.dev.setReq req { s.dev.req req with answer := some 0 }) ∧
      ∀ bytes : List Byte, Completes (.bar4Access req offset (some bytes) len env) s fun e =>
        e = (s.dev.bump Reg.PRIV_DROPS).logEv 0x0112 req.num) ∧
    ∀ write, req ≠ .fn0 → req ≠ .fn1 → req ≠ .fn2 → Completes (.bar4Access req offset write len env) s fun e => e = s.dev)

/-- Each atomic operation on an aligned word answers the old value and stores the new one; an unaligned word is answered
with 0x0712. From: spec/08_memory_and_regulation.md, R227. -/
def Obligations.AtomicOperationsAnswerOldValue : Prop :=
  ∀ (s : State) (port : Fin 79) (addr : BitVec 64) (wide : Bool) (v x : BitVec 64) (env : MemEnv), (port.val < 64 ∨ port.val = portWarden) →
    s.dev.zeroWait addr.toNat (atomicWidth wide) = false → (s.dev.mport port).exhaustedNow = false →
    let w := atomicWidth wide
    let old := s.dev.memNat addr.toNat w
    let vw := v.toNat % 2 ^ (8 * w)
    (s.dev.plain addr.toNat w → addr.toNat % w = 0 → s.dev.mem.poison = [] → env.faults = [] →
      Completes (.atomicRead port addr ⟨wide, env⟩) s (fun e => s.dev.atomicDone e port addr.toNat w none) ∧
      Completes (.atomicAdd port addr ⟨wide, env⟩ v) s (fun e => s.dev.atomicDone e port addr.toNat w (some ((old + v.toNat) % 2 ^ (8 * w)))) ∧
      Completes (.atomicAnd port addr ⟨wide, env⟩ v) s (fun e => s.dev.atomicDone e port addr.toNat w (some (old &&& vw))) ∧
      Completes (.atomicOr port addr ⟨wide, env⟩ v) s (fun e => s.dev.atomicDone e port addr.toNat w (some (old ||| vw))) ∧
      Completes (.atomicMin port addr ⟨wide, env⟩ v) s (fun e => s.dev.atomicDone e port addr.toNat w (some (min old vw))) ∧
      Completes (.atomicMax port addr ⟨wide, env⟩ v) s (fun e => s.dev.atomicDone e port addr.toNat w (some (max old vw))) ∧
      Completes (.atomicSwap port addr ⟨wide, env⟩ v) s (fun e => s.dev.atomicDone e port addr.toNat w (some vw)) ∧
      Completes (.atomicCompareAndSwap port addr ⟨wide, env⟩ x v) s (fun e => s.dev.atomicDone e port addr.toNat w
        (if old = x.toNat % 2 ^ (8 * w) then some vw else none))) ∧
    (addr.toNat % w ≠ 0 → Completes (.atomicAdd port addr ⟨wide, env⟩ v) s fun e =>
      (e.mport port).answer = { code := 0x0712 } ∧ e.mem.dram = s.dev.mem.dram ∧ e.mem.locked = s.dev.mem.locked)

/-- A READ walk under an even GEN copies its pages' frames; an odd GEN makes it try again, and its ninth attempt ends in
WALK_CONFLICT. From: spec/07_attention_and_hamper.md, R187, R190 and R191. -/
def Obligations.ReadWalksCopyPages : Prop :=
  ∀ (s : State) (core : CoreNo) (chan : Fin 16) (env : MemEnv) (c : Instr) (i : Nat) (o : DeOp) (w : Walk),
    (s.dev.core core).walking chan = some (i, o, w) → w.mode = 0 →
    (c = .readWalk core ⟨chan, env⟩ ∧ w.phase = .ready ∨ c = .walkRetry core ⟨chan, env⟩ ∧ w.phase = .retry) →
    let t := s.dev.tableAccess core (s.dev.walkWords w) env
    let d := t.1
    (d.cores = s.dev.cores ∧ d.mem.dram = s.dev.mem.dram ∧ d.mem.locked = s.dev.mem.locked) ∧
    (t.2 ≠ 0 → Completes c s fun e =>
      (e.core core).chan chan = ((d.core core).chan chan).set i
        { o with walk := some { w.meet St.DE_READ_ERROR with phase := .done, resFrames := w.pages } } ∧
      (∀ j, j ≠ core.val → e.core j = d.core j) ∧ e.mem = d.mem ∧
      e.rd (Reg.CORE_DE_READ_ERRORS core) = satTo 32 (d.rd (Reg.CORE_DE_READ_ERRORS core) + 1) ∧ d.kept e [Reg.CORE_DE_READ_ERRORS core]) ∧
    (t.2 = 0 → d.seqGen w.seq % 2 = 1 → w.attempts < 8 → Completes c s fun e =>
      d.chanIs e core chan (((d.core core).chan chan).set i
        { o with walk := some { w with attempts := w.attempts + 1, resFlags := setBit w.resFlags 1 true, phase := .retry } }) ∧
      e = { d with cores := e.cores, dict := e.dict } ∧
      e.rd (Reg.HAMPER_EVENTS 1) = satTo 32 (d.rd (Reg.HAMPER_EVENTS 1) + 1) ∧ d.kept e [Reg.HAMPER_EVENTS 1]) ∧
    (t.2 = 0 → d.seqGen w.seq % 2 = 1 → w.attempts = 8 → Completes c s fun e =>
      (∃ w', (e.core core).chan chan = ((d.core core).chan chan).set i { o with walk := some w' } ∧
        w'.phase = .done ∧ w'.status = St.WALK_CONFLICT ∧ w'.resFrames = w.pages ∧ w'.attempts = 9) ∧
      (∀ j, j ≠ core.val → e.core j = d.core j) ∧ e.mem = d.mem) ∧
    (t.2 = 0 → d.seqGen w.seq % 2 = 0 → Completes c s fun e =>
      (∃ w', (e.core core).chan chan = ((d.core core).chan chan).set i { o with walk := some w' } ∧
        w'.phase = .copied (d.seqGen w.seq) ∧ w'.resFrames = w.pages ∧ w'.resLength = d.layerLength w.seq w.layer ∧
        w'.resGen = d.seqGen w.seq ∧
        (w.pages = 1 →
          let k := d.core core
          let a := d.frameAddr w 0
          let q := w.firstPage
          let mask := w.mask (d.layerLength w.seq w.layer) q
          let en := d.pageAt w.seq w.layer q
          let fmt := formatCode (pageFormatBit en)
          (mask = 0 → (e.core core).lm = (k.write a (frameHeader w q 0 frameBeyond fmt noSlot (d.seqGen w.seq))).lm ∧ w'.todo = [] ∧ w'.missing = false) ∧
          (mask ≠ 0 → pageUsable en = false →
            (e.core core).lm = (k.write a (frameHeader w q mask frameRecompute fmt noSlot (d.seqGen w.seq))).lm ∧ w'.todo = [] ∧ w'.missing = true) ∧
          (mask ≠ 0 → pageUsable en = true →
            (e.core core).lm = (k.write a (frameHeader w q mask frameOk fmt (pageSlot en) (d.seqGen w.seq))).lm ∧
            w'.todo = d.copyPage w 0 (pageSlot en) fmt ∧ w'.missing = false))) ∧
      (∀ j, j ≠ core.val → e.core j = d.core j) ∧ e.mem.dram = d.mem.dram ∧ e.mem.locked = d.mem.locked)

/-- APPEND and REFILL take the writes of their run into the page's slot, a journaled one from the free ring for a new
page; a refused walk writes nothing. From: spec/07_attention_and_hamper.md, R182, R184, R193, R194 and R214. -/
def Obligations.AppendsAndRefillsWriteSlots : Prop :=
  ∀ (s : State) (core : CoreNo) (chan : Fin 16) (env : MemEnv) (c : Instr) (i : Nat) (o : DeOp) (w : Walk),
    (s.dev.core core).walking chan = some (i, o, w) → w.phase = .ready →
    (c = .append core ⟨chan, env⟩ ∧ w.mode = 1 ∨ c = .refill core ⟨chan, env⟩ ∧ w.mode = 2) →
    let t := s.dev.tableAccess core (s.dev.walkWords w) env
    let d := t.1
    let ends (e : Device) (code : Code) (event : Nat) : Prop :=
      d.chanIs e core chan (((d.core core).chan chan).set i { o with walk := some { w with phase := .done, status := code, resLength := d.layerLength w.seq w.layer } }) ∧
        e = { d with cores := e.cores, dict := e.dict } ∧ e.rd (Reg.HAMPER_EVENTS event) = satTo 32 (d.rd (Reg.HAMPER_EVENTS event) + 1) ∧
        d.kept e [Reg.HAMPER_EVENTS event]
    let able := d.seqActive w.seq = true ∧ d.seqPreempted w.seq = false ∧ bitAt (d.rd Reg.FORMATS_ALLOWED) w.formatBit = true
    (d.cores = s.dev.cores ∧ d.mem.dram = s.dev.mem.dram ∧ d.mem.locked = s.dev.mem.locked) ∧
    (t.2 ≠ 0 → Completes c s fun e =>
      (e.core core).chan chan = ((d.core core).chan chan).set i { o with walk := some { w.meet St.DE_READ_ERROR with phase := .done } } ∧
      (∀ j, j ≠ core.val → e.core j = d.core j) ∧ e.mem = d.mem ∧ e.rd (Reg.CORE_DE_READ_ERRORS core) = satTo 32 (d.rd (Reg.CORE_DE_READ_ERRORS core) + 1)) ∧
    (t.2 = 0 → ¬ able → Completes c s fun e => ends e St.APPEND_REFUSED 4) ∧
    (t.2 = 0 → able → d.runOk (d.core core) w = false → Completes c s fun e => ends e St.KV_DATA_INVALID 5) ∧
    (t.2 = 0 → able → d.runOk (d.core core) w = true → bitAt (d.busyWord w.seq w.layer) 0 = true → Completes c s fun e => ends e St.APPEND_REFUSED 4) ∧
    (t.2 = 0 → d.appendReady core w → w.pos0 % 16 = 0 → 0 < w.count → w.pages = 1 →
      let en := d.pageAt w.seq w.layer w.firstPage
      let busy := d.listAddr w.seq w.layer + 4
      (pageValid en = true → pageRecompute en = (w.mode == 2) → Completes c s fun e =>
        (e.core core).chan chan = ((d.core core).chan chan).set i
          { o with walk := some { w with phase := .written, todo := w.todo ++ d.pageWrites core w (pageSlot en) } } ∧
        e.hamper = d.hamper ∧ (∀ b n, b + n ≤ busy ∨ busy + 4 ≤ b → e.mem.bytes b n = d.mem.bytes b n) ∧
        (∀ j, j ≠ core.val → e.core j = d.core j) ∧ d.kept e [Reg.HAMPER_EVENTS 6]) ∧
      (∀ p, pageValid en = false → (w.mode = 1 → pageRecompute en = false) → d.freeCount ≠ 0 →
        (d.setBusy w.seq w.layer core (d.busyWord w.seq w.layer)).1.memNat (d.ringPlace d.hamper.head) 4 = p → Completes c s fun e =>
          (e.core core).chan chan = ((d.core core).chan chan).set i
            { o with walk := some { w with phase := .written, resSlots := w.resSlots + 1, todo := w.todo ++ d.pageWrites core w p
                                           news := w.news ++ [(w.firstPage, pageEntry true w.formatBit false p)] } } ∧
          e.hamper = { d.hamper with head := d.hamper.head + 1 } ∧
          (∀ b n, b + n ≤ busy ∨ busy + 4 ≤ b → b + n ≤ d.journalAddr core chan ∨ d.journalAddr core chan + 1028 ≤ b →
            e.mem.bytes b n = d.mem.bytes b n) ∧
          (∀ j, j ≠ core.val → e.core j = d.core j) ∧ d.kept e [Reg.HAMPER_EVENTS 6]))

/-- APPEND_PUBLISH moves LAYER_LENGTH, the new entries, SLOTS_HELD and GEN together, clears the busy flag and the
journal, and ends the walk. From: spec/07_attention_and_hamper.md, R185, R186, R193, R195 and R214. -/
def Obligations.PublishMakesPagesVisible : Prop :=
  ∀ (s : State) (core : CoreNo) (chan : Fin 16) (env : MemEnv) (i : Nat) (o : DeOp) (w : Walk), (s.dev.core core).walking chan = some (i, o, w) →
    (w.phase ≠ .written ∨ w.todo ≠ [] ∨ o.flights ≠ [] → Completes (.appendPublish core ⟨chan, env⟩) s fun e => e = s.dev) ∧
    (w.phase = .written → w.todo = [] → o.flights = [] →
      let t := s.dev.tableAccess core (s.dev.walkWords w) env
      let d := t.1
      (d.cores = s.dev.cores ∧ d.mem.dram = s.dev.mem.dram ∧ d.mem.locked = s.dev.mem.locked) ∧
      (t.2 ≠ 0 → Completes (.appendPublish core ⟨chan, env⟩) s fun e =>
        e = (d.setWalk core chan i { o with done := none } { w with phase := .done }).writeAnswered core chan t.2 ∧ e.mem = d.mem) ∧
      (t.2 = 0 → (∀ p, p ∈ w.news → p.1 < d.rd Reg.MAX_PAGES) →
        let D := d.seqAddr w.seq
        let P := d.listAddr w.seq w.layer
        let J := d.journalAddr core chan
        let len := max (d.layerLength w.seq w.layer) (w.pos0 + w.count)
        (D + 64 ≤ P ∨ P + d.listBytes ≤ D) → (J + 64 ≤ P ∨ P + d.listBytes ≤ J) → (D + 64 ≤ J ∨ J + 64 ≤ D) →
        Completes (.appendPublish core ⟨chan, env⟩) s fun e =>
          d.chanIs e core chan (((d.core core).chan chan).set i { o with walk := some { w with phase := .done, resLength := len } }) ∧
          e.layerLength w.seq w.layer = len % 2 ^ 32 ∧ e.seqGen w.seq = (d.seqGen w.seq + 2) % 2 ^ 32 ∧
          e.slotsHeld w.seq = (d.slotsHeld w.seq + w.resSlots) % 2 ^ 32 ∧ e.appendBusy w.seq w.layer = false ∧ e.memNat (J + 3) 1 = 0 ∧
          (∀ p, w.news = [p] → e.pageAt w.seq w.layer p.1 = p.2 % 2 ^ 32) ∧
          e = { d with cores := e.cores, mem := { d.mem with dram := e.mem.dram, locked := e.mem.locked } } ∧
          ∀ b n, b + n ≤ D ∨ D + 64 ≤ b → b + n ≤ P ∨ P + d.listBytes ≤ b → b + n ≤ J ∨ J + 64 ≤ b → e.mem.bytes b n = d.mem.bytes b n))

/-- What a refresh, a row at its threshold, a throttle's end, the patrol, a retraining, a zeroisation and a regulation
window's end change. From: spec/08_memory_and_regulation.md, R233, R235, R236, R237, R238, R239, R243, R249 and R255. -/
def Obligations.MemoryUpkeepEffects : Prop :=
  (∀ (s : State) (st : Fin 8) (ch : Fin 24) (b : Fin 64) (r : Fin 8192), Completes (.refresh st ch b r) s fun e =>
    (∀ x, SMap.getD e.mem.activations x 0 = if x = Location.rowKey ⟨st, ch, b, r, 0⟩ then 0 else SMap.getD s.dev.mem.activations x 0) ∧
    e = { s.dev with mem := { s.dev.mem with activations := e.mem.activations } }) ∧
  (∀ (s : State) (x q a n : Nat) (rest : List (Nat × Nat × Nat × Nat)), s.dev.mem.disturbed = (x, q, a, n) :: rest →
    Completes .dramRowDisturb s fun e =>
      let k := Reg.STACK_ROW_DISTURB_EVENTS (s.dev.locate a).stack
      e = { s.dev with dict := e.dict, log := e.log, mem := { s.dev.mem with disturbed := rest, ports := e.mem.ports } } ∧
      e.rd k = satTo 32 (s.dev.rd k + 1) ∧ s.dev.kept e [k] ∧ (∀ q', q' ≠ q → e.mport q' = s.dev.mport q') ∧
      (∃ y : LogRecord, e.log = { s.dev.log with inbox := s.dev.log.inbox ++ [y] } ∧ y.status = St.DRAM_ROW_DISTURB ∧ y.inst = q % 256 ∧
        y.d0 = wrapTo 32 (a / 64)) ∧
      (q ≤ 78 → s.dev.rd (Reg.PORT_CLASS q) = 1 ∨ s.dev.rd (Reg.PORT_CLASS q) = 2 → (s.dev.locate a).stack ∈ (e.mport q).throttled ∧
        (e.mport q).throttles = satTo 32 ((s.dev.mport q).throttles + 1)) ∧
      (s.dev.rd (Reg.PORT_CLASS q) = 0 ∨ s.dev.rd (Reg.PORT_CLASS q) = 3 → e.mport q = s.dev.mport q)) ∧
  (∀ (s : State) (port : Fin 79) (st : Fin 8), Completes (.rowThrottleEnd port st) s fun e =>
    s.dev.portOnly e port ∧ e.mport port = { s.dev.mport port with throttled := (e.mport port).throttled } ∧
    ∀ x, x ∈ (e.mport port).throttled ↔ x ∈ (s.dev.mport port).throttled ∧ x ≠ st) ∧
  (∀ s : State, s.dev.fn .scrub = .on → s.dev.mem.poisoned s.dev.mem.scrubLine = false → Completes (.patrolScrub none) s fun e =>
    (64 * (s.dev.mem.scrubLine + 1) ≠ dramEnd → e = { s.dev with mem := { s.dev.mem with scrubLine := s.dev.mem.scrubLine + 1 } }) ∧
    (64 * (s.dev.mem.scrubLine + 1) = dramEnd → e = { s.dev with dict := e.dict, mem := { s.dev.mem with scrubLine := 0 } } ∧
      e.rd Reg.SCRUB_PASSES = wrapTo 32 (s.dev.rd Reg.SCRUB_PASSES + 1) ∧ s.dev.kept e [Reg.SCRUB_PASSES])) ∧
  (∀ (s : State) (st : Fin 8) (ch : Fin 24), s.dev.mem.retraining.contains (st.val * 24 + ch) = true →
    Completes (.retrainingComplete st ch true) s fun e =>
      e = { s.dev with dict := e.dict, mem := { s.dev.mem with retraining := e.mem.retraining, retrainFails := e.mem.retrainFails, retryFrom := e.mem.retryFrom,
                                                                trainedAt := e.mem.trainedAt, trainedTemp := e.mem.trainedTemp } } ∧
      (∃ next : List Nat, (next = [] ∨ ∃ c < 24, next = [c + 24 * st.val]) ∧
        e.mem.retraining = s.dev.mem.retraining.filter (· != st.val * 24 + ch) ++ next ∧
        e.rd (Reg.STACK_TRAIN_STATE st) = if next = [] then trainTrained else trainRetraining) ∧
      SMap.getD e.mem.retrainFails (st.val * 24 + ch) 0 = 0 ∧ SMap.getD e.mem.retryFrom (st.val * 24 + ch) 0 = 0 ∧
      e.rd (Reg.STACK_RETRAINS st) = wrapTo 32 (s.dev.rd (Reg.STACK_RETRAINS st) + 1) ∧
      s.dev.kept e [Reg.STACK_TRAIN_STATE st, Reg.STACK_RETRAINS st]) ∧
  (∀ (s : State) (z : Nat × Nat) (rest : List (Nat × Nat)), s.dev.mem.zeroing = z :: rest → s.dev.nothingHeld →
    Completes .zeroiseComplete s fun e => e = { s.dev with dict := e.dict, mem := { s.dev.mem with zeroing := rest } } ∧
      s.dev.kept e [Reg.ZEROISE_BUSY] ∧ e.rd Reg.ZEROISE_BUSY = if rest = [] then 0 else s.dev.rd Reg.ZEROISE_BUSY) ∧
  (∀ (s : State) (port : Fin 79), s.dev.nothingHeld → Completes (.regWindowEnd port) s fun e => s.dev.portOnly e port ∧
    e.mport port = { s.dev.mport port with budget := s.dev.rd (Reg.PORT_BUDGET_BYTES port), bytes := 0,
                                            lastBytes := (s.dev.mport port).bytes, stopped := false })

/-- A mapped access takes effect, is dropped, or fails with a code, by R47's checks; one that must cross domains stalls
its requester. From: spec/02_object_dictionary.md, R46, R47, R53, R54, R56, R57 and R58. -/
def Obligations.DictionaryAccesses : Prop :=
  (∀ (s : State) (q : Requester) (idx : BitVec 16) (sub : BitVec 8) (v : BitVec 32) (c : Instr) (x : EntrySpec),
    c = .registerWrite q idx sub v 15 ∨ (∃ b, c = .crossDomainWrite q idx sub v b) → s.dev.takes q (key idx.toNat sub.toNat) v.toNat →
    plainEntry (key idx.toNat sub.toNat) = true → s.dev.entryFor q (key idx.toNat sub.toNat) = some x →
    SMap.find s.dev.boot.parked (key idx.toNat sub.toNat) = none →
    Completes c s fun e => s.dev.noted e q (key idx.toNat sub.toNat) ∧ e.shown (key idx.toNat sub.toNat) = v.toNat ∧
      (∀ j, j ≠ key idx.toNat sub.toNat → e.shown j = s.dev.shown j ∧ e.rd j = s.dev.rd j) ∧
      (s.dev.stages x (key idx.toNat sub.toNat) = true → e = { s.dev with staged := e.staged, stagedNew := e.stagedNew, reqs := e.reqs }) ∧
      (s.dev.stages x (key idx.toNat sub.toNat) = false → e.rd (key idx.toNat sub.toNat) = v.toNat ∧
        e = { s.dev with dict := e.dict, staged := e.staged, stagedNew := e.stagedNew, reqs := e.reqs })) ∧
  (∀ (s : State) (q : Requester) (idx : BitVec 16) (sub : BitVec 8) (v : BitVec 32) (x : EntrySpec),
    s.dev.reached q = true → (s.dev.req q).crossing = .none → s.dev.writeCheck q (key idx.toNat sub.toNat) (.word v.toNat) = .ok →
    s.dev.windowLocked q (key idx.toNat sub.toNat) = false → isGuestEntry (key idx.toNat sub.toNat) = false →
    s.dev.entryFor q (key idx.toNat sub.toNat) = some x → s.dev.parks x (key idx.toNat sub.toNat) = true →
    Completes (.registerWrite q idx sub v 15) s fun e => s.dev.noted e q (key idx.toNat sub.toNat) ∧ e = { s.dev with boot := e.boot, reqs := e.reqs } ∧
      e.boot = { s.dev.boot with parked := SMap.insert s.dev.boot.parked (key idx.toNat sub.toNat) v.toNat } ∧
      (SMap.find s.dev.staged (key idx.toNat sub.toNat) = none → e.shown (key idx.toNat sub.toNat) = v.toNat)) ∧
  (∀ (s : State) (q : Requester) (idx : BitVec 16) (sub : BitVec 8) (v : BitVec 32) (b : BitVec 4),
    s.dev.reached q = true → (s.dev.req q).crossing = .none →
    (b ≠ 15 → Completes (.registerWrite q idx sub v b) s fun e => e = { s.dev with log := e.log, reqs := e.reqs } ∧
      (∃ y : LogRecord, e.log = { s.dev.log with inbox := s.dev.log.inbox ++ [y] } ∧ y.status = St.DICT_MALFORMED ∧ y.inst = q.num) ∧
      (e.req q).lastStatus = St.DICT_MALFORMED ∧ ∀ r, r ≠ q → e.req r = s.dev.req r) ∧
    (s.dev.writeCheck q (key idx.toNat sub.toNat) (.word v.toNat) = .drop → Completes (.registerWrite q idx sub v 15) s fun e =>
      e = { s.dev with dict := e.dict, log := e.log, reqs := e.reqs } ∧ s.dev.kept e [Reg.PRIV_DROPS] ∧
      e.rd Reg.PRIV_DROPS = satTo 32 (s.dev.rd Reg.PRIV_DROPS + 1) ∧
      (∃ y : LogRecord, e.log = { s.dev.log with inbox := s.dev.log.inbox ++ [y] } ∧ y.status = St.DICT_PRIV_DROP ∧ y.inst = q.num) ∧
      e.req q = { s.dev.req q with lastStatus := 0, lastKey := none } ∧ ∀ r, r ≠ q → e.req r = s.dev.req r) ∧
    (∀ code owner, s.dev.writeCheck q (key idx.toNat sub.toNat) (.word v.toNat) = .fail code owner → Completes (.registerWrite q idx sub v 15) s fun e =>
      e = { s.dev with dict := e.dict, log := e.log, reqs := e.reqs } ∧
      s.dev.kept e [Reg.CROSS_TIMEOUTS, Reg.CAL_STATUS (key idx.toNat sub.toNat / 256 % 64)] ∧
      e.req q = { s.dev.req q with lastStatus := code, lastKey := some (key idx.toNat sub.toNat) } ∧ ∀ r, r ≠ q → e.req r = s.dev.req r)) ∧
  (∀ (s : State) (q : Requester) (idx : BitVec 16) (sub : BitVec 8) (b : Bool) (x : EntrySpec),
    s.dev.reached q = true → (s.dev.req q).crossing = .none → s.dev.readCheck q (key idx.toNat sub.toNat) true = .ok →
    s.dev.entryFor q (key idx.toNat sub.toNat) = some x → isGuestEntry (key idx.toNat sub.toNat) = false →
    (x.cross = false ∨ (b = true ∧ s.dev.domainUp (key idx.toNat sub.toNat) = true) → Completes (.crossDomainRead q idx sub b) s fun e =>
      s.dev.reqOnly e q ∧ (e.req q).answer = some (s.dev.readNum q (key idx.toNat sub.toNat)) ∧
      (key idx.toNat sub.toNat ≠ Reg.LAST_ACCESS_STATUS → (e.req q).lastStatus = 0)) ∧
    (x.cross = true → b = false ∨ s.dev.domainUp (key idx.toNat sub.toNat) = false → Completes (.crossDomainRead q idx sub b) s fun e =>
      s.dev.reqOnly e q ∧ e.req q = { s.dev.req q with crossing := .reading (key idx.toNat sub.toNat) })) ∧
  (∀ (s : State) (q : Requester) (k : Nat), q.isNode = false → (s.dev.req q).crossing = .reading k → (s.dev.req q).held = [] →
    Completes (.dictCrossTimeout q) s fun e => e = { s.dev with dict := e.dict, log := e.log, reqs := e.reqs } ∧
      s.dev.kept e [Reg.CROSS_TIMEOUTS] ∧ e.rd Reg.CROSS_TIMEOUTS = satTo 32 (s.dev.rd Reg.CROSS_TIMEOUTS + 1) ∧
      (∃ y : LogRecord, e.log = { s.dev.log with inbox := s.dev.log.inbox ++ [y] } ∧ y.status = St.DICT_CROSS_TIMEOUT ∧ y.inst = q.num) ∧
      (e.req q).answer = none ∧ (e.req q).crossing = .none ∧ (∀ r, r ≠ q → e.req r = s.dev.req r) ∧
      (k ≠ Reg.LAST_ACCESS_STATUS → (e.req q).lastStatus = St.DICT_CROSS_TIMEOUT))

/-- The mailbox: a snapshot captures the entry's whole value, a commit applies the buffer, a release and writes of
MBX_DATA and MBX_LEN clear VALID. From: spec/02_object_dictionary.md, R60, R61, R62, R63 and Table 2-5. -/
def Obligations.MailboxOperations : Prop :=
  (∀ (s : State) (q : Requester) (idx : BitVec 16) (sub : BitVec 8) (x : EntrySpec), s.dev.takes q Reg.MBX_CTL (mbxWord 1 idx.toNat sub.toNat) →
    s.dev.readCheck q (key idx.toNat sub.toNat) false = .ok → s.dev.entryFor q (key idx.toNat sub.toNat) = some x →
    isGuestEntry (key idx.toNat sub.toNat) = false → Completes (.mbxSnapshot q idx sub) s fun e => s.dev.reqOnly e q ∧
      e.req q = { s.dev.req q with lastStatus := 0, lastKey := some Reg.MBX_CTL, mbx := { (s.dev.req q).mbx with
        valid := false, op := .snapshot (key idx.toNat sub.toNat) x.cross 0 (if x.cross then [] else s.dev.readBytes q x (key idx.toNat sub.toNat)) } }) ∧
  (∀ (s : State) (q : Requester) (idx : BitVec 16) (sub : BitVec 8), s.dev.takes q Reg.MBX_CTL (mbxWord 2 idx.toNat sub.toNat) →
    isGuestEntry (key idx.toNat sub.toNat) = false → Completes (.mbxCommit q idx sub) s fun e => s.dev.reqOnly e q ∧
      e.req q = { s.dev.req q with lastStatus := 0, lastKey := some Reg.MBX_CTL, mbx := { (s.dev.req q).mbx with
        valid := false, op := .commit (key idx.toNat sub.toNat) none } }) ∧
  (∀ (s : State) (q : Requester), s.dev.takes q Reg.MBX_CTL (mbxWord 3 0 0) → Completes (.mbxRelease q) s fun e => s.dev.reqOnly e q ∧
      e.req q = { s.dev.req q with lastStatus := 0, lastKey := some Reg.MBX_CTL, mbx := { (s.dev.req q).mbx with valid := false, status := 0 } }) ∧
  (∀ (s : State) (q : Requester) (crossed : Bool) (k : Nat) (st : Code) (bytes : List Byte), (s.dev.req q).mbx.op = .snapshot k false st bytes →
    Completes (.mbxOperationDone q crossed) s fun e => s.dev.reqOnly e q ∧ (e.req q).mbx.op = .idle ∧ (e.req q).mbx.status = st ∧
      (st = 0 → SMap.getList (e.req q).mbx.buf 0 0 bytes.length = bytes ∧ (e.req q).mbx.len = bytes.length ∧ (e.req q).mbx.valid = true ∧
        (e.req q).mbx.gen = wrapTo 32 ((s.dev.req q).mbx.gen + 1)) ∧
      (st ≠ 0 → (e.req q).mbx = { (s.dev.req q).mbx with op := .idle, status := st })) ∧
  (∀ (s : State) (q : Requester) (crossed : Bool) (k : Nat) (bytes : List Byte) (x : EntrySpec), (s.dev.req q).mbx.op = .commit k none →
    bytes = SMap.getList (s.dev.req q).mbx.buf 0 0 (s.dev.req q).mbx.len → isGuestEntry k = false → s.dev.entryFor q k = some x →
    (x.cross = false ∨ crossed = true) →
    (∀ code owner, s.dev.writeCheck q k (.bytes bytes) = .fail code owner → Completes (.mbxOperationDone q crossed) s fun e =>
      e = { s.dev with dict := e.dict, log := e.log, reqs := e.reqs } ∧ s.dev.kept e [Reg.CROSS_TIMEOUTS, Reg.CAL_STATUS (k / 256 % 64)] ∧
      e.req q = { s.dev.req q with mbxAsked := none, mbx := { (s.dev.req q).mbx with op := .idle, status := code } }) ∧
    (s.dev.writeCheck q k (.bytes bytes) = .ok → s.dev.windowLocked q k = false → x.type.wide = false → s.dev.parks x k = false → plainEntry k = true →
      s.dev.stages x k = false → Completes (.mbxOperationDone q crossed) s fun e =>
        e.rd k = leNat bytes ∧ s.dev.kept e [k] ∧
        e = { s.dev with dict := e.dict, staged := e.staged, stagedNew := e.stagedNew, reqs := e.reqs } ∧
        e.req q = { s.dev.req q with mbxAsked := none, mbx := { (s.dev.req q).mbx with op := .idle, status := 0 } })) ∧
  (∀ (s : State) (q : Requester) (word : Fin 240) (v : BitVec 32), s.dev.takes q (Reg.MBX_DATA word) v.toNat →
    Completes (.mbxDataWrite q word v) s fun e => s.dev.reqOnly e q ∧
      e.req q = { s.dev.req q with lastStatus := 0, lastKey := some (Reg.MBX_DATA word), mbx := { (s.dev.req q).mbx with valid := false, buf := (e.req q).mbx.buf } } ∧
      ((s.dev.req q).mbx.offset + 4 * word + 4 ≤ 65536 →
        SMap.getList (e.req q).mbx.buf ((s.dev.req q).mbx.offset + 4 * word) 0 4 = leBytes v.toNat 4 ∧
        ∀ j, j < (s.dev.req q).mbx.offset + 4 * word ∨ (s.dev.req q).mbx.offset + 4 * word + 4 ≤ j →
          SMap.getD (e.req q).mbx.buf j 0 = SMap.getD (s.dev.req q).mbx.buf j 0) ∧
      (65536 < (s.dev.req q).mbx.offset + 4 * word + 4 → (e.req q).mbx.buf = (s.dev.req q).mbx.buf)) ∧
  (∀ (s : State) (q : Requester) (v : BitVec 32), s.dev.takes q Reg.MBX_LEN v.toNat → Completes (.mbxLenWrite q v) s fun e => s.dev.reqOnly e q ∧
      e.req q = { s.dev.req q with lastStatus := 0, lastKey := some Reg.MBX_LEN, mbx := { (s.dev.req q).mbx with len := v.toNat, valid := false } })

/-- An enable's write sets it; a function that is ON, that is held, or whose enable goes to 0 while OFF stays so; FAULT
is cleared by 0. From: spec/02_object_dictionary.md, Table 2-13 and R70, spec/03_start_up_and_personalities.md, R83. -/
def Obligations.EnablesAreWritten : Prop :=
  ∀ (s : State) (c : Instr) (q : Requester) (v : BitVec 32) (f : FnId) (k : Nat), writesEnable c q v f → f.enableKey = some k →
    s.dev.takes q k v.toNat → f ≠ .ring .programUpload ∨ s.dev.personality ≠ .overnight →
    (s.dev.fn f = .on ∧ v.toNat = 1 ∨ s.dev.fn f = .off ∧ v.toNat = 1 ∧ s.dev.fnHeld f = true ∨ s.dev.fn f = .off ∧ v.toNat = 0 →
      Completes c s fun e => e = { s.dev with dict := e.dict, reqs := e.reqs } ∧ s.dev.noted e q k ∧ e.rd k = v.toNat ∧ s.dev.kept e [k] ∧
        e.fn f = s.dev.fn f) ∧
    (s.dev.fn f = .fault → v.toNat = 0 → Completes c s fun e => e = { s.dev with dict := e.dict, reqs := e.reqs } ∧ s.dev.noted e q k ∧
      e.rd k = 0 ∧ e.fn f = .off ∧ s.dev.kept e [k, f.stateKey, Reg.SLOTS_ACTIVE])

/-- An enable written 1 starts its function where it is OFF and may start: to ON or STARTING where its configuration
stands, else FAULT. From: spec/02_object_dictionary.md, Table 2-13 and R486, spec/07_attention_and_hamper.md, R214 and
R215, spec/08_memory_and_regulation.md, R243, spec/09_sensor_ingest.md, R259, spec/10_fusion.md, R280,
spec/11_planning.md, R316 and R330, spec/13_overnight_tenancy.md, R402, spec/14_links_and_guest_die.md, R425 and R442.
-/
def Obligations.FunctionsStart : Prop :=
  ∀ (s : State) (c : Instr) (q : Requester) (v : BitVec 32) (f : FnId) (k : Nat) (d : Device), writesEnable c q v f → f.enableKey = some k →
    s.dev.takes q k v.toNat → f ≠ .ring .programUpload ∨ s.dev.personality ≠ .overnight →
    v.toNat = 1 → s.dev.fn f = .off → s.dev.fnHeld f = false → d = s.dev.wr k 1 →
    Completes c s fun e => s.dev.noted e q k ∧ e.cores = s.dev.cores ∧
      (f = .fieldNet ∨ f = .scrub → e = { s.dev with dict := e.dict, reqs := e.reqs } ∧ e.fn f = .on ∧ e.rd k = 1 ∧ s.dev.kept e [k, f.stateKey]) ∧
      (f = .hamper → d.hamperConfigOk = true → e.fn f = .on ∧ e.rd k = 1 ∧ s.dev.kept e [k, f.stateKey] ∧ e.hamper = ⟨0, s.dev.rd Reg.SLOT_COUNT⟩) ∧
      (∀ n, f = .slot n → d.slotFault n = none → e.fn f = .on ∧ e.rd k = 1 ∧ e.slot n = {} ∧ e = { s.dev with dict := e.dict, reqs := e.reqs, slots := e.slots } ∧
        ∀ m, m ≠ n.val → e.slot m = s.dev.slot m) ∧
      (∀ n x, f = .slot n → d.slotFault n = some x → e.fn f = .fault ∧ e = { s.dev with dict := e.dict, reqs := e.reqs, log := e.log } ∧
        e.log.inbox.length = s.dev.log.inbox.length + 1) ∧
      (f = .fusion → d.fusionFault = none → e.fn f = .starting ∧ e.rd k = 1 ∧ e = { s.dev with dict := e.dict, reqs := e.reqs, fusion := { restarted := false, calibChanged := s.dev.fusion.calibChanged } }) ∧
      (∀ x, f = .fusion → d.fusionFault = some x → e.fn f = .fault ∧ e.log.inbox.length = s.dev.log.inbox.length + 1) ∧
      (f = .planning → d.planFault = none → d.latticeFault = none → d.plain (d.rd Reg.LATTICE_BASE) d.latticeSize → d.mem.poison = [] →
        e.fn f = .on ∧ e.rd k = 1 ∧ e.rd Reg.OUT_SEQ = 0 ∧ e.mem.bytes = s.dev.mem.bytes ∧
        e = { s.dev with dict := e.dict, reqs := e.reqs, planning := e.planning, mem := e.mem }) ∧
      (∀ x, f = .planning → d.planFault = some x → e.fn f = .fault ∧ e.log.inbox.length = s.dev.log.inbox.length + 1) ∧
      (f = .job → d.jobFault = none → e.fn f = .on ∧ e.rd k = 1 ∧ e.rd Reg.STEPS_TAKEN = 0 ∧ e.rd Reg.CKPT_ACK = 0) ∧
      (∀ x, f = .job → d.jobFault = some x → e.fn f = .fault ∧ e.log.inbox.length = s.dev.log.inbox.length + 1) ∧
      (∀ p, f = .link p → d.linkExists p = true → e.fn f = .starting ∧ e.rd (Reg.LINK_PHASE p) = phaseTraining ∧ e.rd (Reg.LINK_PEER_ID p) = 0xFF ∧
        e.linkPort p = {} ∧ e = { s.dev with dict := e.dict, reqs := e.reqs, links := e.links }) ∧
      (∀ p, f = .link p → d.linkExists p = false → e.fn f = .off ∧ e.rd k = 1) ∧
      (f = .guest → d.guest.trained = true → d.personality ≠ .overnight → e.fn f = .on ∧ e.rd k = 1 ∧ s.dev.kept e [k, f.stateKey]) ∧
      (f = .guest → d.guest.trained = false → e.fn f = .off ∧ e.rd k = 1) ∧
      (∀ r, f = .ring r → d.rd (r.reg ringEntries) ≠ 0 → e.fn f = .on ∧ e.rd k = 1 ∧ e.rd (r.reg ringHead) = 0 ∧ e.rd (r.reg ringTail) = 0 ∧ e.ring r = {}) ∧
      (∀ r, f = .ring r → d.rd (r.reg ringEntries) = 0 → e.fn f = .fault ∧ e.log.inbox.length = s.dev.log.inbox.length + 1)

/-- A record that reaches the Warden merges into the newest or is stored under the next SEQ, a full log losing its
oldest; a window shows up to 16 records. From: spec/02_object_dictionary.md, R73, R74 and R75. -/
def Obligations.ErrorLogStoresAndShows : Prop :=
  (∀ (s : State) (i : Nat) (r : LogRecord), s.dev.log.inbox[i]? = some r →
    (∀ n, s.dev.log.stored.getLast? = some n → n.same r = true → Completes (.logRecordStore i) s fun e =>
      e = { s.dev with log := { s.dev.log with inbox := s.dev.log.inbox.eraseIdx i, stored := e.log.stored } } ∧
      e.log.stored = s.dev.log.stored.dropLast ++ [{ n with reps := min 65535 (n.reps + 1) }]) ∧
    ((∀ n, s.dev.log.stored.getLast? = some n → n.same r = false) → Completes (.logRecordStore i) s fun e =>
      e = { s.dev with dict := e.dict, log := { inbox := s.dev.log.inbox.eraseIdx i, stored := e.log.stored, nextSeq := (s.dev.log.nextSeq + 1) % 65536 } } ∧
      e.log.stored.getLast? = some { r with mgmt := s.dev.rd Reg.MGMT_PERIODS, seq := s.dev.log.nextSeq, reps := 0 } ∧
      (s.dev.log.stored.length < 4096 → e.log.stored.dropLast = s.dev.log.stored ∧ s.dev.kept e []) ∧
      (s.dev.log.stored.length = 4096 → e.log.stored.dropLast = s.dev.log.stored.drop 1 ∧ s.dev.kept e [Reg.LOG_LOST] ∧
        e.rd Reg.LOG_LOST = satTo 32 (s.dev.rd Reg.LOG_LOST + 1)))) ∧
  (∀ (s : State) (q : Requester) (v : BitVec 32), s.dev.takes q Reg.LOG_CTL v.toNat → Completes (.logCtl q v) s fun e => s.dev.reqOnly e q ∧
    e.req q = { s.dev.req q with lastStatus := 0, lastKey := some Reg.LOG_CTL, window := { valid := false, busy := true, first := v.toNat % 65536 } }) ∧
  (∀ (s : State) (q : Requester), (s.dev.req q).window.busy = true → Completes (.logSnapshotDone q) s fun e => s.dev.reqOnly e q ∧
    e.req q = { s.dev.req q with window := { (s.dev.req q).window with valid := true, busy := false, recs := (e.req q).window.recs } } ∧
    (e.req q).window.recs.length ≤ 16 ∧
    (∀ n, s.dev.log.stored.getLast? = some n → s.dev.log.stored.any (fun r => r.seq == (s.dev.req q).window.first) = true →
      ∃ r t, (e.req q).window.recs = r :: t ∧ r.seq = (s.dev.req q).window.first ∧ ∃ a b, s.dev.log.stored = a ++ (r :: t) ++ b) ∧
    (s.dev.log.stored = [] → (e.req q).window.recs = [])) ∧
  (∀ s : State, Completes .usb4LinkRecovery s fun e => e = { s.dev with dict := e.dict, log := e.log, draws := s.dev.draws + 1 } ∧
    e.rd Reg.USB4_RECOVERIES = satTo 32 (s.dev.rd Reg.USB4_RECOVERIES + 1) ∧ s.dev.kept e [Reg.USB4_RECOVERIES] ∧
    ∃ y : LogRecord, e.log = { s.dev.log with inbox := s.dev.log.inbox ++ [y] } ∧ y.status = codeOf (s.dev.freeVal 16))

/-- A doorbell moves TAIL or is rejected; a ring that is ON takes its next descriptor, which its owner fills, consumes
or refuses, and owes a completion. From: spec/02_object_dictionary.md, R68, R69 and Tables 2-10 to 2-12,
spec/04_kweub_bundle_stream.md, R126, spec/11_planning.md, R329. -/
def Obligations.RingsTakeDescriptors : Prop :=
  (∀ (s : State) (q : Requester) (r : RingId) (v : BitVec 32), s.dev.reached q = true → (∃ x, entryAt (r.reg 1) = some x ∧ q.level ≤ x.wr) →
    (s.dev.bellOk r v.toNat = true → Completes (.doorbell q r v) s fun e => e = { s.dev with dict := e.dict } ∧ e.rd (r.reg ringTail) = v.toNat ∧
      s.dev.kept e [r.reg ringTail]) ∧
    (s.dev.bellOk r v.toNat = false → Completes (.doorbell q r v) s fun e => e = { s.dev with dict := e.dict, log := e.log, reqs := e.reqs } ∧
      e.rd Reg.DOORBELL_REJECTS = satTo 32 (s.dev.rd Reg.DOORBELL_REJECTS + 1) ∧ s.dev.kept e [Reg.DOORBELL_REJECTS] ∧
      (∃ y : LogRecord, e.log = { s.dev.log with inbox := s.dev.log.inbox ++ [y] } ∧ y.status = St.RING_BAD_DOORBELL) ∧
      (e.req q).lastStatus = St.RING_BAD_DOORBELL ∧ ∀ p, p ≠ q → e.req p = s.dev.req p)) ∧
  (∀ (s : State) (r : RingId) (x : Descriptor) (ok : Bool) (pay : List Byte) (c1 c2 : Bool) (sil : List (Fin 11)) (env : MemEnv) (it : RingItem)
    (rest : List RingItem), r ∈ [.capture, .fusionOut, .trajOut, .jobOut, .ckpt] → s.dev.ringReady r → (s.dev.ring r).items = it :: rest →
    (x.usable ok = true → ¬ (it.bytes.drop x.len.toNat = [] ∧ it.last = true) → Completes (.ringDescriptor r x ok pay true c1 c2 sil env) s fun e =>
      s.dev.ringTook e r x.wanted ⟨x.tag.toNat, 0, (it.bytes.take x.len.toNat).length, it.detail⟩ ∧
      s.dev.kept e [r.reg ringHead, r.reg ringLastStatus] ∧ e = { s.dev with dict := e.dict, rings := e.rings, host := e.host } ∧
      SMap.getList e.host x.addr.toNat 0 (it.bytes.take x.len.toNat).length = it.bytes.take x.len.toNat ∧
      (∀ j, j < x.addr.toNat ∨ x.addr.toNat + (it.bytes.take x.len.toNat).length ≤ j → SMap.getD e.host j 0 = SMap.getD s.dev.host j 0) ∧
      (e.ring r).items = if it.bytes.drop x.len.toNat = [] then rest else { it with bytes := it.bytes.drop x.len.toNat } :: rest) ∧
    (x.usable ok = false → Completes (.ringDescriptor r x ok pay true c1 c2 sil env) s fun e =>
      s.dev.ringTook e r x.wanted ⟨x.tag.toNat, St.RING_DESC_FAULT, 0, 0⟩ ∧ s.dev.kept e [r.reg ringHead, r.reg ringLastStatus] ∧
      e = { s.dev with dict := e.dict, rings := e.rings, log := { s.dev.log with inbox := s.dev.log.inbox ++ [s.dev.record St.RING_DESC_FAULT (s.dev.ringSlot r) 0 0 0] } } ∧
      (e.ring r).items = (s.dev.ring r).items)) ∧
  (∀ (s : State) (x : Descriptor) (ok : Bool) (pay : List Byte) (c1 c2 : Bool) (sil : List (Fin 11)) (env : MemEnv), s.dev.ringReady .programUpload →
    s.dev.personality ≠ .overnight → x.usable ok = true → x.uploadForm = true →
    (s.dev.loader.fetching = true → s.dev.loader.fromFlash = false → imgComplete s.dev.loader.image = false →
      x.imageOffset = s.dev.loader.image.length → Completes (.programUpload x ok ⟨pay, env⟩ true c1 c2 sil) s fun e =>
        s.dev.ringTook e .programUpload x.wanted ⟨x.tag.toNat, 0, x.len.toNat, 0⟩ ∧
        e.loader = { s.dev.loader with image := s.dev.loader.image ++ padTo pay x.len.toNat } ∧
        e = { s.dev with dict := e.dict, rings := e.rings, loader := e.loader } ∧
        s.dev.kept e [RingId.programUpload.reg ringHead, RingId.programUpload.reg ringLastStatus, Reg.IMAGE_BYTES_RECEIVED]) ∧
    (s.dev.expectedOffset ≠ some x.imageOffset → Completes (.programUpload x ok ⟨pay, env⟩ true c1 c2 sil) s fun e =>
        s.dev.ringTook e .programUpload x.wanted ⟨x.tag.toNat, St.RING_DESC_FAULT, 0, St.LD_UPLOAD_ORDER⟩ ∧ e.rd Reg.LOADER_STATUS = St.LD_UPLOAD_ORDER ∧
        e = { s.dev with dict := e.dict, rings := e.rings, log := { s.dev.log with inbox := s.dev.log.inbox ++ [s.dev.record St.RING_DESC_FAULT (s.dev.ringSlot .programUpload) 0 0 0] } })) ∧
  (∀ (s : State) (x : Descriptor) (ok : Bool) (pay : List Byte) (env : MemEnv), s.dev.ringReady .latticeUpload → x.usable ok = true →
    zeroAt x.owner 8 6 = true →
    (leAt x.owner 0 8 = s.dev.rd Reg.LATTICE_BYTES → env.faults = [] → s.dev.mem.poison = [] →
      s.dev.plain (s.dev.rd Reg.LATTICE_BASE + s.dev.rd Reg.LATTICE_BYTES) x.len.toNat → Completes (.latticeUpload x ok pay env true) s fun e =>
        s.dev.ringTook e .latticeUpload x.wanted ⟨x.tag.toNat, 0, x.len.toNat, 0⟩ ∧
        e.mem.bytes (s.dev.rd Reg.LATTICE_BASE + s.dev.rd Reg.LATTICE_BYTES) x.len.toNat = padTo pay x.len.toNat ∧
        (∀ b n, b + n ≤ s.dev.rd Reg.LATTICE_BASE + s.dev.rd Reg.LATTICE_BYTES ∨
          s.dev.rd Reg.LATTICE_BASE + s.dev.rd Reg.LATTICE_BYTES + x.len.toNat ≤ b → e.mem.bytes b n = s.dev.mem.bytes b n) ∧
        e.rd Reg.LATTICE_BYTES = wrapTo 64 (s.dev.rd Reg.LATTICE_BYTES + x.len.toNat) ∧ e.cores = s.dev.cores ∧
        s.dev.kept e [Reg.FC_HITS, Reg.FC_MISSES, Reg.LATTICE_BYTES, Reg.LATTICE_CRC, RingId.latticeUpload.reg ringHead, RingId.latticeUpload.reg ringLastStatus]) ∧
    (leAt x.owner 0 8 ≠ s.dev.rd Reg.LATTICE_BYTES → Completes (.latticeUpload x ok pay env true) s fun e =>
        s.dev.ringTook e .latticeUpload x.wanted ⟨x.tag.toNat, St.RING_DESC_FAULT, 0, St.LATTICE_UPLOAD_ORDER⟩ ∧
        e.rd Reg.LATTICE_STATUS = St.LATTICE_UPLOAD_ORDER ∧
        e = { s.dev with dict := e.dict, rings := e.rings, log := { s.dev.log with inbox := s.dev.log.inbox ++ [s.dev.record St.RING_DESC_FAULT (s.dev.ringSlot .latticeUpload) 0 0 0] } } ∧
        s.dev.kept e [Reg.LATTICE_STATUS, RingId.latticeUpload.reg ringHead, RingId.latticeUpload.reg ringLastStatus]))

/-- A drain limit turns a draining function OFF, undeliverable completions are discarded, and a session without its next
segment is aborted. From: spec/02_object_dictionary.md, R65 and R70, spec/05_cores_and_signalling.md, R154,
spec/07_attention_and_hamper.md, R215, spec/14_links_and_guest_die.md, R435 and R446. -/
def Obligations.LimitsEndDrainsAndSessions : Prop :=
  (∀ (s : State) (f : FnId) (tags : List (BitVec 32)) (full room : Bool) (env : MemEnv),
    (s.dev.fn f ≠ .draining → Completes (.drainLimitExpired f tags full room env) s fun e => e = s.dev) ∧
    (s.dev.fn f = .draining → (f = .run ∨ f = .fieldNet ∨ f = .hamper ∨ f = .scrub ∨ f = .job ∨ f = .guest ∨ ∃ p, f = .link p) →
      Completes (.drainLimitExpired f tags full room env) s fun e => e.fn f = .off ∧ (∀ k, f.enableKey = some k → e.rd k = 0) ∧
        (f = .scrub → s.dev.regsOnly e [Reg.SCRUB_STATE, Reg.SCRUB_ENABLE]))) ∧
  (∀ (s : State) (r : RingId), (s.dev.fn (.ring r) = .draining → (s.dev.ring r).limitPassed = true →
      Completes (.ringCplDiscarded r) s fun e => e.fn (.ring r) = .off ∧ e.rd (r.reg 1) = 0 ∧
        e.ring r = { s.dev.ring r with owed := [] } ∧ (∀ r', r' ≠ r → e.ring r' = s.dev.ring r') ∧
        e.rd Reg.CPL_DISCARDED = satTo 32 (s.dev.rd Reg.CPL_DISCARDED + (s.dev.ring r).owed.length) ∧
        s.dev.kept e [Reg.CPL_DISCARDED, r.reg 0, r.reg 1] ∧ e = { s.dev with dict := e.dict, log := e.log, rings := e.rings } ∧
        ∃ l, e.log.inbox = s.dev.log.inbox ++ l ∧ l.length = (s.dev.ring r).owed.length ∧ ∀ y ∈ l, y.status = St.RING_CPL_DISCARDED) ∧
    ((s.dev.ring r).limitPassed = false → Completes (.ringCplDiscarded r) s fun e => e = s.dev)) ∧
  (∀ (s : State) (n : Fin 8), (s.dev.req (.node n)).crossing = .none →
    ((s.dev.req (.node n)).session = .none → Completes (.dictSessionTimeout n) s fun e => e = s.dev) ∧
    (∀ txn k b, (s.dev.req (.node n)).session = .writing txn k b → Completes (.dictSessionTimeout n) s fun e =>
      e.req (.node n) = { s.dev.req (.node n) with session := .none, sent := nodeFrame 0xA txn k 4 (leBytes 0 2 ++ leBytes St.DICT_SESSION_TIMEOUT 2) } ∧ (∀ r, r ≠ .node n → e.req r = s.dev.req r) ∧
      e.rd Reg.ABORTS_SENT = satTo 32 (s.dev.rd Reg.ABORTS_SENT + 1) ∧
      (∃ y : LogRecord, e.log = { s.dev.log with inbox := s.dev.log.inbox ++ [y] } ∧ y.status = St.DICT_SESSION_TIMEOUT)))

/-- A running Lookout's heartbeat toggles and its messages count; a loss of supply, a failed compare or its reset stops
it, the main chip unchanged. From: spec/12_safety_and_lookouts.md, R349, R350 and R351, spec/01_package_and_levels.md,
R18, spec/03_start_up_and_personalities.md, R76. -/
def Obligations.LookoutsRunAndStop : Prop :=
  (∀ (s : State) (i : Island), s.dev.islUp i = true →
    Completes (.heartbeatToggle i) s (fun e => s.dev.islOnly e i { s.dev.isl i with heartbeat := !(s.dev.isl i).heartbeat }) ∧
    Completes (.peerStatusSend i) s (fun e => s.dev.islOnly e i
      { s.dev.isl i with sent := ((s.dev.isl i).sent + 1) % 65536, transit := some (((s.dev.isl i).sent + 1) % 65536) }) ∧
    Completes (.islandSelfFault i) s fun e => e.isl i = { s.dev.isl i with halted := true, firmware := false } ∧ e.isl i.peer = s.dev.isl i.peer ∧
      bitAt (e.rd (Reg.FAULT_CAUSE i.num)) causeSelf = true ∧ e.rd (Reg.LOOKOUT_STATE i.num) = { s.dev.isl i with halted := true, firmware := false }.state ∧
      s.dev.kept e [Reg.FAULT_CAUSE i.num, Reg.LOOKOUT_STATE i.num] ∧
      e = { s.dev with dict := e.dict, safety := e.safety, log := { s.dev.log with inbox := s.dev.log.inbox ++ [s.dev.record St.ISLAND_SELF_FAULT i.num 0 0 0] } }) ∧
  (∀ (s : State) (i : Island), s.dev.islReleased i = true → Completes (.islSupplyOrCrystalLoss i) s fun e =>
    s.dev.islOnly e i { s.dev.isl i with stopped := true, firmware := false, transit := none }) ∧
  (∀ (s : State) (i : Island), Completes (.islResetAssert i) s fun e => e.islReleased i = false ∧ e.islReleased i.peer = s.dev.islReleased i.peer ∧
    e.isl i = { s.dev.isl i with firmware := false, transit := none } ∧ e.isl i.peer = s.dev.isl i.peer ∧
    e = { s.dev with dict := e.dict, safety := e.safety, boot := e.boot } ∧ s.dev.kept e [Reg.LOOKOUT_STATE i.num]) ∧
  (∀ (s : State) (i : Island), s.dev.islReleased i = false → s.dev.floorUp = false → Completes (.islResetRelease i) s fun e =>
    e.islReleased i = true ∧ e.islReleased i.peer = s.dev.islReleased i.peer ∧ e.isl i = { lost := (s.dev.isl i).lost } ∧ e.isl i.peer = s.dev.isl i.peer ∧
    e = { s.dev with dict := e.dict, blobs := e.blobs, safety := e.safety, boot := e.boot })

/-- Link and rail events: RX_LINK, ETH_LINK_UP and the rails show what is sensed; a lost compute rail stops its region,
a lost lock demands a restart. From: spec/09_sensor_ingest.md, R274, spec/03_start_up_and_personalities.md, R76, R77 and
R86, spec/01_package_and_levels.md, R21. -/
def Obligations.SensedLevelsAreShown : Prop :=
  (∀ (s : State) (rx : Fin 16) (st : Fin 3), Completes (.rxLinkState rx st) s fun e => s.dev.regsOnly e [Reg.RX_LINK rx] ∧ e.rd (Reg.RX_LINK rx) = st) ∧
  (∀ (s : State) (port : Fin 8) (up : Bool), Completes (.ethLinkState port up) s fun e => s.dev.regsOnly e [Reg.ETH_LINK_UP port] ∧
    e.rd (Reg.ETH_LINK_UP port) = if up then 1 else 0) ∧
  (∀ (s : State) (port : Fin 2), s.dev.floorUp = true →
    (s.dev.boot.hostPort = none → Completes (.hostRouterEnumeration port) s fun e => e = { s.dev with boot := { s.dev.boot with hostPort := some port.val } }) ∧
    (s.dev.boot.hostPort ≠ none → Completes (.hostRouterEnumeration port) s fun e => e = s.dev)) ∧
  (∀ (s : State) (r : RegionNo), Completes (.pwrGoodCmpRise r) s fun e => e = { s.dev with boot := { s.dev.boot with cmpGood := e.boot.cmpGood } } ∧
    ∀ j, bitAt e.boot.cmpGood j = (decide (j = r.val) || bitAt s.dev.boot.cmpGood j)) ∧
  (∀ (s : State) (r : RegionNo),
    (s.dev.started = false ∨ bitAt s.dev.boot.cmpGood r = false → Completes (.pwrGoodCmpFall r) s fun e =>
      e = { s.dev with boot := { s.dev.boot with cmpGood := e.boot.cmpGood } } ∧ ∀ j, bitAt e.boot.cmpGood j = (!decide (j = r.val) && bitAt s.dev.boot.cmpGood j)) ∧
    (s.dev.started = true → bitAt s.dev.boot.cmpGood r = true → s.dev.boot.regionDemand = 0 → s.dev.boot.restarting = none → s.dev.transition = .none →
      Completes (.pwrGoodCmpFall r) s fun e => e.strm.running = false ∧ bitAt e.boot.regionDemand r = true ∧ bitAt e.boot.cmpGood r = false ∧
        e.boot.chipDemand = s.dev.boot.chipDemand ∧ e.cores = s.dev.cores ∧ e.mem = s.dev.mem)) ∧
  (∀ s : State, s.dev.mainRuns = true → Completes .pllLockLoss s fun e => e.rd Reg.PLL_LOCK_LOSSES = satTo 32 (s.dev.rd Reg.PLL_LOCK_LOSSES + 1) ∧
    e.rd Reg.ROOT_PLL_LOCKED = 0 ∧ s.dev.kept e [Reg.PLL_LOCK_LOSSES, Reg.ROOT_PLL_LOCKED] ∧
    e.boot = { s.dev.boot with chipDemand := s.dev.boot.chipDemand.or (some 0x0203) } ∧
    e = { s.dev with dict := e.dict, boot := e.boot, log := { s.dev.log with inbox := s.dev.log.inbox ++ [s.dev.record 0x0203 0 0 0 0] } })

/-- A link port comes up or fails, control packets move its credits and its throttle, a negative acknowledgement
resends, and retrains begin and end. From: spec/14_links_and_guest_die.md, R425, R432, R433, R434 and R440. -/
def Obligations.LinkPortEvents : Prop :=
  (∀ (s : State) (p : PortNo) (sys : BitVec 32) (dev : BitVec 6),
    (s.dev.fn (.link p) ≠ .starting → Completes (.linkMgmt p sys dev) s (fun e => e = s.dev) ∧ Completes (.linkTrainTimeout p) s fun e => e = s.dev) ∧
    (s.dev.fn (.link p) = .starting → Completes (.linkTrainTimeout p) s (fun e => e.fn (.link p) = .fault ∧ e.rd (Reg.LINK_PHASE p) = 4 ∧
        e = { s.dev with dict := e.dict, log := { s.dev.log with inbox := s.dev.log.inbox ++ [s.dev.record 0x0D01 p 0 0 0] } }) ∧
      (s.dev.linkCut p = false →
        (sys.toNat ≠ s.dev.rd Reg.SYSTEM_ID ∨ dev.toNat = s.dev.ownId ∨ (bitAt (s.dev.rd (Reg.LINK_PEER_EXPECT p)) 7 = true ∧ dev.toNat ≠ s.dev.rd (Reg.LINK_PEER_EXPECT p) % 64) →
          Completes (.linkMgmt p sys dev) s fun e => e.fn (.link p) = .fault ∧ e.rd (Reg.LINK_PHASE p) = 4 ∧
            e = { s.dev with dict := e.dict, log := { s.dev.log with inbox := s.dev.log.inbox ++ [s.dev.record 0x0D02 p 0 0 0] } }) ∧
        (sys.toNat = s.dev.rd Reg.SYSTEM_ID → dev.toNat ≠ s.dev.ownId → (bitAt (s.dev.rd (Reg.LINK_PEER_EXPECT p)) 7 = true → dev.toNat = s.dev.rd (Reg.LINK_PEER_EXPECT p) % 64) →
          Completes (.linkMgmt p sys dev) s fun e => s.dev.regsOnly e [Reg.LINK_STATE p, Reg.LINK_PHASE p, Reg.LINK_PEER_ID p] ∧ e.fn (.link p) = .on ∧
            e.rd (Reg.LINK_PHASE p) = 2 ∧ e.rd (Reg.LINK_PEER_ID p) = dev.toNat)))) ∧
  (∀ (s : State) (p : PortNo) (x : LinkArrival), s.dev.linkTakes p x → s.dev.fn (.link p) ≠ .draining →
    Completes (.throttle p x) s (fun e => s.dev.linkOnly e p { s.dev.linkPort p with rxSeq := ((s.dev.linkPort p).rxSeq + 1) % 4096, throttled := true }) ∧
    ((s.dev.linkPort p).queue = [] → ∀ lane : Fin 2, Completes (.credit p x lane) s fun e =>
      s.dev.linkOnly e p { s.dev.linkPort p with rxSeq := ((s.dev.linkPort p).rxSeq + 1) % 4096
                                                 replay := (s.dev.linkPort p).replay.drop (acked lane x.status.toNat (s.dev.linkPort p).replay)
                                                 reqCredit := if lane = 0 then min 512 ((s.dev.linkPort p).reqCredit + x.status.toNat) else (s.dev.linkPort p).reqCredit
                                                 ansCredit := if lane = 0 then (s.dev.linkPort p).ansCredit else min 128 ((s.dev.linkPort p).ansCredit + x.status.toNat) })) ∧
  (∀ (s : State) (p : PortNo), (s.dev.linkPort p).throttled = true → (s.dev.linkPort p).queue = [] → Completes (.linkThrottleEnd p) s fun e =>
    s.dev.linkOnly e p { (s.dev.linkPort p).resend with throttled := false }) ∧
  (∀ (s : State) (p : PortNo) (n : BitVec 12),
    (s.dev.rd (Reg.LINK_PHASE p) ≠ 2 → Completes (.linkNegativeAck p n) s (fun e => e = s.dev) ∧ Completes (.fastRetrain p) s fun e => e = s.dev) ∧
    (s.dev.rd (Reg.LINK_PHASE p) = 2 →
      Completes (.linkNegativeAck p n) s (fun e => s.dev.linkOnly e p ((s.dev.linkPort p).resendFrom n.toNat) ∧
        e.rd (Reg.LINK_CRC_RETRIES p) = satTo 32 (s.dev.rd (Reg.LINK_CRC_RETRIES p) + 1) ∧ s.dev.kept e [Reg.LINK_CRC_RETRIES p]) ∧
      Completes (.fastRetrain p) s fun e => s.dev.regsOnly e [Reg.LINK_PHASE p] ∧ e.rd (Reg.LINK_PHASE p) = 3)) ∧
  (∀ (s : State) (p : PortNo),
    (s.dev.rd (Reg.LINK_PHASE p) ≠ 3 → ∀ ok, Completes (.linkRetrained p ok) s fun e => e = s.dev) ∧
    (s.dev.rd (Reg.LINK_PHASE p) = 3 →
      ((s.dev.linkPort p).queue = [] → s.dev.fn (.link p) ≠ .draining → Completes (.linkRetrained p true) s fun e =>
        s.dev.linkOnly e p { (s.dev.linkPort p).resend with failed := 0, full := false } ∧ e.rd (Reg.LINK_PHASE p) = 2 ∧
          e.rd (Reg.LINK_RETRAINS p) = satTo 32 (s.dev.rd (Reg.LINK_RETRAINS p) + 1) ∧ s.dev.kept e [Reg.LINK_PHASE p, Reg.LINK_RETRAINS p]) ∧
      ((s.dev.linkPort p).full = false → Completes (.linkRetrained p false) s fun e =>
        s.dev.linkOnly e p { s.dev.linkPort p with failed := (s.dev.linkPort p).failed + 1, full := decide (2 ≤ (s.dev.linkPort p).failed) } ∧
          ∀ k, e.rd k = s.dev.rd k)))

/-- A write packet stores its bytes in memory or is refused by the window, a channel packet lands in its endpoint, and
transfers and epochs close. From: spec/14_links_and_guest_die.md, R428, R436, R437, R438 and R439,
spec/05_cores_and_signalling.md, R151, R152. -/
def Obligations.LinkTransfersLand : Prop :=
  (∀ (s : State) (p : PortNo) (x : LinkArrival) (env : MemEnv), s.dev.linkTakes p x → x.srcDev.toNat % 64 ≠ s.dev.ownId →
    (s.dev.linkPort p).held = [] → (s.dev.mport (portLink p)).exhaustedNow = false →
    ((s.dev.linkPort p).credited (x.packet pktMemWrite) = true → s.dev.zeroWait x.addr.toNat x.payload.length = false →
      (s.dev.rd Reg.LINK_WINDOW_SIZE ≠ 0 → s.dev.rd Reg.LINK_WINDOW_BASE ≤ x.addr.toNat →
        x.addr.toNat + x.payload.length ≤ s.dev.rd Reg.LINK_WINDOW_BASE + s.dev.rd Reg.LINK_WINDOW_SIZE → s.dev.plain x.addr.toNat x.payload.length →
        env.faults = [] → s.dev.mem.poison = [] → x.poison = 0 → Completes (.memWrite p x env) s fun e => e.mem.bytes x.addr.toNat x.payload.length = x.payload ∧
          (∀ b n, b + n ≤ x.addr.toNat ∨ x.addr.toNat + x.payload.length ≤ b → e.mem.bytes b n = s.dev.mem.bytes b n) ∧ e.cores = s.dev.cores ∧ e.strm = s.dev.strm) ∧
      (s.dev.rd Reg.LINK_WINDOW_SIZE = 0 ∨ x.addr.toNat < s.dev.rd Reg.LINK_WINDOW_BASE ∨
        s.dev.rd Reg.LINK_WINDOW_BASE + s.dev.rd Reg.LINK_WINDOW_SIZE < x.addr.toNat + x.payload.length → Completes (.memWrite p x env) s fun e =>
          e.mem = s.dev.mem ∧ e.cores = s.dev.cores ∧ e.strm = s.dev.strm)) ∧
    ((s.dev.linkPort p).credited (x.packet pktChanXfer) = true →
      (∀ (w : ChanWrite) (c ep : Nat), w = { guest := false, channel := x.channel.toNat, epoch := x.hopsEpoch.toNat / 16, dev := x.srcDev.toNat % 64, core := x.srcCore.toNat, chan := x.srcChan.toNat % 16, off := x.addr.toNat, data := x.payload, bad := bitList x.poison.toNat 8, last := bitAt x.flags.toNat 0 } →
        s.dev.chanOpen w c ep → Completes (.chanXfer p x env) s fun e => e.core c = s.dev.chanLanded w c ep ∧ (∀ j, j ≠ c → e.core j = s.dev.core j) ∧ e.mem.dram = s.dev.mem.dram) ∧
      (s.dev.fn .run ≠ .on → Completes (.chanXfer p x env) s fun e => e.cores = s.dev.cores ∧ e.mem.dram = s.dev.mem.dram))) ∧
  (∀ (s : State) (c : CoreNo) (ep : Fin 4) (i : Fin 16), s.dev.nothingHeld →
    ((SMap.getD (s.dev.core c).transfers ep []).length ≤ i.val → Completes (.transferAbandoned c ep i) s fun e => e = s.dev) ∧
    (i.val < (SMap.getD (s.dev.core c).transfers ep []).length → Completes (.transferAbandoned c ep i) s fun e =>
      e.core c = { s.dev.core c with transfers := SMap.put (s.dev.core c).transfers ep (dropAt (SMap.getD (s.dev.core c).transfers ep []) i) [] } ∧
        (∀ j, j ≠ c.val → e.core j = s.dev.core j) ∧ e = { s.dev with cores := e.cores, tallies := e.tallies })) ∧
  (∀ (s : State) (q : Requester) (v : BitVec 32), s.dev.takes q Reg.EPOCH_RELEASE v.toNat → Completes (.epochRelease q v) s fun e =>
    s.dev.noted e q Reg.EPOCH_RELEASE ∧ (∀ k, e.rd k = s.dev.rd k) ∧ ∀ g ch n, n < 16 → bitAt (SMap.getD e.links.retired (chanKey g ch) 0) n =
      if chanKey g ch = chanKey (bitAt v.toNat 16) (field v.toNat 15 8) ∧ n = field v.toNat 3 0 then false else bitAt (SMap.getD s.dev.links.retired (chanKey g ch) 0) n) ∧
  (∀ (s : State) (g : Bool) (ch : BitVec 8) (ep : BitVec 4), Completes (.epochDrainExpiry g ch ep) s fun e =>
    e = { s.dev with links := { s.dev.links with retired := e.links.retired } } ∧ ∀ g' ch' n, n < 16 → bitAt (SMap.getD e.links.retired (chanKey g' ch') 0) n =
      if chanKey g' ch' = chanKey g ch.toNat ∧ n = ep.toNat then false else bitAt (SMap.getD s.dev.links.retired (chanKey g' ch') 0) n) ∧
  (∀ (s : State) (c : CoreNo) (ep : Fin 4) (off : BitVec 22) (data : List Byte) (po last : Bool) (sem : SemNo),
    (s.dev.epTakes c ep off.toNat data.length = true → (SMap.getD (s.dev.core c).transfers ep []).any (fun x => x.same { dev := 65, core := 0, chan := 0, channel := 256 + ep } && x.dropped) = false →
      s.dev.rd (Reg.CORE_STATE c) ≠ coreTesting → (s.dev.core c).sem (if ep.val = 3 then sem.val else s.dev.epSem c ep) < 65535 →
      Completes (.inboundTransfer c ep off data po last sem) s fun e => e.core c = (s.dev.core c).landed (windowBase (s.dev.epWindow c ep) + off.toNat) data
          (if po then List.range (data.length / 32 + 1) else []) last (if ep.val = 3 then sem.val else s.dev.epSem c ep) ∧
        (∀ j, j ≠ c.val → e.core j = s.dev.core j) ∧ e.dict = s.dev.dict) ∧
    (s.dev.epTakes c ep off.toNat data.length = false → SMap.getD (s.dev.core c).transfers ep [] = [] → Completes (.inboundTransfer c ep off data po last sem) s fun e =>
      e.rd (Reg.CORE_INBOUND_DROPS c) = satTo 32 (s.dev.rd (Reg.CORE_INBOUND_DROPS c) + 1) ∧ s.dev.kept e [Reg.CORE_INBOUND_DROPS c] ∧
        e.log.inbox = s.dev.log.inbox ++ [s.dev.record 0x040C c (faultDetail 5 ep 0 0) 0 0] ∧ (e.core c).lm = (s.dev.core c).lm))

/-- A guest trains; its reads, writes and channel packets that its window and endpoint take are served; its answers,
credits, NACKs and retrainings act. From: spec/14_links_and_guest_die.md, R437, R441, R442, R443, R444, R445, R447 and
R448, spec/05_cores_and_signalling.md, R151. -/
def Obligations.GuestPacketsServed : Prop :=
  (∀ (s : State) (x : GuestArrival) (env : MemEnv), s.dev.guestTakes gstRdReq x →
    (s.dev.rd Reg.GUEST_WINDOW_SIZE = 0 ∨ x.addr.toNat < s.dev.rd Reg.GUEST_WINDOW_BASE ∨
      s.dev.rd Reg.GUEST_WINDOW_BASE + s.dev.rd Reg.GUEST_WINDOW_SIZE < x.addr.toNat + x.len.toNat → Completes (.rdReq x env) s fun e =>
        e.rd Reg.GUEST_WINDOW_REFUSALS = satTo 32 (s.dev.rd Reg.GUEST_WINDOW_REFUSALS + 1) ∧ s.dev.kept e [Reg.GUEST_WINDOW_REFUSALS] ∧ e.mem = s.dev.mem ∧
          e.cores = s.dev.cores ∧ e.guest.owed gstRdData x.tag.toNat St.INBOUND_WINDOW_REFUSED []) ∧
    (s.dev.rd Reg.GUEST_WINDOW_SIZE ≠ 0 → s.dev.rd Reg.GUEST_WINDOW_BASE ≤ x.addr.toNat →
      x.addr.toNat + x.len.toNat ≤ s.dev.rd Reg.GUEST_WINDOW_BASE + s.dev.rd Reg.GUEST_WINDOW_SIZE → s.dev.zeroWait x.addr.toNat x.len.toNat = false →
      (s.dev.mport portGuest).exhaustedNow = false → s.dev.plain x.addr.toNat x.len.toNat → env.faults = [] → s.dev.mem.poison = [] →
      Completes (.rdReq x env) s fun e => (∀ b n, e.mem.bytes b n = s.dev.mem.bytes b n) ∧ e.cores = s.dev.cores ∧
        e.guest.owed gstRdData x.tag.toNat 0 (s.dev.mem.bytes x.addr.toNat x.len.toNat))) ∧
  (∀ (s : State) (x : GuestArrival) (env : MemEnv), s.dev.guestTakes gstWrReq x →
    (s.dev.rd Reg.GUEST_WINDOW_SIZE = 0 ∨ x.addr.toNat < s.dev.rd Reg.GUEST_WINDOW_BASE ∨
      s.dev.rd Reg.GUEST_WINDOW_BASE + s.dev.rd Reg.GUEST_WINDOW_SIZE < x.addr.toNat + x.data.length → Completes (.wrReq x env) s fun e =>
        e.rd Reg.GUEST_WINDOW_REFUSALS = satTo 32 (s.dev.rd Reg.GUEST_WINDOW_REFUSALS + 1) ∧ s.dev.kept e [Reg.GUEST_WINDOW_REFUSALS] ∧ e.mem = s.dev.mem ∧
          e.cores = s.dev.cores ∧ e.guest.owed gstAnswer x.tag.toNat St.INBOUND_WINDOW_REFUSED []) ∧
    (s.dev.rd Reg.GUEST_WINDOW_SIZE ≠ 0 → s.dev.rd Reg.GUEST_WINDOW_BASE ≤ x.addr.toNat →
      x.addr.toNat + x.data.length ≤ s.dev.rd Reg.GUEST_WINDOW_BASE + s.dev.rd Reg.GUEST_WINDOW_SIZE → s.dev.zeroWait x.addr.toNat x.data.length = false →
      (s.dev.mport portGuest).exhaustedNow = false → s.dev.plain x.addr.toNat x.data.length → env.faults = [] → s.dev.mem.poison = [] → x.poison = 0 →
      Completes (.wrReq x env) s fun e => e.mem.bytes x.addr.toNat x.data.length = x.data ∧
        (∀ b n, b + n ≤ x.addr.toNat ∨ x.addr.toNat + x.data.length ≤ b → e.mem.bytes b n = s.dev.mem.bytes b n) ∧ e.cores = s.dev.cores ∧
        e.guest.owed gstAnswer x.tag.toNat 0 [])) ∧
  (∀ (s : State) (x : GuestArrival) (env : MemEnv) (w : ChanWrite) (c ep : Nat), s.dev.guestTakes gstChXfer x → (s.dev.mport portGuest).exhaustedNow = false →
    (bitAt x.flags.toNat 0 = true → s.dev.nothingHeld) →
    w = { guest := true, channel := x.channel.toNat, epoch := x.epoch.toNat % 16, dev := 64, core := 0, chan := 0, off := x.addr.toNat, data := x.data, bad := bitList x.poison.toNat 8, last := bitAt x.flags.toNat 0 } →
    s.dev.chanOpen w c ep → Completes (.chXfer x env) s fun e => e.core c = s.dev.chanLanded w c ep ∧ (∀ j, j ≠ c → e.core j = s.dev.core j) ∧
      e.mem.dram = s.dev.mem.dram ∧ e.guest.owed gstAnswer x.tag.toNat 0 []) ∧
  (∀ (s : State) (x : GuestArrival), s.dev.guestTakes gstDictRsp x →
    ((∀ q ∈ allRequesters, (s.dev.req q).asked ≠ some x.tag.toNat ∧ (s.dev.req q).mbxAsked ≠ some x.tag.toNat) → Completes (.dictRsp x) s fun e => e = { s.dev with guest := e.guest }) ∧
    (∀ q, (∀ n, q ≠ .node n) → allRequesters.find? (fun q => (s.dev.req q).asked == some x.tag.toNat) = some q → (s.dev.req q).held = [] →
      key x.index.toNat x.subindex.toNat ≠ Reg.LAST_ACCESS_STATUS →
      (s.dev.req q).crossing = .reading (key x.index.toNat x.subindex.toNat) ∨ (s.dev.req q).crossing = .writing (key x.index.toNat x.subindex.toNat) →
      Completes (.dictRsp x) s fun e => (e.req q).crossing = .none ∧ (e.req q).asked = none ∧ (e.req q).lastKey = some (key x.index.toNat x.subindex.toNat) ∧
        (e.req q).lastStatus = (if x.status = 0 then 0 else St.DICT_OWNER_REFUSED) ∧
        ((s.dev.req q).crossing = .reading (key x.index.toNat x.subindex.toNat) → (e.req q).answer = some (if x.status = 0 then x.value.toNat else 0)) ∧
        ∀ r, r ≠ q → e.req r = s.dev.req r)) ∧
  (∀ (s : State) (x : GuestArrival) (pool : Fin 2), s.dev.guestTakes gstCredit x → s.dev.guest.queue = [] → Completes (.guestCredit x pool) s fun e =>
    e = { s.dev with guest := e.guest } ∧ e.guest.queue = [] ∧ e.guest.wire = s.dev.guest.wire ∧
      e.guest.hdrCredit = s.dev.guest.hdrCredit + (if pool.val = 0 then x.status.toNat else 0) ∧
      e.guest.dataCredit = s.dev.guest.dataCredit + (if pool.val = 0 then 0 else x.status.toNat)) ∧
  (∀ (s : State) (x : GuestArrival), s.dev.guestTakes gstNack x → Completes (.nack x) s fun e =>
    e.rd Reg.GUEST_CRC_RETRIES = satTo 32 (s.dev.rd Reg.GUEST_CRC_RETRIES + 1) ∧ s.dev.kept e [Reg.GUEST_CRC_RETRIES] ∧
      e.guest.wire = (s.dev.guest.resendFrom (x.value.toNat % 4096)).wire ∧ e.guest.replay = s.dev.guest.replay) ∧
  (∀ s : State, (s.dev.rd Reg.GUEST_PRESENT = 0 ∨ s.dev.rd Reg.GUEST_FENCED = 1 → Completes .guestSidebandViolation s fun e => e = s.dev) ∧
    (s.dev.rd Reg.GUEST_PRESENT ≠ 0 → s.dev.rd Reg.GUEST_FENCED ≠ 1 → s.dev.rd Reg.GUEST_FAILURES < 2 → Completes .guestSidebandViolation s fun e =>
      e.rd Reg.GUEST_FAILURES = s.dev.rd Reg.GUEST_FAILURES + 1 ∧ s.dev.kept e [Reg.GUEST_FAILURES] ∧ e.guest = { s.dev.guest with retraining := true }) ∧
    (s.dev.rd Reg.GUEST_PRESENT ≠ 0 → s.dev.rd Reg.GUEST_FENCED ≠ 1 → 2 ≤ s.dev.rd Reg.GUEST_FAILURES → Completes .guestSidebandViolation s fun e =>
      e.rd Reg.GUEST_FENCED = 1 ∧ e.fn .guest = .fault ∧ e.guest = {} ∧ s.dev.kept e [Reg.GUEST_FAILURES, Reg.GUEST_FENCED, Reg.GUEST_STATE])) ∧
  (∀ (s : State) (ok : Bool), (s.dev.guest.retraining = false → Completes (.guestRetrainingComplete ok) s fun e => e = s.dev) ∧
    (s.dev.guest.retraining = true → s.dev.guest.queue = [] → Completes (.guestRetrainingComplete true) s fun e =>
      e = { s.dev with guest := { s.dev.guest with retraining := false, wire := s.dev.guest.resend.wire } }) ∧
    (s.dev.guest.retraining = true → s.dev.rd Reg.GUEST_FENCED ≠ 1 → s.dev.rd Reg.GUEST_FAILURES < 2 → Completes (.guestRetrainingComplete false) s fun e =>
      e.rd Reg.GUEST_FAILURES = s.dev.rd Reg.GUEST_FAILURES + 1 ∧ s.dev.kept e [Reg.GUEST_FAILURES] ∧ e.guest = s.dev.guest)) ∧
  (∀ (s : State) (t : GuestTraining), (s.dev.guest.training = false → Completes (.guestTrainingAttempt t) s fun e => e = s.dev) ∧
    (s.dev.guest.training = true → t.modules.val = 0 → Completes (.guestTrainingAttempt t) s fun e => e = { s.dev with guest := { s.dev.guest with training := false } }) ∧
    (∀ id, s.dev.guest.training = true → t.modules.val ≠ 0 → t.guestId = some id → t.rate.val ≠ 0 → t.raw = true → Completes (.guestTrainingAttempt t) s fun e =>
      e.rd Reg.GUEST_PRESENT = 1 ∧ e.rd Reg.GUEST_MODULES = t.modules.val ∧ e.rd Reg.GUEST_RATE = t.rate.val ∧ e.rd Reg.GUEST_ID = id.toNat ∧
        s.dev.kept e [Reg.GUEST_PRESENT, Reg.GUEST_MODULES, Reg.GUEST_RATE, Reg.GUEST_ID, Reg.GUEST_STATE] ∧
        (s.dev.rd Reg.GUEST_ENABLE ≠ 1 → e.guest = { trained := true, hdrCredit := t.hdrCredit.toNat, dataCredit := t.dataCredit.toNat } ∧ e.fn .guest = s.dev.fn .guest) ∧
        (s.dev.rd Reg.GUEST_ENABLE = 1 → s.dev.fn .guest = .off → s.dev.personality ≠ .bivouac → s.dev.personality ≠ .overnight →
          e.fn .guest = .on ∧ e.guest.peerHdr = guestHdrGrant ∧ e.guest.peerData = guestDataGrant)) ∧
    (s.dev.guest.training = true → t.modules.val ≠ 0 → t.guestId = none ∨ t.rate.val = 0 ∨ t.raw = false → s.dev.rd Reg.GUEST_FENCED ≠ 1 → s.dev.rd Reg.GUEST_FAILURES < 2 →
      Completes (.guestTrainingAttempt t) s fun e => e.rd Reg.GUEST_FAILURES = s.dev.rd Reg.GUEST_FAILURES + 1 ∧ e.rd Reg.GUEST_PRESENT = 1 ∧
        e.rd Reg.GUEST_MODULES = t.modules.val ∧ s.dev.kept e [Reg.GUEST_PRESENT, Reg.GUEST_MODULES, Reg.GUEST_FAILURES] ∧ e.guest = s.dev.guest))

/-- Frame Start begins a sample of the channel's slot, a long packet brings its lines or its stamp, and Frame End hands
the sample over to be completed. From: spec/09_sensor_ingest.md, R258, R261, R266, R267, R269, R270, R272 and R277. -/
def Obligations.CameraFramesBecomeSamples : Prop :=
  (∀ (s : State) (rx : Fin 16) (vc : Fin 32) (frame : BitVec 16) (env : MemEnv), s.dev.ingestStopped kindCsi rx = false →
    (Completes (.frameStart rx vc frame .bad env) s fun e => e = { s.dev with dict := e.dict, tallies := e.tallies } ∧
      e.rd (Reg.RX_HDR_DROPS rx) = satTo 32 (s.dev.rd (Reg.RX_HDR_DROPS rx) + 1) ∧ s.dev.kept e [Reg.RX_HDR_DROPS rx]) ∧
    (s.dev.csiSlots rx vc = [] → Completes (.frameStart rx vc frame .ok env) s fun e => e = { s.dev with dict := e.dict, tallies := e.tallies } ∧
      e.rd Reg.UNBOUND_FRAMES = satTo 32 (s.dev.rd Reg.UNBOUND_FRAMES + 1) ∧ s.dev.kept e [Reg.UNBOUND_FRAMES]) ∧
    (∀ n, s.dev.csiSlots rx vc = [n] → (s.dev.slot n).sample = none → s.dev.slotState n = .on → s.dev.takesStore (s.dev.recAddr n (s.dev.slot n).seq) 64 env →
      Completes (.frameStart rx vc frame .ok env) s fun e => s.dev.slotOnly e n { s.dev.slot n with
          seq := wrapTo 32 ((s.dev.slot n).seq + 1), sample := some { seq := (s.dev.slot n).seq, frameNumber := frame.toNat } } ∧
        e.mem.bytes (s.dev.recAddr n (s.dev.slot n).seq) 64 = (s.dev.fillingRecord n (s.dev.slot n).seq frame.toNat).encode ∧
        s.dev.storedOnly e (s.dev.recAddr n (s.dev.slot n).seq) 64 0 0 ∧ s.dev.kept e [Reg.FC_HITS, Reg.FC_MISSES])) ∧
  (∀ (s : State) (rx : Fin 16) (vc : Fin 32) (dt : BitVec 6) (payload : List Byte) (crcOk : Bool) (room : Option (Fin 65536)) (env : MemEnv), s.dev.ingestStopped kindCsi rx = false →
    (Completes (.longPacket rx vc dt payload crcOk .bad room env) s fun e => e = { s.dev with dict := e.dict, tallies := e.tallies } ∧
      e.rd (Reg.RX_HDR_DROPS rx) = satTo 32 (s.dev.rd (Reg.RX_HDR_DROPS rx) + 1) ∧ s.dev.kept e [Reg.RX_HDR_DROPS rx]) ∧
    ((s.dev.csiSlots rx vc).find? (fun n => s.dev.takesType n dt.toNat) = none → Completes (.longPacket rx vc dt payload crcOk .ok room env) s fun e =>
      e = { s.dev with dict := e.dict, tallies := e.tallies } ∧ e.rd Reg.UNBOUND_FRAMES = satTo 32 (s.dev.rd Reg.UNBOUND_FRAMES + 1) ∧ s.dev.kept e [Reg.UNBOUND_FRAMES]) ∧
    (∀ n x, (s.dev.csiSlots rx vc).find? (fun n => s.dev.takesType n dt.toNat) = some n → (s.dev.slot n).sample = some x →
      (∀ st, dt.toNat = 0x12 → selImage (s.dev.rd (Reg.SLOT_CSI_SELECT n)) ≠ 0x12 → x.embedded = false → stampIn (s.dev.rd (Reg.SLOT_STAMP_FIELD n)) payload = some st →
        Completes (.longPacket rx vc dt payload true .ok room env) s fun e => e = { s.dev with slots := e.slots } ∧
          s.dev.slotOnly e n { s.dev.slot n with sample := some { x with embedded := true, stamp := some st } }) ∧
      (dt.toNat = selImage (s.dev.rd (Reg.SLOT_CSI_SELECT n)) → s.dev.rd (Reg.SLOT_PATTERN_KIND n) = 0 → payload.length = shapeBytes (s.dev.rd (Reg.SLOT_SHAPE n)) →
        x.cut = false → x.bytes + payload.length ≤ s.dev.rd (Reg.SLOT_BUF_BYTES n) - 64 → s.dev.takesStore (s.dev.bufAddr n x.seq + x.bytes) payload.length env →
        Completes (.longPacket rx vc dt payload true .ok none env) s fun e => s.dev.slotOnly e n { s.dev.slot n with
            sample := some { x with image := true, units := x.units + 1, got := x.got + payload.length, bytes := x.bytes + payload.length } } ∧
          e.mem.bytes (s.dev.bufAddr n x.seq + x.bytes) payload.length = payload ∧
          s.dev.storedOnly e (s.dev.bufAddr n x.seq + x.bytes) payload.length 0 0 ∧ s.dev.kept e [Reg.FC_HITS, Reg.FC_MISSES]))) ∧
  (∀ (s : State) (rx : Fin 16) (vc : Fin 32), s.dev.ingestStopped kindCsi rx = false →
    (Completes (.frameEnd rx vc .bad) s fun e => e = { s.dev with dict := e.dict, tallies := e.tallies } ∧
      e.rd (Reg.RX_HDR_DROPS rx) = satTo 32 (s.dev.rd (Reg.RX_HDR_DROPS rx) + 1) ∧ s.dev.kept e [Reg.RX_HDR_DROPS rx]) ∧
    (s.dev.csiSlots rx vc = [] → Completes (.frameEnd rx vc .ok) s fun e => e = { s.dev with dict := e.dict, tallies := e.tallies } ∧
      e.rd Reg.UNBOUND_FRAMES = satTo 32 (s.dev.rd Reg.UNBOUND_FRAMES + 1) ∧ s.dev.kept e [Reg.UNBOUND_FRAMES]) ∧
    (∀ n, s.dev.csiSlots rx vc = [n] →
      ((s.dev.slot n).sample = none → Completes (.frameEnd rx vc .ok) s fun e => e = s.dev) ∧
      (∀ x, (s.dev.slot n).sample = some x → Completes (.frameEnd rx vc .ok) s fun e => e = { s.dev with slots := e.slots } ∧
        s.dev.slotOnly e n { s.dev.slot n with sample := none, ending := (s.dev.slot n).ending ++ [s.dev.frameChecks n x] })))

/-- An Ethernet frame, a CAN frame and an SPI reading that a slot takes become samples in its buffer; the others are
counted or dropped. From: spec/09_sensor_ingest.md, R258, R261, R266, R267, R269 and R277. -/
def Obligations.FramesBecomeSamples : Prop :=
  (∀ (s : State) (port : Fin 10) (frame : List Byte) (fcsOk : Bool) (room : Option (Fin 65536)) (env : MemEnv),
    ((8 ≤ port.val ∧ (s.dev.nodeOf (port.val - 6) (beNat (slice frame 6 6))).isSome ∧ beNat (slice frame 12 2) = s.dev.rd Reg.ETHERTYPE) →
      Completes (.ethFrame port frame fcsOk room env) s fun e => e = s.dev) ∧
    (¬ (8 ≤ port.val ∧ (s.dev.nodeOf (port.val - 6) (beNat (slice frame 6 6))).isSome ∧ beNat (slice frame 12 2) = s.dev.rd Reg.ETHERTYPE) →
      s.dev.ingestStopped kindEth port = false → (port.val < 8 ∨ s.dev.rd (Reg.MAC_ADDRESS (port - 8)) ≠ 0) →
      (port.val < 8 → Completes (.ethFrame port frame false room env) s fun e => e = { s.dev with dict := e.dict, tallies := e.tallies } ∧
        e.rd (Reg.ETH_FRAMES_DROPPED port) = satTo 32 (s.dev.rd (Reg.ETH_FRAMES_DROPPED port) + 1) ∧ s.dev.kept e [Reg.ETH_FRAMES_DROPPED port]) ∧
      (frame.length ≤ 9216 →
        (s.dev.boundSlot kindEth port (fun n => s.dev.ethMatches n frame) = none → Completes (.ethFrame port frame true room env) s fun e =>
          e = { s.dev with dict := e.dict, tallies := e.tallies } ∧ e.rd Reg.UNBOUND_FRAMES = satTo 32 (s.dev.rd Reg.UNBOUND_FRAMES + 1) ∧ s.dev.kept e [Reg.UNBOUND_FRAMES]) ∧
        (∀ n st l, s.dev.boundSlot kindEth port (fun n => s.dev.ethMatches n frame) = some n → (s.dev.slot n).sample = none → s.dev.slotState n = .on →
          shapeBytes (s.dev.rd (Reg.SLOT_SHAPE n)) ≤ 1 → field (s.dev.rd (Reg.SLOT_ETH_FLOW n)) 15 0 = 0 → stampIn (s.dev.rd (Reg.SLOT_STAMP_FIELD n)) (frame.drop 14) = some st →
          l = pad16 (s.dev.drawn.framePrefix n (some st) frame.length 0 ++ frame) → s.dev.takesSample n l.length env →
          Completes (.ethFrame port frame true none env) s fun e =>
            s.dev.sampleStored e n { seq := (s.dev.slot n).seq, units := 1, stamp := some st, bytes := l.length, got := l.length } l)))) ∧
  (∀ (s : State) (bus : Fin 2) (ident : BitVec 11) (data : List Byte) (room : Option (Fin 65536)) (env : MemEnv),
    ((s.dev.nodeOf bus ident.toNat).isSome = true → Completes (.canFrame bus ident data room env) s fun e => e = s.dev) ∧
    ((s.dev.nodeOf bus ident.toNat).isSome = false → s.dev.ingestStopped kindCan bus = false →
      (s.dev.boundSlot kindCan bus (fun n => (s.dev.canPairs n).any (pairMatches ident.toNat)) = none → Completes (.canFrame bus ident data room env) s fun e =>
        e = { s.dev with dict := e.dict, tallies := e.tallies } ∧ e.rd Reg.UNBOUND_FRAMES = satTo 32 (s.dev.rd Reg.UNBOUND_FRAMES + 1) ∧ s.dev.kept e [Reg.UNBOUND_FRAMES]) ∧
      (∀ n, s.dev.boundSlot kindCan bus (fun n => (s.dev.canPairs n).any (pairMatches ident.toNat)) = some n → s.dev.slotState n = .on →
        (stampIn (s.dev.rd (Reg.SLOT_STAMP_FIELD n)) data = none → Completes (.canFrame bus ident data room env) s fun e => e = { s.dev with tallies := e.tallies }) ∧
        (∀ st l, stampIn (s.dev.rd (Reg.SLOT_STAMP_FIELD n)) data = some st → l = s.dev.drawn.framePrefix n (some st) data.length ident.toNat ++ pad16 data →
          s.dev.takesSample n l.length env → Completes (.canFrame bus ident data none env) s fun e =>
            s.dev.sampleStored e n { seq := (s.dev.slot n).seq, units := 1, stamp := some st, bytes := l.length, got := l.length } l)))) ∧
  (∀ (s : State) (port : Fin 2) (data : List Byte) (room : Option (Fin 65536)) (env : MemEnv), s.dev.ingestStopped kindSpi port = false →
    (s.dev.boundSlot kindSpi port (fun _ => true) = none → Completes (.spiDrdy port data room env) s fun e =>
      e = { s.dev with dict := e.dict, tallies := e.tallies } ∧ e.rd Reg.UNBOUND_FRAMES = satTo 32 (s.dev.rd Reg.UNBOUND_FRAMES + 1) ∧ s.dev.kept e [Reg.UNBOUND_FRAMES]) ∧
    (∀ n, s.dev.boundSlot kindSpi port (fun _ => true) = some n →
      ((s.dev.slot n).ending ≠ [] → Completes (.spiDrdy port data room env) s fun e => e = { s.dev with dict := e.dict, tallies := e.tallies } ∧
        e.rd (Reg.SLOT_DRDY_OVERRUNS n) = satTo 32 (s.dev.rd (Reg.SLOT_DRDY_OVERRUNS n) + 1) ∧ s.dev.kept e [Reg.SLOT_DRDY_OVERRUNS n]) ∧
      (∀ st l, (s.dev.slot n).ending = [] → s.dev.slotState n = .on → l = padTo data (spiBytes (s.dev.rd (Reg.SLOT_SPI_CFG n))) →
        stampIn (s.dev.rd (Reg.SLOT_STAMP_FIELD n)) l = some st → s.dev.takesSample n l.length env → Completes (.spiDrdy port data none env) s fun e =>
          s.dev.sampleStored e n { seq := (s.dev.slot n).seq, units := 1, stamp := some st, bytes := l.length, got := l.length } l)))

/-- A sample received whole completes with its record DONE and counts where usable; a dropout writes its record, counts,
and at its limit loses the stream. From: spec/09_sensor_ingest.md, R263, R265, R266, R267, R271, R273, R274 and R278. -/
def Obligations.SamplesCompleteOrDropOut : Prop :=
  (∀ (s : State) (n : Fin 64) (corrupt room : Bool) (env : MemEnv),
    ((s.dev.slot n).ending = [] → Completes (.sampleComplete n corrupt room env) s fun e => e = s.dev) ∧
    (∀ x rest t gen st, (s.dev.slot n).ending = x :: rest → x.flags = 0 → x.status = 0 → x.stamp = some st → s.dev.timeSample n x = (x, some (t, gen)) → s.dev.slotState n = .on →
      s.dev.rd (Reg.SLOT_PATTERN_KIND n) = 0 → bitAt (s.dev.rd Reg.CAPTURE_MASK) n = false →
      s.dev.takesStore (s.dev.bufAddr n x.seq + s.dev.rd (Reg.SLOT_BUF_BYTES n) - 64) 64 env → s.dev.takesStore (s.dev.recAddr n x.seq) 64 env →
      Completes (.sampleComplete n false room env) s fun e =>
        s.dev.slotOnly e n { s.dev.slot n with ending := rest, dropRun := 0, lost := false, lastTime := some t } ∧
          e.rd (Reg.SLOT_SAMPLES n) = wrapTo 32 (s.dev.rd (Reg.SLOT_SAMPLES n) + 1) ∧ e.rd (Reg.SLOT_LAST_SEQ n) = x.seq ∧
          s.dev.kept e [Reg.SLOT_SAMPLES n, Reg.SLOT_LAST_SEQ n, Reg.FC_HITS, Reg.FC_MISSES] ∧
          e.mem.bytes (s.dev.recAddr n x.seq) 64 = (s.dev.sampleRecord n x (some (t, gen))).encode ∧
          s.dev.storedOnly e (s.dev.bufAddr n x.seq + s.dev.rd (Reg.SLOT_BUF_BYTES n) - 64) 64 (s.dev.recAddr n x.seq) 64)) ∧
  (∀ (s : State) (n : Fin 64) (env : MemEnv),
    (s.dev.slotState n ≠ .on → s.dev.boot.warm = false → Completes (.dropout n env) s fun e => e = s.dev) ∧
    (s.dev.boot.warm = true → s.dev.slotState n = .off → s.dev.rd (Reg.SLOT_ENABLE n) = 1 → (s.dev.slot n).dropRun + 1 < s.dev.rd (Reg.SLOT_DROPOUT_LIMIT n) →
      Completes (.dropout n env) s fun e => e = { s.dev with dict := e.dict, slots := e.slots, tallies := e.tallies } ∧
        s.dev.slotOnly e n { s.dev.slot n with dropRun := (s.dev.slot n).dropRun + 1 } ∧
        e.rd (Reg.SLOT_DROPOUTS n) = satTo 32 (s.dev.rd (Reg.SLOT_DROPOUTS n) + 1) ∧ s.dev.kept e [Reg.SLOT_DROPOUTS n]) ∧
    (∀ hit, s.dev.slotState n = .on → s.dev.takesStore (s.dev.recAddr n (s.dev.slot n).seq) 64 env →
      hit = (decide (s.dev.rd (Reg.SLOT_DROPOUT_LIMIT n) ≤ (s.dev.slot n).dropRun + 1) && !(s.dev.slot n).lost) →
      Completes (.dropout n env) s fun e =>
        s.dev.slotOnly e n { s.dev.slot n with seq := wrapTo 32 ((s.dev.slot n).seq + 1), dropRun := (s.dev.slot n).dropRun + 1, lost := (s.dev.slot n).lost || hit } ∧
        e.rd (Reg.SLOT_DROPOUTS n) = satTo 32 (s.dev.rd (Reg.SLOT_DROPOUTS n) + 1) ∧ e.rd (Reg.SLOT_LAST_SEQ n) = (s.dev.slot n).seq ∧
        e.safety.events = s.dev.safety.events ++ (if hit then [.alarm St.STREAM_LOST n] else []) ∧
        s.dev.storedOnly e (s.dev.recAddr n (s.dev.slot n).seq) 64 0 0))

/-- IMU and wheel samples, lidar packets and detection lists that fusion takes reach its history and queues, and an
AWAIT_INSTANT job waits or is told. From: spec/10_fusion.md, R280, R286, R287, R291, R293, R295, R296 and R300. -/
def Obligations.InputsReachFusion : Prop :=
  (∀ (s : State) (n i : Fin 64) (env : MemEnv) (x : EgoSample) (o len : Nat), bitAt (s.dev.rd Reg.PACING_MASK) n = true → s.dev.role n = roleImu → s.dev.worldRuns = true →
    s.dev.memSound env → s.dev.usableAt n i → o = s.dev.rd (Reg.SLOT_BUF_BASE n) + i * s.dev.rd (Reg.SLOT_BUF_BYTES n) →
    len = max (leAt (s.dev.intrinsics n) 24 2) (leAt (s.dev.intrinsics n) 26 2) + 6 → o + len ≤ dramEnd →
    x = { slot := n, stamp := leAt (s.dev.mem.bytes (s.dev.rd (Reg.SLOT_REC_BASE n) + 64 * i) 64) 8 8,
          data := i16s (s.dev.mem.bytes o len) (leAt (s.dev.intrinsics n) 24 2) 3 ++ i16s (s.dev.mem.bytes o len) (leAt (s.dev.intrinsics n) 26 2) 3 } →
    (s.dev.fusion.history = [] → s.dev.fn .fusion = .starting ∨ s.dev.fn .fusion = .on → Completes (.imuSample n i env) s fun e => e.fn .fusion = .on ∧
      e.fusion.history = [EgoEntry.first (s.dev.inputTime n x.stamp) (s.dev.imuVector n (x.data.take 3) 28) (s.dev.imuVector n (x.data.drop 3) 32)] ∧
      e.fusion.open? = some (s.dev.instantAfter (s.dev.inputTime n x.stamp)) ∧ e.fusion.egoInputs = s.dev.fusion.egoInputs ++ [x] ∧
      e.rd Reg.EGO_HORIZON = ofInt 64 (s.dev.inputTime n x.stamp)) ∧
    (∀ l, s.dev.fn .fusion = .on → s.dev.fusion.history.getLast? = some l →
      (s.dev.inputTime n x.stamp ≤ l.tau → Completes (.imuSample n i env) s fun e => e.fusion = s.dev.fusion ∧ e.rd (Reg.FUSION_EVENTS 5) = satTo 32 (s.dev.rd (Reg.FUSION_EVENTS 5) + 1) ∧
        s.dev.kept e [Reg.FUSION_EVENTS 5, Reg.FC_HITS, Reg.FC_MISSES]) ∧
      (l.tau < s.dev.inputTime n x.stamp → s.dev.fusion.wheelWait = [] → s.dev.fusion.history.length < 8192 → s.dev.staysOpen (some (s.dev.inputTime n x.stamp)) → Completes (.imuSample n i env) s fun e =>
        e.fusion.history = s.dev.fusion.history ++ [l.next (s.dev.inputTime n x.stamp) (s.dev.imuVector n (x.data.take 3) 28) (s.dev.imuVector n (x.data.drop 3) 32)] ∧
        e.fusion.open? = s.dev.fusion.open? ∧ e.fusion.egoInputs = s.dev.fusion.egoInputs ++ [x] ∧ e.rd Reg.EGO_HORIZON = ofInt 64 (s.dev.inputTime n x.stamp)))) ∧
  (∀ (s : State) (n i : Fin 64) (env : MemEnv) (x : EgoSample) (o : Nat) (first : EgoEntry) (h : Int), s.dev.role n = roleWheel → s.dev.fn .fusion = .on → s.dev.worldRuns = true →
    s.dev.memSound env → s.dev.usableAt n i → o = s.dev.rd (Reg.SLOT_BUF_BASE n) + i * s.dev.rd (Reg.SLOT_BUF_BYTES n) + (16 + leAt (s.dev.intrinsics n) 24 2) → o + 2 ≤ dramEnd →
    x = { slot := n, stamp := leAt (s.dev.mem.bytes (s.dev.rd (Reg.SLOT_REC_BASE n) + 64 * i) 64) 8 8, data := i16s (s.dev.mem.bytes o 2) 0 1 } →
    s.dev.fusion.history.head? = some first → s.dev.egoHorizon = some h →
    (s.dev.inputTime n x.stamp < first.tau → Completes (.wheelSample n i env) s fun e => e.fusion = s.dev.fusion ∧ e.rd (Reg.FUSION_EVENTS 6) = satTo 32 (s.dev.rd (Reg.FUSION_EVENTS 6) + 1) ∧
      s.dev.kept e [Reg.FUSION_EVENTS 6, Reg.FC_HITS, Reg.FC_MISSES]) ∧
    (first.tau ≤ s.dev.inputTime n x.stamp → h < s.dev.inputTime n x.stamp → s.dev.staysOpen (some h) → Completes (.wheelSample n i env) s fun e =>
      e.fusion.wheelWait = s.dev.fusion.wheelWait ++ [x] ∧ e.fusion.egoInputs = s.dev.fusion.egoInputs ++ [x] ∧ e.fusion.history = s.dev.fusion.history ∧
        s.dev.kept e [Reg.FC_HITS, Reg.FC_MISSES])) ∧
  (∀ (s : State) (n i : Fin 64) (offset : BitVec 32) (env : MemEnv) (o : Nat) (hd : List Byte), s.dev.role n = roleLidar → s.dev.fn .fusion = .on → s.dev.worldRuns = true → s.dev.memSound env →
    s.dev.usableAt n i → o = s.dev.rd (Reg.SLOT_BUF_BASE n) + i * s.dev.rd (Reg.SLOT_BUF_BYTES n) → hd = s.dev.mem.bytes (o + offset.toNat) 16 →
    offset.toNat < leAt (s.dev.mem.bytes (s.dev.rd (Reg.SLOT_REC_BASE n) + 64 * i) 64) 24 4 → bitAt (leAt hd 10 1) 0 = false → o + offset.toNat + 16 + leAt hd 8 2 ≤ dramEnd →
    s.dev.isLate (s.dev.inputTime n (leAt hd 0 8)) = false → s.dev.staysOpen s.dev.egoHorizon → Completes (.lidarPacket n i offset env) s fun e =>
      e.fusion.packets = s.dev.fusion.packets ++ [{ slot := n, stamp := leAt hd 0 8, frame := s.dev.mem.bytes (o + (offset.toNat + 16)) (leAt hd 8 2) }] ∧
        e.fusion.history = s.dev.fusion.history ∧ s.dev.kept e [Reg.FC_HITS, Reg.FC_MISSES]) ∧
  (∀ (s : State) (env : MemEnv), s.dev.regionStopped .world = false →
    (s.dev.world.taken.find? (fun j => j.cls == 1) = none → Completes (.detections env) s fun e => e = s.dev) ∧
    (∀ j x k hd, s.dev.world.taken.find? (fun j => j.cls == 1) = some j → s.dev.fn .fusion = .on → s.dev.memSound env → hd = s.dev.mem.bytes (j.arg * 256) 64 →
      j.arg * 256 + (64 + 64 * min 1024 (leAt hd 6 2)) ≤ dramEnd → s.dev.parseList (s.dev.mem.bytes (j.arg * 256) (64 + 64 * min 1024 (leAt hd 6 2))) = some x → x.invalid = false →
      s.dev.instantOf (s.dev.inputTime x.slot x.stamp) = some k → s.dev.isLate (s.dev.inputTime x.slot x.stamp) = false → s.dev.jobReady j → s.dev.staysOpen s.dev.egoHorizon →
      Completes (.detections env) s fun e => e.fusion.lists = s.dev.fusion.lists ++ [x] ∧ e.world.taken = s.dev.world.taken.erase j ∧ s.dev.jobTold e j 0 k 0 ∧
        s.dev.kept e [Reg.FC_HITS, Reg.FC_MISSES])) ∧
  (∀ (s : State), s.dev.regionStopped .world = false →
    (s.dev.world.taken.find? (fun j => j.cls == 2) = none → Completes .awaitInstant s fun e => e = s.dev) ∧
    (∀ j o rest, s.dev.world.taken.find? (fun j => j.cls == 2) = some j → s.dev.fn .fusion = .on → s.dev.fusion.outputs = o :: rest →
      (0 < signExt 32 (ofInt 32 ((j.arg : Int) - o.instant)) → Completes .awaitInstant s fun e =>
        e = { s.dev with world := { s.dev.world with taken := s.dev.world.taken.erase j, waits := s.dev.world.waits ++ [j] } }) ∧
      (signExt 32 (ofInt 32 ((j.arg : Int) - o.instant)) ≤ 0 → s.dev.jobReady j →
        (∀ p, (s.dev.fusion.outputs.take (s.dev.rd Reg.OUT_COUNT)).find? (fun o => o.instant % 2 ^ 32 == j.arg) = some p → Completes .awaitInstant s fun e =>
          e.world = { s.dev.world with taken := s.dev.world.taken.erase j } ∧ s.dev.jobTold e j 0 p.instant (s.dev.outBuffer p.instant) ∧ e.dict = s.dev.dict) ∧
        ((s.dev.fusion.outputs.take (s.dev.rd Reg.OUT_COUNT)).find? (fun o => o.instant % 2 ^ 32 == j.arg) = none → Completes .awaitInstant s fun e =>
          e.world = { s.dev.world with taken := s.dev.world.taken.erase j } ∧ s.dev.jobTold e j St.INSTANT_EXPIRED noInstant 0 ∧ e.dict = s.dev.dict))))

/-- The guard closes an instant on its schedule, a closed instant's output lands whole in its buffer, and a lost frame
is dropped or substituted as the rules say. From: spec/10_fusion.md, spec/12_safety_and_lookouts.md, R280, R291, R292,
R309, R341 and R380. -/
def Obligations.InstantsCloseAndGoOut : Prop :=
  (∀ (s : State) (env : MemEnv),
    (s.dev.fusion.open? = none → Completes (.instantGuardClosed env) s fun e => e = s.dev) ∧
    (∀ k e0 hit, s.dev.fusion.open? = some k → s.dev.fusionRuns = true → s.dev.fusion.history.head? = some e0 → s.dev.fusion.lists = [] → s.dev.fusion.packets = [] →
      s.dev.fusion.lateLists = [] → s.dev.fusion.latePackets = [] → s.dev.fusion.tracks = [] → s.dev.fusion.footprints = [] → s.dev.rd Reg.REQUIRED_MASK = 0 →
      (∀ h, s.dev.egoHorizon = some h → h < s.dev.instantTime (k + 1) + (s.dev.rd Reg.CLOSE_LAG_NS : Int)) → s.dev.memSound env → s.dev.outBuffer k + 256 ≤ dramEnd →
      hit = (decide (s.dev.rd Reg.GUARD_LIMIT ≤ s.dev.fusion.guards + 1) && !s.dev.fusion.lost) →
      Completes (.instantGuardClosed env) s fun e =>
        e.fusion.open? = some (k + 1) ∧ (∃ x : ClosedInstant, e.fusion.closed = s.dev.fusion.closed ++ [x] ∧ x.instant = k) ∧ e.fusion.guards = s.dev.fusion.guards + 1 ∧
        e.fusion.lost = (s.dev.fusion.lost || hit) ∧ e.rd (Reg.FUSION_EVENTS 8) = satTo 32 (s.dev.rd (Reg.FUSION_EVENTS 8) + 1) ∧
        s.dev.kept e [Reg.FUSION_EVENTS 8, Reg.FC_HITS, Reg.FC_MISSES] ∧ e.safety.events = s.dev.safety.events ++ (if hit then [.alarm St.EGO_LOST 0] else []))) ∧
  (∀ (s : State) (room planRoom : Bool) (env : MemEnv),
    (s.dev.fusion.closed = [] → Completes (.instantOutputDone room planRoom env) s fun e => e = s.dev) ∧
    (∀ x buf, s.dev.fusion.closed = [x] → buf = s.dev.outBuffer x.instant → s.dev.worldRuns = true → s.dev.world.waits = [] → s.dev.planning.cycle = none → s.dev.fn .planning ≠ .on →
      s.dev.fn (.ring .fusionOut) ≠ .on → s.dev.memSound env → (∀ p ∈ [(256, x.disputes), (4096, x.tracks), (266240, x.gridBytes), (0, headerWith x.header 2 s.dev.strm.count)], buf + p.1 + p.2.length ≤ dramEnd) →
      Completes (.instantOutputDone room planRoom env) s fun e =>
        e.mem.bytes = ((((s.dev.mem.store (buf + 256) x.disputes).store (buf + 4096) x.tracks).store (buf + 266240) x.gridBytes).store buf (headerWith x.header 2 s.dev.strm.count)).bytes ∧
        e.rd Reg.LAST_INSTANT = x.instant ∧ e.rd Reg.LAST_T_K = ofInt 64 (s.dev.instantTime x.instant) ∧ e.rd Reg.TRACKS_ACTIVE = x.active ∧
        e.rd Reg.TRACKS_CONFIRMED = x.confirmed ∧ e.rd Reg.DISPUTES_ACTIVE = x.disputed ∧ e.fusion.closed = [] ∧ e.cores = s.dev.cores ∧
        (s.dev.fn .fusion ≠ .draining → e.fn .fusion = s.dev.fn .fusion ∧ e.fusion.written = s.dev.fusion.written + 1 ∧
          e.fusion.outputs = (({ instant := x.instant, time := s.dev.instantTime x.instant } : FusionOutput) :: s.dev.fusion.outputs).take 8) ∧
        (s.dev.fn .fusion = .draining → e.fn .fusion = .off ∧ e.fusion.open? = none))) ∧
  (∀ (s : State),
    (s.dev.fn .fusion ≠ .starting → Completes .fusionStartTimeout s fun e => e = s.dev) ∧
    (s.dev.fn .fusion = .starting → Completes .fusionStartTimeout s fun e => e.fn .fusion = .fault ∧ s.dev.kept e [FnId.fusion.stateKey] ∧
      ∃ y : LogRecord, e.log = { s.dev.log with inbox := s.dev.log.inbox ++ [y] } ∧ y.status = St.FUSION_CONFIG_INVALID ∧ y.d0 = 0xFFFF)) ∧
  (∀ (s : State) (ageMs : BitVec 32),
    (s.dev.safety.trajectory = [] ∨ s.dev.firmware .B = false → Completes (.outputSubstituted ageMs) s fun e => e = s.dev) ∧
    (s.dev.safety.trajectory ≠ [] → s.dev.firmware .B = true → Completes (.outputSubstituted ageMs) s fun e =>
      e.safety = { s.dev.safety with frame := s.dev.frameBytes s.dev.safety.trajectory ageMs.toNat 4 reasonSubstitute } ∧
      e.rd Reg.SUBSTITUTE_FRAMES = satTo 32 (s.dev.rd Reg.SUBSTITUTE_FRAMES + 1) ∧ s.dev.kept e [Reg.SUBSTITUTE_FRAMES] ∧
      (∃ y : LogRecord, e.log = { s.dev.log with inbox := s.dev.log.inbox ++ [y] } ∧ y.status = St.OUTPUT_SUBSTITUTED) ∧
      e.planning = { s.dev.planning with unsent := [] } ∧ e.mem = s.dev.mem)) ∧
  (∀ (s : State) (output : Fin 2),
    (SMap.getD s.dev.planning.unsent output [] = [] → Completes (.outFrameDropped output) s fun e => e = s.dev) ∧
    (SMap.getD s.dev.planning.unsent output [] ≠ [] → Completes (.outFrameDropped output) s fun e =>
      SMap.getD e.planning.unsent output [] = [] ∧ (∀ o : Nat, o ≠ output → SMap.getD e.planning.unsent o [] = SMap.getD s.dev.planning.unsent o []) ∧
      e.rd (Reg.PLAN_EVENTS 8) = satTo 32 (s.dev.rd (Reg.PLAN_EVENTS 8) + 1) ∧ s.dev.kept e [Reg.PLAN_EVENTS 8] ∧ e.mem = s.dev.mem ∧ e.safety = s.dev.safety))

/-- A BUILD joins the builder's list or is refused as the rules say; a build starts with its header BUILDING and ends as
the newest epoch with its header COMPLETE. From: spec/11_planning.md, R320, R321, R322, R323, R324 and R325. -/
def Obligations.EpochsAreBuilt : Prop :=
  (∀ (s : State) (env : MemEnv),
    (s.dev.world.taken.find? (fun j => j.cls == 8) = none → Completes (.build env) s fun e => e = s.dev) ∧
    (∀ j r, s.dev.regionStopped .world = false → s.dev.fn .planning = .on → s.dev.world.taken.find? (fun j => j.cls == 8) = some j → r = s.dev.mem.bytes (j.arg * 256) 64 →
      (s.dev.planning.builds ≠ [] → Completes (.build env) s fun e =>
        e = { s.dev with world := { s.dev.world with taken := s.dev.world.taken.erase j }, planning := { s.dev.planning with builds := s.dev.planning.builds ++ [{ job := j }] } }) ∧
      (s.dev.planning.builds = [] → s.dev.memSound env → s.dev.served (j.arg * 256) 64 →
        (occupancyFault r = false → Completes (.build env) s fun e =>
          e.planning = { s.dev.planning with builds := [{ job := j, checked := true, instant := leAt r 8 8, far := leAt r 16 8, near := leAt r 24 8 }] } ∧
          e.world = { s.dev.world with taken := s.dev.world.taken.erase j } ∧ s.dev.kept e [Reg.FC_HITS, Reg.FC_MISSES] ∧ e.mem.bytes = s.dev.mem.bytes ∧ e.cores = s.dev.cores) ∧
        (occupancyFault r = true → s.dev.jobReady j → s.dev.served 0x400B000000 0x4800080 → Completes (.build env) s fun e =>
          s.dev.jobTold e j St.OCC_INPUT_INVALID noInstant 0 ∧ e.planning = s.dev.planning ∧ e.rd (Reg.PLAN_EVENTS 3) = satTo 32 (s.dev.rd (Reg.PLAN_EVENTS 3) + 1) ∧
          s.dev.kept e [Reg.PLAN_EVENTS 3, Reg.FC_HITS, Reg.FC_MISSES] ∧ e.mem.bytes (epochHeader s.dev.nextEpoch + 4) 1 = [0])))) ∧
  (∀ (s : State) (env : MemEnv), s.dev.fn .planning = .on →
    (s.dev.planning.builds = [] → Completes (.buildStart env) s fun e => e = s.dev) ∧
    (∀ b rest, s.dev.planning.builds = b :: rest → b.checked = true →
      (b.running ≠ none ∨ s.dev.worldRuns = false → Completes (.buildStart env) s fun e => e = s.dev) ∧
      (b.running = none → s.dev.worldRuns = true → s.dev.memSound env → s.dev.served 0x400B000000 0x4800080 →
        (s.dev.buildStale b.instant = true → s.dev.jobReady b.job → Completes (.buildStart env) s fun e =>
          s.dev.jobTold e b.job St.BUILD_STALE b.instant 0 ∧ e.planning = { s.dev.planning with builds := rest } ∧ e.rd (Reg.PLAN_EVENTS 4) = satTo 32 (s.dev.rd (Reg.PLAN_EVENTS 4) + 1) ∧
          s.dev.kept e [Reg.PLAN_EVENTS 4, Reg.FC_HITS, Reg.FC_MISSES] ∧ e.mem.bytes (epochHeader s.dev.nextEpoch + 4) 1 = [0]) ∧
        (s.dev.buildStale b.instant = false → s.dev.bufferHeld s.dev.nextEpoch = true → Completes (.buildStart env) s fun e => e = s.dev) ∧
        (s.dev.buildStale b.instant = false → s.dev.bufferHeld s.dev.nextEpoch = false → (∀ p ∈ s.dev.outputReads b.instant, s.dev.served p.1 p.2) → Completes (.buildStart env) s fun e =>
          e.planning = { s.dev.planning with builds := { b with running := some s.dev.nextEpoch } :: rest } ∧
          e.mem.bytes (epochHeader s.dev.nextEpoch) 64 = s.dev.epochBytes 1 s.dev.nextEpoch b.instant 0 0 ∧ e.cores = s.dev.cores ∧ s.dev.kept e [Reg.FC_HITS, Reg.FC_MISSES] ∧
          (∀ a n, a + n ≤ epochHeader s.dev.nextEpoch ∨ epochHeader s.dev.nextEpoch + 64 ≤ a → e.mem.bytes a n = s.dev.mem.bytes a n))))) ∧
  (∀ (s : State) (env : MemEnv),
    ((∀ b rest, s.dev.planning.builds = b :: rest → b.running = none) → Completes (.epochComplete env) s fun e => e = s.dev) ∧
    (∀ b rest e0 lays, s.dev.planning.builds = b :: rest → b.running = some e0 → s.dev.worldRuns = true → s.dev.fn .planning = .on → s.dev.memSound env → s.dev.served 0x400B000000 0x4800080 →
      (∀ p ∈ s.dev.outputReads b.instant ++ b.reads, s.dev.served p.1 p.2) → s.dev.jobReady b.job → lays = s.dev.overlays b.instant →
      Completes (.epochComplete env) s fun e =>
        s.dev.jobTold e b.job 0 b.instant (epochHeader e0) ∧ e.planning = { s.dev.planning with builds := rest, newest := some (e0, b.instant) } ∧
        e.rd Reg.NEWEST_EPOCH = e0 ∧ e.rd Reg.NEWEST_EPOCH_INSTANT = b.instant ∧ s.dev.kept e [Reg.NEWEST_EPOCH, Reg.NEWEST_EPOCH_INSTANT, Reg.FC_HITS, Reg.FC_MISSES] ∧
        e.mem.bytes (epochHeader e0) 64 = s.dev.epochBytes 2 e0 b.instant s.dev.strm.count lays.length ∧
        (∀ i < 64, e.mem.bytes (farBuffer e0 + 524288 * i) 524288 = s.dev.farSlice b lays i) ∧
        (∀ i < 32, e.mem.bytes (nearBuffer e0 + 131072 * i) 131072 =
          (s.dev.onMem fun m => (List.range 64).foldl (fun m i => m.store (farBuffer e0 + 524288 * i) (s.dev.farSlice b lays i)) m).nearSlice e0 b lays i)))

/-- EXPAND binds its cycle or waits, its end ranks and writes the survivors, and SELECT chooses the record of the first
survivor in its order, waits, or is told. From: spec/11_planning.md, R335, R336, R337 and R340. -/
def Obligations.ExpandAndSelectAct : Prop :=
  (∀ (s : State) (env : MemEnv),
    (s.dev.world.taken.find? (fun j => j.cls == 9) = none → Completes (.expand env) s fun e => e = s.dev) ∧
    (∀ j, s.dev.expanding = false → s.dev.planning.expandWait = none → s.dev.regionStopped .world = false → s.dev.fn .planning = .on →
      s.dev.world.taken.find? (fun j => j.cls == 9) = some j →
      (s.dev.planning.cycle = none → s.dev.planning.begun = false → Completes (.expand env) s fun e =>
        e = { s.dev with world := { s.dev.world with taken := s.dev.world.taken.erase j }, planning := { s.dev.planning with expandWait := some j } }) ∧
      (∀ c c1 e0 k stale, s.dev.planning.cycle = some c → c.instant % 2 ^ 32 = j.arg → s.dev.planning.newest = some (e0, k) → s.dev.memSound env → s.dev.served (s.dev.survBuffer c.instant) 64 →
        stale = decide (k + s.dev.planning.settings.maxAge < c.instant) → c1 = { c with expand := .running, expandJob := some j, bound := some e0, stale := stale, survivors := [], clearances := [] } →
        Completes (.expand env) s fun e =>
          e.planning = { s.dev.planning with cycle := some c1 } ∧ e.mem.bytes = (s.dev.mem.store (s.dev.survBuffer c.instant) (survivorHeader c1 1 e0 0 0 0)).bytes ∧
          e.rd (Reg.PLAN_EVENTS 7) = (if stale then satTo 32 (s.dev.rd (Reg.PLAN_EVENTS 7) + 1) else s.dev.rd (Reg.PLAN_EVENTS 7)) ∧
          s.dev.kept e [Reg.PLAN_EVENTS 7, Reg.FC_HITS, Reg.FC_MISSES] ∧ e.world = { s.dev.world with taken := s.dev.world.taken.erase j } ∧ e.cores = s.dev.cores) ∧
      (∀ c, s.dev.planning.cycle = some c → c.instant % 2 ^ 32 ≠ j.arg → signExt 32 (ofInt 32 ((j.arg : Int) - s.dev.rd Reg.CYCLE_INSTANT)) ≤ 0 → s.dev.jobReady j → Completes (.expand env) s fun e =>
        s.dev.jobTold e j St.PLAN_CYCLE_MISMATCH noInstant 0 ∧ e.planning = s.dev.planning ∧ e.world = { s.dev.world with taken := s.dev.world.taken.erase j } ∧ e.mem = s.dev.mem ∧ e.dict = s.dev.dict))) ∧
  (∀ (s : State) (env : MemEnv),
    ((∀ c, s.dev.planning.cycle = some c → c.expand ≠ .running) → Completes (.expandDone env) s fun e => e = s.dev) ∧
    (∀ c j e0 all clear chosen kept, s.dev.planning.cycle = some c → c.expand = .running → c.expandJob = some j → c.bound = some e0 → c.waiting = none → s.dev.worldRuns = true → s.dev.memSound env →
      (∀ p ∈ s.dev.checkReads c (some e0) (List.range (s.dev.binCount c.bin)), s.dev.served p.1 p.2) → s.dev.jobReady j →
      all = (List.range (s.dev.binCount c.bin)).map (s.dev.clearance c e0) → clear = all.filter (fun x => decide (s.dev.binMrm c.bin ≤ x.index) && x.clear) →
      chosen = (clear.map (fun x => (⟨x.index, x.value, x.minT, x.outside, leAt (s.dev.primitive c.bin x.index) 4 4⟩ : Survivor))).mergeSort Survivor.before →
      kept = chosen.take s.dev.planning.settings.survivors → s.dev.served (s.dev.survBuffer c.instant) (64 + 16 * kept.length) →
      Completes (.expandDone env) s fun e =>
        s.dev.jobTold e j 0 c.instant (s.dev.survBuffer c.instant) ∧
        e.planning = { s.dev.planning with cycle := some { c with expand := .done, expandJob := none, survivors := kept, clearances := all } } ∧
        e.mem.bytes = ((s.dev.mem.store (s.dev.survBuffer c.instant + 64) (kept.flatMap Survivor.bytes)).store (s.dev.survBuffer c.instant)
          (survivorHeader c 2 e0 kept.length clear.length (all.length - s.dev.binMrm c.bin))).bytes ∧
        s.dev.kept e [Reg.FC_HITS, Reg.FC_MISSES])) ∧
  (∀ (s : State) (env : MemEnv),
    (s.dev.world.taken.find? (fun j => j.cls == 10) = none → Completes (.select env) s fun e => e = s.dev) ∧
    (∀ j, s.dev.selecting = false → s.dev.regionStopped .world = false → s.dev.fn .planning = .on → s.dev.world.taken.find? (fun j => j.cls == 10) = some j →
      (s.dev.planning.cycle = none → s.dev.jobReady j → Completes (.select env) s fun e =>
        s.dev.jobTold e j St.PLAN_CYCLE_MISMATCH noInstant 0 ∧ e.planning = s.dev.planning ∧ e.world = { s.dev.world with taken := s.dev.world.taken.erase j } ∧ e.mem = s.dev.mem ∧ e.dict = s.dev.dict) ∧
      (∀ c, s.dev.planning.cycle = some c → c.expand = .running → j.arg = 0 → Completes (.select env) s fun e =>
        e = { s.dev with world := { s.dev.world with taken := s.dev.world.taken.erase j }, planning := { s.dev.planning with cycle := some { c with waiting := some j } } }) ∧
      (∀ c x rest e0 k choice, s.dev.planning.cycle = some c → c.expand ≠ .running → s.dev.planning.newest = some (e0, k) → c.bound = some e0 → s.dev.memSound env →
        choice = (⟨x.index, some ⟨x.index, e0, x.clearance, x.outside, x.minT⟩, 0⟩ : Choice) → s.dev.choiceServed c choice →
        (j.arg = 0 → c.survivors = x :: rest → Completes (.select env) s fun e =>
          s.dev.chosenAs e c (some j) 0 flagScoresIgnored choice ∧ e.rd (Reg.PLAN_EVENTS 5) = satTo 32 (s.dev.rd (Reg.PLAN_EVENTS 5) + 1) ∧
          s.dev.kept e [Reg.PLAN_EVENTS 5, Reg.FC_HITS, Reg.FC_MISSES] ∧ e.world = { s.dev.world with taken := s.dev.world.taken.erase j } ∧ e.cores = s.dev.cores) ∧
        (j.arg ≠ 0 → c.survivors ≠ [] → s.dev.served (j.arg * 256) (64 + 4 * c.survivors.length) → leAt (s.dev.mem.bytes (j.arg * 256) 64) 8 8 = c.instant →
          scoreOrder (s.dev.mem.bytes (j.arg * 256) (64 + 4 * c.survivors.length)) c = some (x :: rest) → Completes (.select env) s fun e =>
          s.dev.chosenAs e c (some j) 0 0 choice ∧ s.dev.kept e [Reg.FC_HITS, Reg.FC_MISSES] ∧ e.world = { s.dev.world with taken := s.dev.world.taken.erase j } ∧ e.cores = s.dev.cores))))

/-- RESET_N or PWR_GOOD_FLOOR falling resets everything but the Lookouts; with both high again, a cold Trailhead begins
at the first step not done. From: spec/03_start_up_and_personalities.md, R76 and Table 3-1,
spec/03_start_up_and_personalities.md, R79, spec/01_package_and_levels.md, R18. -/
def Obligations.ResetAndFloorSupply : Prop :=
  (∀ s : State, s.dev.boot.resetHigh = true → s.dev.boot.floorGood = true → Completes .resetNAssert s fun e =>
    s.dev.floorReset e ∧ e.boot.resetHigh = false ∧ e.boot.floorGood = true ∧ e.power.trip = false) ∧
  (∀ s : State, s.dev.boot.resetHigh = false ∨ s.dev.boot.floorGood = false → Completes .resetNAssert s fun e =>
    e = { s.dev with boot := { s.dev.boot with resetHigh := false }, power := { s.dev.power with trip := false } }) ∧
  (∀ s : State, s.dev.floorUp = true → Completes .pwrGoodFloorFall s fun e =>
    s.dev.floorReset e ∧ e.boot.resetHigh = true ∧ e.boot.floorGood = false) ∧
  (∀ s : State, s.dev.floorUp = false → Completes .pwrGoodFloorFall s fun e => e = { s.dev with boot := { s.dev.boot with floorGood := false } }) ∧
  (∀ (s : State) (src : Fin 4), s.dev.boot.resetHigh = false →
    (s.dev.boot.floorGood = true → s.dev.power.trip = false → s.dev.rd Reg.TRAILHEAD_STEP < 5 → bitAt s.dev.boot.romFailed 2 = false →
      (s.dev.boot.islandsDone && s.dev.boot.step3 && s.dev.boot.step4) = false →
      Completes (.resetNRelease src) s fun e => s.dev.coldBegun e ∧ e.rd Reg.BOOT_SRC_SAMPLED = src) ∧
    (s.dev.boot.floorGood = false → Completes (.resetNRelease src) s fun e => s.dev.kept e [Reg.BOOT_SRC_SAMPLED] ∧ e.rd Reg.BOOT_SRC_SAMPLED = src ∧
      e = { s.dev with dict := e.dict, boot := { s.dev.boot with resetHigh := true } })) ∧
  (∀ s : State, s.dev.boot.floorGood = false →
    (s.dev.boot.resetHigh = true → s.dev.power.trip = false → s.dev.rd Reg.TRAILHEAD_STEP < 5 → bitAt s.dev.boot.romFailed 2 = false →
      (s.dev.boot.islandsDone && s.dev.boot.step3 && s.dev.boot.step4) = false →
      Completes .pwrGoodFloorRise s fun e => s.dev.coldBegun e ∧ e.rd Reg.BOOT_SRC_SAMPLED = s.dev.rd Reg.BOOT_SRC_SAMPLED) ∧
    (s.dev.boot.resetHigh = false → Completes .pwrGoodFloorRise s fun e => e = { s.dev with boot := { s.dev.boot with floorGood := true } }))

/-- At its deadline an open cycle chooses a record by the rule that holds; a chosen record goes out whole to Lookout B
and the outputs and ends its cycle. From: spec/11_planning.md, R13, R333, R337, R338, R339, R340, R342 and R343. -/
def Obligations.CyclesEndWithARecord : Prop :=
  (∀ (s : State) (env : MemEnv),
    (s.dev.planning.cycle = none ∨ s.dev.worldRuns = false ∨ (∃ c x, s.dev.planning.cycle = some c ∧ c.chosen = some x) → Completes (.planDeadline env) s fun e => e = s.dev) ∧
    (∀ c, s.dev.planning.cycle = some c → c.chosen = none → s.dev.worldRuns = true → s.dev.memSound env →
      (∀ x rest e0 k choice, c.expand = .done → c.survivors = x :: rest → s.dev.planning.newest = some (e0, k) → c.bound = some e0 →
        choice = (⟨x.index, some ⟨x.index, e0, x.clearance, x.outside, x.minT⟩, 0⟩ : Choice) → s.dev.choiceServed c choice → Completes (.planDeadline env) s fun e =>
          s.dev.chosenAs e c none 0 (Nat.lor flagTimeout flagScoresIgnored) choice ∧ s.dev.kept e [Reg.FC_HITS, Reg.FC_MISSES] ∧ e.world = s.dev.world ∧ e.cores = s.dev.cores) ∧
      (∀ choice, c.expand = .none → c.expandJob = none → c.waiting = none → s.dev.planning.newest = none →
        choice = (⟨0, none, Nat.lor flagNoClear flagUnchecked⟩ : Choice) → s.dev.choiceServed c choice → Completes (.planDeadline env) s fun e =>
          s.dev.chosenAs e c none St.PLAN_TIMEOUT flagTimeout choice ∧ e.rd (Reg.PLAN_EVENTS 1) = satTo 32 (s.dev.rd (Reg.PLAN_EVENTS 1) + 1) ∧
          e.rd (Reg.PLAN_EVENTS 6) = satTo 32 (s.dev.rd (Reg.PLAN_EVENTS 6) + 1) ∧ s.dev.kept e [Reg.PLAN_EVENTS 1, Reg.PLAN_EVENTS 6, Reg.FC_HITS, Reg.FC_MISSES] ∧ e.world = s.dev.world ∧ e.cores = s.dev.cores) ∧
      (∀ x e0 k choice, c.expand = .none → c.expandJob = none → c.waiting = none → s.dev.planning.newest = some (e0, k) → (s.dev.mrmClearances c e0).find? (·.clear) = some x →
        choice = (⟨x.index, some x, flagMrm⟩ : Choice) → s.dev.choiceServed c choice → Completes (.planDeadline env) s fun e =>
          s.dev.chosenAs e c none St.PLAN_TIMEOUT flagTimeout choice ∧ e.rd (Reg.PLAN_EVENTS 1) = satTo 32 (s.dev.rd (Reg.PLAN_EVENTS 1) + 1) ∧
          s.dev.kept e [Reg.PLAN_EVENTS 1, Reg.FC_HITS, Reg.FC_MISSES] ∧ e.world = s.dev.world ∧ e.cores = s.dev.cores))) ∧
  (∀ (s : State) (room intact : Bool) (env : MemEnv),
    (s.dev.planning.cycle = none ∨ s.dev.worldRuns = false ∨ (∃ c, s.dev.planning.cycle = some c ∧ c.chosen = none) → Completes (.trajectoryRecordDone room intact env) s fun e => e = s.dev) ∧
    (∀ c x, s.dev.planning.cycle = some c → c.chosen = some x → s.dev.worldRuns = true → s.dev.fn .planning = .on → s.dev.fn (.ring .trajOut) ≠ .on → s.dev.firmware .B = true →
      s.dev.memSound env → s.dev.served (s.dev.trajBuffer c.instant) x.trajectory.length → (∀ j, x.job = some j → s.dev.jobReady j) →
      Completes (.trajectoryRecordDone room intact env) s fun e =>
        e.mem.bytes = (s.dev.mem.store (s.dev.trajBuffer c.instant) x.trajectory).bytes ∧ e.planning.cycle = none ∧ e.planning.outSeq = s.dev.planning.outSeq + 1 ∧
        e.rd Reg.OUT_SEQ = wrapTo 32 (s.dev.planning.outSeq + 1) ∧ e.rd Reg.LAST_OUT_STATUS = leAt x.trajectory 6 2 ∧ e.rd Reg.LAST_OUT_FLAGS = leAt x.trajectory 8 2 ∧
        (∀ o, o < 2 → s.dev.outputSet o = true → SMap.getD e.planning.unsent o [] = s.dev.outFrame o x.trajectory) ∧
        (∀ o, o < 2 → s.dev.outputSet o = false → SMap.getD e.planning.unsent o [] = SMap.getD s.dev.planning.unsent o []) ∧
        e.safety.trajectory = x.trajectory ∧
        (intact = true → recordValid x.fallback = true → e.safety.fallback = x.fallback ∧ e.safety.expired = false ∧ e.rd Reg.FALLBACK_RECORD_SEQ = leAt x.fallback 12 4) ∧
        (intact = false ∨ recordValid x.fallback = false → e.safety.fallback = s.dev.safety.fallback ∧ ∃ y : LogRecord, e.log = { s.dev.log with inbox := s.dev.log.inbox ++ [y] } ∧ y.status = St.FALLBACK_RECORD_INVALID) ∧
        (∀ j, x.job = some j → s.dev.jobTold e j 0 c.instant (s.dev.trajBuffer c.instant)) ∧ (x.job = none → e.cores = s.dev.cores)))

/-- On an active core each VE operation and each SE arithmetic operation, named one by one, completes: it is queued, or
RD has its value. From: spec/05_cores_and_signalling.md, Tables 5-1, 5-7, 5-9 and 5-10, spec/05_cores_and_signalling.md,
R130. -/
def Obligations.EachVectorAndScalarOperationCompletes : Prop :=
  (∀ (s : State) (core : CoreNo) (done : Option SemNo) (x : BitVec 111) (imm : BitVec 32), s.dev.active core = true →
    let queued := fun (e : Device) (op : Nat) => s.dev.coreOnly e core ∧
      e.core core = { s.dev.core core with veQueue := (s.dev.core core).veQueue ++ [⟨op, done.map (·.val), x.toNat, imm.toNat⟩] }
    Completes (.veAdd core done x imm) s (queued · 0x01) ∧
    Completes (.veSub core done x imm) s (queued · 0x02) ∧
    Completes (.mul core done x imm) s (queued · 0x03) ∧
    Completes (.fma core done x imm) s (queued · 0x04) ∧
    Completes (.max core done x imm) s (queued · 0x05) ∧
    Completes (.min core done x imm) s (queued · 0x06) ∧
    Completes (.cmpGt core done x imm) s (queued · 0x07) ∧
    Completes (.exp core done x imm) s (queued · 0x10) ∧
    Completes (.recip core done x imm) s (queued · 0x11) ∧
    Completes (.rsqrt core done x imm) s (queued · 0x12) ∧
    Completes (.rsum core done x imm) s (queued · 0x20) ∧
    Completes (.rmax core done x imm) s (queued · 0x21) ∧
    Completes (.convert core done x imm) s (queued · 0x30)) ∧
  (∀ (s : State) (core : CoreNo) (rd ra rb : SReg) (immSel : Bool) (imm : BitVec 32), s.dev.active core = true →
    let a := (s.dev.core core).sreg ra
    let b := if immSel then imm.toNat else (s.dev.core core).sreg rb
    let A := BitVec.ofNat 32 a
    let B := BitVec.ofNat 32 b
    Completes (.seAdd core rd ra rb immSel imm) s (s.dev.sregSet · core rd (A + B).toNat) ∧
    Completes (.seSub core rd ra rb immSel imm) s (s.dev.sregSet · core rd (A - B).toNat) ∧
    Completes (.seAnd core rd ra rb immSel imm) s (s.dev.sregSet · core rd (A &&& B).toNat) ∧
    Completes (.seOr core rd ra rb immSel imm) s (s.dev.sregSet · core rd (A ||| B).toNat) ∧
    Completes (.xor core rd ra rb immSel imm) s (s.dev.sregSet · core rd (A ^^^ B).toNat) ∧
    Completes (.shl core rd ra rb immSel imm) s (s.dev.sregSet · core rd (A <<< (b % 32)).toNat) ∧
    Completes (.shr core rd ra rb immSel imm) s (s.dev.sregSet · core rd (a / 2 ^ (b % 32) % 2 ^ 32)) ∧
    Completes (.sltu core rd ra rb immSel imm) s (s.dev.sregSet · core rd (if a < b then 1 else 0)) ∧
    Completes (.seq core rd ra rb immSel imm) s (s.dev.sregSet · core rd (if a = b then 1 else 0)) ∧
    Completes (.mov core rd rb immSel imm) s (s.dev.sregSet · core rd B.toNat))

/-- Each enable, named alone, starts its function where it may start; a REPLAY descriptor stores its record's data in
its slot or finds it unbound. From: spec/02_object_dictionary.md, Table 2-13, spec/07_attention_and_hamper.md, R214,
spec/08_memory_and_regulation.md, R243, spec/09_sensor_ingest.md, R259 and R276, spec/10_fusion.md, R280,
spec/11_planning.md, R316, spec/13_overnight_tenancy.md, R402, spec/14_links_and_guest_die.md, R425 and R442. -/
def Obligations.EachEnableStartsAndReplayDescriptorsAct : Prop :=
  (∀ (s : State) (q : Requester) (v : BitVec 32), v.toNat = 1 →
    let may := fun (f : FnId) (k : Nat) => s.dev.takes q k v.toNat ∧ s.dev.fn f = .off ∧ s.dev.fnHeld f = false
    let started := fun (f : FnId) (k : Nat) (st : FnState) (e : Device) => s.dev.noted e q k ∧ e.cores = s.dev.cores ∧ e.fn f = st ∧ e.rd k = 1
    (may .fieldNet Reg.FN_ENABLE → Completes (.fnEnable q v) s (started .fieldNet Reg.FN_ENABLE .on)) ∧
    (may .scrub Reg.SCRUB_ENABLE → Completes (.scrubEnable q v) s (started .scrub Reg.SCRUB_ENABLE .on)) ∧
    (may .hamper Reg.HAMPER_ENABLE → (s.dev.wr Reg.HAMPER_ENABLE 1).hamperConfigOk = true →
      Completes (.hamperEnable q v) s (started .hamper Reg.HAMPER_ENABLE .on)) ∧
    (∀ n : Fin 64, may (.slot n) (Reg.SLOT_ENABLE n) → (s.dev.wr (Reg.SLOT_ENABLE n) 1).slotFault n = none →
      Completes (.slotEnable q n v) s fun e => started (.slot n) (Reg.SLOT_ENABLE n) .on e ∧ e.slot n = {}) ∧
    (may .fusion Reg.FUSION_ENABLE → (s.dev.wr Reg.FUSION_ENABLE 1).fusionFault = none →
      Completes (.fusionEnable q v) s (started .fusion Reg.FUSION_ENABLE .starting)) ∧
    (∀ d, d = s.dev.wr Reg.PLAN_ENABLE 1 → may .planning Reg.PLAN_ENABLE → d.planFault = none → d.latticeFault = none →
      d.plain (d.rd Reg.LATTICE_BASE) d.latticeSize → d.mem.poison = [] →
      Completes (.planEnable q v) s fun e => started .planning Reg.PLAN_ENABLE .on e ∧ e.rd Reg.OUT_SEQ = 0) ∧
    (may .job Reg.JOB_ENABLE → (s.dev.wr Reg.JOB_ENABLE 1).jobFault = none →
      Completes (.jobEnable q v) s fun e => started .job Reg.JOB_ENABLE .on e ∧ e.rd Reg.STEPS_TAKEN = 0 ∧ e.rd Reg.CKPT_ACK = 0) ∧
    (∀ p : Fin 4, may (.link p) (Reg.LINK_ENABLE p) → (s.dev.wr (Reg.LINK_ENABLE p) 1).linkExists p = true →
      Completes (.linkEnable q p v) s fun e => s.dev.noted e q (Reg.LINK_ENABLE p) ∧ e.cores = s.dev.cores ∧ e.fn (.link p) = .starting ∧ e.rd (Reg.LINK_PHASE p) = phaseTraining) ∧
    (may .guest Reg.GUEST_ENABLE → s.dev.guest.trained = true → (s.dev.wr Reg.GUEST_ENABLE 1).personality ≠ .overnight →
      Completes (.guestEnable q v) s (started .guest Reg.GUEST_ENABLE .on)) ∧
    (∀ r : RingId, may (.ring r) (r.reg 1) → r ≠ .programUpload ∨ s.dev.personality ≠ .overnight → (s.dev.wr (r.reg 1) 1).rd (r.reg ringEntries) ≠ 0 →
      Completes (.ringEnable q r v) s fun e => started (.ring r) (r.reg 1) .on e ∧ e.rd (r.reg ringHead) = 0 ∧ e.rd (r.reg ringTail) = 0 ∧ e.ring r = {})) ∧
  (∀ (s : State) (x : Descriptor) (ok : Bool) (pay : List Byte) (env : MemEnv) (n : Nat), s.dev.ringReady .replay → x.usable ok = true → n = leAt x.owner 0 2 →
    (64 ≤ n ∨ s.dev.rd (Reg.SLOT_SOURCE_KIND n) ≠ kindReplay ∨ s.dev.slotLive n = false → Completes (.replay x ok pay env true) s fun e =>
      s.dev.ringTook e .replay x.wanted ⟨x.tag.toNat, St.UNBOUND_DATA, 0, 0⟩ ∧ e.rd Reg.UNBOUND_FRAMES = satTo 32 (s.dev.rd Reg.UNBOUND_FRAMES + 1) ∧
      e = { s.dev with dict := e.dict, rings := e.rings, tallies := e.tallies } ∧
      s.dev.kept e [Reg.UNBOUND_FRAMES, RingId.replay.reg ringHead, RingId.replay.reg ringLastStatus]) ∧
    (∀ y l, n < 64 → s.dev.rd (Reg.SLOT_SOURCE_KIND n) = kindReplay → s.dev.slotState n = .on → (s.dev.slot n).sample = none →
      l = padTo pay x.len.toNat → s.dev.takesSample n l.length env →
      y = ({ seq := (s.dev.slot n).seq, flags := 2 ^ fReplayed, units := 1, stamp := some (leAt x.owner 2 8), bytes := l.length, got := l.length } : Sample) →
      Completes (.replay x ok pay env true) s fun e =>
        s.dev.ringTook e .replay x.wanted ⟨x.tag.toNat, 0, x.len.toNat, 0⟩ ∧
        s.dev.slotOnly e n { s.dev.slot n with seq := wrapTo 32 ((s.dev.slot n).seq + 1), sample := if x.lastOfGroup then none else some y,
                                               ending := (s.dev.slot n).ending ++ if x.lastOfGroup then [y] else [] } ∧
        e.mem.bytes (s.dev.bufAddr n (s.dev.slot n).seq) l.length = l ∧
        s.dev.storedOnly e (s.dev.recAddr n (s.dev.slot n).seq) 64 (s.dev.bufAddr n (s.dev.slot n).seq) l.length ∧
        s.dev.kept e [Reg.FC_HITS, Reg.FC_MISSES, RingId.replay.reg ringHead, RingId.replay.reg ringLastStatus]))

/-- A completed Trailhead step has its result, and the next begins: steps 1 to 9, 11 and 12, the flash record and
CFG_GO. From: spec/03_start_up_and_personalities.md, R79, R81, R82, R83 and Table 3-2,
spec/03_start_up_and_personalities.md, R92 and R95. -/
def Obligations.TrailheadStepsComplete : Prop :=
  (∀ (s : State) (us : BitVec 32), s.dev.boot.early →
    (∀ i : Island, s.dev.islReleased i = true → bitAt s.dev.boot.romFailed i.num = false →
      s.dev.boot.step1 i = false → (s.dev.boot.step3 && s.dev.boot.step4) = false →
      Completes (.trailheadStepComplete us (.romSelfTest i)) s fun e => e.boot.step1 i = true ∧
        e.cores = s.dev.cores ∧ e.mem = s.dev.mem ∧ e.safety = s.dev.safety) ∧
    (∀ uid pub, s.dev.boot.step1B = true → s.dev.boot.step2 = false → (s.dev.boot.step3 && s.dev.boot.step4) = false →
      Completes (.trailheadStepComplete us (.puf uid pub)) s fun e => e.boot.step2 = true ∧ e.rd Reg.UNIQUE_ID = uid.toNat ∧
        e.cores = s.dev.cores ∧ e.mem = s.dev.mem ∧ e.safety = s.dev.safety) ∧
    (s.dev.floorUp = true → s.dev.boot.step3 = false → s.dev.rd Reg.TRAILHEAD_STEP < 5 → s.dev.boot.step4 = false →
      Completes (.trailheadStepComplete us .pllLock) s fun e => e.boot.step3 = true ∧ e.rd Reg.ROOT_PLL_LOCKED = 1 ∧
        e.cores = s.dev.cores ∧ e.mem = s.dev.mem ∧ e.safety = s.dev.safety) ∧
    (∀ temps sensed : List Int, s.dev.floorUp = true → s.dev.boot.step3 = true → s.dev.boot.step4 = false → s.dev.rd Reg.TRAILHEAD_STEP < 5 →
      s.dev.boot.islandsDone = false → (∀ t ∈ temps, t < 130) → (∀ t ∈ sensed, t < 110) →
      Completes (.trailheadStepComplete us (.floorInit temps sensed)) s fun e => e.boot.step4 = true ∧
        e.cores = s.dev.cores ∧ e.mem = s.dev.mem ∧ e.safety = s.dev.safety)) ∧
  (∀ (s : State) (us : BitVec 32), s.dev.stepIs 5 = true → s.dev.rd Reg.BOOT_SRC_SAMPLED ≠ 3 → Completes (.trailheadStepComplete us .ucie) s fun e =>
    e.rd Reg.TRAILHEAD_STEP = 20 ∧ e.boot.window = .startup ∧ e.boot.hostWindow = (s.dev.rd Reg.BOOT_SRC_SAMPLED == 0)) ∧
  (∀ (s : State) (us : BitVec 32) (b : List Byte), s.dev.stepIs 20 = true → s.dev.boot.hostWindow = false → s.dev.boot.window = .startup →
    (∀ r : RingId, s.dev.rd (r.reg 1) ≠ 1) → recordHeader b = true → leAt (slice b 16 (leAt b 4 4 - 16)) 0 2 = 0 → 8 ≤ (slice b 16 (leAt b 4 4 - 16)).length →
    Completes (.trailheadStepComplete us (.flashRecord b)) s fun e => s.dev.windowDone e) ∧
  (∀ (s : State) (q : Requester), s.dev.takes q Reg.CFG_GO 1 → s.dev.boot.window = .startup → (∀ r : RingId, s.dev.rd (r.reg 1) ≠ 1) →
    Completes (.cfgGo q 1) s fun e => s.dev.windowDone e) ∧
  (∀ (s : State) (us : BitVec 32), s.dev.stepIs 6 = true → ∀ sensed failed channels, Completes (.trailheadStepComplete us (.dram sensed failed channels)) s fun e =>
    e.rd Reg.TRAILHEAD_STEP = 7 ∧ e.mem.dram = [] ∧ e.mem.poison = [] ∧ e.mem.cache = [] ∧ e.boot.trained = true) ∧
  (∀ (s : State) (us : BitVec 32), s.dev.stepIs 7 = true → ∀ failing ro, Completes (.trailheadStepComplete us (.comparators failing ro)) s fun e =>
    e.rd Reg.TRAILHEAD_STEP = 8) ∧
  (∀ (s : State) (us : BitVec 32), s.dev.stepIs 8 = true → Completes (.trailheadStepComplete us .lanes) s fun e => e.rd Reg.TRAILHEAD_STEP = 9 ∧
    e.rd Reg.IMAGE_BYTES_RECEIVED = 0 ∧ e.loader.image = [] ∧ e.loader.fetching = true ∧ e.loader.fromFlash = !e.boot.hostFetch) ∧
  (∀ (s : State) (us : BitVec 32), s.dev.stepIs 9 = true → s.dev.fn (.ring .programUpload) ≠ .on →
    (∀ b : List Byte, s.dev.loader.fetching = true → s.dev.loader.fromFlash = true → s.dev.loader.image = [] → s.dev.loader.flashAt + b.length ≤ flashReadable →
      imgLength b = b.length → 32 ≤ b.length → hostRanges b = [] → Completes (.trailheadStepComplete us (.flashImage b)) s fun e =>
        e.rd Reg.TRAILHEAD_STEP = 10 ∧ e.loader.image = b ∧ e.loader.fetching = false ∧ e.cores = s.dev.cores ∧ e.mem = s.dev.mem) ∧
    (imgComplete s.dev.loader.image = true → s.dev.loader.awaited = [] → Completes (.trailheadStepComplete us .hostImage) s fun e =>
        e.rd Reg.TRAILHEAD_STEP = 10 ∧ e.loader = { s.dev.loader with fetching := false } ∧ e.cores = s.dev.cores ∧ e.mem = s.dev.mem)) ∧
  (∀ (s : State) (us : BitVec 32), s.dev.stepIs 11 = true → Completes (.trailheadStepComplete us .variant) s fun e => e.rd Reg.TRAILHEAD_STEP = 12 ∧
    e.rd Reg.AVAIL_CORE_MASK = s.dev.available ∧ e.rd Reg.VARIANT_IN_USE = fittingVariant s.dev.runningImage s.dev.available) ∧
  (∀ (s : State) (us fwA fwB : BitVec 32) (silent : List (Fin 11)), s.dev.stepIs 12 = true → s.dev.islUp .A = true → s.dev.islUp .B = true →
    s.dev.rd Reg.VARIANT_IN_USE = 0xFF → s.dev.rd Reg.SAFETY_FN_MASK = 0 → s.dev.fn .run ≠ .fault →
    Completes (.trailheadStepComplete us (.entry fwA fwB silent)) s fun e => e.rd Reg.TRAILHEAD_STEP = 13 ∧
      e.rd Reg.PERSONALITY_NOW = s.dev.rd Reg.BOOT_PERSONALITY ∧ e.rd Reg.PERSONALITY_REQ = s.dev.rd Reg.BOOT_PERSONALITY ∧ e.rd Reg.EXPERT_ENABLE = 0 ∧
      e.rd Reg.LOOKOUT_A_FW_VERSION = fwA.toNat ∧ e.rd Reg.LOOKOUT_B_FW_VERSION = fwB.toNat ∧ (e.isl .A).firmware = true ∧ (e.isl .B).firmware = true ∧
      e.fn .run = .fault)

/-- A Trailhead step that fails, and a window without CFG_GO, stop Trailhead with their code; a failing core or no
variant lets it go on. From: spec/03_start_up_and_personalities.md, R80, R81, R93 and Tables 3-2 and 3-7. -/
def Obligations.TrailheadStops : Prop :=
  ∀ (s : State) (detail : BitVec 32),
    (s.dev.fn (.ring .programUpload) ≠ .on →
      (s.dev.floorUp = true → s.dev.boot.step3 = false → s.dev.rd Reg.TRAILHEAD_STEP < 5 →
        Completes (.trailheadStepTimeout 3 detail) s fun e => s.dev.startStopped e 0x0203 detail.toNat) ∧
      (s.dev.boot.step3 = true → s.dev.boot.step4 = false → s.dev.rd Reg.TRAILHEAD_STEP < 5 →
        Completes (.trailheadStepTimeout 4 detail) s fun e => s.dev.startStopped e 0x0204 detail.toNat) ∧
      (s.dev.rd Reg.TRAILHEAD_STEP = 5 → Completes (.trailheadStepTimeout 5 detail) s fun e => s.dev.startStopped e 0x0205 detail.toNat) ∧
      (s.dev.rd Reg.TRAILHEAD_STEP = 6 → Completes (.trailheadStepTimeout 6 detail) s fun e => s.dev.startStopped e 0x020A detail.toNat ∧ e.rd Reg.ZEROISE_BUSY = 0) ∧
      (s.dev.rd Reg.TRAILHEAD_STEP = 12 → Completes (.trailheadStepTimeout 12 detail) s fun e => s.dev.startStopped e 0x0219 detail.toNat) ∧
      (s.dev.rd Reg.BOOT_SRC_SAMPLED ≠ 2 ∨ s.dev.boot.hostFetch = true →
        (s.dev.rd Reg.TRAILHEAD_STEP = 9 → Completes (.trailheadStepTimeout 9 detail) s fun e => s.dev.startStopped e 0x020D detail.toNat) ∧
        (s.dev.rd Reg.TRAILHEAD_STEP = 10 → Completes (.trailheadStepTimeout 10 detail) s fun e => s.dev.startStopped e 0x020E detail.toNat)) ∧
      (s.dev.cfgOpen = true → Completes .thCfgTimeout s fun e => s.dev.startStopped e 0x0207 0)) ∧
    (s.dev.rd Reg.TRAILHEAD_STEP = 20 → s.dev.boot.hostWindow = false → s.dev.rd Reg.BOOT_SRC_SAMPLED = 2 →
      Completes (.trailheadStepTimeout 0 detail) s fun e => e.boot = { s.dev.boot with hostWindow := true, hostFetch := true } ∧
        e.log.inbox = s.dev.log.inbox ++ [s.dev.record 0x0208 0 detail.toNat 0 0] ∧ s.dev.kept e [Reg.TRAILHEAD_STATUS]) ∧
    (s.dev.rd Reg.TRAILHEAD_STEP = 7 → Completes (.trailheadStepTimeout 7 detail) s fun e => e.rd Reg.TRAILHEAD_STEP = 8) ∧
    (s.dev.rd Reg.TRAILHEAD_STEP = 8 → Completes (.trailheadStepTimeout 8 detail) s fun e => e.rd Reg.TRAILHEAD_STEP = 9 ∧ e.loader.fetching = true) ∧
    (s.dev.rd Reg.TRAILHEAD_STEP = 11 → Completes (.trailheadStepTimeout 11 detail) s fun e => e.rd Reg.TRAILHEAD_STEP = 12 ∧ e.rd Reg.VARIANT_IN_USE = 0xFF ∧
      e.log.inbox = s.dev.log.inbox ++ [s.dev.record 0x0210 0 detail.toNat 0 0]) ∧
    (s.dev.boot.step1B = true → s.dev.boot.step2 = false → s.dev.floorUp = false → Completes (.trailheadStepTimeout 2 detail) s fun e =>
      bitAt e.boot.romFailed 2 = true ∧ e = { s.dev with boot := { s.dev.boot with romFailed := e.boot.romFailed } }) ∧
    (∀ i : Island, detail.toNat = (match i with | .A => 0xA | .B => 0xB) → s.dev.islReleased i = true → s.dev.boot.step1 i = false → s.dev.floorUp = false →
      Completes (.trailheadStepTimeout 1 detail) s fun e => bitAt e.boot.romFailed i.num = true ∧ bitAt (e.rd (Reg.FAULT_CAUSE i.num)) causeRom = true ∧
        s.dev.kept e [Reg.FAULT_CAUSE i.num])

/-- A taken personality request begins its edge: to Overnight or Service, a yield, or the warm restart that leaves
Service; RUN_RETRY restarts. From: spec/03_start_up_and_personalities.md, R85, R94, R96, R97 and Table 3-8,
spec/13_overnight_tenancy.md, R417. -/
def Obligations.PersonalityRequests : Prop :=
  (∀ (s : State) (q : Requester),
    (s.dev.takes q Reg.PERSONALITY_REQ 1 → s.dev.transition = .none → s.dev.personality = .drive → s.dev.planning.cycle ≠ none →
      Completes (.enterOvernight q) s fun e => e = { s.dev with dict := e.dict, reqs := e.reqs, boot := { s.dev.boot with begunIn := 0 } } ∧
        s.dev.noted e q Reg.PERSONALITY_REQ ∧ e.rd Reg.PERSONALITY_REQ = 1 ∧ e.transition = .enterOvernight ∧ s.dev.kept e [Reg.PERSONALITY_REQ, Reg.TRANSITION]) ∧
    (s.dev.takes q Reg.PERSONALITY_REQ 2 → s.dev.transition = .none → s.dev.personality = .drive → s.dev.planning.cycle ≠ none →
      Completes (.enterService q) s fun e => e = { s.dev with dict := e.dict, reqs := e.reqs, boot := { s.dev.boot with begunIn := 0 } } ∧
        s.dev.noted e q Reg.PERSONALITY_REQ ∧ e.rd Reg.PERSONALITY_REQ = 2 ∧ e.transition = .enterService ∧ s.dev.kept e [Reg.PERSONALITY_REQ, Reg.TRANSITION]) ∧
    (s.dev.takes q Reg.PERSONALITY_REQ 0 →
      (s.dev.transition = .none → s.dev.personality = .overnight → s.dev.fn .job ≠ .on → s.dev.fn .run ≠ .on → Completes (.yield q) s fun e =>
        e = { s.dev with dict := e.dict, reqs := e.reqs, boot := { s.dev.boot with begunIn := 0 } } ∧ s.dev.noted e q Reg.PERSONALITY_REQ ∧
          e.rd Reg.PERSONALITY_REQ = 0 ∧ e.transition = .yielding ∧ e.rd Reg.CAP_GRANTED = 0 ∧ s.dev.kept e [Reg.PERSONALITY_REQ, Reg.TRANSITION, Reg.CAP_GRANTED]) ∧
      (s.dev.transition = .enterOvernight → Completes (.yield q) s fun e => e = { s.dev with dict := e.dict, reqs := e.reqs } ∧
        s.dev.noted e q Reg.PERSONALITY_REQ ∧ e.rd Reg.PERSONALITY_REQ = 0 ∧ e.transition = .yielding ∧ s.dev.kept e [Reg.PERSONALITY_REQ, Reg.TRANSITION]) ∧
      (s.dev.transition = .regionRestart → Completes (.yield q) s fun e => e = { s.dev with dict := e.dict, reqs := e.reqs, boot := { s.dev.boot with yieldWaits := true } } ∧
        s.dev.noted e q Reg.PERSONALITY_REQ ∧ e.rd Reg.PERSONALITY_REQ = 0 ∧ s.dev.kept e [Reg.PERSONALITY_REQ]) ∧
      (s.dev.transition = .none → s.dev.personality = .service → Completes (.leaveService q) s fun e => s.dev.restartBegun e .leaveService 0)) ∧
    (s.dev.takes q Reg.RUN_RETRY 1 → Completes (.runRetry q 1) s fun e => s.dev.restartBegun e .warmRestart (if s.dev.boot.faultedIn = 2 then 2 else 0)))

/-- A restart of a region or of the chip begins on its demand, ends in the personality it began in, or fails with its
code; Service is entered at rest. From: spec/03_start_up_and_personalities.md, R77, R94, R99, R100, R101 and Tables 3-9
and 3-10, spec/01_package_and_levels.md, R23. -/
def Obligations.RestartsRun : Prop :=
  (∀ (s : State) (cause : ChipCause) (lost : List (BitVec 32)), s.dev.started = true →
    cause = .demand ∧ s.dev.boot.chipDemand.isSome = true ∨ cause = .floorNetwork →
    Completes (.warmRestart ⟨cause, lost⟩) s fun e => s.dev.restartBegun e .warmRestart (if s.dev.personality = .service then 2 else 0)) ∧
  (∀ s : State, s.dev.boot.warm = true →
    (∀ detail : BitVec 32, Completes (.rsWarmFail detail) s fun e => s.dev.restartFailed e) ∧
    (∀ (us : BitVec 32) (bad : Option (Fin 256)) (silent : List (Fin 11)),
      (s.dev.roleDiffers ≠ none → Completes (.warmRestartComplete us [] bad silent) s fun e => s.dev.restartFailed e) ∧
      (s.dev.roleDiffers = none → bad = none → s.dev.fn .run ≠ .fault → (∀ a, fittingVariant s.dev.loader.image a = 0xFF) → imgKind s.dev.loader.image ≠ 1 →
        Completes (.warmRestartComplete us [] bad silent) s fun e => e.rd Reg.PERSONALITY_NOW = (Personality.ofCode s.dev.boot.begunIn).code ∧
          e.rd Reg.PERSONALITY_REQ = (Personality.ofCode s.dev.boot.begunIn).code ∧ e.transition = .none ∧ e.rd Reg.TRAILHEAD_STEP = 13 ∧
          e.rd Reg.LAST_TRANSITION_US = us.toNat ∧ e.rd Reg.VARIANT_IN_USE = 0xFF ∧ e.fn .run = .fault ∧ e.boot.warm = false ∧ e.boot.chipDemand = none))) ∧
  (∀ (s : State) (r : Region), s.dev.started = true → s.dev.boot.chipDemand = none → s.dev.boot.restarting = none → s.dev.demandedRegion = some r →
    (s.dev.regionPowered r = false → s.dev.personality ≠ .drive → Completes (.regionRestart ⟨none, []⟩) s fun e =>
      e.boot = { s.dev.boot with regionDemand := setBit s.dev.boot.regionDemand r.num false, restarting := some r, reloaded := false, begunIn := s.dev.restartEnd } ∧
        (∀ n : Fin 4, n.val = r.num → e.rd (Reg.REGION_RESTARTS n) = satTo 32 (s.dev.rd (Reg.REGION_RESTARTS n) + 1)) ∧
        (s.dev.transition = .none → e.transition = .regionRestart) ∧ e.cores = s.dev.cores ∧ e.mem = s.dev.mem) ∧
    (s.dev.regionPowered r = true → ∀ failing, Completes (.regionRestart ⟨none, failing⟩) s fun e => e.boot.reloaded = true)) ∧
  (∀ (s : State) (r : Region) (us : BitVec 32), s.dev.boot.restarting = some r → s.dev.boot.reloaded = true → s.dev.boot.chipDemand = none → s.dev.boot.yieldWaits = false →
    Completes (.regionRestartResume us) s fun e => e.boot = { s.dev.boot with restarting := none, reloaded := false, yieldWaits := false } ∧
      (s.dev.transition = .regionRestart → e.transition = .none ∧ e.rd Reg.LAST_TRANSITION_US = us.toNat) ∧ (s.dev.fn .run = .on → e.strm.running = true)) ∧
  (∀ (s : State) (r : Region), s.dev.boot.restarting = some r → Completes .rsRegionTimeout s fun e =>
    e = { s.dev with boot := e.boot, log := { s.dev.log with inbox := s.dev.log.inbox ++ [s.dev.record 0x0216 r.num 0 0 0] } } ∧
      e.boot = { s.dev.boot with chipDemand := s.dev.boot.chipDemand.or (some 0x0216), leftOut := e.boot.leftOut } ∧
      e.boot.leftOut = if s.dev.regionPowered r then s.dev.boot.leftOut else setBit s.dev.boot.leftOut r.num true) ∧
  (∀ (s : State) (us : BitVec 32) (bad : Option (Fin 256)) (silent : List (Fin 11)), s.dev.transition = .enterService → s.dev.atRest .run = true →
    s.dev.edgeFunctions.all s.dev.atRest = true → Completes (.transitionDone us bad silent) s fun e =>
      s.dev.regsOnly e [Reg.PERSONALITY_NOW, Reg.PERSONALITY_REQ, Reg.EXPERT_ENABLE, Reg.LAST_TRANSITION_US, Reg.LAST_TRANSITION_STATUS, Reg.TRANSITION] ∧
        e.rd Reg.PERSONALITY_NOW = 2 ∧ e.rd Reg.PERSONALITY_REQ = 2 ∧ e.rd Reg.EXPERT_ENABLE = 0 ∧ e.transition = .none ∧
        e.rd Reg.LAST_TRANSITION_US = us.toNat ∧ e.rd Reg.LAST_TRANSITION_STATUS = 0)

/-- A management iteration counts itself and what was skipped and closes the period's tallies; divisor changes and
CLK_PERIPH windows act as stated. From: spec/01_package_and_levels.md, R29, R34, R35 and R38,
spec/02_object_dictionary.md, R73, spec/08_memory_and_regulation.md, R240. -/
def Obligations.ClocksAndManagement : Prop :=
  (∀ (s : State) (m : MgmtInput), s.dev.mainRuns = true → s.dev.boot.step4 = true → s.dev.fn .job ≠ .on → s.dev.fn .job ≠ .draining → s.dev.fn .hamper ≠ .on →
    s.dev.boot.trained = false → s.dev.transition = .none → Completes (.mgmtIteration m) s fun e =>
      e.rd Reg.MGMT_PERIODS = (s.dev.rd Reg.MGMT_PERIODS + 1) % 2 ^ 32 ∧ e.rd Reg.MGMT_SKIPPED = (if m.skipped = 0 then s.dev.rd Reg.MGMT_SKIPPED else satTo 32 (s.dev.rd Reg.MGMT_SKIPPED + m.skipped.toNat)) ∧
      e.tallies = [] ∧ e.mem.corrections = [] ∧ e.mem.elapsed = s.dev.mem.elapsed + m.skipped.toNat + 1 ∧ e.mem.dram = s.dev.mem.dram ∧
      e.cores = s.dev.cores ∧ e.strm = s.dev.strm ∧ e.boot = s.dev.boot) ∧
  (∀ (s : State) (r : RegionNo),
    (∀ v, SMap.find s.dev.power.pending r = some v → Completes (.divisorChange r) s fun e =>
      e = { s.dev with dict := e.dict, power := { s.dev.power with pending := SMap.erase s.dev.power.pending r }, strm := { s.dev.strm with divChange := SMap.put s.dev.strm.divChange r 8 0 } } ∧
        e.rd (Reg.ARITH_DIV_NOW r) = v ∧ s.dev.kept e [Reg.ARITH_DIV_NOW r]) ∧
    (SMap.find s.dev.power.pending r = none → Completes (.divisorChange r) s fun e => e = s.dev)) ∧
  (∀ (s : State) (i : Island) (n : BitVec 16), s.dev.islUp i = true →
    (n.toNat < 990 ∨ 1010 < n.toNat →
      ((s.dev.isl i).clockBad ≠ 1 → Completes (.islPeriphWindow i n) s fun e =>
        e.isl i = { s.dev.isl i with clockBad := min 2 ((s.dev.isl i).clockBad + 1), clockGood := 0 } ∧ e.rd (Reg.ISL_PERIPH_COUNT i.num) = n.toNat ∧
          s.dev.kept e [Reg.ISL_PERIPH_COUNT i.num, Reg.LOOKOUT_STATE i.num] ∧ e = { s.dev with dict := e.dict, safety := e.safety }) ∧
      ((s.dev.isl i).clockBad = 1 → Completes (.islPeriphWindow i n) s fun e =>
        e.isl i = { s.dev.isl i with clockBad := 2, clockGood := 0 } ∧ e.rd (Reg.ISL_PERIPH_COUNT i.num) = n.toNat ∧
          e.rd (Reg.ISL_CLOCK_FAULTS i.num) = satTo 32 (s.dev.rd (Reg.ISL_CLOCK_FAULTS i.num) + 1) ∧ bitAt (e.rd (Reg.FAULT_CAUSE i.num)) causeClock = true ∧
          (s.dev.mainRuns = true → e.boot.chipDemand.isSome = true) ∧ (s.dev.mainRuns = false → e.boot = s.dev.boot))) ∧
    (990 ≤ n.toNat → n.toNat ≤ 1010 → Completes (.islPeriphWindow i n) s fun e =>
      e.isl i = { s.dev.isl i with clockBad := 0, clockGood := min 2 ((s.dev.isl i).clockGood + 1) } ∧ e.rd (Reg.ISL_PERIPH_COUNT i.num) = n.toNat ∧
        (1 ≤ (s.dev.isl i).clockGood → bitAt (e.rd (Reg.FAULT_CAUSE i.num)) causeClock = false) ∧
        ((s.dev.isl i).clockGood = 0 → e.rd (Reg.FAULT_CAUSE i.num) = s.dev.rd (Reg.FAULT_CAUSE i.num))))

/-- A raise ends when its rail settles, throttles set and clear with the divisor, a trip resets the floor, and the
coolant report is taken. From: spec/15_power_cooling_package.md, R461, R463, R467, R468, R470, R471 and Tables 15-2,
15-4 and 15-5. -/
def Obligations.PowerAndTemperature : Prop :=
  (∀ (s : State) (r : RegionNo) (mv : BitVec 16),
    (SMap.find s.dev.power.raising r = none → Completes (.vrSettle r mv) s fun e => e = s.dev) ∧
    (∀ target, SMap.find s.dev.power.raising r = some target →
      (mv.toNat ≤ s.dev.rd (Reg.VDD_CMP_SET_MV r) + 15 ∧ s.dev.rd (Reg.VDD_CMP_SET_MV r) ≤ mv.toNat + 15 → Completes (.vrSettle r mv) s fun e =>
        e = { s.dev with power := e.power } ∧ e.power.raising = SMap.erase s.dev.power.raising r ∧
          e.power.pending = if s.dev.divEffective r = target then SMap.insert s.dev.power.pending r target else s.dev.power.pending) ∧
      (s.dev.rd (Reg.VDD_CMP_SET_MV r) + 15 < mv.toNat ∨ mv.toNat + 15 < s.dev.rd (Reg.VDD_CMP_SET_MV r) → Completes (.vrSettle r mv) s fun e =>
        e.power.raising = SMap.erase s.dev.power.raising r ∧ s.dev.ptCounted e 0x0E08 r ∧ s.dev.kept e [Reg.PT_EVENTS 7]))) ∧
  (∀ (s : State) (r : RegionNo), Completes (.ocAlert r) s fun e =>
    (∀ b, bitAt (e.rd Reg.HW_THROTTLE) b = if b = r.val then true else bitAt (s.dev.rd Reg.HW_THROTTLE) b) ∧ SMap.getD e.power.ocHigh r 0 = 0 ∧
      4 ≤ e.divTaken r ∧ s.dev.ptCounted e 0x0E06 r ∧ s.dev.kept e [Reg.HW_THROTTLE, Reg.PT_EVENTS 5, Reg.VDD_CMP_SET_MV r]) ∧
  (∀ (s : State) (sensor : Fin 36) (t : BitVec 16),
    ((s.dev.sensorReads sensor t.toInt).sensorAt sensor 120 103 = true → Completes (.thermalHw sensor t) s fun e =>
      ∀ r ∈ sensorRegions sensor, bitAt (e.rd Reg.HW_THROTTLE) (4 + r) = true ∧ 4 ≤ e.divTaken r) ∧
    ((s.dev.sensorReads sensor t.toInt).sensorAt sensor 120 103 = false → Completes (.thermalHw sensor t) s fun e =>
      e = s.dev.sensorReads sensor t.toInt ∧ e.rd Reg.HW_THROTTLE = s.dev.rd Reg.HW_THROTTLE)) ∧
  (∀ (s : State) (r : RegionNo),
    (s.dev.hot r 116 99 = true → Completes (.thermalHwRelease r) s fun e => e = s.dev) ∧
    (s.dev.hot r 116 99 = false → Completes (.thermalHwRelease r) s fun e =>
      (∀ b, bitAt (e.rd Reg.HW_THROTTLE) b = if b = 4 + r.val then false else bitAt (s.dev.rd Reg.HW_THROTTLE) b) ∧
        s.dev.kept e [Reg.HW_THROTTLE, Reg.VDD_CMP_SET_MV r])) ∧
  (∀ (s : State) (sensor : Fin 36) (t : BitVec 16),
    (s.dev.floorUp = false → Completes (.thermalTrip sensor t) s fun e => e = s.dev) ∧
    (s.dev.floorUp = true → (s.dev.sensorReads sensor t.toInt).sensorAt sensor 130 110 = true → Completes (.thermalTrip sensor t) s fun e =>
      s.dev.floorReset e ∧ e.power.trip = true ∧ e.rd Reg.TRIP_COUNT = satTo 32 (s.dev.rd Reg.TRIP_COUNT + 1))) ∧
  (∀ (s : State) (q : Requester) (v : BitVec 32), s.dev.takes q Reg.COOLANT_REPORT v.toNat → Completes (.coolantReport q v) s fun e =>
    s.dev.noted e q Reg.COOLANT_REPORT ∧ e.rd Reg.COOLANT_REPORT = v.toNat ∧ e.rd Reg.COOLANT_AGE_MS = 0 ∧ e.power = { s.dev.power with fresh := true } ∧
      e.rd Reg.COOLANT_STATUS = (if bitAt v.toNat 31 = false then 1 else if field v.toNat 23 16 < 30 then 3
        else if signExt 8 v.toNat < -40 ∨ 70 < signExt 8 v.toNat then 4 else 0) ∧
      s.dev.kept e [Reg.COOLANT_REPORT, Reg.COOLANT_AGE_MS, Reg.COOLANT_STATUS]) ∧
  (∀ s : State,
    (s.dev.power.fresh = false → Completes .coolantStale s fun e => e = s.dev) ∧
    (s.dev.power.fresh = true → s.dev.rd Reg.COOLANT_AGE_MS ≠ 0xFFFFFFFF → Completes .coolantStale s fun e =>
      e.power.fresh = false ∧ e.rd Reg.COOLANT_STATUS = 2 ∧ (s.dev.personality = .overnight → e.rd Reg.CAP_GRANTED = 0) ∧
        (s.dev.personality ≠ .overnight → s.dev.ptCounted e 0x0E09 0)))

/-- Test slices start, defer, pass and fail, a stage is shed by a request in memory, overdue tests and late stages act,
and Lookout A takes its events. From: spec/12_safety_and_lookouts.md, R353, R366, R368, R371, R372, R373, R374, R376 and
Table 12-7. -/
def Obligations.SelfTestsAndWatchdogs : Prop :=
  (∀ (s : State) (c : CoreNo),
    ((s.dev.test c).granted = false ∨ s.dev.rd (Reg.CORE_STATE c) ≠ 0 → ∀ t, Completes (.sliceStart c t) s fun e => e = s.dev) ∧
    ((s.dev.test c).granted = true → s.dev.rd (Reg.CORE_STATE c) = 0 →
      Completes (.sliceStart c false) s (fun e => e.test c = { s.dev.test c with granted := false } ∧
        e.rd Reg.SLICES_DEFERRED = satTo 32 (s.dev.rd Reg.SLICES_DEFERRED + 1) ∧ s.dev.kept e [Reg.SLICES_DEFERRED] ∧
        e = { s.dev with dict := e.dict, safety := e.safety, log := { s.dev.log with inbox := s.dev.log.inbox ++ [s.dev.record 0x0B06 c 0 0 0] } }) ∧
      (∀ n, (s.dev.test c).next = some n → (s.dev.core c).teQueue = [] → (s.dev.core c).teRuns = [] → (s.dev.core c).veQueue = [] → (s.dev.core c).veRun = none →
        (s.dev.core c).loads = [] → (s.dev.core c).chans = [] → Completes (.sliceStart c true) s fun e =>
          e.test c = { s.dev.test c with granted := false, running := some n } ∧ e.rd (Reg.CORE_STATE c) = 4 ∧ s.dev.kept e [Reg.CORE_STATE c] ∧
            e = { s.dev with dict := e.dict, safety := e.safety }))) ∧
  (∀ (s : State) (c : CoreNo) (n : Fin 2), s.dev.nothingHeld → (s.dev.test c).running = some n.val → s.dev.rd (Reg.CORE_STATE c) = 4 → (s.dev.core c).epWaits = [] →
    ((s.dev.test c).mismatches = [] → (s.dev.test c).transients = [] → Completes (.sliceComplete c true) s fun e =>
      (e.test c).running = none ∧ (e.test c).lastFailed = false ∧ e.safety.slices = s.dev.safety.slices + 1 ∧
        (if n = 0 then (e.test c).lastA else (e.test c).lastB) = s.dev.safety.slices + 1 ∧ e.rd (Reg.CORE_STATE c) = 0 ∧
        e.safety.events = s.dev.safety.events ++ [.selfTest c n true] ∧ e.log = s.dev.log ∧ e.boot = s.dev.boot) ∧
    (bitAt (s.dev.rd Reg.QUARANTINE_MASK) c = false → Completes (.sliceComplete c false) s fun e =>
      (e.test c).running = none ∧ (e.test c).lastFailed = true ∧ e.rd (Reg.CORE_STATE c) = 2 ∧ bitAt (e.rd Reg.QUARANTINE_MASK) c = true ∧
        e.log.inbox = s.dev.log.inbox ++ [s.dev.record 0x0B04 c n 0 0, s.dev.record 0x0B03 c 0x0B04 0 0] ∧
        (bitAt s.dev.strm.coreMask c = true → e.boot.chipDemand.isSome = true))) ∧
  (∀ (s : State) (due : List CoreNo) (env retry : MemEnv),
    (s.dev.deadlinesBind = false → Completes (.stageShed due env retry) s fun e => e = s.dev) ∧
    (∀ (c : CoreNo) (st : Nat), s.dev.deadlinesBind = true → c ∈ due → s.dev.tested c = true → (s.dev.test c).pendingA = true → s.dev.nextShed = some st →
      ∃ bytes, bytes.take 4 = leBytes 0x48534B4E 4 ∧ ∃ w, w = s.dev.lookoutWrite .A (s.dev.rd Reg.SHED_ADDR) bytes env retry ∧
        Completes (.stageShed due env retry) s fun e =>
          if w.2 then e.rd Reg.STAGES_SHED = satTo 32 (w.1.rd Reg.STAGES_SHED + 1) ∧ e.rd (Reg.WD_STATE st) = 0 ∧ bitAt e.safety.shedMask st = true ∧
            e.log.inbox.length = w.1.log.inbox.length + 1 ∧ e.mem = w.1.mem else e = w.1)) ∧
  (∀ (s : State) (c : CoreNo),
    ((s.dev.deadlinesBind && s.dev.tested c && ((s.dev.test c).pendingA || (s.dev.test c).pendingB || (s.dev.test c).forMismatch)) = false →
      Completes (.testOverdue c) s fun e => e = s.dev) ∧
    ((s.dev.deadlinesBind && s.dev.tested c && ((s.dev.test c).pendingA || (s.dev.test c).pendingB || (s.dev.test c).forMismatch)) = true →
      s.dev.boot.regionDemand = 0 → s.dev.boot.restarting = none → s.dev.transition = .none → Completes (.testOverdue c) s fun e =>
        bitAt e.boot.regionDemand (c.val / 16) = true ∧ e.rd Reg.TESTS_OVERDUE = satTo 32 (s.dev.rd Reg.TESTS_OVERDUE + 1) ∧
          e.log.inbox = s.dev.log.inbox ++ [s.dev.record 0x0B08 c 0 0 0] ∧ e.strm.running = false)) ∧
  (∀ (s : State) (st : Fin 16),
    (s.dev.rd (Reg.WD_STATE st) = 1 → s.dev.firmware .A = true → Completes (.wdLate st) s fun e =>
      e.rd (Reg.WD_STATE st) = 0 ∧ e.rd (Reg.WD_LATE_FAULTS st) = satTo 32 (s.dev.rd (Reg.WD_LATE_FAULTS st) + 1) ∧
        s.dev.kept e [Reg.WD_STATE st, Reg.WD_LATE_FAULTS st] ∧ e.log.inbox = s.dev.log.inbox ++ [s.dev.record 0x0B0A st 0 0 0] ∧
        e.safety.events = s.dev.safety.events ++ [.watchdog st 0x0B0A]) ∧
    (s.dev.rd (Reg.WD_STATE st) ≠ 1 ∨ s.dev.firmware .A = false → Completes (.wdLate st) s fun e => e = s.dev)) ∧
  (∀ s : State,
    (s.dev.safety.events = [] ∨ s.dev.firmware .A = false → Completes .lookoutAEvent s fun e => e = s.dev) ∧
    (∀ x rest, s.dev.safety.events = x :: rest → s.dev.firmware .A = true →
      Completes .lookoutAEvent s fun e => e.safety.events = rest ∧
        e.safety.appRecords = s.dev.safety.appRecords ++ [(x.record.1, x.record.2, s.dev.freeVal 64)] ∧ e.draws = s.dev.draws + 1))

/-- Peers' messages and loss set and clear the peer cause, a fallback frame carries the record, and an application's
demand acts. From: spec/12_safety_and_lookouts.md, R351, R354, R377, R378, R379 and Table 12-8. -/
def Obligations.PeersFallbackAndDemands : Prop :=
  (∀ (s : State) (i : Island),
    ((s.dev.isl i.peer).transit = none → Completes (.peerStatusMessage i) s fun e => e = s.dev) ∧
    (∀ n, (s.dev.isl i.peer).transit = some n →
      (s.dev.islUp i = false ∨ (s.dev.isl i).seen = some n → Completes (.peerStatusMessage i) s fun e =>
        s.dev.islOnly e i.peer { s.dev.isl i.peer with transit := none }) ∧
      (s.dev.islUp i = true → s.dev.boot.floorGood = true → (s.dev.isl i).seen ≠ some n → bitAt (s.dev.rd (Reg.FAULT_CAUSE i.num)) causePeer = false →
        Completes (.peerStatusMessage i) s fun e => e.isl i = { s.dev.isl i with seen := some n, valid := min 10 ((s.dev.isl i).valid + 1) } ∧
          e.isl i.peer = { s.dev.isl i.peer with transit := none } ∧ e = { s.dev with dict := e.dict, safety := e.safety }) ∧
      (s.dev.islUp i = true → s.dev.boot.floorGood = true → (s.dev.isl i).seen ≠ some n → bitAt (s.dev.rd (Reg.FAULT_CAUSE i.num)) causePeer = true →
        9 ≤ (s.dev.isl i).valid → Completes (.peerStatusMessage i) s fun e => bitAt (e.rd (Reg.FAULT_CAUSE i.num)) causePeer = false ∧
          (e.isl i.peer).lost = false ∧ (e.isl i).seen = some n))) ∧
  (∀ (s : State) (i : Island), s.dev.islUp i = true →
    (bitAt (s.dev.rd (Reg.FAULT_CAUSE i.num)) causePeer = true → Completes (.peerLost i) s fun e => s.dev.islOnly e i { s.dev.isl i with valid := 0 }) ∧
    (bitAt (s.dev.rd (Reg.FAULT_CAUSE i.num)) causePeer = false → Completes (.peerLost i) s fun e =>
      bitAt (e.rd (Reg.FAULT_CAUSE i.num)) causePeer = true ∧ (e.isl i.peer).lost = true ∧ (e.isl i).valid = 0 ∧
        s.dev.record 0x0B0B i.num i.peer.num 0 0 ∈ e.log.inbox ∧ (i = .B → e.safety.streams ≠ []))) ∧
  (∀ (s : State) (age : BitVec 32),
    (s.dev.safety.streams = [] ∨ s.dev.islUp .B = false → Completes (.fallbackFrame age) s fun e => e = s.dev) ∧
    (s.dev.safety.streams ≠ [] → s.dev.islUp .B = true → Completes (.fallbackFrame age) s fun e =>
      e.safety.streamSeq = wrapTo 32 (s.dev.safety.streamSeq + 1) ∧ e.rd Reg.FALLBACK_FRAMES = (s.dev.rd Reg.FALLBACK_FRAMES + 1) % 2 ^ 32 ∧
        e.safety.frame.take 8 = leBytes 0x42464B4E 4 ++ leBytes s.dev.safety.streamSeq 4 ∧ e.safety.frame.drop 16 = padTo s.dev.safety.fallback 576 ∧
        s.dev.kept e [Reg.FALLBACK_FRAMES])) ∧
  (∀ (s : State) (i : Island),
    (s.dev.firmware i = false → ∀ x, Completes (.appDemand i x) s fun e => e = s.dev) ∧
    (s.dev.firmware i = true →
      (∀ v, Completes (.appDemand i (.status v)) s fun e => s.dev.regsOnly e [Reg.APP_STATUS i.num] ∧ e.rd (Reg.APP_STATUS i.num) = v.toNat) ∧
      Completes (.appDemand i .chipRestart) s (fun e => e.boot.chipDemand.isSome = true ∧ (∀ k, e.rd k = s.dev.rd k) ∧
        e.log.inbox = s.dev.log.inbox ++ [s.dev.record 0x0B14 i.num 0 0 0]) ∧
      (∀ r : Region, r ≠ .portB → s.dev.boot.regionDemand = 0 → s.dev.boot.restarting = none → s.dev.transition = .none →
        Completes (.appDemand i (.regionRestart r)) s fun e => bitAt e.boot.regionDemand r.num = true ∧ e.strm.running = false ∧
          e.log.inbox = s.dev.log.inbox ++ [s.dev.record 0x0B14 i.num 0 0 0]) ∧
      ∀ low, Completes (.appDemand i (.faultPin low)) s fun e => bitAt (e.rd (Reg.FAULT_CAUSE i.num)) causeApp = low ∧
        s.dev.kept e [Reg.FAULT_CAUSE i.num] ∧ e.log.inbox = s.dev.log.inbox ++ [s.dev.record 0x0B14 i.num 0 0 0]))

/-- A nonce starts a report and its signature ends it; a request is served, delayed or refused; a release, an
acknowledgement and a forced end act. From: spec/13_overnight_tenancy.md, R401, R406, R408, R413, R415, R416, R417 and
Tables 13-4, 13-6 and 13-7. -/
def Obligations.JobAndAttestation : Prop :=
  (∀ (s : State) (q : Requester) (nonce : List Byte), s.dev.reached q = true → s.dev.writeCheck q Reg.ATTEST_NONCE (.bytes nonce) = .ok →
    s.dev.windowLocked q Reg.ATTEST_NONCE = false → (s.dev.entryFor q Reg.ATTEST_NONCE).any (s.dev.parks · Reg.ATTEST_NONCE) = false →
    Completes (.attestNonce q nonce) s fun e => e = { s.dev with dict := e.dict, safety := { s.dev.safety with report := some (s.dev.reportBytes nonce) } } ∧
      e.rd Reg.ATTEST_STATE = 1 ∧ s.dev.kept e [Reg.ATTEST_STATE]) ∧
  (∀ (s : State) (sig : List Byte),
    (s.dev.safety.report = none → Completes (.attestReportReady sig) s fun e => e = s.dev) ∧
    (∀ b, s.dev.safety.report = some b → Completes (.attestReportReady sig) s fun e => e.safety.report = none ∧ e.rd Reg.ATTEST_STATE = 0 ∧
      e.blob Reg.ATTEST_REPORT = b ++ padTo sig 96 ∧ s.dev.kept e [Reg.ATTEST_STATE])) ∧
  (∀ (s : State) (x : Descriptor) (pay : List Byte) (env : MemEnv) (w : Device) (r : JobReq) (n : Nat), w = s.dev.promptMoved x pay env → r = s.dev.admitAsked x →
    n = min x.len.toNat (4 * r.tokens) → s.dev.ringReady .jobIn → x.usable true = true → leAt x.owner 0 1 = 1 → s.dev.policyRefuses r = false → env.faults = [] →
    s.dev.mem.poison = [] → s.dev.plain r.addr n → w.policyRefuses r = false →
    ((r.need : Int) ≤ w.room r.cls → w.job.queue.any (fun q => decide (r.cls ≤ q.cls)) = false → Completes (.admitRequest x true pay true env) s fun e =>
      w.ringTook e .jobIn x.wanted ⟨x.tag.toNat, 0, n, 0⟩ ∧ e.rd Reg.ADMITTED = satTo 32 (w.rd Reg.ADMITTED + 1) ∧ e.job.news = w.job.news ++ [⟨r.seq, 0, 0⟩] ∧
        e.job.queue = w.job.queue) ∧
    (¬ ((r.need : Int) ≤ w.room r.cls ∧ w.job.queue.any (fun q => decide (r.cls ≤ q.cls)) = false) →
      (w.rd Reg.SLOT_COUNT < r.need + w.heldFrom r.cls ∨ 256 ≤ w.job.queue.length → Completes (.admitRequest x true pay true env) s fun e =>
        w.ringTook e .jobIn x.wanted ⟨x.tag.toNat, 0x0C03, n, 2 * 2 ^ 24⟩ ∧ e.rd Reg.REFUSED = satTo 32 (w.rd Reg.REFUSED + 1) ∧
          e.job.news = w.job.news ++ [⟨r.seq, 2, 0⟩] ∧ e.job.queue = w.job.queue) ∧
      (r.need + w.heldFrom r.cls ≤ w.rd Reg.SLOT_COUNT → w.job.queue.length < 256 → Completes (.admitRequest x true pay true env) s fun e =>
        w.ringTook e .jobIn x.wanted ⟨x.tag.toNat, 0, n, 2 ^ 24 + w.estimate r.need (w.room r.cls)⟩ ∧ e.job.queue = enqueueReq r w.job.queue ∧
          e.rd Reg.QUEUED_NOW = (enqueueReq r w.job.queue).length ∧ e.job.news = w.job.news ++ [⟨r.seq, 1, w.estimate r.need (w.room r.cls)⟩]))) ∧
  (∀ (s : State) (x : Descriptor), s.dev.ringReady .jobIn → x.usable true = true → leAt x.owner 0 1 = 2 → s.dev.fn .job = .on →
    leAt x.owner 2 2 < s.dev.rd Reg.SEQ_MAX → s.dev.seqActive (leAt x.owner 2 2) = true ∨ s.dev.job.queue.any (fun q => q.seq == leAt x.owner 2 2) = true →
    Completes (.release x true true) s fun e => s.dev.ringTook e .jobIn x.wanted ⟨x.tag.toNat, 0, 0, 6 * 2 ^ 24⟩ ∧
      e.job.queue = s.dev.job.queue.filter (fun q => q.seq != leAt x.owner 2 2) ∧ e.job.news = s.dev.job.news ++ [⟨leAt x.owner 2 2, 6, 0⟩] ∧
      e.rd Reg.QUEUED_NOW = e.job.queue.length) ∧
  (∀ (s : State) (q : Requester) (v : BitVec 32), s.dev.takes q Reg.CKPT_ACK v.toNat → s.dev.rd Reg.CKPT_ACK ≤ v.toNat → v.toNat ≤ s.dev.rd Reg.CKPT_LAST →
    Completes (.ckptAck q v) s fun e => s.dev.noted e q Reg.CKPT_ACK ∧ e.rd Reg.CKPT_ACK = v.toNat ∧ s.dev.kept e [Reg.CKPT_ACK, Reg.LATE_ACKS] ∧
      e.rd Reg.LATE_ACKS = if v.toNat < s.dev.rd Reg.CKPT_LAST ∧ v.toNat ≠ s.dev.rd Reg.CKPT_ACK then satTo 32 (s.dev.rd Reg.LATE_ACKS + 1) else s.dev.rd Reg.LATE_ACKS) ∧
  (∀ s : State,
    (s.dev.job.phase ≠ .closing ∨ s.dev.fn .run ≠ .on → Completes .yieldForced s fun e => e = s.dev) ∧
    (s.dev.job.phase = .closing → s.dev.fn .run = .on → s.dev.fn .hamper ≠ .draining → s.dev.enginesIdle = false → s.dev.rd Reg.SAFETY_FN_MASK = 0 →
      Completes .yieldForced s fun e => e.strm = { s.dev.strm with running := false, noMore := true, skid := [], flits := [] } ∧ e.fn .run = .draining ∧
        e.log.inbox = s.dev.log.inbox ++ [s.dev.record 0x0C09 0 0 0 0] ∧ s.dev.kept e [Reg.RUN_STATE, Reg.FLITS_DISCARDED])) ∧
  (∀ s : State, s.dev.job.phase = .final → s.dev.fn .job ≠ .draining ∨ s.dev.job.closing ≠ 7 → Completes .ckptFinalLost s fun e =>
    e.job = { s.dev.job with phase := .done } ∧ (e.ring .ckpt).items = [] ∧ (∀ k, e.rd k = s.dev.rd k) ∧
      e.log.inbox = s.dev.log.inbox ++ [s.dev.record 0x0C0A 0 0 0 0])
end

