-- ==== Sys2Proof/Laws/Maps.lean ====
section
/-!
SUPPORT. Sparse maps: what a key reads after a write, and that every operation keeps the canonical form. The read laws
hold of every list, canonical or not.
-/

namespace Sys2Proof.Machine

variable {α : Type}

/-! ### Reading after a write -/

@[simp] theorem SMap.find_nil (j : Nat) : SMap.find ([] : SMap α) j = none := rfl

theorem SMap.find_insert (m : SMap α) (k j : Nat) (v : α) :
    SMap.find (SMap.insert m k v) j = if k = j then some v else SMap.find m j := by
  induction m with
  | nil => simp [SMap.insert, SMap.find]
  | cons p t ih =>
    obtain ⟨k', v'⟩ := p
    by_cases h1 : k < k'
    · simp [SMap.insert, SMap.find, h1]
    · by_cases h2 : k' = k
      · subst h2; by_cases h3 : k' = j <;> simp [SMap.insert, SMap.find, h3]
      · by_cases h3 : k' = j
        · subst h3; simp [SMap.insert, SMap.find, h1, h2, Ne.symm h2]
        · simp [SMap.insert, SMap.find, h1, h2, h3, ih]

theorem SMap.find_erase (m : SMap α) (k j : Nat) :
    SMap.find (SMap.erase m k) j = if k = j then none else SMap.find m j := by
  induction m with
  | nil => simp [SMap.erase, SMap.find]
  | cons p t ih =>
    obtain ⟨k', v'⟩ := p
    by_cases h2 : k' = k
    · subst h2
      by_cases h3 : k' = j
      · subst h3; simpa [SMap.erase, SMap.find] using ih
      · simp [SMap.erase, SMap.find, h3, ih]
    · by_cases h3 : k' = j
      · subst h3; simp [SMap.erase, SMap.find, h2, Ne.symm h2]
      · simp [SMap.erase, SMap.find, h2, h3, ih]

/-- A key reads what was last written to it; every other key reads as before. -/
theorem SMap.getD_put [DecidableEq α] (m : SMap α) (k j : Nat) (v d : α) :
    SMap.getD (SMap.put m k v d) j d = if k = j then v else SMap.getD m j d := by
  by_cases hv : v = d
  · subst hv; by_cases h : k = j <;> simp [SMap.put, SMap.getD, SMap.find_erase, h]
  · by_cases h : k = j <;> simp [SMap.put, SMap.getD, SMap.find_insert, hv, h]

@[simp] theorem SMap.getD_put_self [DecidableEq α] (m : SMap α) (k : Nat) (v d : α) :
    SMap.getD (SMap.put m k v d) k d = v := by simp [SMap.getD_put]

theorem SMap.getD_put_ne [DecidableEq α] (m : SMap α) {k j : Nat} (v d : α) (h : k ≠ j) :
    SMap.getD (SMap.put m k v d) j d = SMap.getD m j d := by simp [SMap.getD_put, h]

/-- Every other key reads as before, whatever an unlisted key reads as. -/
theorem SMap.find_put_ne [DecidableEq α] (m : SMap α) {k j : Nat} (v d : α) (h : k ≠ j) :
    SMap.find (SMap.put m k v d) j = SMap.find m j := by
  by_cases hv : v = d <;> simp [SMap.put, SMap.find_insert, SMap.find_erase, hv, h]

@[simp] theorem SMap.getD_nil (j : Nat) (d : α) : SMap.getD ([] : SMap α) j d = d := rfl

/-- Keys outside a run of writes read as before. -/
theorem SMap.getD_putList_out [DecidableEq α] (l : List α) (m : SMap α) (k j : Nat) (d : α)
    (h : j < k ∨ k + l.length ≤ j) : SMap.getD (SMap.putList m k d l) j d = SMap.getD m j d := by
  induction l generalizing m k with
  | nil => rfl
  | cons v t ih =>
    simp only [List.length_cons] at h
    rw [SMap.putList, ih _ _ (by omega), SMap.getD_put_ne _ _ _ (by omega)]

/-- A key inside a run of writes reads the value written there. -/
theorem SMap.getD_putList_in [DecidableEq α] (l : List α) (m : SMap α) (k i : Nat) (d : α) (h : i < l.length) :
    SMap.getD (SMap.putList m k d l) (k + i) d = l[i] := by
  induction l generalizing m k i with
  | nil => simp at h
  | cons v t ih =>
    cases i with
    | zero => rw [SMap.putList, Nat.add_zero, SMap.getD_putList_out _ _ _ _ _ (by omega)]; simp
    | succ i =>
      have h' : i < t.length := by simpa using h
      have := ih (SMap.put m k v d) (k + 1) i h'
      rw [SMap.putList, show k + (i + 1) = k + 1 + i by omega, this]; rfl

/-- What a run of keys reads after the same run was written. -/
theorem SMap.getList_putList [DecidableEq α] (l : List α) (m : SMap α) (k : Nat) (d : α) :
    SMap.getList (SMap.putList m k d l) k d l.length = l := by
  induction l generalizing m k with
  | nil => rfl
  | cons v t ih =>
    have h : SMap.getD (SMap.putList (SMap.put m k v d) (k + 1) d t) k d = v := by
      rw [SMap.getD_putList_out _ _ _ _ _ (by omega)]; simp
    simp only [List.length_cons, SMap.putList, SMap.getList, h]
    rw [ih]

/-! ### The canonical form -/

theorem SMap.risesFrom_insert (m : SMap α) (k lo : Nat) (v : α) (h : SMap.risesFrom m lo = true) (hk : lo < k) :
    SMap.risesFrom (SMap.insert m k v) lo = true := by
  induction m generalizing lo with
  | nil => simp [SMap.insert, SMap.risesFrom, hk]
  | cons p t ih =>
    obtain ⟨k', v'⟩ := p
    simp only [SMap.risesFrom, Bool.and_eq_true, decide_eq_true_eq] at h
    by_cases h1 : k < k'
    · simp [SMap.insert, SMap.risesFrom, h1, hk, h.2]
    · by_cases h2 : k' = k
      · subst h2; simp [SMap.insert, SMap.risesFrom, hk, h.2]
      · simp [SMap.insert, SMap.risesFrom, h1, h2, h.1, ih k' h.2 (by omega)]

theorem SMap.risesFrom_le (m : SMap α) {lo lo' : Nat} (hl : lo' ≤ lo) (h : SMap.risesFrom m lo = true) :
    SMap.risesFrom m lo' = true := by
  cases m with
  | nil => rfl
  | cons p t =>
    obtain ⟨k', v'⟩ := p
    simp only [SMap.risesFrom, Bool.and_eq_true, decide_eq_true_eq] at h ⊢
    exact ⟨by omega, h.2⟩

theorem SMap.risesFrom_erase (m : SMap α) (k lo : Nat) (h : SMap.risesFrom m lo = true) :
    SMap.risesFrom (SMap.erase m k) lo = true := by
  induction m generalizing lo with
  | nil => rfl
  | cons p t ih =>
    obtain ⟨k', v'⟩ := p
    simp only [SMap.risesFrom, Bool.and_eq_true, decide_eq_true_eq] at h
    by_cases h2 : k' = k
    · simpa [SMap.erase, h2] using ih lo (SMap.risesFrom_le t (by omega) h.2)
    · simp [SMap.erase, SMap.risesFrom, h2, h.1, ih k' h.2]

theorem SMap.rises_insert (m : SMap α) (k : Nat) (v : α) (h : SMap.rises m = true) : SMap.rises (SMap.insert m k v) = true := by
  cases m with
  | nil => rfl
  | cons p t =>
    obtain ⟨k', v'⟩ := p
    simp only [SMap.rises] at h
    by_cases h1 : k < k'
    · simp [SMap.insert, SMap.rises, SMap.risesFrom, h1, h]
    · by_cases h2 : k' = k
      · subst h2; simp [SMap.insert, SMap.rises, h]
      · simp [SMap.insert, SMap.rises, h1, h2, SMap.risesFrom_insert t k k' v h (by omega)]

theorem SMap.rises_of_risesFrom (m : SMap α) {lo : Nat} (h : SMap.risesFrom m lo = true) : SMap.rises m = true := by
  cases m with
  | nil => rfl
  | cons p t => obtain ⟨k', v'⟩ := p; simp only [SMap.risesFrom, Bool.and_eq_true] at h; exact h.2

theorem SMap.rises_erase (m : SMap α) (k : Nat) (h : SMap.rises m = true) : SMap.rises (SMap.erase m k) = true := by
  cases m with
  | nil => rfl
  | cons p t =>
    obtain ⟨k', v'⟩ := p
    simp only [SMap.rises] at h
    by_cases h2 : k' = k
    · simpa [SMap.erase, h2] using SMap.rises_of_risesFrom _ (SMap.risesFrom_erase t k k' h)
    · simp [SMap.erase, SMap.rises, h2, SMap.risesFrom_erase t k k' h]

theorem SMap.mem_insert {m : SMap α} {k : Nat} {v : α} {p : Nat × α} (h : p ∈ SMap.insert m k v) : p = (k, v) ∨ p ∈ m := by
  induction m with
  | nil => simpa [SMap.insert] using h
  | cons q t ih =>
    obtain ⟨k', v'⟩ := q
    simp only [SMap.insert] at h
    split at h
    · simpa using h
    · split at h
      · rcases List.mem_cons.1 h with h | h
        · exact .inl h
        · exact .inr (List.mem_cons_of_mem _ h)
      · rcases List.mem_cons.1 h with h | h
        · exact .inr (h ▸ List.mem_cons_self)
        · exact (ih h).imp id (List.mem_cons_of_mem _)

theorem SMap.mem_erase {m : SMap α} {k : Nat} {p : Nat × α} (h : p ∈ SMap.erase m k) : p ∈ m := by
  induction m with
  | nil => exact h
  | cons q t ih =>
    obtain ⟨k', v'⟩ := q
    simp only [SMap.erase] at h
    split at h
    · exact List.mem_cons_of_mem _ (ih h)
    · rcases List.mem_cons.1 h with h | h
      · exact h ▸ List.mem_cons_self
      · exact List.mem_cons_of_mem _ (ih h)

/-- Writing keeps the canonical form. -/
theorem SMap.wf_put [DecidableEq α] (f : Nat → α) (m : SMap α) (k : Nat) (v : α) (h : SMap.wf f m = true) :
    SMap.wf f (SMap.put m k v (f k)) = true := by
  simp only [SMap.wf, Bool.and_eq_true, List.all_eq_true, decide_eq_true_eq] at h ⊢
  by_cases hv : v = f k
  · simp only [SMap.put, hv, if_true]
    exact ⟨SMap.rises_erase m k h.1, fun p hp => h.2 p (SMap.mem_erase hp)⟩
  · simp only [SMap.put, hv, if_false]
    refine ⟨SMap.rises_insert m k v h.1, fun p hp => ?_⟩
    rcases SMap.mem_insert hp with rfl | hp
    · exact hv
    · exact h.2 p hp

/-- Writing a run of values keeps the canonical form. -/
theorem SMap.wf_putList [DecidableEq α] (d : α) (l : List α) (m : SMap α) (k : Nat)
    (h : SMap.wf (fun _ => d) m = true) : SMap.wf (fun _ => d) (SMap.putList m k d l) = true := by
  induction l generalizing m k with
  | nil => exact h
  | cons v t ih => exact ih _ _ (SMap.wf_put (fun _ => d) m k v h)

theorem SMap.wf_fill [DecidableEq α] (d : α) (m : SMap α) (k : Nat) (v : α) (n : Nat)
    (h : SMap.wf (fun _ => d) m = true) : SMap.wf (fun _ => d) (SMap.fill m k v d n) = true := by
  induction n with
  | zero => exact h
  | succ n ih => exact SMap.wf_put (fun _ => d) _ _ v ih

/-- Keeping some keys leaves their values and lists no other. -/
theorem SMap.find_keep (m : SMap α) (p : Nat → Bool) (k : Nat) : SMap.find (SMap.keep m p) k = if p k then SMap.find m k else none := by
  induction m with
  | nil => simp [SMap.keep, SMap.find]
  | cons e t ih =>
    obtain ⟨j, v⟩ := e
    have h : SMap.keep ((j, v) :: t) p = if p j then (j, v) :: SMap.keep t p else SMap.keep t p := List.filter_cons ..
    rw [h]
    by_cases hj : j = k
    · subst hj
      cases hp : p j with
      | true => simp [SMap.find]
      | false => simpa [hp] using ih
    · cases hp : p j with
      | true => simpa [SMap.find, hj] using ih
      | false => simpa [SMap.find, hj] using ih

theorem SMap.risesFrom_keep (m : SMap α) (p : Nat → Bool) (lo : Nat) (h : SMap.risesFrom m lo = true) :
    SMap.risesFrom (SMap.keep m p) lo = true := by
  induction m generalizing lo with
  | nil => rfl
  | cons q t ih =>
    obtain ⟨k', v'⟩ := q
    simp only [SMap.risesFrom, Bool.and_eq_true, decide_eq_true_eq] at h
    by_cases hp : p k' = true
    · have := ih k' h.2
      simp only [SMap.keep] at this ⊢
      simp [hp, SMap.risesFrom, h.1, this]
    · have := ih lo (SMap.risesFrom_le t (by omega) h.2)
      simp only [SMap.keep] at this ⊢
      simp [hp, this]

/-- Dropping entries keeps the canonical form. -/
theorem SMap.wf_keep [DecidableEq α] (f : Nat → α) (m : SMap α) (p : Nat → Bool) (h : SMap.wf f m = true) :
    SMap.wf f (SMap.keep m p) = true := by
  simp only [SMap.wf, Bool.and_eq_true, List.all_eq_true, decide_eq_true_eq] at h ⊢
  refine ⟨?_, fun q hq => h.2 q ((List.mem_filter.1 hq).1)⟩
  cases m with
  | nil => rfl
  | cons q t =>
    obtain ⟨k', v'⟩ := q
    simp only [SMap.rises] at h
    by_cases hp : p k' = true
    · have := SMap.risesFrom_keep t p k' h.1
      simp only [SMap.keep] at this ⊢
      simp [hp, SMap.rises, this]
    · have := SMap.rises_of_risesFrom _ (SMap.risesFrom_keep t p k' h.1)
      simp only [SMap.keep] at this ⊢
      simp [hp, this]

end Sys2Proof.Machine
end

