-- ==== Sys2Proof/Laws/State.lean ====
section
/-!
SUPPORT. What each named update does to each field of the block, and to each reader of it: one lemma per field per update.
-/

namespace Sys2Proof.Machine

variable (d : Device)

/-! ### Device.wr -/

@[simp] theorem Device.wr_dict (k v : Nat) : (d.wr k v).dict = SMap.put d.dict k v (dictDefault k) := rfl
@[simp] theorem Device.wr_blobs (k v : Nat) : (d.wr k v).blobs = d.blobs := rfl
@[simp] theorem Device.wr_staged (k v : Nat) : (d.wr k v).staged = d.staged := rfl
@[simp] theorem Device.wr_stagedNew (k v : Nat) : (d.wr k v).stagedNew = d.stagedNew := rfl
@[simp] theorem Device.wr_reqs (k v : Nat) : (d.wr k v).reqs = d.reqs := rfl
@[simp] theorem Device.wr_log (k v : Nat) : (d.wr k v).log = d.log := rfl
@[simp] theorem Device.wr_rings (k v : Nat) : (d.wr k v).rings = d.rings := rfl
@[simp] theorem Device.wr_host (k v : Nat) : (d.wr k v).host = d.host := rfl
@[simp] theorem Device.wr_boot (k v : Nat) : (d.wr k v).boot = d.boot := rfl
@[simp] theorem Device.wr_loader (k v : Nat) : (d.wr k v).loader = d.loader := rfl
@[simp] theorem Device.wr_strm (k v : Nat) : (d.wr k v).strm = d.strm := rfl
@[simp] theorem Device.wr_cores (k v : Nat) : (d.wr k v).cores = d.cores := rfl
@[simp] theorem Device.wr_mem (k v : Nat) : (d.wr k v).mem = d.mem := rfl
@[simp] theorem Device.wr_hamper (k v : Nat) : (d.wr k v).hamper = d.hamper := rfl
@[simp] theorem Device.wr_links (k v : Nat) : (d.wr k v).links = d.links := rfl
@[simp] theorem Device.wr_guest (k v : Nat) : (d.wr k v).guest = d.guest := rfl
@[simp] theorem Device.wr_safety (k v : Nat) : (d.wr k v).safety = d.safety := rfl
@[simp] theorem Device.wr_slots (k v : Nat) : (d.wr k v).slots = d.slots := rfl
@[simp] theorem Device.wr_world (k v : Nat) : (d.wr k v).world = d.world := rfl
@[simp] theorem Device.wr_fusion (k v : Nat) : (d.wr k v).fusion = d.fusion := rfl
@[simp] theorem Device.wr_planning (k v : Nat) : (d.wr k v).planning = d.planning := rfl
@[simp] theorem Device.wr_job (k v : Nat) : (d.wr k v).job = d.job := rfl
@[simp] theorem Device.wr_power (k v : Nat) : (d.wr k v).power = d.power := rfl
@[simp] theorem Device.wr_tallies (k v : Nat) : (d.wr k v).tallies = d.tallies := rfl
@[simp] theorem Device.wr_msix (k v : Nat) : (d.wr k v).msix = d.msix := rfl
@[simp] theorem Device.wr_draws (k v : Nat) : (d.wr k v).draws = d.draws := rfl
@[simp] theorem Device.wr_blob (k v : Nat) (x0 : Nat) : (d.wr k v).blob x0 = d.blob x0 := rfl
@[simp] theorem Device.wr_core (k v : Nat) (x0 : Nat) : (d.wr k v).core x0 = d.core x0 := rfl
@[simp] theorem Device.wr_req (k v : Nat) (x0 : Requester) : (d.wr k v).req x0 = d.req x0 := rfl
@[simp] theorem Device.wr_ring (k v : Nat) (x0 : RingId) : (d.wr k v).ring x0 = d.ring x0 := rfl
@[simp] theorem Device.wr_slot (k v : Nat) (x0 : Nat) : (d.wr k v).slot x0 = d.slot x0 := rfl
@[simp] theorem Device.wr_mport (k v : Nat) (x0 : Nat) : (d.wr k v).mport x0 = d.mport x0 := rfl
@[simp] theorem Device.wr_test (k v : Nat) (x0 : Nat) : (d.wr k v).test x0 = d.test x0 := rfl

/-! ### Device.onBoot -/

@[simp] theorem Device.onBoot_dict (f : Boot → Boot) : (d.onBoot f).dict = d.dict := rfl
@[simp] theorem Device.onBoot_blobs (f : Boot → Boot) : (d.onBoot f).blobs = d.blobs := rfl
@[simp] theorem Device.onBoot_staged (f : Boot → Boot) : (d.onBoot f).staged = d.staged := rfl
@[simp] theorem Device.onBoot_stagedNew (f : Boot → Boot) : (d.onBoot f).stagedNew = d.stagedNew := rfl
@[simp] theorem Device.onBoot_reqs (f : Boot → Boot) : (d.onBoot f).reqs = d.reqs := rfl
@[simp] theorem Device.onBoot_log (f : Boot → Boot) : (d.onBoot f).log = d.log := rfl
@[simp] theorem Device.onBoot_rings (f : Boot → Boot) : (d.onBoot f).rings = d.rings := rfl
@[simp] theorem Device.onBoot_host (f : Boot → Boot) : (d.onBoot f).host = d.host := rfl
@[simp] theorem Device.onBoot_boot (f : Boot → Boot) : (d.onBoot f).boot = f d.boot := rfl
@[simp] theorem Device.onBoot_loader (f : Boot → Boot) : (d.onBoot f).loader = d.loader := rfl
@[simp] theorem Device.onBoot_strm (f : Boot → Boot) : (d.onBoot f).strm = d.strm := rfl
@[simp] theorem Device.onBoot_cores (f : Boot → Boot) : (d.onBoot f).cores = d.cores := rfl
@[simp] theorem Device.onBoot_mem (f : Boot → Boot) : (d.onBoot f).mem = d.mem := rfl
@[simp] theorem Device.onBoot_hamper (f : Boot → Boot) : (d.onBoot f).hamper = d.hamper := rfl
@[simp] theorem Device.onBoot_links (f : Boot → Boot) : (d.onBoot f).links = d.links := rfl
@[simp] theorem Device.onBoot_guest (f : Boot → Boot) : (d.onBoot f).guest = d.guest := rfl
@[simp] theorem Device.onBoot_safety (f : Boot → Boot) : (d.onBoot f).safety = d.safety := rfl
@[simp] theorem Device.onBoot_slots (f : Boot → Boot) : (d.onBoot f).slots = d.slots := rfl
@[simp] theorem Device.onBoot_world (f : Boot → Boot) : (d.onBoot f).world = d.world := rfl
@[simp] theorem Device.onBoot_fusion (f : Boot → Boot) : (d.onBoot f).fusion = d.fusion := rfl
@[simp] theorem Device.onBoot_planning (f : Boot → Boot) : (d.onBoot f).planning = d.planning := rfl
@[simp] theorem Device.onBoot_job (f : Boot → Boot) : (d.onBoot f).job = d.job := rfl
@[simp] theorem Device.onBoot_power (f : Boot → Boot) : (d.onBoot f).power = d.power := rfl
@[simp] theorem Device.onBoot_tallies (f : Boot → Boot) : (d.onBoot f).tallies = d.tallies := rfl
@[simp] theorem Device.onBoot_msix (f : Boot → Boot) : (d.onBoot f).msix = d.msix := rfl
@[simp] theorem Device.onBoot_draws (f : Boot → Boot) : (d.onBoot f).draws = d.draws := rfl
@[simp] theorem Device.onBoot_rd (f : Boot → Boot) (x0 : Nat) : (d.onBoot f).rd x0 = d.rd x0 := rfl
@[simp] theorem Device.onBoot_blob (f : Boot → Boot) (x0 : Nat) : (d.onBoot f).blob x0 = d.blob x0 := rfl
@[simp] theorem Device.onBoot_fn (f : Boot → Boot) (x0 : FnId) : (d.onBoot f).fn x0 = d.fn x0 := rfl
@[simp] theorem Device.onBoot_personality (f : Boot → Boot) : (d.onBoot f).personality = d.personality := rfl
@[simp] theorem Device.onBoot_transition (f : Boot → Boot) : (d.onBoot f).transition = d.transition := rfl
@[simp] theorem Device.onBoot_core (f : Boot → Boot) (x0 : Nat) : (d.onBoot f).core x0 = d.core x0 := rfl
@[simp] theorem Device.onBoot_req (f : Boot → Boot) (x0 : Requester) : (d.onBoot f).req x0 = d.req x0 := rfl
@[simp] theorem Device.onBoot_ring (f : Boot → Boot) (x0 : RingId) : (d.onBoot f).ring x0 = d.ring x0 := rfl
@[simp] theorem Device.onBoot_slot (f : Boot → Boot) (x0 : Nat) : (d.onBoot f).slot x0 = d.slot x0 := rfl
@[simp] theorem Device.onBoot_mport (f : Boot → Boot) (x0 : Nat) : (d.onBoot f).mport x0 = d.mport x0 := rfl
@[simp] theorem Device.onBoot_active (f : Boot → Boot) (x0 : Nat) : (d.onBoot f).active x0 = d.active x0 := rfl
@[simp] theorem Device.onBoot_test (f : Boot → Boot) (x0 : Nat) : (d.onBoot f).test x0 = d.test x0 := rfl

/-! ### Device.onLoader -/

@[simp] theorem Device.onLoader_dict (f : Loader → Loader) : (d.onLoader f).dict = d.dict := rfl
@[simp] theorem Device.onLoader_blobs (f : Loader → Loader) : (d.onLoader f).blobs = d.blobs := rfl
@[simp] theorem Device.onLoader_staged (f : Loader → Loader) : (d.onLoader f).staged = d.staged := rfl
@[simp] theorem Device.onLoader_stagedNew (f : Loader → Loader) : (d.onLoader f).stagedNew = d.stagedNew := rfl
@[simp] theorem Device.onLoader_reqs (f : Loader → Loader) : (d.onLoader f).reqs = d.reqs := rfl
@[simp] theorem Device.onLoader_log (f : Loader → Loader) : (d.onLoader f).log = d.log := rfl
@[simp] theorem Device.onLoader_rings (f : Loader → Loader) : (d.onLoader f).rings = d.rings := rfl
@[simp] theorem Device.onLoader_host (f : Loader → Loader) : (d.onLoader f).host = d.host := rfl
@[simp] theorem Device.onLoader_boot (f : Loader → Loader) : (d.onLoader f).boot = d.boot := rfl
@[simp] theorem Device.onLoader_loader (f : Loader → Loader) : (d.onLoader f).loader = f d.loader := rfl
@[simp] theorem Device.onLoader_strm (f : Loader → Loader) : (d.onLoader f).strm = d.strm := rfl
@[simp] theorem Device.onLoader_cores (f : Loader → Loader) : (d.onLoader f).cores = d.cores := rfl
@[simp] theorem Device.onLoader_mem (f : Loader → Loader) : (d.onLoader f).mem = d.mem := rfl
@[simp] theorem Device.onLoader_hamper (f : Loader → Loader) : (d.onLoader f).hamper = d.hamper := rfl
@[simp] theorem Device.onLoader_links (f : Loader → Loader) : (d.onLoader f).links = d.links := rfl
@[simp] theorem Device.onLoader_guest (f : Loader → Loader) : (d.onLoader f).guest = d.guest := rfl
@[simp] theorem Device.onLoader_safety (f : Loader → Loader) : (d.onLoader f).safety = d.safety := rfl
@[simp] theorem Device.onLoader_slots (f : Loader → Loader) : (d.onLoader f).slots = d.slots := rfl
@[simp] theorem Device.onLoader_world (f : Loader → Loader) : (d.onLoader f).world = d.world := rfl
@[simp] theorem Device.onLoader_fusion (f : Loader → Loader) : (d.onLoader f).fusion = d.fusion := rfl
@[simp] theorem Device.onLoader_planning (f : Loader → Loader) : (d.onLoader f).planning = d.planning := rfl
@[simp] theorem Device.onLoader_job (f : Loader → Loader) : (d.onLoader f).job = d.job := rfl
@[simp] theorem Device.onLoader_power (f : Loader → Loader) : (d.onLoader f).power = d.power := rfl
@[simp] theorem Device.onLoader_tallies (f : Loader → Loader) : (d.onLoader f).tallies = d.tallies := rfl
@[simp] theorem Device.onLoader_msix (f : Loader → Loader) : (d.onLoader f).msix = d.msix := rfl
@[simp] theorem Device.onLoader_draws (f : Loader → Loader) : (d.onLoader f).draws = d.draws := rfl
@[simp] theorem Device.onLoader_rd (f : Loader → Loader) (x0 : Nat) : (d.onLoader f).rd x0 = d.rd x0 := rfl
@[simp] theorem Device.onLoader_blob (f : Loader → Loader) (x0 : Nat) : (d.onLoader f).blob x0 = d.blob x0 := rfl
@[simp] theorem Device.onLoader_shown (f : Loader → Loader) (x0 : Nat) : (d.onLoader f).shown x0 = d.shown x0 := rfl
@[simp] theorem Device.onLoader_fn (f : Loader → Loader) (x0 : FnId) : (d.onLoader f).fn x0 = d.fn x0 := rfl
@[simp] theorem Device.onLoader_personality (f : Loader → Loader) : (d.onLoader f).personality = d.personality := rfl
@[simp] theorem Device.onLoader_transition (f : Loader → Loader) : (d.onLoader f).transition = d.transition := rfl
@[simp] theorem Device.onLoader_core (f : Loader → Loader) (x0 : Nat) : (d.onLoader f).core x0 = d.core x0 := rfl
@[simp] theorem Device.onLoader_req (f : Loader → Loader) (x0 : Requester) : (d.onLoader f).req x0 = d.req x0 := rfl
@[simp] theorem Device.onLoader_ring (f : Loader → Loader) (x0 : RingId) : (d.onLoader f).ring x0 = d.ring x0 := rfl
@[simp] theorem Device.onLoader_slot (f : Loader → Loader) (x0 : Nat) : (d.onLoader f).slot x0 = d.slot x0 := rfl
@[simp] theorem Device.onLoader_mport (f : Loader → Loader) (x0 : Nat) : (d.onLoader f).mport x0 = d.mport x0 := rfl
@[simp] theorem Device.onLoader_active (f : Loader → Loader) (x0 : Nat) : (d.onLoader f).active x0 = d.active x0 := rfl
@[simp] theorem Device.onLoader_test (f : Loader → Loader) (x0 : Nat) : (d.onLoader f).test x0 = d.test x0 := rfl

/-! ### Device.onStrm -/

@[simp] theorem Device.onStrm_dict (f : Stream → Stream) : (d.onStrm f).dict = d.dict := rfl
@[simp] theorem Device.onStrm_blobs (f : Stream → Stream) : (d.onStrm f).blobs = d.blobs := rfl
@[simp] theorem Device.onStrm_staged (f : Stream → Stream) : (d.onStrm f).staged = d.staged := rfl
@[simp] theorem Device.onStrm_stagedNew (f : Stream → Stream) : (d.onStrm f).stagedNew = d.stagedNew := rfl
@[simp] theorem Device.onStrm_reqs (f : Stream → Stream) : (d.onStrm f).reqs = d.reqs := rfl
@[simp] theorem Device.onStrm_log (f : Stream → Stream) : (d.onStrm f).log = d.log := rfl
@[simp] theorem Device.onStrm_rings (f : Stream → Stream) : (d.onStrm f).rings = d.rings := rfl
@[simp] theorem Device.onStrm_host (f : Stream → Stream) : (d.onStrm f).host = d.host := rfl
@[simp] theorem Device.onStrm_boot (f : Stream → Stream) : (d.onStrm f).boot = d.boot := rfl
@[simp] theorem Device.onStrm_loader (f : Stream → Stream) : (d.onStrm f).loader = d.loader := rfl
@[simp] theorem Device.onStrm_strm (f : Stream → Stream) : (d.onStrm f).strm = f d.strm := rfl
@[simp] theorem Device.onStrm_cores (f : Stream → Stream) : (d.onStrm f).cores = d.cores := rfl
@[simp] theorem Device.onStrm_mem (f : Stream → Stream) : (d.onStrm f).mem = d.mem := rfl
@[simp] theorem Device.onStrm_hamper (f : Stream → Stream) : (d.onStrm f).hamper = d.hamper := rfl
@[simp] theorem Device.onStrm_links (f : Stream → Stream) : (d.onStrm f).links = d.links := rfl
@[simp] theorem Device.onStrm_guest (f : Stream → Stream) : (d.onStrm f).guest = d.guest := rfl
@[simp] theorem Device.onStrm_safety (f : Stream → Stream) : (d.onStrm f).safety = d.safety := rfl
@[simp] theorem Device.onStrm_slots (f : Stream → Stream) : (d.onStrm f).slots = d.slots := rfl
@[simp] theorem Device.onStrm_world (f : Stream → Stream) : (d.onStrm f).world = d.world := rfl
@[simp] theorem Device.onStrm_fusion (f : Stream → Stream) : (d.onStrm f).fusion = d.fusion := rfl
@[simp] theorem Device.onStrm_planning (f : Stream → Stream) : (d.onStrm f).planning = d.planning := rfl
@[simp] theorem Device.onStrm_job (f : Stream → Stream) : (d.onStrm f).job = d.job := rfl
@[simp] theorem Device.onStrm_power (f : Stream → Stream) : (d.onStrm f).power = d.power := rfl
@[simp] theorem Device.onStrm_tallies (f : Stream → Stream) : (d.onStrm f).tallies = d.tallies := rfl
@[simp] theorem Device.onStrm_msix (f : Stream → Stream) : (d.onStrm f).msix = d.msix := rfl
@[simp] theorem Device.onStrm_draws (f : Stream → Stream) : (d.onStrm f).draws = d.draws := rfl
@[simp] theorem Device.onStrm_rd (f : Stream → Stream) (x0 : Nat) : (d.onStrm f).rd x0 = d.rd x0 := rfl
@[simp] theorem Device.onStrm_blob (f : Stream → Stream) (x0 : Nat) : (d.onStrm f).blob x0 = d.blob x0 := rfl
@[simp] theorem Device.onStrm_shown (f : Stream → Stream) (x0 : Nat) : (d.onStrm f).shown x0 = d.shown x0 := rfl
@[simp] theorem Device.onStrm_fn (f : Stream → Stream) (x0 : FnId) : (d.onStrm f).fn x0 = d.fn x0 := rfl
@[simp] theorem Device.onStrm_personality (f : Stream → Stream) : (d.onStrm f).personality = d.personality := rfl
@[simp] theorem Device.onStrm_transition (f : Stream → Stream) : (d.onStrm f).transition = d.transition := rfl
@[simp] theorem Device.onStrm_core (f : Stream → Stream) (x0 : Nat) : (d.onStrm f).core x0 = d.core x0 := rfl
@[simp] theorem Device.onStrm_req (f : Stream → Stream) (x0 : Requester) : (d.onStrm f).req x0 = d.req x0 := rfl
@[simp] theorem Device.onStrm_ring (f : Stream → Stream) (x0 : RingId) : (d.onStrm f).ring x0 = d.ring x0 := rfl
@[simp] theorem Device.onStrm_slot (f : Stream → Stream) (x0 : Nat) : (d.onStrm f).slot x0 = d.slot x0 := rfl
@[simp] theorem Device.onStrm_mport (f : Stream → Stream) (x0 : Nat) : (d.onStrm f).mport x0 = d.mport x0 := rfl
@[simp] theorem Device.onStrm_test (f : Stream → Stream) (x0 : Nat) : (d.onStrm f).test x0 = d.test x0 := rfl

/-! ### Device.onMem -/

@[simp] theorem Device.onMem_dict (f : Memory → Memory) : (d.onMem f).dict = d.dict := rfl
@[simp] theorem Device.onMem_blobs (f : Memory → Memory) : (d.onMem f).blobs = d.blobs := rfl
@[simp] theorem Device.onMem_staged (f : Memory → Memory) : (d.onMem f).staged = d.staged := rfl
@[simp] theorem Device.onMem_stagedNew (f : Memory → Memory) : (d.onMem f).stagedNew = d.stagedNew := rfl
@[simp] theorem Device.onMem_reqs (f : Memory → Memory) : (d.onMem f).reqs = d.reqs := rfl
@[simp] theorem Device.onMem_log (f : Memory → Memory) : (d.onMem f).log = d.log := rfl
@[simp] theorem Device.onMem_rings (f : Memory → Memory) : (d.onMem f).rings = d.rings := rfl
@[simp] theorem Device.onMem_host (f : Memory → Memory) : (d.onMem f).host = d.host := rfl
@[simp] theorem Device.onMem_boot (f : Memory → Memory) : (d.onMem f).boot = d.boot := rfl
@[simp] theorem Device.onMem_loader (f : Memory → Memory) : (d.onMem f).loader = d.loader := rfl
@[simp] theorem Device.onMem_strm (f : Memory → Memory) : (d.onMem f).strm = d.strm := rfl
@[simp] theorem Device.onMem_cores (f : Memory → Memory) : (d.onMem f).cores = d.cores := rfl
@[simp] theorem Device.onMem_mem (f : Memory → Memory) : (d.onMem f).mem = f d.mem := rfl
@[simp] theorem Device.onMem_hamper (f : Memory → Memory) : (d.onMem f).hamper = d.hamper := rfl
@[simp] theorem Device.onMem_links (f : Memory → Memory) : (d.onMem f).links = d.links := rfl
@[simp] theorem Device.onMem_guest (f : Memory → Memory) : (d.onMem f).guest = d.guest := rfl
@[simp] theorem Device.onMem_safety (f : Memory → Memory) : (d.onMem f).safety = d.safety := rfl
@[simp] theorem Device.onMem_slots (f : Memory → Memory) : (d.onMem f).slots = d.slots := rfl
@[simp] theorem Device.onMem_world (f : Memory → Memory) : (d.onMem f).world = d.world := rfl
@[simp] theorem Device.onMem_fusion (f : Memory → Memory) : (d.onMem f).fusion = d.fusion := rfl
@[simp] theorem Device.onMem_planning (f : Memory → Memory) : (d.onMem f).planning = d.planning := rfl
@[simp] theorem Device.onMem_job (f : Memory → Memory) : (d.onMem f).job = d.job := rfl
@[simp] theorem Device.onMem_power (f : Memory → Memory) : (d.onMem f).power = d.power := rfl
@[simp] theorem Device.onMem_tallies (f : Memory → Memory) : (d.onMem f).tallies = d.tallies := rfl
@[simp] theorem Device.onMem_msix (f : Memory → Memory) : (d.onMem f).msix = d.msix := rfl
@[simp] theorem Device.onMem_draws (f : Memory → Memory) : (d.onMem f).draws = d.draws := rfl
@[simp] theorem Device.onMem_rd (f : Memory → Memory) (x0 : Nat) : (d.onMem f).rd x0 = d.rd x0 := rfl
@[simp] theorem Device.onMem_blob (f : Memory → Memory) (x0 : Nat) : (d.onMem f).blob x0 = d.blob x0 := rfl
@[simp] theorem Device.onMem_shown (f : Memory → Memory) (x0 : Nat) : (d.onMem f).shown x0 = d.shown x0 := rfl
@[simp] theorem Device.onMem_fn (f : Memory → Memory) (x0 : FnId) : (d.onMem f).fn x0 = d.fn x0 := rfl
@[simp] theorem Device.onMem_personality (f : Memory → Memory) : (d.onMem f).personality = d.personality := rfl
@[simp] theorem Device.onMem_transition (f : Memory → Memory) : (d.onMem f).transition = d.transition := rfl
@[simp] theorem Device.onMem_core (f : Memory → Memory) (x0 : Nat) : (d.onMem f).core x0 = d.core x0 := rfl
@[simp] theorem Device.onMem_req (f : Memory → Memory) (x0 : Requester) : (d.onMem f).req x0 = d.req x0 := rfl
@[simp] theorem Device.onMem_ring (f : Memory → Memory) (x0 : RingId) : (d.onMem f).ring x0 = d.ring x0 := rfl
@[simp] theorem Device.onMem_slot (f : Memory → Memory) (x0 : Nat) : (d.onMem f).slot x0 = d.slot x0 := rfl
@[simp] theorem Device.onMem_active (f : Memory → Memory) (x0 : Nat) : (d.onMem f).active x0 = d.active x0 := rfl
@[simp] theorem Device.onMem_test (f : Memory → Memory) (x0 : Nat) : (d.onMem f).test x0 = d.test x0 := rfl

/-! ### Device.onSafety -/

@[simp] theorem Device.onSafety_dict (f : Safety → Safety) : (d.onSafety f).dict = d.dict := rfl
@[simp] theorem Device.onSafety_blobs (f : Safety → Safety) : (d.onSafety f).blobs = d.blobs := rfl
@[simp] theorem Device.onSafety_staged (f : Safety → Safety) : (d.onSafety f).staged = d.staged := rfl
@[simp] theorem Device.onSafety_stagedNew (f : Safety → Safety) : (d.onSafety f).stagedNew = d.stagedNew := rfl
@[simp] theorem Device.onSafety_reqs (f : Safety → Safety) : (d.onSafety f).reqs = d.reqs := rfl
@[simp] theorem Device.onSafety_log (f : Safety → Safety) : (d.onSafety f).log = d.log := rfl
@[simp] theorem Device.onSafety_rings (f : Safety → Safety) : (d.onSafety f).rings = d.rings := rfl
@[simp] theorem Device.onSafety_host (f : Safety → Safety) : (d.onSafety f).host = d.host := rfl
@[simp] theorem Device.onSafety_boot (f : Safety → Safety) : (d.onSafety f).boot = d.boot := rfl
@[simp] theorem Device.onSafety_loader (f : Safety → Safety) : (d.onSafety f).loader = d.loader := rfl
@[simp] theorem Device.onSafety_strm (f : Safety → Safety) : (d.onSafety f).strm = d.strm := rfl
@[simp] theorem Device.onSafety_cores (f : Safety → Safety) : (d.onSafety f).cores = d.cores := rfl
@[simp] theorem Device.onSafety_mem (f : Safety → Safety) : (d.onSafety f).mem = d.mem := rfl
@[simp] theorem Device.onSafety_hamper (f : Safety → Safety) : (d.onSafety f).hamper = d.hamper := rfl
@[simp] theorem Device.onSafety_links (f : Safety → Safety) : (d.onSafety f).links = d.links := rfl
@[simp] theorem Device.onSafety_guest (f : Safety → Safety) : (d.onSafety f).guest = d.guest := rfl
@[simp] theorem Device.onSafety_safety (f : Safety → Safety) : (d.onSafety f).safety = f d.safety := rfl
@[simp] theorem Device.onSafety_slots (f : Safety → Safety) : (d.onSafety f).slots = d.slots := rfl
@[simp] theorem Device.onSafety_world (f : Safety → Safety) : (d.onSafety f).world = d.world := rfl
@[simp] theorem Device.onSafety_fusion (f : Safety → Safety) : (d.onSafety f).fusion = d.fusion := rfl
@[simp] theorem Device.onSafety_planning (f : Safety → Safety) : (d.onSafety f).planning = d.planning := rfl
@[simp] theorem Device.onSafety_job (f : Safety → Safety) : (d.onSafety f).job = d.job := rfl
@[simp] theorem Device.onSafety_power (f : Safety → Safety) : (d.onSafety f).power = d.power := rfl
@[simp] theorem Device.onSafety_tallies (f : Safety → Safety) : (d.onSafety f).tallies = d.tallies := rfl
@[simp] theorem Device.onSafety_msix (f : Safety → Safety) : (d.onSafety f).msix = d.msix := rfl
@[simp] theorem Device.onSafety_draws (f : Safety → Safety) : (d.onSafety f).draws = d.draws := rfl
@[simp] theorem Device.onSafety_rd (f : Safety → Safety) (x0 : Nat) : (d.onSafety f).rd x0 = d.rd x0 := rfl
@[simp] theorem Device.onSafety_blob (f : Safety → Safety) (x0 : Nat) : (d.onSafety f).blob x0 = d.blob x0 := rfl
@[simp] theorem Device.onSafety_shown (f : Safety → Safety) (x0 : Nat) : (d.onSafety f).shown x0 = d.shown x0 := rfl
@[simp] theorem Device.onSafety_fn (f : Safety → Safety) (x0 : FnId) : (d.onSafety f).fn x0 = d.fn x0 := rfl
@[simp] theorem Device.onSafety_personality (f : Safety → Safety) : (d.onSafety f).personality = d.personality := rfl
@[simp] theorem Device.onSafety_transition (f : Safety → Safety) : (d.onSafety f).transition = d.transition := rfl
@[simp] theorem Device.onSafety_core (f : Safety → Safety) (x0 : Nat) : (d.onSafety f).core x0 = d.core x0 := rfl
@[simp] theorem Device.onSafety_req (f : Safety → Safety) (x0 : Requester) : (d.onSafety f).req x0 = d.req x0 := rfl
@[simp] theorem Device.onSafety_ring (f : Safety → Safety) (x0 : RingId) : (d.onSafety f).ring x0 = d.ring x0 := rfl
@[simp] theorem Device.onSafety_slot (f : Safety → Safety) (x0 : Nat) : (d.onSafety f).slot x0 = d.slot x0 := rfl
@[simp] theorem Device.onSafety_mport (f : Safety → Safety) (x0 : Nat) : (d.onSafety f).mport x0 = d.mport x0 := rfl
@[simp] theorem Device.onSafety_active (f : Safety → Safety) (x0 : Nat) : (d.onSafety f).active x0 = d.active x0 := rfl

/-! ### Device.onPower -/

@[simp] theorem Device.onPower_dict (f : Power → Power) : (d.onPower f).dict = d.dict := rfl
@[simp] theorem Device.onPower_blobs (f : Power → Power) : (d.onPower f).blobs = d.blobs := rfl
@[simp] theorem Device.onPower_staged (f : Power → Power) : (d.onPower f).staged = d.staged := rfl
@[simp] theorem Device.onPower_stagedNew (f : Power → Power) : (d.onPower f).stagedNew = d.stagedNew := rfl
@[simp] theorem Device.onPower_reqs (f : Power → Power) : (d.onPower f).reqs = d.reqs := rfl
@[simp] theorem Device.onPower_log (f : Power → Power) : (d.onPower f).log = d.log := rfl
@[simp] theorem Device.onPower_rings (f : Power → Power) : (d.onPower f).rings = d.rings := rfl
@[simp] theorem Device.onPower_host (f : Power → Power) : (d.onPower f).host = d.host := rfl
@[simp] theorem Device.onPower_boot (f : Power → Power) : (d.onPower f).boot = d.boot := rfl
@[simp] theorem Device.onPower_loader (f : Power → Power) : (d.onPower f).loader = d.loader := rfl
@[simp] theorem Device.onPower_strm (f : Power → Power) : (d.onPower f).strm = d.strm := rfl
@[simp] theorem Device.onPower_cores (f : Power → Power) : (d.onPower f).cores = d.cores := rfl
@[simp] theorem Device.onPower_mem (f : Power → Power) : (d.onPower f).mem = d.mem := rfl
@[simp] theorem Device.onPower_hamper (f : Power → Power) : (d.onPower f).hamper = d.hamper := rfl
@[simp] theorem Device.onPower_links (f : Power → Power) : (d.onPower f).links = d.links := rfl
@[simp] theorem Device.onPower_guest (f : Power → Power) : (d.onPower f).guest = d.guest := rfl
@[simp] theorem Device.onPower_safety (f : Power → Power) : (d.onPower f).safety = d.safety := rfl
@[simp] theorem Device.onPower_slots (f : Power → Power) : (d.onPower f).slots = d.slots := rfl
@[simp] theorem Device.onPower_world (f : Power → Power) : (d.onPower f).world = d.world := rfl
@[simp] theorem Device.onPower_fusion (f : Power → Power) : (d.onPower f).fusion = d.fusion := rfl
@[simp] theorem Device.onPower_planning (f : Power → Power) : (d.onPower f).planning = d.planning := rfl
@[simp] theorem Device.onPower_job (f : Power → Power) : (d.onPower f).job = d.job := rfl
@[simp] theorem Device.onPower_power (f : Power → Power) : (d.onPower f).power = f d.power := rfl
@[simp] theorem Device.onPower_tallies (f : Power → Power) : (d.onPower f).tallies = d.tallies := rfl
@[simp] theorem Device.onPower_msix (f : Power → Power) : (d.onPower f).msix = d.msix := rfl
@[simp] theorem Device.onPower_draws (f : Power → Power) : (d.onPower f).draws = d.draws := rfl
@[simp] theorem Device.onPower_rd (f : Power → Power) (x0 : Nat) : (d.onPower f).rd x0 = d.rd x0 := rfl
@[simp] theorem Device.onPower_blob (f : Power → Power) (x0 : Nat) : (d.onPower f).blob x0 = d.blob x0 := rfl
@[simp] theorem Device.onPower_shown (f : Power → Power) (x0 : Nat) : (d.onPower f).shown x0 = d.shown x0 := rfl
@[simp] theorem Device.onPower_fn (f : Power → Power) (x0 : FnId) : (d.onPower f).fn x0 = d.fn x0 := rfl
@[simp] theorem Device.onPower_personality (f : Power → Power) : (d.onPower f).personality = d.personality := rfl
@[simp] theorem Device.onPower_transition (f : Power → Power) : (d.onPower f).transition = d.transition := rfl
@[simp] theorem Device.onPower_core (f : Power → Power) (x0 : Nat) : (d.onPower f).core x0 = d.core x0 := rfl
@[simp] theorem Device.onPower_req (f : Power → Power) (x0 : Requester) : (d.onPower f).req x0 = d.req x0 := rfl
@[simp] theorem Device.onPower_ring (f : Power → Power) (x0 : RingId) : (d.onPower f).ring x0 = d.ring x0 := rfl
@[simp] theorem Device.onPower_slot (f : Power → Power) (x0 : Nat) : (d.onPower f).slot x0 = d.slot x0 := rfl
@[simp] theorem Device.onPower_mport (f : Power → Power) (x0 : Nat) : (d.onPower f).mport x0 = d.mport x0 := rfl
@[simp] theorem Device.onPower_active (f : Power → Power) (x0 : Nat) : (d.onPower f).active x0 = d.active x0 := rfl
@[simp] theorem Device.onPower_test (f : Power → Power) (x0 : Nat) : (d.onPower f).test x0 = d.test x0 := rfl

/-! ### Device.onJob -/

@[simp] theorem Device.onJob_dict (f : Job → Job) : (d.onJob f).dict = d.dict := rfl
@[simp] theorem Device.onJob_blobs (f : Job → Job) : (d.onJob f).blobs = d.blobs := rfl
@[simp] theorem Device.onJob_staged (f : Job → Job) : (d.onJob f).staged = d.staged := rfl
@[simp] theorem Device.onJob_stagedNew (f : Job → Job) : (d.onJob f).stagedNew = d.stagedNew := rfl
@[simp] theorem Device.onJob_reqs (f : Job → Job) : (d.onJob f).reqs = d.reqs := rfl
@[simp] theorem Device.onJob_log (f : Job → Job) : (d.onJob f).log = d.log := rfl
@[simp] theorem Device.onJob_rings (f : Job → Job) : (d.onJob f).rings = d.rings := rfl
@[simp] theorem Device.onJob_host (f : Job → Job) : (d.onJob f).host = d.host := rfl
@[simp] theorem Device.onJob_boot (f : Job → Job) : (d.onJob f).boot = d.boot := rfl
@[simp] theorem Device.onJob_loader (f : Job → Job) : (d.onJob f).loader = d.loader := rfl
@[simp] theorem Device.onJob_strm (f : Job → Job) : (d.onJob f).strm = d.strm := rfl
@[simp] theorem Device.onJob_cores (f : Job → Job) : (d.onJob f).cores = d.cores := rfl
@[simp] theorem Device.onJob_mem (f : Job → Job) : (d.onJob f).mem = d.mem := rfl
@[simp] theorem Device.onJob_hamper (f : Job → Job) : (d.onJob f).hamper = d.hamper := rfl
@[simp] theorem Device.onJob_links (f : Job → Job) : (d.onJob f).links = d.links := rfl
@[simp] theorem Device.onJob_guest (f : Job → Job) : (d.onJob f).guest = d.guest := rfl
@[simp] theorem Device.onJob_safety (f : Job → Job) : (d.onJob f).safety = d.safety := rfl
@[simp] theorem Device.onJob_slots (f : Job → Job) : (d.onJob f).slots = d.slots := rfl
@[simp] theorem Device.onJob_world (f : Job → Job) : (d.onJob f).world = d.world := rfl
@[simp] theorem Device.onJob_fusion (f : Job → Job) : (d.onJob f).fusion = d.fusion := rfl
@[simp] theorem Device.onJob_planning (f : Job → Job) : (d.onJob f).planning = d.planning := rfl
@[simp] theorem Device.onJob_job (f : Job → Job) : (d.onJob f).job = f d.job := rfl
@[simp] theorem Device.onJob_power (f : Job → Job) : (d.onJob f).power = d.power := rfl
@[simp] theorem Device.onJob_tallies (f : Job → Job) : (d.onJob f).tallies = d.tallies := rfl
@[simp] theorem Device.onJob_msix (f : Job → Job) : (d.onJob f).msix = d.msix := rfl
@[simp] theorem Device.onJob_draws (f : Job → Job) : (d.onJob f).draws = d.draws := rfl
@[simp] theorem Device.onJob_rd (f : Job → Job) (x0 : Nat) : (d.onJob f).rd x0 = d.rd x0 := rfl
@[simp] theorem Device.onJob_blob (f : Job → Job) (x0 : Nat) : (d.onJob f).blob x0 = d.blob x0 := rfl
@[simp] theorem Device.onJob_shown (f : Job → Job) (x0 : Nat) : (d.onJob f).shown x0 = d.shown x0 := rfl
@[simp] theorem Device.onJob_fn (f : Job → Job) (x0 : FnId) : (d.onJob f).fn x0 = d.fn x0 := rfl
@[simp] theorem Device.onJob_personality (f : Job → Job) : (d.onJob f).personality = d.personality := rfl
@[simp] theorem Device.onJob_transition (f : Job → Job) : (d.onJob f).transition = d.transition := rfl
@[simp] theorem Device.onJob_core (f : Job → Job) (x0 : Nat) : (d.onJob f).core x0 = d.core x0 := rfl
@[simp] theorem Device.onJob_req (f : Job → Job) (x0 : Requester) : (d.onJob f).req x0 = d.req x0 := rfl
@[simp] theorem Device.onJob_ring (f : Job → Job) (x0 : RingId) : (d.onJob f).ring x0 = d.ring x0 := rfl
@[simp] theorem Device.onJob_slot (f : Job → Job) (x0 : Nat) : (d.onJob f).slot x0 = d.slot x0 := rfl
@[simp] theorem Device.onJob_mport (f : Job → Job) (x0 : Nat) : (d.onJob f).mport x0 = d.mport x0 := rfl
@[simp] theorem Device.onJob_active (f : Job → Job) (x0 : Nat) : (d.onJob f).active x0 = d.active x0 := rfl
@[simp] theorem Device.onJob_test (f : Job → Job) (x0 : Nat) : (d.onJob f).test x0 = d.test x0 := rfl

/-! ### Device.onGuest -/

@[simp] theorem Device.onGuest_dict (f : Guest → Guest) : (d.onGuest f).dict = d.dict := rfl
@[simp] theorem Device.onGuest_blobs (f : Guest → Guest) : (d.onGuest f).blobs = d.blobs := rfl
@[simp] theorem Device.onGuest_staged (f : Guest → Guest) : (d.onGuest f).staged = d.staged := rfl
@[simp] theorem Device.onGuest_stagedNew (f : Guest → Guest) : (d.onGuest f).stagedNew = d.stagedNew := rfl
@[simp] theorem Device.onGuest_reqs (f : Guest → Guest) : (d.onGuest f).reqs = d.reqs := rfl
@[simp] theorem Device.onGuest_log (f : Guest → Guest) : (d.onGuest f).log = d.log := rfl
@[simp] theorem Device.onGuest_rings (f : Guest → Guest) : (d.onGuest f).rings = d.rings := rfl
@[simp] theorem Device.onGuest_host (f : Guest → Guest) : (d.onGuest f).host = d.host := rfl
@[simp] theorem Device.onGuest_boot (f : Guest → Guest) : (d.onGuest f).boot = d.boot := rfl
@[simp] theorem Device.onGuest_loader (f : Guest → Guest) : (d.onGuest f).loader = d.loader := rfl
@[simp] theorem Device.onGuest_strm (f : Guest → Guest) : (d.onGuest f).strm = d.strm := rfl
@[simp] theorem Device.onGuest_cores (f : Guest → Guest) : (d.onGuest f).cores = d.cores := rfl
@[simp] theorem Device.onGuest_mem (f : Guest → Guest) : (d.onGuest f).mem = d.mem := rfl
@[simp] theorem Device.onGuest_hamper (f : Guest → Guest) : (d.onGuest f).hamper = d.hamper := rfl
@[simp] theorem Device.onGuest_links (f : Guest → Guest) : (d.onGuest f).links = d.links := rfl
@[simp] theorem Device.onGuest_guest (f : Guest → Guest) : (d.onGuest f).guest = f d.guest := rfl
@[simp] theorem Device.onGuest_safety (f : Guest → Guest) : (d.onGuest f).safety = d.safety := rfl
@[simp] theorem Device.onGuest_slots (f : Guest → Guest) : (d.onGuest f).slots = d.slots := rfl
@[simp] theorem Device.onGuest_world (f : Guest → Guest) : (d.onGuest f).world = d.world := rfl
@[simp] theorem Device.onGuest_fusion (f : Guest → Guest) : (d.onGuest f).fusion = d.fusion := rfl
@[simp] theorem Device.onGuest_planning (f : Guest → Guest) : (d.onGuest f).planning = d.planning := rfl
@[simp] theorem Device.onGuest_job (f : Guest → Guest) : (d.onGuest f).job = d.job := rfl
@[simp] theorem Device.onGuest_power (f : Guest → Guest) : (d.onGuest f).power = d.power := rfl
@[simp] theorem Device.onGuest_tallies (f : Guest → Guest) : (d.onGuest f).tallies = d.tallies := rfl
@[simp] theorem Device.onGuest_msix (f : Guest → Guest) : (d.onGuest f).msix = d.msix := rfl
@[simp] theorem Device.onGuest_draws (f : Guest → Guest) : (d.onGuest f).draws = d.draws := rfl
@[simp] theorem Device.onGuest_rd (f : Guest → Guest) (x0 : Nat) : (d.onGuest f).rd x0 = d.rd x0 := rfl
@[simp] theorem Device.onGuest_blob (f : Guest → Guest) (x0 : Nat) : (d.onGuest f).blob x0 = d.blob x0 := rfl
@[simp] theorem Device.onGuest_shown (f : Guest → Guest) (x0 : Nat) : (d.onGuest f).shown x0 = d.shown x0 := rfl
@[simp] theorem Device.onGuest_fn (f : Guest → Guest) (x0 : FnId) : (d.onGuest f).fn x0 = d.fn x0 := rfl
@[simp] theorem Device.onGuest_personality (f : Guest → Guest) : (d.onGuest f).personality = d.personality := rfl
@[simp] theorem Device.onGuest_transition (f : Guest → Guest) : (d.onGuest f).transition = d.transition := rfl
@[simp] theorem Device.onGuest_core (f : Guest → Guest) (x0 : Nat) : (d.onGuest f).core x0 = d.core x0 := rfl
@[simp] theorem Device.onGuest_req (f : Guest → Guest) (x0 : Requester) : (d.onGuest f).req x0 = d.req x0 := rfl
@[simp] theorem Device.onGuest_ring (f : Guest → Guest) (x0 : RingId) : (d.onGuest f).ring x0 = d.ring x0 := rfl
@[simp] theorem Device.onGuest_slot (f : Guest → Guest) (x0 : Nat) : (d.onGuest f).slot x0 = d.slot x0 := rfl
@[simp] theorem Device.onGuest_mport (f : Guest → Guest) (x0 : Nat) : (d.onGuest f).mport x0 = d.mport x0 := rfl
@[simp] theorem Device.onGuest_active (f : Guest → Guest) (x0 : Nat) : (d.onGuest f).active x0 = d.active x0 := rfl
@[simp] theorem Device.onGuest_test (f : Guest → Guest) (x0 : Nat) : (d.onGuest f).test x0 = d.test x0 := rfl

/-! ### Device.onLinks -/

@[simp] theorem Device.onLinks_dict (f : Links → Links) : (d.onLinks f).dict = d.dict := rfl
@[simp] theorem Device.onLinks_blobs (f : Links → Links) : (d.onLinks f).blobs = d.blobs := rfl
@[simp] theorem Device.onLinks_staged (f : Links → Links) : (d.onLinks f).staged = d.staged := rfl
@[simp] theorem Device.onLinks_stagedNew (f : Links → Links) : (d.onLinks f).stagedNew = d.stagedNew := rfl
@[simp] theorem Device.onLinks_reqs (f : Links → Links) : (d.onLinks f).reqs = d.reqs := rfl
@[simp] theorem Device.onLinks_log (f : Links → Links) : (d.onLinks f).log = d.log := rfl
@[simp] theorem Device.onLinks_rings (f : Links → Links) : (d.onLinks f).rings = d.rings := rfl
@[simp] theorem Device.onLinks_host (f : Links → Links) : (d.onLinks f).host = d.host := rfl
@[simp] theorem Device.onLinks_boot (f : Links → Links) : (d.onLinks f).boot = d.boot := rfl
@[simp] theorem Device.onLinks_loader (f : Links → Links) : (d.onLinks f).loader = d.loader := rfl
@[simp] theorem Device.onLinks_strm (f : Links → Links) : (d.onLinks f).strm = d.strm := rfl
@[simp] theorem Device.onLinks_cores (f : Links → Links) : (d.onLinks f).cores = d.cores := rfl
@[simp] theorem Device.onLinks_mem (f : Links → Links) : (d.onLinks f).mem = d.mem := rfl
@[simp] theorem Device.onLinks_hamper (f : Links → Links) : (d.onLinks f).hamper = d.hamper := rfl
@[simp] theorem Device.onLinks_links (f : Links → Links) : (d.onLinks f).links = f d.links := rfl
@[simp] theorem Device.onLinks_guest (f : Links → Links) : (d.onLinks f).guest = d.guest := rfl
@[simp] theorem Device.onLinks_safety (f : Links → Links) : (d.onLinks f).safety = d.safety := rfl
@[simp] theorem Device.onLinks_slots (f : Links → Links) : (d.onLinks f).slots = d.slots := rfl
@[simp] theorem Device.onLinks_world (f : Links → Links) : (d.onLinks f).world = d.world := rfl
@[simp] theorem Device.onLinks_fusion (f : Links → Links) : (d.onLinks f).fusion = d.fusion := rfl
@[simp] theorem Device.onLinks_planning (f : Links → Links) : (d.onLinks f).planning = d.planning := rfl
@[simp] theorem Device.onLinks_job (f : Links → Links) : (d.onLinks f).job = d.job := rfl
@[simp] theorem Device.onLinks_power (f : Links → Links) : (d.onLinks f).power = d.power := rfl
@[simp] theorem Device.onLinks_tallies (f : Links → Links) : (d.onLinks f).tallies = d.tallies := rfl
@[simp] theorem Device.onLinks_msix (f : Links → Links) : (d.onLinks f).msix = d.msix := rfl
@[simp] theorem Device.onLinks_draws (f : Links → Links) : (d.onLinks f).draws = d.draws := rfl
@[simp] theorem Device.onLinks_rd (f : Links → Links) (x0 : Nat) : (d.onLinks f).rd x0 = d.rd x0 := rfl
@[simp] theorem Device.onLinks_blob (f : Links → Links) (x0 : Nat) : (d.onLinks f).blob x0 = d.blob x0 := rfl
@[simp] theorem Device.onLinks_shown (f : Links → Links) (x0 : Nat) : (d.onLinks f).shown x0 = d.shown x0 := rfl
@[simp] theorem Device.onLinks_fn (f : Links → Links) (x0 : FnId) : (d.onLinks f).fn x0 = d.fn x0 := rfl
@[simp] theorem Device.onLinks_personality (f : Links → Links) : (d.onLinks f).personality = d.personality := rfl
@[simp] theorem Device.onLinks_transition (f : Links → Links) : (d.onLinks f).transition = d.transition := rfl
@[simp] theorem Device.onLinks_core (f : Links → Links) (x0 : Nat) : (d.onLinks f).core x0 = d.core x0 := rfl
@[simp] theorem Device.onLinks_req (f : Links → Links) (x0 : Requester) : (d.onLinks f).req x0 = d.req x0 := rfl
@[simp] theorem Device.onLinks_ring (f : Links → Links) (x0 : RingId) : (d.onLinks f).ring x0 = d.ring x0 := rfl
@[simp] theorem Device.onLinks_slot (f : Links → Links) (x0 : Nat) : (d.onLinks f).slot x0 = d.slot x0 := rfl
@[simp] theorem Device.onLinks_mport (f : Links → Links) (x0 : Nat) : (d.onLinks f).mport x0 = d.mport x0 := rfl
@[simp] theorem Device.onLinks_active (f : Links → Links) (x0 : Nat) : (d.onLinks f).active x0 = d.active x0 := rfl
@[simp] theorem Device.onLinks_test (f : Links → Links) (x0 : Nat) : (d.onLinks f).test x0 = d.test x0 := rfl

/-! ### Device.onFusion -/

@[simp] theorem Device.onFusion_dict (f : Fusion → Fusion) : (d.onFusion f).dict = d.dict := rfl
@[simp] theorem Device.onFusion_blobs (f : Fusion → Fusion) : (d.onFusion f).blobs = d.blobs := rfl
@[simp] theorem Device.onFusion_staged (f : Fusion → Fusion) : (d.onFusion f).staged = d.staged := rfl
@[simp] theorem Device.onFusion_stagedNew (f : Fusion → Fusion) : (d.onFusion f).stagedNew = d.stagedNew := rfl
@[simp] theorem Device.onFusion_reqs (f : Fusion → Fusion) : (d.onFusion f).reqs = d.reqs := rfl
@[simp] theorem Device.onFusion_log (f : Fusion → Fusion) : (d.onFusion f).log = d.log := rfl
@[simp] theorem Device.onFusion_rings (f : Fusion → Fusion) : (d.onFusion f).rings = d.rings := rfl
@[simp] theorem Device.onFusion_host (f : Fusion → Fusion) : (d.onFusion f).host = d.host := rfl
@[simp] theorem Device.onFusion_boot (f : Fusion → Fusion) : (d.onFusion f).boot = d.boot := rfl
@[simp] theorem Device.onFusion_loader (f : Fusion → Fusion) : (d.onFusion f).loader = d.loader := rfl
@[simp] theorem Device.onFusion_strm (f : Fusion → Fusion) : (d.onFusion f).strm = d.strm := rfl
@[simp] theorem Device.onFusion_cores (f : Fusion → Fusion) : (d.onFusion f).cores = d.cores := rfl
@[simp] theorem Device.onFusion_mem (f : Fusion → Fusion) : (d.onFusion f).mem = d.mem := rfl
@[simp] theorem Device.onFusion_hamper (f : Fusion → Fusion) : (d.onFusion f).hamper = d.hamper := rfl
@[simp] theorem Device.onFusion_links (f : Fusion → Fusion) : (d.onFusion f).links = d.links := rfl
@[simp] theorem Device.onFusion_guest (f : Fusion → Fusion) : (d.onFusion f).guest = d.guest := rfl
@[simp] theorem Device.onFusion_safety (f : Fusion → Fusion) : (d.onFusion f).safety = d.safety := rfl
@[simp] theorem Device.onFusion_slots (f : Fusion → Fusion) : (d.onFusion f).slots = d.slots := rfl
@[simp] theorem Device.onFusion_world (f : Fusion → Fusion) : (d.onFusion f).world = d.world := rfl
@[simp] theorem Device.onFusion_fusion (f : Fusion → Fusion) : (d.onFusion f).fusion = f d.fusion := rfl
@[simp] theorem Device.onFusion_planning (f : Fusion → Fusion) : (d.onFusion f).planning = d.planning := rfl
@[simp] theorem Device.onFusion_job (f : Fusion → Fusion) : (d.onFusion f).job = d.job := rfl
@[simp] theorem Device.onFusion_power (f : Fusion → Fusion) : (d.onFusion f).power = d.power := rfl
@[simp] theorem Device.onFusion_tallies (f : Fusion → Fusion) : (d.onFusion f).tallies = d.tallies := rfl
@[simp] theorem Device.onFusion_msix (f : Fusion → Fusion) : (d.onFusion f).msix = d.msix := rfl
@[simp] theorem Device.onFusion_draws (f : Fusion → Fusion) : (d.onFusion f).draws = d.draws := rfl
@[simp] theorem Device.onFusion_rd (f : Fusion → Fusion) (x0 : Nat) : (d.onFusion f).rd x0 = d.rd x0 := rfl
@[simp] theorem Device.onFusion_blob (f : Fusion → Fusion) (x0 : Nat) : (d.onFusion f).blob x0 = d.blob x0 := rfl
@[simp] theorem Device.onFusion_shown (f : Fusion → Fusion) (x0 : Nat) : (d.onFusion f).shown x0 = d.shown x0 := rfl
@[simp] theorem Device.onFusion_fn (f : Fusion → Fusion) (x0 : FnId) : (d.onFusion f).fn x0 = d.fn x0 := rfl
@[simp] theorem Device.onFusion_personality (f : Fusion → Fusion) : (d.onFusion f).personality = d.personality := rfl
@[simp] theorem Device.onFusion_transition (f : Fusion → Fusion) : (d.onFusion f).transition = d.transition := rfl
@[simp] theorem Device.onFusion_core (f : Fusion → Fusion) (x0 : Nat) : (d.onFusion f).core x0 = d.core x0 := rfl
@[simp] theorem Device.onFusion_req (f : Fusion → Fusion) (x0 : Requester) : (d.onFusion f).req x0 = d.req x0 := rfl
@[simp] theorem Device.onFusion_ring (f : Fusion → Fusion) (x0 : RingId) : (d.onFusion f).ring x0 = d.ring x0 := rfl
@[simp] theorem Device.onFusion_slot (f : Fusion → Fusion) (x0 : Nat) : (d.onFusion f).slot x0 = d.slot x0 := rfl
@[simp] theorem Device.onFusion_mport (f : Fusion → Fusion) (x0 : Nat) : (d.onFusion f).mport x0 = d.mport x0 := rfl
@[simp] theorem Device.onFusion_active (f : Fusion → Fusion) (x0 : Nat) : (d.onFusion f).active x0 = d.active x0 := rfl
@[simp] theorem Device.onFusion_test (f : Fusion → Fusion) (x0 : Nat) : (d.onFusion f).test x0 = d.test x0 := rfl

/-! ### Device.onWorld -/

@[simp] theorem Device.onWorld_dict (f : World → World) : (d.onWorld f).dict = d.dict := rfl
@[simp] theorem Device.onWorld_blobs (f : World → World) : (d.onWorld f).blobs = d.blobs := rfl
@[simp] theorem Device.onWorld_staged (f : World → World) : (d.onWorld f).staged = d.staged := rfl
@[simp] theorem Device.onWorld_stagedNew (f : World → World) : (d.onWorld f).stagedNew = d.stagedNew := rfl
@[simp] theorem Device.onWorld_reqs (f : World → World) : (d.onWorld f).reqs = d.reqs := rfl
@[simp] theorem Device.onWorld_log (f : World → World) : (d.onWorld f).log = d.log := rfl
@[simp] theorem Device.onWorld_rings (f : World → World) : (d.onWorld f).rings = d.rings := rfl
@[simp] theorem Device.onWorld_host (f : World → World) : (d.onWorld f).host = d.host := rfl
@[simp] theorem Device.onWorld_boot (f : World → World) : (d.onWorld f).boot = d.boot := rfl
@[simp] theorem Device.onWorld_loader (f : World → World) : (d.onWorld f).loader = d.loader := rfl
@[simp] theorem Device.onWorld_strm (f : World → World) : (d.onWorld f).strm = d.strm := rfl
@[simp] theorem Device.onWorld_cores (f : World → World) : (d.onWorld f).cores = d.cores := rfl
@[simp] theorem Device.onWorld_mem (f : World → World) : (d.onWorld f).mem = d.mem := rfl
@[simp] theorem Device.onWorld_hamper (f : World → World) : (d.onWorld f).hamper = d.hamper := rfl
@[simp] theorem Device.onWorld_links (f : World → World) : (d.onWorld f).links = d.links := rfl
@[simp] theorem Device.onWorld_guest (f : World → World) : (d.onWorld f).guest = d.guest := rfl
@[simp] theorem Device.onWorld_safety (f : World → World) : (d.onWorld f).safety = d.safety := rfl
@[simp] theorem Device.onWorld_slots (f : World → World) : (d.onWorld f).slots = d.slots := rfl
@[simp] theorem Device.onWorld_world (f : World → World) : (d.onWorld f).world = f d.world := rfl
@[simp] theorem Device.onWorld_fusion (f : World → World) : (d.onWorld f).fusion = d.fusion := rfl
@[simp] theorem Device.onWorld_planning (f : World → World) : (d.onWorld f).planning = d.planning := rfl
@[simp] theorem Device.onWorld_job (f : World → World) : (d.onWorld f).job = d.job := rfl
@[simp] theorem Device.onWorld_power (f : World → World) : (d.onWorld f).power = d.power := rfl
@[simp] theorem Device.onWorld_tallies (f : World → World) : (d.onWorld f).tallies = d.tallies := rfl
@[simp] theorem Device.onWorld_msix (f : World → World) : (d.onWorld f).msix = d.msix := rfl
@[simp] theorem Device.onWorld_draws (f : World → World) : (d.onWorld f).draws = d.draws := rfl
@[simp] theorem Device.onWorld_rd (f : World → World) (x0 : Nat) : (d.onWorld f).rd x0 = d.rd x0 := rfl
@[simp] theorem Device.onWorld_blob (f : World → World) (x0 : Nat) : (d.onWorld f).blob x0 = d.blob x0 := rfl
@[simp] theorem Device.onWorld_shown (f : World → World) (x0 : Nat) : (d.onWorld f).shown x0 = d.shown x0 := rfl
@[simp] theorem Device.onWorld_fn (f : World → World) (x0 : FnId) : (d.onWorld f).fn x0 = d.fn x0 := rfl
@[simp] theorem Device.onWorld_personality (f : World → World) : (d.onWorld f).personality = d.personality := rfl
@[simp] theorem Device.onWorld_transition (f : World → World) : (d.onWorld f).transition = d.transition := rfl
@[simp] theorem Device.onWorld_core (f : World → World) (x0 : Nat) : (d.onWorld f).core x0 = d.core x0 := rfl
@[simp] theorem Device.onWorld_req (f : World → World) (x0 : Requester) : (d.onWorld f).req x0 = d.req x0 := rfl
@[simp] theorem Device.onWorld_ring (f : World → World) (x0 : RingId) : (d.onWorld f).ring x0 = d.ring x0 := rfl
@[simp] theorem Device.onWorld_slot (f : World → World) (x0 : Nat) : (d.onWorld f).slot x0 = d.slot x0 := rfl
@[simp] theorem Device.onWorld_mport (f : World → World) (x0 : Nat) : (d.onWorld f).mport x0 = d.mport x0 := rfl
@[simp] theorem Device.onWorld_active (f : World → World) (x0 : Nat) : (d.onWorld f).active x0 = d.active x0 := rfl
@[simp] theorem Device.onWorld_test (f : World → World) (x0 : Nat) : (d.onWorld f).test x0 = d.test x0 := rfl

/-! ### Device.onPlanning -/

@[simp] theorem Device.onPlanning_dict (f : Planning → Planning) : (d.onPlanning f).dict = d.dict := rfl
@[simp] theorem Device.onPlanning_blobs (f : Planning → Planning) : (d.onPlanning f).blobs = d.blobs := rfl
@[simp] theorem Device.onPlanning_staged (f : Planning → Planning) : (d.onPlanning f).staged = d.staged := rfl
@[simp] theorem Device.onPlanning_stagedNew (f : Planning → Planning) : (d.onPlanning f).stagedNew = d.stagedNew := rfl
@[simp] theorem Device.onPlanning_reqs (f : Planning → Planning) : (d.onPlanning f).reqs = d.reqs := rfl
@[simp] theorem Device.onPlanning_log (f : Planning → Planning) : (d.onPlanning f).log = d.log := rfl
@[simp] theorem Device.onPlanning_rings (f : Planning → Planning) : (d.onPlanning f).rings = d.rings := rfl
@[simp] theorem Device.onPlanning_host (f : Planning → Planning) : (d.onPlanning f).host = d.host := rfl
@[simp] theorem Device.onPlanning_boot (f : Planning → Planning) : (d.onPlanning f).boot = d.boot := rfl
@[simp] theorem Device.onPlanning_loader (f : Planning → Planning) : (d.onPlanning f).loader = d.loader := rfl
@[simp] theorem Device.onPlanning_strm (f : Planning → Planning) : (d.onPlanning f).strm = d.strm := rfl
@[simp] theorem Device.onPlanning_cores (f : Planning → Planning) : (d.onPlanning f).cores = d.cores := rfl
@[simp] theorem Device.onPlanning_mem (f : Planning → Planning) : (d.onPlanning f).mem = d.mem := rfl
@[simp] theorem Device.onPlanning_hamper (f : Planning → Planning) : (d.onPlanning f).hamper = d.hamper := rfl
@[simp] theorem Device.onPlanning_links (f : Planning → Planning) : (d.onPlanning f).links = d.links := rfl
@[simp] theorem Device.onPlanning_guest (f : Planning → Planning) : (d.onPlanning f).guest = d.guest := rfl
@[simp] theorem Device.onPlanning_safety (f : Planning → Planning) : (d.onPlanning f).safety = d.safety := rfl
@[simp] theorem Device.onPlanning_slots (f : Planning → Planning) : (d.onPlanning f).slots = d.slots := rfl
@[simp] theorem Device.onPlanning_world (f : Planning → Planning) : (d.onPlanning f).world = d.world := rfl
@[simp] theorem Device.onPlanning_fusion (f : Planning → Planning) : (d.onPlanning f).fusion = d.fusion := rfl
@[simp] theorem Device.onPlanning_planning (f : Planning → Planning) : (d.onPlanning f).planning = f d.planning := rfl
@[simp] theorem Device.onPlanning_job (f : Planning → Planning) : (d.onPlanning f).job = d.job := rfl
@[simp] theorem Device.onPlanning_power (f : Planning → Planning) : (d.onPlanning f).power = d.power := rfl
@[simp] theorem Device.onPlanning_tallies (f : Planning → Planning) : (d.onPlanning f).tallies = d.tallies := rfl
@[simp] theorem Device.onPlanning_msix (f : Planning → Planning) : (d.onPlanning f).msix = d.msix := rfl
@[simp] theorem Device.onPlanning_draws (f : Planning → Planning) : (d.onPlanning f).draws = d.draws := rfl
@[simp] theorem Device.onPlanning_rd (f : Planning → Planning) (x0 : Nat) : (d.onPlanning f).rd x0 = d.rd x0 := rfl
@[simp] theorem Device.onPlanning_blob (f : Planning → Planning) (x0 : Nat) : (d.onPlanning f).blob x0 = d.blob x0 := rfl
@[simp] theorem Device.onPlanning_shown (f : Planning → Planning) (x0 : Nat) : (d.onPlanning f).shown x0 = d.shown x0 := rfl
@[simp] theorem Device.onPlanning_fn (f : Planning → Planning) (x0 : FnId) : (d.onPlanning f).fn x0 = d.fn x0 := rfl
@[simp] theorem Device.onPlanning_personality (f : Planning → Planning) : (d.onPlanning f).personality = d.personality := rfl
@[simp] theorem Device.onPlanning_transition (f : Planning → Planning) : (d.onPlanning f).transition = d.transition := rfl
@[simp] theorem Device.onPlanning_core (f : Planning → Planning) (x0 : Nat) : (d.onPlanning f).core x0 = d.core x0 := rfl
@[simp] theorem Device.onPlanning_req (f : Planning → Planning) (x0 : Requester) : (d.onPlanning f).req x0 = d.req x0 := rfl
@[simp] theorem Device.onPlanning_ring (f : Planning → Planning) (x0 : RingId) : (d.onPlanning f).ring x0 = d.ring x0 := rfl
@[simp] theorem Device.onPlanning_slot (f : Planning → Planning) (x0 : Nat) : (d.onPlanning f).slot x0 = d.slot x0 := rfl
@[simp] theorem Device.onPlanning_mport (f : Planning → Planning) (x0 : Nat) : (d.onPlanning f).mport x0 = d.mport x0 := rfl
@[simp] theorem Device.onPlanning_active (f : Planning → Planning) (x0 : Nat) : (d.onPlanning f).active x0 = d.active x0 := rfl
@[simp] theorem Device.onPlanning_test (f : Planning → Planning) (x0 : Nat) : (d.onPlanning f).test x0 = d.test x0 := rfl

/-! ### Device.setCore -/

@[simp] theorem Device.setCore_dict (c : Nat) (x : Core) : (d.setCore c x).dict = d.dict := rfl
@[simp] theorem Device.setCore_blobs (c : Nat) (x : Core) : (d.setCore c x).blobs = d.blobs := rfl
@[simp] theorem Device.setCore_staged (c : Nat) (x : Core) : (d.setCore c x).staged = d.staged := rfl
@[simp] theorem Device.setCore_stagedNew (c : Nat) (x : Core) : (d.setCore c x).stagedNew = d.stagedNew := rfl
@[simp] theorem Device.setCore_reqs (c : Nat) (x : Core) : (d.setCore c x).reqs = d.reqs := rfl
@[simp] theorem Device.setCore_log (c : Nat) (x : Core) : (d.setCore c x).log = d.log := rfl
@[simp] theorem Device.setCore_rings (c : Nat) (x : Core) : (d.setCore c x).rings = d.rings := rfl
@[simp] theorem Device.setCore_host (c : Nat) (x : Core) : (d.setCore c x).host = d.host := rfl
@[simp] theorem Device.setCore_boot (c : Nat) (x : Core) : (d.setCore c x).boot = d.boot := rfl
@[simp] theorem Device.setCore_loader (c : Nat) (x : Core) : (d.setCore c x).loader = d.loader := rfl
@[simp] theorem Device.setCore_strm (c : Nat) (x : Core) : (d.setCore c x).strm = d.strm := rfl
@[simp] theorem Device.setCore_cores (c : Nat) (x : Core) : (d.setCore c x).cores = SMap.put d.cores c x {} := rfl
@[simp] theorem Device.setCore_mem (c : Nat) (x : Core) : (d.setCore c x).mem = d.mem := rfl
@[simp] theorem Device.setCore_hamper (c : Nat) (x : Core) : (d.setCore c x).hamper = d.hamper := rfl
@[simp] theorem Device.setCore_links (c : Nat) (x : Core) : (d.setCore c x).links = d.links := rfl
@[simp] theorem Device.setCore_guest (c : Nat) (x : Core) : (d.setCore c x).guest = d.guest := rfl
@[simp] theorem Device.setCore_safety (c : Nat) (x : Core) : (d.setCore c x).safety = d.safety := rfl
@[simp] theorem Device.setCore_slots (c : Nat) (x : Core) : (d.setCore c x).slots = d.slots := rfl
@[simp] theorem Device.setCore_world (c : Nat) (x : Core) : (d.setCore c x).world = d.world := rfl
@[simp] theorem Device.setCore_fusion (c : Nat) (x : Core) : (d.setCore c x).fusion = d.fusion := rfl
@[simp] theorem Device.setCore_planning (c : Nat) (x : Core) : (d.setCore c x).planning = d.planning := rfl
@[simp] theorem Device.setCore_job (c : Nat) (x : Core) : (d.setCore c x).job = d.job := rfl
@[simp] theorem Device.setCore_power (c : Nat) (x : Core) : (d.setCore c x).power = d.power := rfl
@[simp] theorem Device.setCore_tallies (c : Nat) (x : Core) : (d.setCore c x).tallies = d.tallies := rfl
@[simp] theorem Device.setCore_msix (c : Nat) (x : Core) : (d.setCore c x).msix = d.msix := rfl
@[simp] theorem Device.setCore_draws (c : Nat) (x : Core) : (d.setCore c x).draws = d.draws := rfl
@[simp] theorem Device.setCore_rd (c : Nat) (x : Core) (x0 : Nat) : (d.setCore c x).rd x0 = d.rd x0 := rfl
@[simp] theorem Device.setCore_blob (c : Nat) (x : Core) (x0 : Nat) : (d.setCore c x).blob x0 = d.blob x0 := rfl
@[simp] theorem Device.setCore_shown (c : Nat) (x : Core) (x0 : Nat) : (d.setCore c x).shown x0 = d.shown x0 := rfl
@[simp] theorem Device.setCore_fn (c : Nat) (x : Core) (x0 : FnId) : (d.setCore c x).fn x0 = d.fn x0 := rfl
@[simp] theorem Device.setCore_personality (c : Nat) (x : Core) : (d.setCore c x).personality = d.personality := rfl
@[simp] theorem Device.setCore_transition (c : Nat) (x : Core) : (d.setCore c x).transition = d.transition := rfl
@[simp] theorem Device.setCore_req (c : Nat) (x : Core) (x0 : Requester) : (d.setCore c x).req x0 = d.req x0 := rfl
@[simp] theorem Device.setCore_ring (c : Nat) (x : Core) (x0 : RingId) : (d.setCore c x).ring x0 = d.ring x0 := rfl
@[simp] theorem Device.setCore_slot (c : Nat) (x : Core) (x0 : Nat) : (d.setCore c x).slot x0 = d.slot x0 := rfl
@[simp] theorem Device.setCore_mport (c : Nat) (x : Core) (x0 : Nat) : (d.setCore c x).mport x0 = d.mport x0 := rfl
@[simp] theorem Device.setCore_active (c : Nat) (x : Core) (x0 : Nat) : (d.setCore c x).active x0 = d.active x0 := rfl
@[simp] theorem Device.setCore_test (c : Nat) (x : Core) (x0 : Nat) : (d.setCore c x).test x0 = d.test x0 := rfl

/-! ### Device.onCore -/

@[simp] theorem Device.onCore_dict (c : Nat) (f : Core → Core) : (d.onCore c f).dict = d.dict := rfl
@[simp] theorem Device.onCore_blobs (c : Nat) (f : Core → Core) : (d.onCore c f).blobs = d.blobs := rfl
@[simp] theorem Device.onCore_staged (c : Nat) (f : Core → Core) : (d.onCore c f).staged = d.staged := rfl
@[simp] theorem Device.onCore_stagedNew (c : Nat) (f : Core → Core) : (d.onCore c f).stagedNew = d.stagedNew := rfl
@[simp] theorem Device.onCore_reqs (c : Nat) (f : Core → Core) : (d.onCore c f).reqs = d.reqs := rfl
@[simp] theorem Device.onCore_log (c : Nat) (f : Core → Core) : (d.onCore c f).log = d.log := rfl
@[simp] theorem Device.onCore_rings (c : Nat) (f : Core → Core) : (d.onCore c f).rings = d.rings := rfl
@[simp] theorem Device.onCore_host (c : Nat) (f : Core → Core) : (d.onCore c f).host = d.host := rfl
@[simp] theorem Device.onCore_boot (c : Nat) (f : Core → Core) : (d.onCore c f).boot = d.boot := rfl
@[simp] theorem Device.onCore_loader (c : Nat) (f : Core → Core) : (d.onCore c f).loader = d.loader := rfl
@[simp] theorem Device.onCore_strm (c : Nat) (f : Core → Core) : (d.onCore c f).strm = d.strm := rfl
@[simp] theorem Device.onCore_cores (c : Nat) (f : Core → Core) : (d.onCore c f).cores = SMap.put d.cores c (f (d.core c)) {} := rfl
@[simp] theorem Device.onCore_mem (c : Nat) (f : Core → Core) : (d.onCore c f).mem = d.mem := rfl
@[simp] theorem Device.onCore_hamper (c : Nat) (f : Core → Core) : (d.onCore c f).hamper = d.hamper := rfl
@[simp] theorem Device.onCore_links (c : Nat) (f : Core → Core) : (d.onCore c f).links = d.links := rfl
@[simp] theorem Device.onCore_guest (c : Nat) (f : Core → Core) : (d.onCore c f).guest = d.guest := rfl
@[simp] theorem Device.onCore_safety (c : Nat) (f : Core → Core) : (d.onCore c f).safety = d.safety := rfl
@[simp] theorem Device.onCore_slots (c : Nat) (f : Core → Core) : (d.onCore c f).slots = d.slots := rfl
@[simp] theorem Device.onCore_world (c : Nat) (f : Core → Core) : (d.onCore c f).world = d.world := rfl
@[simp] theorem Device.onCore_fusion (c : Nat) (f : Core → Core) : (d.onCore c f).fusion = d.fusion := rfl
@[simp] theorem Device.onCore_planning (c : Nat) (f : Core → Core) : (d.onCore c f).planning = d.planning := rfl
@[simp] theorem Device.onCore_job (c : Nat) (f : Core → Core) : (d.onCore c f).job = d.job := rfl
@[simp] theorem Device.onCore_power (c : Nat) (f : Core → Core) : (d.onCore c f).power = d.power := rfl
@[simp] theorem Device.onCore_tallies (c : Nat) (f : Core → Core) : (d.onCore c f).tallies = d.tallies := rfl
@[simp] theorem Device.onCore_msix (c : Nat) (f : Core → Core) : (d.onCore c f).msix = d.msix := rfl
@[simp] theorem Device.onCore_draws (c : Nat) (f : Core → Core) : (d.onCore c f).draws = d.draws := rfl
@[simp] theorem Device.onCore_rd (c : Nat) (f : Core → Core) (x0 : Nat) : (d.onCore c f).rd x0 = d.rd x0 := rfl
@[simp] theorem Device.onCore_blob (c : Nat) (f : Core → Core) (x0 : Nat) : (d.onCore c f).blob x0 = d.blob x0 := rfl
@[simp] theorem Device.onCore_shown (c : Nat) (f : Core → Core) (x0 : Nat) : (d.onCore c f).shown x0 = d.shown x0 := rfl
@[simp] theorem Device.onCore_fn (c : Nat) (f : Core → Core) (x0 : FnId) : (d.onCore c f).fn x0 = d.fn x0 := rfl
@[simp] theorem Device.onCore_personality (c : Nat) (f : Core → Core) : (d.onCore c f).personality = d.personality := rfl
@[simp] theorem Device.onCore_transition (c : Nat) (f : Core → Core) : (d.onCore c f).transition = d.transition := rfl
@[simp] theorem Device.onCore_req (c : Nat) (f : Core → Core) (x0 : Requester) : (d.onCore c f).req x0 = d.req x0 := rfl
@[simp] theorem Device.onCore_ring (c : Nat) (f : Core → Core) (x0 : RingId) : (d.onCore c f).ring x0 = d.ring x0 := rfl
@[simp] theorem Device.onCore_slot (c : Nat) (f : Core → Core) (x0 : Nat) : (d.onCore c f).slot x0 = d.slot x0 := rfl
@[simp] theorem Device.onCore_mport (c : Nat) (f : Core → Core) (x0 : Nat) : (d.onCore c f).mport x0 = d.mport x0 := rfl
@[simp] theorem Device.onCore_active (c : Nat) (f : Core → Core) (x0 : Nat) : (d.onCore c f).active x0 = d.active x0 := rfl
@[simp] theorem Device.onCore_test (c : Nat) (f : Core → Core) (x0 : Nat) : (d.onCore c f).test x0 = d.test x0 := rfl

/-! ### Device.onSlot -/

@[simp] theorem Device.onSlot_dict (n : Nat) (f : Slot → Slot) : (d.onSlot n f).dict = d.dict := rfl
@[simp] theorem Device.onSlot_blobs (n : Nat) (f : Slot → Slot) : (d.onSlot n f).blobs = d.blobs := rfl
@[simp] theorem Device.onSlot_staged (n : Nat) (f : Slot → Slot) : (d.onSlot n f).staged = d.staged := rfl
@[simp] theorem Device.onSlot_stagedNew (n : Nat) (f : Slot → Slot) : (d.onSlot n f).stagedNew = d.stagedNew := rfl
@[simp] theorem Device.onSlot_reqs (n : Nat) (f : Slot → Slot) : (d.onSlot n f).reqs = d.reqs := rfl
@[simp] theorem Device.onSlot_log (n : Nat) (f : Slot → Slot) : (d.onSlot n f).log = d.log := rfl
@[simp] theorem Device.onSlot_rings (n : Nat) (f : Slot → Slot) : (d.onSlot n f).rings = d.rings := rfl
@[simp] theorem Device.onSlot_host (n : Nat) (f : Slot → Slot) : (d.onSlot n f).host = d.host := rfl
@[simp] theorem Device.onSlot_boot (n : Nat) (f : Slot → Slot) : (d.onSlot n f).boot = d.boot := rfl
@[simp] theorem Device.onSlot_loader (n : Nat) (f : Slot → Slot) : (d.onSlot n f).loader = d.loader := rfl
@[simp] theorem Device.onSlot_strm (n : Nat) (f : Slot → Slot) : (d.onSlot n f).strm = d.strm := rfl
@[simp] theorem Device.onSlot_cores (n : Nat) (f : Slot → Slot) : (d.onSlot n f).cores = d.cores := rfl
@[simp] theorem Device.onSlot_mem (n : Nat) (f : Slot → Slot) : (d.onSlot n f).mem = d.mem := rfl
@[simp] theorem Device.onSlot_hamper (n : Nat) (f : Slot → Slot) : (d.onSlot n f).hamper = d.hamper := rfl
@[simp] theorem Device.onSlot_links (n : Nat) (f : Slot → Slot) : (d.onSlot n f).links = d.links := rfl
@[simp] theorem Device.onSlot_guest (n : Nat) (f : Slot → Slot) : (d.onSlot n f).guest = d.guest := rfl
@[simp] theorem Device.onSlot_safety (n : Nat) (f : Slot → Slot) : (d.onSlot n f).safety = d.safety := rfl
@[simp] theorem Device.onSlot_slots (n : Nat) (f : Slot → Slot) : (d.onSlot n f).slots = SMap.put d.slots n (f (d.slot n)) {} := rfl
@[simp] theorem Device.onSlot_world (n : Nat) (f : Slot → Slot) : (d.onSlot n f).world = d.world := rfl
@[simp] theorem Device.onSlot_fusion (n : Nat) (f : Slot → Slot) : (d.onSlot n f).fusion = d.fusion := rfl
@[simp] theorem Device.onSlot_planning (n : Nat) (f : Slot → Slot) : (d.onSlot n f).planning = d.planning := rfl
@[simp] theorem Device.onSlot_job (n : Nat) (f : Slot → Slot) : (d.onSlot n f).job = d.job := rfl
@[simp] theorem Device.onSlot_power (n : Nat) (f : Slot → Slot) : (d.onSlot n f).power = d.power := rfl
@[simp] theorem Device.onSlot_tallies (n : Nat) (f : Slot → Slot) : (d.onSlot n f).tallies = d.tallies := rfl
@[simp] theorem Device.onSlot_msix (n : Nat) (f : Slot → Slot) : (d.onSlot n f).msix = d.msix := rfl
@[simp] theorem Device.onSlot_draws (n : Nat) (f : Slot → Slot) : (d.onSlot n f).draws = d.draws := rfl
@[simp] theorem Device.onSlot_rd (n : Nat) (f : Slot → Slot) (x0 : Nat) : (d.onSlot n f).rd x0 = d.rd x0 := rfl
@[simp] theorem Device.onSlot_blob (n : Nat) (f : Slot → Slot) (x0 : Nat) : (d.onSlot n f).blob x0 = d.blob x0 := rfl
@[simp] theorem Device.onSlot_shown (n : Nat) (f : Slot → Slot) (x0 : Nat) : (d.onSlot n f).shown x0 = d.shown x0 := rfl
@[simp] theorem Device.onSlot_fn (n : Nat) (f : Slot → Slot) (x0 : FnId) : (d.onSlot n f).fn x0 = d.fn x0 := rfl
@[simp] theorem Device.onSlot_personality (n : Nat) (f : Slot → Slot) : (d.onSlot n f).personality = d.personality := rfl
@[simp] theorem Device.onSlot_transition (n : Nat) (f : Slot → Slot) : (d.onSlot n f).transition = d.transition := rfl
@[simp] theorem Device.onSlot_core (n : Nat) (f : Slot → Slot) (x0 : Nat) : (d.onSlot n f).core x0 = d.core x0 := rfl
@[simp] theorem Device.onSlot_req (n : Nat) (f : Slot → Slot) (x0 : Requester) : (d.onSlot n f).req x0 = d.req x0 := rfl
@[simp] theorem Device.onSlot_ring (n : Nat) (f : Slot → Slot) (x0 : RingId) : (d.onSlot n f).ring x0 = d.ring x0 := rfl
@[simp] theorem Device.onSlot_mport (n : Nat) (f : Slot → Slot) (x0 : Nat) : (d.onSlot n f).mport x0 = d.mport x0 := rfl
@[simp] theorem Device.onSlot_active (n : Nat) (f : Slot → Slot) (x0 : Nat) : (d.onSlot n f).active x0 = d.active x0 := rfl
@[simp] theorem Device.onSlot_test (n : Nat) (f : Slot → Slot) (x0 : Nat) : (d.onSlot n f).test x0 = d.test x0 := rfl

/-! ### Device.setReq -/

@[simp] theorem Device.setReq_dict (r : Requester) (q : ReqState) : (d.setReq r q).dict = d.dict := rfl
@[simp] theorem Device.setReq_blobs (r : Requester) (q : ReqState) : (d.setReq r q).blobs = d.blobs := rfl
@[simp] theorem Device.setReq_staged (r : Requester) (q : ReqState) : (d.setReq r q).staged = d.staged := rfl
@[simp] theorem Device.setReq_stagedNew (r : Requester) (q : ReqState) : (d.setReq r q).stagedNew = d.stagedNew := rfl
@[simp] theorem Device.setReq_reqs (r : Requester) (q : ReqState) : (d.setReq r q).reqs = SMap.put d.reqs r.num q {} := rfl
@[simp] theorem Device.setReq_log (r : Requester) (q : ReqState) : (d.setReq r q).log = d.log := rfl
@[simp] theorem Device.setReq_rings (r : Requester) (q : ReqState) : (d.setReq r q).rings = d.rings := rfl
@[simp] theorem Device.setReq_host (r : Requester) (q : ReqState) : (d.setReq r q).host = d.host := rfl
@[simp] theorem Device.setReq_boot (r : Requester) (q : ReqState) : (d.setReq r q).boot = d.boot := rfl
@[simp] theorem Device.setReq_loader (r : Requester) (q : ReqState) : (d.setReq r q).loader = d.loader := rfl
@[simp] theorem Device.setReq_strm (r : Requester) (q : ReqState) : (d.setReq r q).strm = d.strm := rfl
@[simp] theorem Device.setReq_cores (r : Requester) (q : ReqState) : (d.setReq r q).cores = d.cores := rfl
@[simp] theorem Device.setReq_mem (r : Requester) (q : ReqState) : (d.setReq r q).mem = d.mem := rfl
@[simp] theorem Device.setReq_hamper (r : Requester) (q : ReqState) : (d.setReq r q).hamper = d.hamper := rfl
@[simp] theorem Device.setReq_links (r : Requester) (q : ReqState) : (d.setReq r q).links = d.links := rfl
@[simp] theorem Device.setReq_guest (r : Requester) (q : ReqState) : (d.setReq r q).guest = d.guest := rfl
@[simp] theorem Device.setReq_safety (r : Requester) (q : ReqState) : (d.setReq r q).safety = d.safety := rfl
@[simp] theorem Device.setReq_slots (r : Requester) (q : ReqState) : (d.setReq r q).slots = d.slots := rfl
@[simp] theorem Device.setReq_world (r : Requester) (q : ReqState) : (d.setReq r q).world = d.world := rfl
@[simp] theorem Device.setReq_fusion (r : Requester) (q : ReqState) : (d.setReq r q).fusion = d.fusion := rfl
@[simp] theorem Device.setReq_planning (r : Requester) (q : ReqState) : (d.setReq r q).planning = d.planning := rfl
@[simp] theorem Device.setReq_job (r : Requester) (q : ReqState) : (d.setReq r q).job = d.job := rfl
@[simp] theorem Device.setReq_power (r : Requester) (q : ReqState) : (d.setReq r q).power = d.power := rfl
@[simp] theorem Device.setReq_tallies (r : Requester) (q : ReqState) : (d.setReq r q).tallies = d.tallies := rfl
@[simp] theorem Device.setReq_msix (r : Requester) (q : ReqState) : (d.setReq r q).msix = d.msix := rfl
@[simp] theorem Device.setReq_draws (r : Requester) (q : ReqState) : (d.setReq r q).draws = d.draws := rfl
@[simp] theorem Device.setReq_rd (r : Requester) (q : ReqState) (x0 : Nat) : (d.setReq r q).rd x0 = d.rd x0 := rfl
@[simp] theorem Device.setReq_blob (r : Requester) (q : ReqState) (x0 : Nat) : (d.setReq r q).blob x0 = d.blob x0 := rfl
@[simp] theorem Device.setReq_shown (r : Requester) (q : ReqState) (x0 : Nat) : (d.setReq r q).shown x0 = d.shown x0 := rfl
@[simp] theorem Device.setReq_fn (r : Requester) (q : ReqState) (x0 : FnId) : (d.setReq r q).fn x0 = d.fn x0 := rfl
@[simp] theorem Device.setReq_personality (r : Requester) (q : ReqState) : (d.setReq r q).personality = d.personality := rfl
@[simp] theorem Device.setReq_transition (r : Requester) (q : ReqState) : (d.setReq r q).transition = d.transition := rfl
@[simp] theorem Device.setReq_core (r : Requester) (q : ReqState) (x0 : Nat) : (d.setReq r q).core x0 = d.core x0 := rfl
@[simp] theorem Device.setReq_ring (r : Requester) (q : ReqState) (x0 : RingId) : (d.setReq r q).ring x0 = d.ring x0 := rfl
@[simp] theorem Device.setReq_slot (r : Requester) (q : ReqState) (x0 : Nat) : (d.setReq r q).slot x0 = d.slot x0 := rfl
@[simp] theorem Device.setReq_mport (r : Requester) (q : ReqState) (x0 : Nat) : (d.setReq r q).mport x0 = d.mport x0 := rfl
@[simp] theorem Device.setReq_active (r : Requester) (q : ReqState) (x0 : Nat) : (d.setReq r q).active x0 = d.active x0 := rfl
@[simp] theorem Device.setReq_test (r : Requester) (q : ReqState) (x0 : Nat) : (d.setReq r q).test x0 = d.test x0 := rfl

/-! ### Device.setRing -/

@[simp] theorem Device.setRing_dict (r : RingId) (x : Ring) : (d.setRing r x).dict = d.dict := rfl
@[simp] theorem Device.setRing_blobs (r : RingId) (x : Ring) : (d.setRing r x).blobs = d.blobs := rfl
@[simp] theorem Device.setRing_staged (r : RingId) (x : Ring) : (d.setRing r x).staged = d.staged := rfl
@[simp] theorem Device.setRing_stagedNew (r : RingId) (x : Ring) : (d.setRing r x).stagedNew = d.stagedNew := rfl
@[simp] theorem Device.setRing_reqs (r : RingId) (x : Ring) : (d.setRing r x).reqs = d.reqs := rfl
@[simp] theorem Device.setRing_log (r : RingId) (x : Ring) : (d.setRing r x).log = d.log := rfl
@[simp] theorem Device.setRing_rings (r : RingId) (x : Ring) : (d.setRing r x).rings = SMap.put d.rings r.num x {} := rfl
@[simp] theorem Device.setRing_host (r : RingId) (x : Ring) : (d.setRing r x).host = d.host := rfl
@[simp] theorem Device.setRing_boot (r : RingId) (x : Ring) : (d.setRing r x).boot = d.boot := rfl
@[simp] theorem Device.setRing_loader (r : RingId) (x : Ring) : (d.setRing r x).loader = d.loader := rfl
@[simp] theorem Device.setRing_strm (r : RingId) (x : Ring) : (d.setRing r x).strm = d.strm := rfl
@[simp] theorem Device.setRing_cores (r : RingId) (x : Ring) : (d.setRing r x).cores = d.cores := rfl
@[simp] theorem Device.setRing_mem (r : RingId) (x : Ring) : (d.setRing r x).mem = d.mem := rfl
@[simp] theorem Device.setRing_hamper (r : RingId) (x : Ring) : (d.setRing r x).hamper = d.hamper := rfl
@[simp] theorem Device.setRing_links (r : RingId) (x : Ring) : (d.setRing r x).links = d.links := rfl
@[simp] theorem Device.setRing_guest (r : RingId) (x : Ring) : (d.setRing r x).guest = d.guest := rfl
@[simp] theorem Device.setRing_safety (r : RingId) (x : Ring) : (d.setRing r x).safety = d.safety := rfl
@[simp] theorem Device.setRing_slots (r : RingId) (x : Ring) : (d.setRing r x).slots = d.slots := rfl
@[simp] theorem Device.setRing_world (r : RingId) (x : Ring) : (d.setRing r x).world = d.world := rfl
@[simp] theorem Device.setRing_fusion (r : RingId) (x : Ring) : (d.setRing r x).fusion = d.fusion := rfl
@[simp] theorem Device.setRing_planning (r : RingId) (x : Ring) : (d.setRing r x).planning = d.planning := rfl
@[simp] theorem Device.setRing_job (r : RingId) (x : Ring) : (d.setRing r x).job = d.job := rfl
@[simp] theorem Device.setRing_power (r : RingId) (x : Ring) : (d.setRing r x).power = d.power := rfl
@[simp] theorem Device.setRing_tallies (r : RingId) (x : Ring) : (d.setRing r x).tallies = d.tallies := rfl
@[simp] theorem Device.setRing_msix (r : RingId) (x : Ring) : (d.setRing r x).msix = d.msix := rfl
@[simp] theorem Device.setRing_draws (r : RingId) (x : Ring) : (d.setRing r x).draws = d.draws := rfl
@[simp] theorem Device.setRing_rd (r : RingId) (x : Ring) (x0 : Nat) : (d.setRing r x).rd x0 = d.rd x0 := rfl
@[simp] theorem Device.setRing_blob (r : RingId) (x : Ring) (x0 : Nat) : (d.setRing r x).blob x0 = d.blob x0 := rfl
@[simp] theorem Device.setRing_shown (r : RingId) (x : Ring) (x0 : Nat) : (d.setRing r x).shown x0 = d.shown x0 := rfl
@[simp] theorem Device.setRing_fn (r : RingId) (x : Ring) (x0 : FnId) : (d.setRing r x).fn x0 = d.fn x0 := rfl
@[simp] theorem Device.setRing_personality (r : RingId) (x : Ring) : (d.setRing r x).personality = d.personality := rfl
@[simp] theorem Device.setRing_transition (r : RingId) (x : Ring) : (d.setRing r x).transition = d.transition := rfl
@[simp] theorem Device.setRing_core (r : RingId) (x : Ring) (x0 : Nat) : (d.setRing r x).core x0 = d.core x0 := rfl
@[simp] theorem Device.setRing_req (r : RingId) (x : Ring) (x0 : Requester) : (d.setRing r x).req x0 = d.req x0 := rfl
@[simp] theorem Device.setRing_slot (r : RingId) (x : Ring) (x0 : Nat) : (d.setRing r x).slot x0 = d.slot x0 := rfl
@[simp] theorem Device.setRing_mport (r : RingId) (x : Ring) (x0 : Nat) : (d.setRing r x).mport x0 = d.mport x0 := rfl
@[simp] theorem Device.setRing_active (r : RingId) (x : Ring) (x0 : Nat) : (d.setRing r x).active x0 = d.active x0 := rfl
@[simp] theorem Device.setRing_test (r : RingId) (x : Ring) (x0 : Nat) : (d.setRing r x).test x0 = d.test x0 := rfl

/-! ### Device.hostWrite -/

@[simp] theorem Device.hostWrite_dict (a : Nat) (l : List Byte) : (d.hostWrite a l).dict = d.dict := rfl
@[simp] theorem Device.hostWrite_blobs (a : Nat) (l : List Byte) : (d.hostWrite a l).blobs = d.blobs := rfl
@[simp] theorem Device.hostWrite_staged (a : Nat) (l : List Byte) : (d.hostWrite a l).staged = d.staged := rfl
@[simp] theorem Device.hostWrite_stagedNew (a : Nat) (l : List Byte) : (d.hostWrite a l).stagedNew = d.stagedNew := rfl
@[simp] theorem Device.hostWrite_reqs (a : Nat) (l : List Byte) : (d.hostWrite a l).reqs = d.reqs := rfl
@[simp] theorem Device.hostWrite_log (a : Nat) (l : List Byte) : (d.hostWrite a l).log = d.log := rfl
@[simp] theorem Device.hostWrite_rings (a : Nat) (l : List Byte) : (d.hostWrite a l).rings = d.rings := rfl
@[simp] theorem Device.hostWrite_host (a : Nat) (l : List Byte) : (d.hostWrite a l).host = SMap.putList d.host a 0 l := rfl
@[simp] theorem Device.hostWrite_boot (a : Nat) (l : List Byte) : (d.hostWrite a l).boot = d.boot := rfl
@[simp] theorem Device.hostWrite_loader (a : Nat) (l : List Byte) : (d.hostWrite a l).loader = d.loader := rfl
@[simp] theorem Device.hostWrite_strm (a : Nat) (l : List Byte) : (d.hostWrite a l).strm = d.strm := rfl
@[simp] theorem Device.hostWrite_cores (a : Nat) (l : List Byte) : (d.hostWrite a l).cores = d.cores := rfl
@[simp] theorem Device.hostWrite_mem (a : Nat) (l : List Byte) : (d.hostWrite a l).mem = d.mem := rfl
@[simp] theorem Device.hostWrite_hamper (a : Nat) (l : List Byte) : (d.hostWrite a l).hamper = d.hamper := rfl
@[simp] theorem Device.hostWrite_links (a : Nat) (l : List Byte) : (d.hostWrite a l).links = d.links := rfl
@[simp] theorem Device.hostWrite_guest (a : Nat) (l : List Byte) : (d.hostWrite a l).guest = d.guest := rfl
@[simp] theorem Device.hostWrite_safety (a : Nat) (l : List Byte) : (d.hostWrite a l).safety = d.safety := rfl
@[simp] theorem Device.hostWrite_slots (a : Nat) (l : List Byte) : (d.hostWrite a l).slots = d.slots := rfl
@[simp] theorem Device.hostWrite_world (a : Nat) (l : List Byte) : (d.hostWrite a l).world = d.world := rfl
@[simp] theorem Device.hostWrite_fusion (a : Nat) (l : List Byte) : (d.hostWrite a l).fusion = d.fusion := rfl
@[simp] theorem Device.hostWrite_planning (a : Nat) (l : List Byte) : (d.hostWrite a l).planning = d.planning := rfl
@[simp] theorem Device.hostWrite_job (a : Nat) (l : List Byte) : (d.hostWrite a l).job = d.job := rfl
@[simp] theorem Device.hostWrite_power (a : Nat) (l : List Byte) : (d.hostWrite a l).power = d.power := rfl
@[simp] theorem Device.hostWrite_tallies (a : Nat) (l : List Byte) : (d.hostWrite a l).tallies = d.tallies := rfl
@[simp] theorem Device.hostWrite_msix (a : Nat) (l : List Byte) : (d.hostWrite a l).msix = d.msix := rfl
@[simp] theorem Device.hostWrite_draws (a : Nat) (l : List Byte) : (d.hostWrite a l).draws = d.draws := rfl
@[simp] theorem Device.hostWrite_rd (a : Nat) (l : List Byte) (x0 : Nat) : (d.hostWrite a l).rd x0 = d.rd x0 := rfl
@[simp] theorem Device.hostWrite_blob (a : Nat) (l : List Byte) (x0 : Nat) : (d.hostWrite a l).blob x0 = d.blob x0 := rfl
@[simp] theorem Device.hostWrite_shown (a : Nat) (l : List Byte) (x0 : Nat) : (d.hostWrite a l).shown x0 = d.shown x0 := rfl
@[simp] theorem Device.hostWrite_fn (a : Nat) (l : List Byte) (x0 : FnId) : (d.hostWrite a l).fn x0 = d.fn x0 := rfl
@[simp] theorem Device.hostWrite_personality (a : Nat) (l : List Byte) : (d.hostWrite a l).personality = d.personality := rfl
@[simp] theorem Device.hostWrite_transition (a : Nat) (l : List Byte) : (d.hostWrite a l).transition = d.transition := rfl
@[simp] theorem Device.hostWrite_core (a : Nat) (l : List Byte) (x0 : Nat) : (d.hostWrite a l).core x0 = d.core x0 := rfl
@[simp] theorem Device.hostWrite_req (a : Nat) (l : List Byte) (x0 : Requester) : (d.hostWrite a l).req x0 = d.req x0 := rfl
@[simp] theorem Device.hostWrite_ring (a : Nat) (l : List Byte) (x0 : RingId) : (d.hostWrite a l).ring x0 = d.ring x0 := rfl
@[simp] theorem Device.hostWrite_slot (a : Nat) (l : List Byte) (x0 : Nat) : (d.hostWrite a l).slot x0 = d.slot x0 := rfl
@[simp] theorem Device.hostWrite_mport (a : Nat) (l : List Byte) (x0 : Nat) : (d.hostWrite a l).mport x0 = d.mport x0 := rfl
@[simp] theorem Device.hostWrite_active (a : Nat) (l : List Byte) (x0 : Nat) : (d.hostWrite a l).active x0 = d.active x0 := rfl
@[simp] theorem Device.hostWrite_test (a : Nat) (l : List Byte) (x0 : Nat) : (d.hostWrite a l).test x0 = d.test x0 := rfl

/-! ### Device.logEv -/

@[simp] theorem Device.logEv_dict (c : Code) (i d0 d1 d2 : Nat) : (d.logEv c i d0 d1 d2).dict = d.dict := rfl
@[simp] theorem Device.logEv_blobs (c : Code) (i d0 d1 d2 : Nat) : (d.logEv c i d0 d1 d2).blobs = d.blobs := rfl
@[simp] theorem Device.logEv_staged (c : Code) (i d0 d1 d2 : Nat) : (d.logEv c i d0 d1 d2).staged = d.staged := rfl
@[simp] theorem Device.logEv_stagedNew (c : Code) (i d0 d1 d2 : Nat) : (d.logEv c i d0 d1 d2).stagedNew = d.stagedNew := rfl
@[simp] theorem Device.logEv_reqs (c : Code) (i d0 d1 d2 : Nat) : (d.logEv c i d0 d1 d2).reqs = d.reqs := rfl
@[simp] theorem Device.logEv_log (c : Code) (i d0 d1 d2 : Nat) : (d.logEv c i d0 d1 d2).log = { d.log with inbox := d.log.inbox ++ [d.record c i d0 d1 d2] } := rfl
@[simp] theorem Device.logEv_rings (c : Code) (i d0 d1 d2 : Nat) : (d.logEv c i d0 d1 d2).rings = d.rings := rfl
@[simp] theorem Device.logEv_host (c : Code) (i d0 d1 d2 : Nat) : (d.logEv c i d0 d1 d2).host = d.host := rfl
@[simp] theorem Device.logEv_boot (c : Code) (i d0 d1 d2 : Nat) : (d.logEv c i d0 d1 d2).boot = d.boot := rfl
@[simp] theorem Device.logEv_loader (c : Code) (i d0 d1 d2 : Nat) : (d.logEv c i d0 d1 d2).loader = d.loader := rfl
@[simp] theorem Device.logEv_strm (c : Code) (i d0 d1 d2 : Nat) : (d.logEv c i d0 d1 d2).strm = d.strm := rfl
@[simp] theorem Device.logEv_cores (c : Code) (i d0 d1 d2 : Nat) : (d.logEv c i d0 d1 d2).cores = d.cores := rfl
@[simp] theorem Device.logEv_mem (c : Code) (i d0 d1 d2 : Nat) : (d.logEv c i d0 d1 d2).mem = d.mem := rfl
@[simp] theorem Device.logEv_hamper (c : Code) (i d0 d1 d2 : Nat) : (d.logEv c i d0 d1 d2).hamper = d.hamper := rfl
@[simp] theorem Device.logEv_links (c : Code) (i d0 d1 d2 : Nat) : (d.logEv c i d0 d1 d2).links = d.links := rfl
@[simp] theorem Device.logEv_guest (c : Code) (i d0 d1 d2 : Nat) : (d.logEv c i d0 d1 d2).guest = d.guest := rfl
@[simp] theorem Device.logEv_safety (c : Code) (i d0 d1 d2 : Nat) : (d.logEv c i d0 d1 d2).safety = d.safety := rfl
@[simp] theorem Device.logEv_slots (c : Code) (i d0 d1 d2 : Nat) : (d.logEv c i d0 d1 d2).slots = d.slots := rfl
@[simp] theorem Device.logEv_world (c : Code) (i d0 d1 d2 : Nat) : (d.logEv c i d0 d1 d2).world = d.world := rfl
@[simp] theorem Device.logEv_fusion (c : Code) (i d0 d1 d2 : Nat) : (d.logEv c i d0 d1 d2).fusion = d.fusion := rfl
@[simp] theorem Device.logEv_planning (c : Code) (i d0 d1 d2 : Nat) : (d.logEv c i d0 d1 d2).planning = d.planning := rfl
@[simp] theorem Device.logEv_job (c : Code) (i d0 d1 d2 : Nat) : (d.logEv c i d0 d1 d2).job = d.job := rfl
@[simp] theorem Device.logEv_power (c : Code) (i d0 d1 d2 : Nat) : (d.logEv c i d0 d1 d2).power = d.power := rfl
@[simp] theorem Device.logEv_tallies (c : Code) (i d0 d1 d2 : Nat) : (d.logEv c i d0 d1 d2).tallies = d.tallies := rfl
@[simp] theorem Device.logEv_msix (c : Code) (i d0 d1 d2 : Nat) : (d.logEv c i d0 d1 d2).msix = d.msix := rfl
@[simp] theorem Device.logEv_draws (c : Code) (i d0 d1 d2 : Nat) : (d.logEv c i d0 d1 d2).draws = d.draws := rfl
@[simp] theorem Device.logEv_rd (c : Code) (i d0 d1 d2 : Nat) (x0 : Nat) : (d.logEv c i d0 d1 d2).rd x0 = d.rd x0 := rfl
@[simp] theorem Device.logEv_blob (c : Code) (i d0 d1 d2 : Nat) (x0 : Nat) : (d.logEv c i d0 d1 d2).blob x0 = d.blob x0 := rfl
@[simp] theorem Device.logEv_shown (c : Code) (i d0 d1 d2 : Nat) (x0 : Nat) : (d.logEv c i d0 d1 d2).shown x0 = d.shown x0 := rfl
@[simp] theorem Device.logEv_fn (c : Code) (i d0 d1 d2 : Nat) (x0 : FnId) : (d.logEv c i d0 d1 d2).fn x0 = d.fn x0 := rfl
@[simp] theorem Device.logEv_personality (c : Code) (i d0 d1 d2 : Nat) : (d.logEv c i d0 d1 d2).personality = d.personality := rfl
@[simp] theorem Device.logEv_transition (c : Code) (i d0 d1 d2 : Nat) : (d.logEv c i d0 d1 d2).transition = d.transition := rfl
@[simp] theorem Device.logEv_core (c : Code) (i d0 d1 d2 : Nat) (x0 : Nat) : (d.logEv c i d0 d1 d2).core x0 = d.core x0 := rfl
@[simp] theorem Device.logEv_req (c : Code) (i d0 d1 d2 : Nat) (x0 : Requester) : (d.logEv c i d0 d1 d2).req x0 = d.req x0 := rfl
@[simp] theorem Device.logEv_ring (c : Code) (i d0 d1 d2 : Nat) (x0 : RingId) : (d.logEv c i d0 d1 d2).ring x0 = d.ring x0 := rfl
@[simp] theorem Device.logEv_slot (c : Code) (i d0 d1 d2 : Nat) (x0 : Nat) : (d.logEv c i d0 d1 d2).slot x0 = d.slot x0 := rfl
@[simp] theorem Device.logEv_mport (c : Code) (i d0 d1 d2 : Nat) (x0 : Nat) : (d.logEv c i d0 d1 d2).mport x0 = d.mport x0 := rfl
@[simp] theorem Device.logEv_active (c : Code) (i d0 d1 d2 : Nat) (x0 : Nat) : (d.logEv c i d0 d1 d2).active x0 = d.active x0 := rfl
@[simp] theorem Device.logEv_test (c : Code) (i d0 d1 d2 : Nat) (x0 : Nat) : (d.logEv c i d0 d1 d2).test x0 = d.test x0 := rfl

/-! ### Device.tally -/

@[simp] theorem Device.tally_dict (c : Code) (i n : Nat) : (d.tally c i n).dict = d.dict := rfl
@[simp] theorem Device.tally_blobs (c : Code) (i n : Nat) : (d.tally c i n).blobs = d.blobs := rfl
@[simp] theorem Device.tally_staged (c : Code) (i n : Nat) : (d.tally c i n).staged = d.staged := rfl
@[simp] theorem Device.tally_stagedNew (c : Code) (i n : Nat) : (d.tally c i n).stagedNew = d.stagedNew := rfl
@[simp] theorem Device.tally_reqs (c : Code) (i n : Nat) : (d.tally c i n).reqs = d.reqs := rfl
@[simp] theorem Device.tally_log (c : Code) (i n : Nat) : (d.tally c i n).log = d.log := rfl
@[simp] theorem Device.tally_rings (c : Code) (i n : Nat) : (d.tally c i n).rings = d.rings := rfl
@[simp] theorem Device.tally_host (c : Code) (i n : Nat) : (d.tally c i n).host = d.host := rfl
@[simp] theorem Device.tally_boot (c : Code) (i n : Nat) : (d.tally c i n).boot = d.boot := rfl
@[simp] theorem Device.tally_loader (c : Code) (i n : Nat) : (d.tally c i n).loader = d.loader := rfl
@[simp] theorem Device.tally_strm (c : Code) (i n : Nat) : (d.tally c i n).strm = d.strm := rfl
@[simp] theorem Device.tally_cores (c : Code) (i n : Nat) : (d.tally c i n).cores = d.cores := rfl
@[simp] theorem Device.tally_mem (c : Code) (i n : Nat) : (d.tally c i n).mem = d.mem := rfl
@[simp] theorem Device.tally_hamper (c : Code) (i n : Nat) : (d.tally c i n).hamper = d.hamper := rfl
@[simp] theorem Device.tally_links (c : Code) (i n : Nat) : (d.tally c i n).links = d.links := rfl
@[simp] theorem Device.tally_guest (c : Code) (i n : Nat) : (d.tally c i n).guest = d.guest := rfl
@[simp] theorem Device.tally_safety (c : Code) (i n : Nat) : (d.tally c i n).safety = d.safety := rfl
@[simp] theorem Device.tally_slots (c : Code) (i n : Nat) : (d.tally c i n).slots = d.slots := rfl
@[simp] theorem Device.tally_world (c : Code) (i n : Nat) : (d.tally c i n).world = d.world := rfl
@[simp] theorem Device.tally_fusion (c : Code) (i n : Nat) : (d.tally c i n).fusion = d.fusion := rfl
@[simp] theorem Device.tally_planning (c : Code) (i n : Nat) : (d.tally c i n).planning = d.planning := rfl
@[simp] theorem Device.tally_job (c : Code) (i n : Nat) : (d.tally c i n).job = d.job := rfl
@[simp] theorem Device.tally_power (c : Code) (i n : Nat) : (d.tally c i n).power = d.power := rfl
@[simp] theorem Device.tally_tallies (c : Code) (i n : Nat) : (d.tally c i n).tallies = SMap.put d.tallies (c * 256 + i % 256) (SMap.getD d.tallies (c * 256 + i % 256) 0 + n) 0 := rfl
@[simp] theorem Device.tally_msix (c : Code) (i n : Nat) : (d.tally c i n).msix = d.msix := rfl
@[simp] theorem Device.tally_draws (c : Code) (i n : Nat) : (d.tally c i n).draws = d.draws := rfl
@[simp] theorem Device.tally_rd (c : Code) (i n : Nat) (x0 : Nat) : (d.tally c i n).rd x0 = d.rd x0 := rfl
@[simp] theorem Device.tally_blob (c : Code) (i n : Nat) (x0 : Nat) : (d.tally c i n).blob x0 = d.blob x0 := rfl
@[simp] theorem Device.tally_shown (c : Code) (i n : Nat) (x0 : Nat) : (d.tally c i n).shown x0 = d.shown x0 := rfl
@[simp] theorem Device.tally_fn (c : Code) (i n : Nat) (x0 : FnId) : (d.tally c i n).fn x0 = d.fn x0 := rfl
@[simp] theorem Device.tally_personality (c : Code) (i n : Nat) : (d.tally c i n).personality = d.personality := rfl
@[simp] theorem Device.tally_transition (c : Code) (i n : Nat) : (d.tally c i n).transition = d.transition := rfl
@[simp] theorem Device.tally_core (c : Code) (i n : Nat) (x0 : Nat) : (d.tally c i n).core x0 = d.core x0 := rfl
@[simp] theorem Device.tally_req (c : Code) (i n : Nat) (x0 : Requester) : (d.tally c i n).req x0 = d.req x0 := rfl
@[simp] theorem Device.tally_ring (c : Code) (i n : Nat) (x0 : RingId) : (d.tally c i n).ring x0 = d.ring x0 := rfl
@[simp] theorem Device.tally_slot (c : Code) (i n : Nat) (x0 : Nat) : (d.tally c i n).slot x0 = d.slot x0 := rfl
@[simp] theorem Device.tally_mport (c : Code) (i n : Nat) (x0 : Nat) : (d.tally c i n).mport x0 = d.mport x0 := rfl
@[simp] theorem Device.tally_active (c : Code) (i n : Nat) (x0 : Nat) : (d.tally c i n).active x0 = d.active x0 := rfl
@[simp] theorem Device.tally_test (c : Code) (i n : Nat) (x0 : Nat) : (d.tally c i n).test x0 = d.test x0 := rfl

/-! ### Device.tellA -/

@[simp] theorem Device.tellA_dict (e : LookoutEvent) : (d.tellA e).dict = d.dict := rfl
@[simp] theorem Device.tellA_blobs (e : LookoutEvent) : (d.tellA e).blobs = d.blobs := rfl
@[simp] theorem Device.tellA_staged (e : LookoutEvent) : (d.tellA e).staged = d.staged := rfl
@[simp] theorem Device.tellA_stagedNew (e : LookoutEvent) : (d.tellA e).stagedNew = d.stagedNew := rfl
@[simp] theorem Device.tellA_reqs (e : LookoutEvent) : (d.tellA e).reqs = d.reqs := rfl
@[simp] theorem Device.tellA_log (e : LookoutEvent) : (d.tellA e).log = d.log := rfl
@[simp] theorem Device.tellA_rings (e : LookoutEvent) : (d.tellA e).rings = d.rings := rfl
@[simp] theorem Device.tellA_host (e : LookoutEvent) : (d.tellA e).host = d.host := rfl
@[simp] theorem Device.tellA_boot (e : LookoutEvent) : (d.tellA e).boot = d.boot := rfl
@[simp] theorem Device.tellA_loader (e : LookoutEvent) : (d.tellA e).loader = d.loader := rfl
@[simp] theorem Device.tellA_strm (e : LookoutEvent) : (d.tellA e).strm = d.strm := rfl
@[simp] theorem Device.tellA_cores (e : LookoutEvent) : (d.tellA e).cores = d.cores := rfl
@[simp] theorem Device.tellA_mem (e : LookoutEvent) : (d.tellA e).mem = d.mem := rfl
@[simp] theorem Device.tellA_hamper (e : LookoutEvent) : (d.tellA e).hamper = d.hamper := rfl
@[simp] theorem Device.tellA_links (e : LookoutEvent) : (d.tellA e).links = d.links := rfl
@[simp] theorem Device.tellA_guest (e : LookoutEvent) : (d.tellA e).guest = d.guest := rfl
@[simp] theorem Device.tellA_safety (e : LookoutEvent) : (d.tellA e).safety = { d.safety with events := d.safety.events ++ [e] } := rfl
@[simp] theorem Device.tellA_slots (e : LookoutEvent) : (d.tellA e).slots = d.slots := rfl
@[simp] theorem Device.tellA_world (e : LookoutEvent) : (d.tellA e).world = d.world := rfl
@[simp] theorem Device.tellA_fusion (e : LookoutEvent) : (d.tellA e).fusion = d.fusion := rfl
@[simp] theorem Device.tellA_planning (e : LookoutEvent) : (d.tellA e).planning = d.planning := rfl
@[simp] theorem Device.tellA_job (e : LookoutEvent) : (d.tellA e).job = d.job := rfl
@[simp] theorem Device.tellA_power (e : LookoutEvent) : (d.tellA e).power = d.power := rfl
@[simp] theorem Device.tellA_tallies (e : LookoutEvent) : (d.tellA e).tallies = d.tallies := rfl
@[simp] theorem Device.tellA_msix (e : LookoutEvent) : (d.tellA e).msix = d.msix := rfl
@[simp] theorem Device.tellA_draws (e : LookoutEvent) : (d.tellA e).draws = d.draws := rfl
@[simp] theorem Device.tellA_rd (e : LookoutEvent) (x0 : Nat) : (d.tellA e).rd x0 = d.rd x0 := rfl
@[simp] theorem Device.tellA_blob (e : LookoutEvent) (x0 : Nat) : (d.tellA e).blob x0 = d.blob x0 := rfl
@[simp] theorem Device.tellA_shown (e : LookoutEvent) (x0 : Nat) : (d.tellA e).shown x0 = d.shown x0 := rfl
@[simp] theorem Device.tellA_fn (e : LookoutEvent) (x0 : FnId) : (d.tellA e).fn x0 = d.fn x0 := rfl
@[simp] theorem Device.tellA_personality (e : LookoutEvent) : (d.tellA e).personality = d.personality := rfl
@[simp] theorem Device.tellA_transition (e : LookoutEvent) : (d.tellA e).transition = d.transition := rfl
@[simp] theorem Device.tellA_core (e : LookoutEvent) (x0 : Nat) : (d.tellA e).core x0 = d.core x0 := rfl
@[simp] theorem Device.tellA_req (e : LookoutEvent) (x0 : Requester) : (d.tellA e).req x0 = d.req x0 := rfl
@[simp] theorem Device.tellA_ring (e : LookoutEvent) (x0 : RingId) : (d.tellA e).ring x0 = d.ring x0 := rfl
@[simp] theorem Device.tellA_slot (e : LookoutEvent) (x0 : Nat) : (d.tellA e).slot x0 = d.slot x0 := rfl
@[simp] theorem Device.tellA_mport (e : LookoutEvent) (x0 : Nat) : (d.tellA e).mport x0 = d.mport x0 := rfl
@[simp] theorem Device.tellA_active (e : LookoutEvent) (x0 : Nat) : (d.tellA e).active x0 = d.active x0 := rfl

/-! ### Device.drawn -/

@[simp] theorem Device.drawn_dict : d.drawn.dict = d.dict := rfl
@[simp] theorem Device.drawn_blobs : d.drawn.blobs = d.blobs := rfl
@[simp] theorem Device.drawn_staged : d.drawn.staged = d.staged := rfl
@[simp] theorem Device.drawn_stagedNew : d.drawn.stagedNew = d.stagedNew := rfl
@[simp] theorem Device.drawn_reqs : d.drawn.reqs = d.reqs := rfl
@[simp] theorem Device.drawn_log : d.drawn.log = d.log := rfl
@[simp] theorem Device.drawn_rings : d.drawn.rings = d.rings := rfl
@[simp] theorem Device.drawn_host : d.drawn.host = d.host := rfl
@[simp] theorem Device.drawn_boot : d.drawn.boot = d.boot := rfl
@[simp] theorem Device.drawn_loader : d.drawn.loader = d.loader := rfl
@[simp] theorem Device.drawn_strm : d.drawn.strm = d.strm := rfl
@[simp] theorem Device.drawn_cores : d.drawn.cores = d.cores := rfl
@[simp] theorem Device.drawn_mem : d.drawn.mem = d.mem := rfl
@[simp] theorem Device.drawn_hamper : d.drawn.hamper = d.hamper := rfl
@[simp] theorem Device.drawn_links : d.drawn.links = d.links := rfl
@[simp] theorem Device.drawn_guest : d.drawn.guest = d.guest := rfl
@[simp] theorem Device.drawn_safety : d.drawn.safety = d.safety := rfl
@[simp] theorem Device.drawn_slots : d.drawn.slots = d.slots := rfl
@[simp] theorem Device.drawn_world : d.drawn.world = d.world := rfl
@[simp] theorem Device.drawn_fusion : d.drawn.fusion = d.fusion := rfl
@[simp] theorem Device.drawn_planning : d.drawn.planning = d.planning := rfl
@[simp] theorem Device.drawn_job : d.drawn.job = d.job := rfl
@[simp] theorem Device.drawn_power : d.drawn.power = d.power := rfl
@[simp] theorem Device.drawn_tallies : d.drawn.tallies = d.tallies := rfl
@[simp] theorem Device.drawn_msix : d.drawn.msix = d.msix := rfl
@[simp] theorem Device.drawn_draws : d.drawn.draws = d.draws + 1 := rfl
@[simp] theorem Device.drawn_rd (x0 : Nat) : d.drawn.rd x0 = d.rd x0 := rfl
@[simp] theorem Device.drawn_blob (x0 : Nat) : d.drawn.blob x0 = d.blob x0 := rfl
@[simp] theorem Device.drawn_shown (x0 : Nat) : d.drawn.shown x0 = d.shown x0 := rfl
@[simp] theorem Device.drawn_fn (x0 : FnId) : d.drawn.fn x0 = d.fn x0 := rfl
@[simp] theorem Device.drawn_personality : d.drawn.personality = d.personality := rfl
@[simp] theorem Device.drawn_transition : d.drawn.transition = d.transition := rfl
@[simp] theorem Device.drawn_core (x0 : Nat) : d.drawn.core x0 = d.core x0 := rfl
@[simp] theorem Device.drawn_req (x0 : Requester) : d.drawn.req x0 = d.req x0 := rfl
@[simp] theorem Device.drawn_ring (x0 : RingId) : d.drawn.ring x0 = d.ring x0 := rfl
@[simp] theorem Device.drawn_slot (x0 : Nat) : d.drawn.slot x0 = d.slot x0 := rfl
@[simp] theorem Device.drawn_mport (x0 : Nat) : d.drawn.mport x0 = d.mport x0 := rfl
@[simp] theorem Device.drawn_active (x0 : Nat) : d.drawn.active x0 = d.active x0 := rfl
@[simp] theorem Device.drawn_test (x0 : Nat) : d.drawn.test x0 = d.test x0 := rfl

/-! ### Device.drew -/

@[simp] theorem Device.drew_dict (n : Nat) : (d.drew n).dict = d.dict := rfl
@[simp] theorem Device.drew_blobs (n : Nat) : (d.drew n).blobs = d.blobs := rfl
@[simp] theorem Device.drew_staged (n : Nat) : (d.drew n).staged = d.staged := rfl
@[simp] theorem Device.drew_stagedNew (n : Nat) : (d.drew n).stagedNew = d.stagedNew := rfl
@[simp] theorem Device.drew_reqs (n : Nat) : (d.drew n).reqs = d.reqs := rfl
@[simp] theorem Device.drew_log (n : Nat) : (d.drew n).log = d.log := rfl
@[simp] theorem Device.drew_rings (n : Nat) : (d.drew n).rings = d.rings := rfl
@[simp] theorem Device.drew_host (n : Nat) : (d.drew n).host = d.host := rfl
@[simp] theorem Device.drew_boot (n : Nat) : (d.drew n).boot = d.boot := rfl
@[simp] theorem Device.drew_loader (n : Nat) : (d.drew n).loader = d.loader := rfl
@[simp] theorem Device.drew_strm (n : Nat) : (d.drew n).strm = d.strm := rfl
@[simp] theorem Device.drew_cores (n : Nat) : (d.drew n).cores = d.cores := rfl
@[simp] theorem Device.drew_mem (n : Nat) : (d.drew n).mem = d.mem := rfl
@[simp] theorem Device.drew_hamper (n : Nat) : (d.drew n).hamper = d.hamper := rfl
@[simp] theorem Device.drew_links (n : Nat) : (d.drew n).links = d.links := rfl
@[simp] theorem Device.drew_guest (n : Nat) : (d.drew n).guest = d.guest := rfl
@[simp] theorem Device.drew_safety (n : Nat) : (d.drew n).safety = d.safety := rfl
@[simp] theorem Device.drew_slots (n : Nat) : (d.drew n).slots = d.slots := rfl
@[simp] theorem Device.drew_world (n : Nat) : (d.drew n).world = d.world := rfl
@[simp] theorem Device.drew_fusion (n : Nat) : (d.drew n).fusion = d.fusion := rfl
@[simp] theorem Device.drew_planning (n : Nat) : (d.drew n).planning = d.planning := rfl
@[simp] theorem Device.drew_job (n : Nat) : (d.drew n).job = d.job := rfl
@[simp] theorem Device.drew_power (n : Nat) : (d.drew n).power = d.power := rfl
@[simp] theorem Device.drew_tallies (n : Nat) : (d.drew n).tallies = d.tallies := rfl
@[simp] theorem Device.drew_msix (n : Nat) : (d.drew n).msix = d.msix := rfl
@[simp] theorem Device.drew_draws (n : Nat) : (d.drew n).draws = d.draws + n := rfl
@[simp] theorem Device.drew_rd (n : Nat) (x0 : Nat) : (d.drew n).rd x0 = d.rd x0 := rfl
@[simp] theorem Device.drew_blob (n : Nat) (x0 : Nat) : (d.drew n).blob x0 = d.blob x0 := rfl
@[simp] theorem Device.drew_shown (n : Nat) (x0 : Nat) : (d.drew n).shown x0 = d.shown x0 := rfl
@[simp] theorem Device.drew_fn (n : Nat) (x0 : FnId) : (d.drew n).fn x0 = d.fn x0 := rfl
@[simp] theorem Device.drew_personality (n : Nat) : (d.drew n).personality = d.personality := rfl
@[simp] theorem Device.drew_transition (n : Nat) : (d.drew n).transition = d.transition := rfl
@[simp] theorem Device.drew_core (n : Nat) (x0 : Nat) : (d.drew n).core x0 = d.core x0 := rfl
@[simp] theorem Device.drew_req (n : Nat) (x0 : Requester) : (d.drew n).req x0 = d.req x0 := rfl
@[simp] theorem Device.drew_ring (n : Nat) (x0 : RingId) : (d.drew n).ring x0 = d.ring x0 := rfl
@[simp] theorem Device.drew_slot (n : Nat) (x0 : Nat) : (d.drew n).slot x0 = d.slot x0 := rfl
@[simp] theorem Device.drew_mport (n : Nat) (x0 : Nat) : (d.drew n).mport x0 = d.mport x0 := rfl
@[simp] theorem Device.drew_active (n : Nat) (x0 : Nat) : (d.drew n).active x0 = d.active x0 := rfl
@[simp] theorem Device.drew_test (n : Nat) (x0 : Nat) : (d.drew n).test x0 = d.test x0 := rfl

/-! ### Device.setPersonality -/

@[simp] theorem Device.setPersonality_blobs (p : Personality) : (d.setPersonality p).blobs = d.blobs := rfl
@[simp] theorem Device.setPersonality_staged (p : Personality) : (d.setPersonality p).staged = d.staged := rfl
@[simp] theorem Device.setPersonality_stagedNew (p : Personality) : (d.setPersonality p).stagedNew = d.stagedNew := rfl
@[simp] theorem Device.setPersonality_reqs (p : Personality) : (d.setPersonality p).reqs = d.reqs := rfl
@[simp] theorem Device.setPersonality_log (p : Personality) : (d.setPersonality p).log = d.log := rfl
@[simp] theorem Device.setPersonality_rings (p : Personality) : (d.setPersonality p).rings = d.rings := rfl
@[simp] theorem Device.setPersonality_host (p : Personality) : (d.setPersonality p).host = d.host := rfl
@[simp] theorem Device.setPersonality_boot (p : Personality) : (d.setPersonality p).boot = d.boot := rfl
@[simp] theorem Device.setPersonality_loader (p : Personality) : (d.setPersonality p).loader = d.loader := rfl
@[simp] theorem Device.setPersonality_strm (p : Personality) : (d.setPersonality p).strm = d.strm := rfl
@[simp] theorem Device.setPersonality_cores (p : Personality) : (d.setPersonality p).cores = d.cores := rfl
@[simp] theorem Device.setPersonality_mem (p : Personality) : (d.setPersonality p).mem = d.mem := rfl
@[simp] theorem Device.setPersonality_hamper (p : Personality) : (d.setPersonality p).hamper = d.hamper := rfl
@[simp] theorem Device.setPersonality_links (p : Personality) : (d.setPersonality p).links = d.links := rfl
@[simp] theorem Device.setPersonality_guest (p : Personality) : (d.setPersonality p).guest = d.guest := rfl
@[simp] theorem Device.setPersonality_safety (p : Personality) : (d.setPersonality p).safety = d.safety := rfl
@[simp] theorem Device.setPersonality_slots (p : Personality) : (d.setPersonality p).slots = d.slots := rfl
@[simp] theorem Device.setPersonality_world (p : Personality) : (d.setPersonality p).world = d.world := rfl
@[simp] theorem Device.setPersonality_fusion (p : Personality) : (d.setPersonality p).fusion = d.fusion := rfl
@[simp] theorem Device.setPersonality_planning (p : Personality) : (d.setPersonality p).planning = d.planning := rfl
@[simp] theorem Device.setPersonality_job (p : Personality) : (d.setPersonality p).job = d.job := rfl
@[simp] theorem Device.setPersonality_power (p : Personality) : (d.setPersonality p).power = d.power := rfl
@[simp] theorem Device.setPersonality_tallies (p : Personality) : (d.setPersonality p).tallies = d.tallies := rfl
@[simp] theorem Device.setPersonality_msix (p : Personality) : (d.setPersonality p).msix = d.msix := rfl
@[simp] theorem Device.setPersonality_draws (p : Personality) : (d.setPersonality p).draws = d.draws := rfl
@[simp] theorem Device.setPersonality_blob (p : Personality) (x0 : Nat) : (d.setPersonality p).blob x0 = d.blob x0 := rfl
@[simp] theorem Device.setPersonality_core (p : Personality) (x0 : Nat) : (d.setPersonality p).core x0 = d.core x0 := rfl
@[simp] theorem Device.setPersonality_req (p : Personality) (x0 : Requester) : (d.setPersonality p).req x0 = d.req x0 := rfl
@[simp] theorem Device.setPersonality_ring (p : Personality) (x0 : RingId) : (d.setPersonality p).ring x0 = d.ring x0 := rfl
@[simp] theorem Device.setPersonality_slot (p : Personality) (x0 : Nat) : (d.setPersonality p).slot x0 = d.slot x0 := rfl
@[simp] theorem Device.setPersonality_mport (p : Personality) (x0 : Nat) : (d.setPersonality p).mport x0 = d.mport x0 := rfl
@[simp] theorem Device.setPersonality_test (p : Personality) (x0 : Nat) : (d.setPersonality p).test x0 = d.test x0 := rfl

/-! ### Device.setTransition -/

@[simp] theorem Device.setTransition_blobs (t : Transition) : (d.setTransition t).blobs = d.blobs := rfl
@[simp] theorem Device.setTransition_staged (t : Transition) : (d.setTransition t).staged = d.staged := rfl
@[simp] theorem Device.setTransition_stagedNew (t : Transition) : (d.setTransition t).stagedNew = d.stagedNew := rfl
@[simp] theorem Device.setTransition_reqs (t : Transition) : (d.setTransition t).reqs = d.reqs := rfl
@[simp] theorem Device.setTransition_log (t : Transition) : (d.setTransition t).log = d.log := rfl
@[simp] theorem Device.setTransition_rings (t : Transition) : (d.setTransition t).rings = d.rings := rfl
@[simp] theorem Device.setTransition_host (t : Transition) : (d.setTransition t).host = d.host := rfl
@[simp] theorem Device.setTransition_boot (t : Transition) : (d.setTransition t).boot = d.boot := rfl
@[simp] theorem Device.setTransition_loader (t : Transition) : (d.setTransition t).loader = d.loader := rfl
@[simp] theorem Device.setTransition_strm (t : Transition) : (d.setTransition t).strm = d.strm := rfl
@[simp] theorem Device.setTransition_cores (t : Transition) : (d.setTransition t).cores = d.cores := rfl
@[simp] theorem Device.setTransition_mem (t : Transition) : (d.setTransition t).mem = d.mem := rfl
@[simp] theorem Device.setTransition_hamper (t : Transition) : (d.setTransition t).hamper = d.hamper := rfl
@[simp] theorem Device.setTransition_links (t : Transition) : (d.setTransition t).links = d.links := rfl
@[simp] theorem Device.setTransition_guest (t : Transition) : (d.setTransition t).guest = d.guest := rfl
@[simp] theorem Device.setTransition_safety (t : Transition) : (d.setTransition t).safety = d.safety := rfl
@[simp] theorem Device.setTransition_slots (t : Transition) : (d.setTransition t).slots = d.slots := rfl
@[simp] theorem Device.setTransition_world (t : Transition) : (d.setTransition t).world = d.world := rfl
@[simp] theorem Device.setTransition_fusion (t : Transition) : (d.setTransition t).fusion = d.fusion := rfl
@[simp] theorem Device.setTransition_planning (t : Transition) : (d.setTransition t).planning = d.planning := rfl
@[simp] theorem Device.setTransition_job (t : Transition) : (d.setTransition t).job = d.job := rfl
@[simp] theorem Device.setTransition_power (t : Transition) : (d.setTransition t).power = d.power := rfl
@[simp] theorem Device.setTransition_tallies (t : Transition) : (d.setTransition t).tallies = d.tallies := rfl
@[simp] theorem Device.setTransition_msix (t : Transition) : (d.setTransition t).msix = d.msix := rfl
@[simp] theorem Device.setTransition_draws (t : Transition) : (d.setTransition t).draws = d.draws := rfl
@[simp] theorem Device.setTransition_blob (t : Transition) (x0 : Nat) : (d.setTransition t).blob x0 = d.blob x0 := rfl
@[simp] theorem Device.setTransition_core (t : Transition) (x0 : Nat) : (d.setTransition t).core x0 = d.core x0 := rfl
@[simp] theorem Device.setTransition_req (t : Transition) (x0 : Requester) : (d.setTransition t).req x0 = d.req x0 := rfl
@[simp] theorem Device.setTransition_ring (t : Transition) (x0 : RingId) : (d.setTransition t).ring x0 = d.ring x0 := rfl
@[simp] theorem Device.setTransition_slot (t : Transition) (x0 : Nat) : (d.setTransition t).slot x0 = d.slot x0 := rfl
@[simp] theorem Device.setTransition_mport (t : Transition) (x0 : Nat) : (d.setTransition t).mport x0 = d.mport x0 := rfl
@[simp] theorem Device.setTransition_test (t : Transition) (x0 : Nat) : (d.setTransition t).test x0 = d.test x0 := rfl

/-! ### Device.setFn -/

@[simp] theorem Device.setFn_blobs (f : FnId) (x : FnState) : (d.setFn f x).blobs = d.blobs := rfl
@[simp] theorem Device.setFn_staged (f : FnId) (x : FnState) : (d.setFn f x).staged = d.staged := rfl
@[simp] theorem Device.setFn_stagedNew (f : FnId) (x : FnState) : (d.setFn f x).stagedNew = d.stagedNew := rfl
@[simp] theorem Device.setFn_reqs (f : FnId) (x : FnState) : (d.setFn f x).reqs = d.reqs := rfl
@[simp] theorem Device.setFn_log (f : FnId) (x : FnState) : (d.setFn f x).log = d.log := rfl
@[simp] theorem Device.setFn_rings (f : FnId) (x : FnState) : (d.setFn f x).rings = d.rings := rfl
@[simp] theorem Device.setFn_host (f : FnId) (x : FnState) : (d.setFn f x).host = d.host := rfl
@[simp] theorem Device.setFn_boot (f : FnId) (x : FnState) : (d.setFn f x).boot = d.boot := rfl
@[simp] theorem Device.setFn_loader (f : FnId) (x : FnState) : (d.setFn f x).loader = d.loader := rfl
@[simp] theorem Device.setFn_strm (f : FnId) (x : FnState) : (d.setFn f x).strm = d.strm := rfl
@[simp] theorem Device.setFn_cores (f : FnId) (x : FnState) : (d.setFn f x).cores = d.cores := rfl
@[simp] theorem Device.setFn_mem (f : FnId) (x : FnState) : (d.setFn f x).mem = d.mem := rfl
@[simp] theorem Device.setFn_hamper (f : FnId) (x : FnState) : (d.setFn f x).hamper = d.hamper := rfl
@[simp] theorem Device.setFn_links (f : FnId) (x : FnState) : (d.setFn f x).links = d.links := rfl
@[simp] theorem Device.setFn_guest (f : FnId) (x : FnState) : (d.setFn f x).guest = d.guest := rfl
@[simp] theorem Device.setFn_safety (f : FnId) (x : FnState) : (d.setFn f x).safety = d.safety := rfl
@[simp] theorem Device.setFn_slots (f : FnId) (x : FnState) : (d.setFn f x).slots = d.slots := rfl
@[simp] theorem Device.setFn_world (f : FnId) (x : FnState) : (d.setFn f x).world = d.world := rfl
@[simp] theorem Device.setFn_fusion (f : FnId) (x : FnState) : (d.setFn f x).fusion = d.fusion := rfl
@[simp] theorem Device.setFn_planning (f : FnId) (x : FnState) : (d.setFn f x).planning = d.planning := rfl
@[simp] theorem Device.setFn_job (f : FnId) (x : FnState) : (d.setFn f x).job = d.job := rfl
@[simp] theorem Device.setFn_power (f : FnId) (x : FnState) : (d.setFn f x).power = d.power := rfl
@[simp] theorem Device.setFn_tallies (f : FnId) (x : FnState) : (d.setFn f x).tallies = d.tallies := rfl
@[simp] theorem Device.setFn_msix (f : FnId) (x : FnState) : (d.setFn f x).msix = d.msix := rfl
@[simp] theorem Device.setFn_draws (f : FnId) (x : FnState) : (d.setFn f x).draws = d.draws := rfl
@[simp] theorem Device.setFn_blob (f : FnId) (x : FnState) (x0 : Nat) : (d.setFn f x).blob x0 = d.blob x0 := rfl
@[simp] theorem Device.setFn_core (f : FnId) (x : FnState) (x0 : Nat) : (d.setFn f x).core x0 = d.core x0 := rfl
@[simp] theorem Device.setFn_req (f : FnId) (x : FnState) (x0 : Requester) : (d.setFn f x).req x0 = d.req x0 := rfl
@[simp] theorem Device.setFn_ring (f : FnId) (x : FnState) (x0 : RingId) : (d.setFn f x).ring x0 = d.ring x0 := rfl
@[simp] theorem Device.setFn_slot (f : FnId) (x : FnState) (x0 : Nat) : (d.setFn f x).slot x0 = d.slot x0 := rfl
@[simp] theorem Device.setFn_mport (f : FnId) (x : FnState) (x0 : Nat) : (d.setFn f x).mport x0 = d.mport x0 := rfl
@[simp] theorem Device.setFn_test (f : FnId) (x : FnState) (x0 : Nat) : (d.setFn f x).test x0 = d.test x0 := rfl

/-! ### Device.bump -/

@[simp] theorem Device.bump_blobs (k : Nat) : (d.bump k).blobs = d.blobs := rfl
@[simp] theorem Device.bump_staged (k : Nat) : (d.bump k).staged = d.staged := rfl
@[simp] theorem Device.bump_stagedNew (k : Nat) : (d.bump k).stagedNew = d.stagedNew := rfl
@[simp] theorem Device.bump_reqs (k : Nat) : (d.bump k).reqs = d.reqs := rfl
@[simp] theorem Device.bump_log (k : Nat) : (d.bump k).log = d.log := rfl
@[simp] theorem Device.bump_rings (k : Nat) : (d.bump k).rings = d.rings := rfl
@[simp] theorem Device.bump_host (k : Nat) : (d.bump k).host = d.host := rfl
@[simp] theorem Device.bump_boot (k : Nat) : (d.bump k).boot = d.boot := rfl
@[simp] theorem Device.bump_loader (k : Nat) : (d.bump k).loader = d.loader := rfl
@[simp] theorem Device.bump_strm (k : Nat) : (d.bump k).strm = d.strm := rfl
@[simp] theorem Device.bump_cores (k : Nat) : (d.bump k).cores = d.cores := rfl
@[simp] theorem Device.bump_mem (k : Nat) : (d.bump k).mem = d.mem := rfl
@[simp] theorem Device.bump_hamper (k : Nat) : (d.bump k).hamper = d.hamper := rfl
@[simp] theorem Device.bump_links (k : Nat) : (d.bump k).links = d.links := rfl
@[simp] theorem Device.bump_guest (k : Nat) : (d.bump k).guest = d.guest := rfl
@[simp] theorem Device.bump_safety (k : Nat) : (d.bump k).safety = d.safety := rfl
@[simp] theorem Device.bump_slots (k : Nat) : (d.bump k).slots = d.slots := rfl
@[simp] theorem Device.bump_world (k : Nat) : (d.bump k).world = d.world := rfl
@[simp] theorem Device.bump_fusion (k : Nat) : (d.bump k).fusion = d.fusion := rfl
@[simp] theorem Device.bump_planning (k : Nat) : (d.bump k).planning = d.planning := rfl
@[simp] theorem Device.bump_job (k : Nat) : (d.bump k).job = d.job := rfl
@[simp] theorem Device.bump_power (k : Nat) : (d.bump k).power = d.power := rfl
@[simp] theorem Device.bump_tallies (k : Nat) : (d.bump k).tallies = d.tallies := rfl
@[simp] theorem Device.bump_msix (k : Nat) : (d.bump k).msix = d.msix := rfl
@[simp] theorem Device.bump_draws (k : Nat) : (d.bump k).draws = d.draws := rfl
@[simp] theorem Device.bump_blob (k : Nat) (x0 : Nat) : (d.bump k).blob x0 = d.blob x0 := rfl
@[simp] theorem Device.bump_core (k : Nat) (x0 : Nat) : (d.bump k).core x0 = d.core x0 := rfl
@[simp] theorem Device.bump_req (k : Nat) (x0 : Requester) : (d.bump k).req x0 = d.req x0 := rfl
@[simp] theorem Device.bump_ring (k : Nat) (x0 : RingId) : (d.bump k).ring x0 = d.ring x0 := rfl
@[simp] theorem Device.bump_slot (k : Nat) (x0 : Nat) : (d.bump k).slot x0 = d.slot x0 := rfl
@[simp] theorem Device.bump_mport (k : Nat) (x0 : Nat) : (d.bump k).mport x0 = d.mport x0 := rfl
@[simp] theorem Device.bump_test (k : Nat) (x0 : Nat) : (d.bump k).test x0 = d.test x0 := rfl

/-! ### Device.addSat -/

@[simp] theorem Device.addSat_blobs (w k n : Nat) : (d.addSat w k n).blobs = d.blobs := rfl
@[simp] theorem Device.addSat_staged (w k n : Nat) : (d.addSat w k n).staged = d.staged := rfl
@[simp] theorem Device.addSat_stagedNew (w k n : Nat) : (d.addSat w k n).stagedNew = d.stagedNew := rfl
@[simp] theorem Device.addSat_reqs (w k n : Nat) : (d.addSat w k n).reqs = d.reqs := rfl
@[simp] theorem Device.addSat_log (w k n : Nat) : (d.addSat w k n).log = d.log := rfl
@[simp] theorem Device.addSat_rings (w k n : Nat) : (d.addSat w k n).rings = d.rings := rfl
@[simp] theorem Device.addSat_host (w k n : Nat) : (d.addSat w k n).host = d.host := rfl
@[simp] theorem Device.addSat_boot (w k n : Nat) : (d.addSat w k n).boot = d.boot := rfl
@[simp] theorem Device.addSat_loader (w k n : Nat) : (d.addSat w k n).loader = d.loader := rfl
@[simp] theorem Device.addSat_strm (w k n : Nat) : (d.addSat w k n).strm = d.strm := rfl
@[simp] theorem Device.addSat_cores (w k n : Nat) : (d.addSat w k n).cores = d.cores := rfl
@[simp] theorem Device.addSat_mem (w k n : Nat) : (d.addSat w k n).mem = d.mem := rfl
@[simp] theorem Device.addSat_hamper (w k n : Nat) : (d.addSat w k n).hamper = d.hamper := rfl
@[simp] theorem Device.addSat_links (w k n : Nat) : (d.addSat w k n).links = d.links := rfl
@[simp] theorem Device.addSat_guest (w k n : Nat) : (d.addSat w k n).guest = d.guest := rfl
@[simp] theorem Device.addSat_safety (w k n : Nat) : (d.addSat w k n).safety = d.safety := rfl
@[simp] theorem Device.addSat_slots (w k n : Nat) : (d.addSat w k n).slots = d.slots := rfl
@[simp] theorem Device.addSat_world (w k n : Nat) : (d.addSat w k n).world = d.world := rfl
@[simp] theorem Device.addSat_fusion (w k n : Nat) : (d.addSat w k n).fusion = d.fusion := rfl
@[simp] theorem Device.addSat_planning (w k n : Nat) : (d.addSat w k n).planning = d.planning := rfl
@[simp] theorem Device.addSat_job (w k n : Nat) : (d.addSat w k n).job = d.job := rfl
@[simp] theorem Device.addSat_power (w k n : Nat) : (d.addSat w k n).power = d.power := rfl
@[simp] theorem Device.addSat_tallies (w k n : Nat) : (d.addSat w k n).tallies = d.tallies := rfl
@[simp] theorem Device.addSat_msix (w k n : Nat) : (d.addSat w k n).msix = d.msix := rfl
@[simp] theorem Device.addSat_draws (w k n : Nat) : (d.addSat w k n).draws = d.draws := rfl
@[simp] theorem Device.addSat_blob (w k n : Nat) (x0 : Nat) : (d.addSat w k n).blob x0 = d.blob x0 := rfl
@[simp] theorem Device.addSat_core (w k n : Nat) (x0 : Nat) : (d.addSat w k n).core x0 = d.core x0 := rfl
@[simp] theorem Device.addSat_req (w k n : Nat) (x0 : Requester) : (d.addSat w k n).req x0 = d.req x0 := rfl
@[simp] theorem Device.addSat_ring (w k n : Nat) (x0 : RingId) : (d.addSat w k n).ring x0 = d.ring x0 := rfl
@[simp] theorem Device.addSat_slot (w k n : Nat) (x0 : Nat) : (d.addSat w k n).slot x0 = d.slot x0 := rfl
@[simp] theorem Device.addSat_mport (w k n : Nat) (x0 : Nat) : (d.addSat w k n).mport x0 = d.mport x0 := rfl
@[simp] theorem Device.addSat_test (w k n : Nat) (x0 : Nat) : (d.addSat w k n).test x0 = d.test x0 := rfl

/-! ### Device.bumpWrap -/

@[simp] theorem Device.bumpWrap_blobs (k : Nat) : (d.bumpWrap k).blobs = d.blobs := rfl
@[simp] theorem Device.bumpWrap_staged (k : Nat) : (d.bumpWrap k).staged = d.staged := rfl
@[simp] theorem Device.bumpWrap_stagedNew (k : Nat) : (d.bumpWrap k).stagedNew = d.stagedNew := rfl
@[simp] theorem Device.bumpWrap_reqs (k : Nat) : (d.bumpWrap k).reqs = d.reqs := rfl
@[simp] theorem Device.bumpWrap_log (k : Nat) : (d.bumpWrap k).log = d.log := rfl
@[simp] theorem Device.bumpWrap_rings (k : Nat) : (d.bumpWrap k).rings = d.rings := rfl
@[simp] theorem Device.bumpWrap_host (k : Nat) : (d.bumpWrap k).host = d.host := rfl
@[simp] theorem Device.bumpWrap_boot (k : Nat) : (d.bumpWrap k).boot = d.boot := rfl
@[simp] theorem Device.bumpWrap_loader (k : Nat) : (d.bumpWrap k).loader = d.loader := rfl
@[simp] theorem Device.bumpWrap_strm (k : Nat) : (d.bumpWrap k).strm = d.strm := rfl
@[simp] theorem Device.bumpWrap_cores (k : Nat) : (d.bumpWrap k).cores = d.cores := rfl
@[simp] theorem Device.bumpWrap_mem (k : Nat) : (d.bumpWrap k).mem = d.mem := rfl
@[simp] theorem Device.bumpWrap_hamper (k : Nat) : (d.bumpWrap k).hamper = d.hamper := rfl
@[simp] theorem Device.bumpWrap_links (k : Nat) : (d.bumpWrap k).links = d.links := rfl
@[simp] theorem Device.bumpWrap_guest (k : Nat) : (d.bumpWrap k).guest = d.guest := rfl
@[simp] theorem Device.bumpWrap_safety (k : Nat) : (d.bumpWrap k).safety = d.safety := rfl
@[simp] theorem Device.bumpWrap_slots (k : Nat) : (d.bumpWrap k).slots = d.slots := rfl
@[simp] theorem Device.bumpWrap_world (k : Nat) : (d.bumpWrap k).world = d.world := rfl
@[simp] theorem Device.bumpWrap_fusion (k : Nat) : (d.bumpWrap k).fusion = d.fusion := rfl
@[simp] theorem Device.bumpWrap_planning (k : Nat) : (d.bumpWrap k).planning = d.planning := rfl
@[simp] theorem Device.bumpWrap_job (k : Nat) : (d.bumpWrap k).job = d.job := rfl
@[simp] theorem Device.bumpWrap_power (k : Nat) : (d.bumpWrap k).power = d.power := rfl
@[simp] theorem Device.bumpWrap_tallies (k : Nat) : (d.bumpWrap k).tallies = d.tallies := rfl
@[simp] theorem Device.bumpWrap_msix (k : Nat) : (d.bumpWrap k).msix = d.msix := rfl
@[simp] theorem Device.bumpWrap_draws (k : Nat) : (d.bumpWrap k).draws = d.draws := rfl
@[simp] theorem Device.bumpWrap_blob (k : Nat) (x0 : Nat) : (d.bumpWrap k).blob x0 = d.blob x0 := rfl
@[simp] theorem Device.bumpWrap_core (k : Nat) (x0 : Nat) : (d.bumpWrap k).core x0 = d.core x0 := rfl
@[simp] theorem Device.bumpWrap_req (k : Nat) (x0 : Requester) : (d.bumpWrap k).req x0 = d.req x0 := rfl
@[simp] theorem Device.bumpWrap_ring (k : Nat) (x0 : RingId) : (d.bumpWrap k).ring x0 = d.ring x0 := rfl
@[simp] theorem Device.bumpWrap_slot (k : Nat) (x0 : Nat) : (d.bumpWrap k).slot x0 = d.slot x0 := rfl
@[simp] theorem Device.bumpWrap_mport (k : Nat) (x0 : Nat) : (d.bumpWrap k).mport x0 = d.mport x0 := rfl
@[simp] theorem Device.bumpWrap_test (k : Nat) (x0 : Nat) : (d.bumpWrap k).test x0 = d.test x0 := rfl

/-! ### Device.wrBlob -/

@[simp] theorem Device.wrBlob_dict (k : Nat) (l : List Byte) : (d.wrBlob k l).dict = d.dict := rfl
@[simp] theorem Device.wrBlob_staged (k : Nat) (l : List Byte) : (d.wrBlob k l).staged = d.staged := rfl
@[simp] theorem Device.wrBlob_stagedNew (k : Nat) (l : List Byte) : (d.wrBlob k l).stagedNew = d.stagedNew := rfl
@[simp] theorem Device.wrBlob_reqs (k : Nat) (l : List Byte) : (d.wrBlob k l).reqs = d.reqs := rfl
@[simp] theorem Device.wrBlob_log (k : Nat) (l : List Byte) : (d.wrBlob k l).log = d.log := rfl
@[simp] theorem Device.wrBlob_rings (k : Nat) (l : List Byte) : (d.wrBlob k l).rings = d.rings := rfl
@[simp] theorem Device.wrBlob_host (k : Nat) (l : List Byte) : (d.wrBlob k l).host = d.host := rfl
@[simp] theorem Device.wrBlob_boot (k : Nat) (l : List Byte) : (d.wrBlob k l).boot = d.boot := rfl
@[simp] theorem Device.wrBlob_loader (k : Nat) (l : List Byte) : (d.wrBlob k l).loader = d.loader := rfl
@[simp] theorem Device.wrBlob_strm (k : Nat) (l : List Byte) : (d.wrBlob k l).strm = d.strm := rfl
@[simp] theorem Device.wrBlob_cores (k : Nat) (l : List Byte) : (d.wrBlob k l).cores = d.cores := rfl
@[simp] theorem Device.wrBlob_mem (k : Nat) (l : List Byte) : (d.wrBlob k l).mem = d.mem := rfl
@[simp] theorem Device.wrBlob_hamper (k : Nat) (l : List Byte) : (d.wrBlob k l).hamper = d.hamper := rfl
@[simp] theorem Device.wrBlob_links (k : Nat) (l : List Byte) : (d.wrBlob k l).links = d.links := rfl
@[simp] theorem Device.wrBlob_guest (k : Nat) (l : List Byte) : (d.wrBlob k l).guest = d.guest := rfl
@[simp] theorem Device.wrBlob_safety (k : Nat) (l : List Byte) : (d.wrBlob k l).safety = d.safety := rfl
@[simp] theorem Device.wrBlob_slots (k : Nat) (l : List Byte) : (d.wrBlob k l).slots = d.slots := rfl
@[simp] theorem Device.wrBlob_world (k : Nat) (l : List Byte) : (d.wrBlob k l).world = d.world := rfl
@[simp] theorem Device.wrBlob_fusion (k : Nat) (l : List Byte) : (d.wrBlob k l).fusion = d.fusion := rfl
@[simp] theorem Device.wrBlob_planning (k : Nat) (l : List Byte) : (d.wrBlob k l).planning = d.planning := rfl
@[simp] theorem Device.wrBlob_job (k : Nat) (l : List Byte) : (d.wrBlob k l).job = d.job := rfl
@[simp] theorem Device.wrBlob_power (k : Nat) (l : List Byte) : (d.wrBlob k l).power = d.power := rfl
@[simp] theorem Device.wrBlob_tallies (k : Nat) (l : List Byte) : (d.wrBlob k l).tallies = d.tallies := rfl
@[simp] theorem Device.wrBlob_msix (k : Nat) (l : List Byte) : (d.wrBlob k l).msix = d.msix := rfl
@[simp] theorem Device.wrBlob_draws (k : Nat) (l : List Byte) : (d.wrBlob k l).draws = d.draws := rfl
@[simp] theorem Device.wrBlob_rd (k : Nat) (l : List Byte) (x0 : Nat) : (d.wrBlob k l).rd x0 = d.rd x0 := rfl
@[simp] theorem Device.wrBlob_shown (k : Nat) (l : List Byte) (x0 : Nat) : (d.wrBlob k l).shown x0 = d.shown x0 := rfl
@[simp] theorem Device.wrBlob_fn (k : Nat) (l : List Byte) (x0 : FnId) : (d.wrBlob k l).fn x0 = d.fn x0 := rfl
@[simp] theorem Device.wrBlob_personality (k : Nat) (l : List Byte) : (d.wrBlob k l).personality = d.personality := rfl
@[simp] theorem Device.wrBlob_transition (k : Nat) (l : List Byte) : (d.wrBlob k l).transition = d.transition := rfl
@[simp] theorem Device.wrBlob_core (k : Nat) (l : List Byte) (x0 : Nat) : (d.wrBlob k l).core x0 = d.core x0 := rfl
@[simp] theorem Device.wrBlob_req (k : Nat) (l : List Byte) (x0 : Requester) : (d.wrBlob k l).req x0 = d.req x0 := rfl
@[simp] theorem Device.wrBlob_ring (k : Nat) (l : List Byte) (x0 : RingId) : (d.wrBlob k l).ring x0 = d.ring x0 := rfl
@[simp] theorem Device.wrBlob_slot (k : Nat) (l : List Byte) (x0 : Nat) : (d.wrBlob k l).slot x0 = d.slot x0 := rfl
@[simp] theorem Device.wrBlob_mport (k : Nat) (l : List Byte) (x0 : Nat) : (d.wrBlob k l).mport x0 = d.mport x0 := rfl
@[simp] theorem Device.wrBlob_active (k : Nat) (l : List Byte) (x0 : Nat) : (d.wrBlob k l).active x0 = d.active x0 := rfl
@[simp] theorem Device.wrBlob_test (k : Nat) (l : List Byte) (x0 : Nat) : (d.wrBlob k l).test x0 = d.test x0 := rfl

/-! ### Device.stage -/

@[simp] theorem Device.stage_dict (k v : Nat) : (d.stage k v).dict = d.dict := rfl
@[simp] theorem Device.stage_blobs (k v : Nat) : (d.stage k v).blobs = d.blobs := rfl
@[simp] theorem Device.stage_staged (k v : Nat) : (d.stage k v).staged = SMap.insert d.staged k v := rfl
@[simp] theorem Device.stage_reqs (k v : Nat) : (d.stage k v).reqs = d.reqs := rfl
@[simp] theorem Device.stage_log (k v : Nat) : (d.stage k v).log = d.log := rfl
@[simp] theorem Device.stage_rings (k v : Nat) : (d.stage k v).rings = d.rings := rfl
@[simp] theorem Device.stage_host (k v : Nat) : (d.stage k v).host = d.host := rfl
@[simp] theorem Device.stage_boot (k v : Nat) : (d.stage k v).boot = d.boot := rfl
@[simp] theorem Device.stage_loader (k v : Nat) : (d.stage k v).loader = d.loader := rfl
@[simp] theorem Device.stage_strm (k v : Nat) : (d.stage k v).strm = d.strm := rfl
@[simp] theorem Device.stage_cores (k v : Nat) : (d.stage k v).cores = d.cores := rfl
@[simp] theorem Device.stage_mem (k v : Nat) : (d.stage k v).mem = d.mem := rfl
@[simp] theorem Device.stage_hamper (k v : Nat) : (d.stage k v).hamper = d.hamper := rfl
@[simp] theorem Device.stage_links (k v : Nat) : (d.stage k v).links = d.links := rfl
@[simp] theorem Device.stage_guest (k v : Nat) : (d.stage k v).guest = d.guest := rfl
@[simp] theorem Device.stage_safety (k v : Nat) : (d.stage k v).safety = d.safety := rfl
@[simp] theorem Device.stage_slots (k v : Nat) : (d.stage k v).slots = d.slots := rfl
@[simp] theorem Device.stage_world (k v : Nat) : (d.stage k v).world = d.world := rfl
@[simp] theorem Device.stage_fusion (k v : Nat) : (d.stage k v).fusion = d.fusion := rfl
@[simp] theorem Device.stage_planning (k v : Nat) : (d.stage k v).planning = d.planning := rfl
@[simp] theorem Device.stage_job (k v : Nat) : (d.stage k v).job = d.job := rfl
@[simp] theorem Device.stage_power (k v : Nat) : (d.stage k v).power = d.power := rfl
@[simp] theorem Device.stage_tallies (k v : Nat) : (d.stage k v).tallies = d.tallies := rfl
@[simp] theorem Device.stage_msix (k v : Nat) : (d.stage k v).msix = d.msix := rfl
@[simp] theorem Device.stage_draws (k v : Nat) : (d.stage k v).draws = d.draws := rfl
@[simp] theorem Device.stage_rd (k v : Nat) (x0 : Nat) : (d.stage k v).rd x0 = d.rd x0 := rfl
@[simp] theorem Device.stage_blob (k v : Nat) (x0 : Nat) : (d.stage k v).blob x0 = d.blob x0 := rfl
@[simp] theorem Device.stage_fn (k v : Nat) (x0 : FnId) : (d.stage k v).fn x0 = d.fn x0 := rfl
@[simp] theorem Device.stage_personality (k v : Nat) : (d.stage k v).personality = d.personality := rfl
@[simp] theorem Device.stage_transition (k v : Nat) : (d.stage k v).transition = d.transition := rfl
@[simp] theorem Device.stage_core (k v : Nat) (x0 : Nat) : (d.stage k v).core x0 = d.core x0 := rfl
@[simp] theorem Device.stage_req (k v : Nat) (x0 : Requester) : (d.stage k v).req x0 = d.req x0 := rfl
@[simp] theorem Device.stage_ring (k v : Nat) (x0 : RingId) : (d.stage k v).ring x0 = d.ring x0 := rfl
@[simp] theorem Device.stage_slot (k v : Nat) (x0 : Nat) : (d.stage k v).slot x0 = d.slot x0 := rfl
@[simp] theorem Device.stage_mport (k v : Nat) (x0 : Nat) : (d.stage k v).mport x0 = d.mport x0 := rfl
@[simp] theorem Device.stage_active (k v : Nat) (x0 : Nat) : (d.stage k v).active x0 = d.active x0 := rfl
@[simp] theorem Device.stage_test (k v : Nat) (x0 : Nat) : (d.stage k v).test x0 = d.test x0 := rfl

/-! ### Device.recent -/

@[simp] theorem Device.recent_dict (e : RecentEffect) : (d.recent e).dict = d.dict := rfl
@[simp] theorem Device.recent_blobs (e : RecentEffect) : (d.recent e).blobs = d.blobs := rfl
@[simp] theorem Device.recent_staged (e : RecentEffect) : (d.recent e).staged = d.staged := rfl
@[simp] theorem Device.recent_stagedNew (e : RecentEffect) : (d.recent e).stagedNew = d.stagedNew := rfl
@[simp] theorem Device.recent_reqs (e : RecentEffect) : (d.recent e).reqs = d.reqs := rfl
@[simp] theorem Device.recent_log (e : RecentEffect) : (d.recent e).log = d.log := rfl
@[simp] theorem Device.recent_rings (e : RecentEffect) : (d.recent e).rings = d.rings := rfl
@[simp] theorem Device.recent_host (e : RecentEffect) : (d.recent e).host = d.host := rfl
@[simp] theorem Device.recent_boot (e : RecentEffect) : (d.recent e).boot = d.boot := rfl
@[simp] theorem Device.recent_loader (e : RecentEffect) : (d.recent e).loader = d.loader := rfl
@[simp] theorem Device.recent_strm (e : RecentEffect) : (d.recent e).strm = { d.strm with recent := (3, e) :: d.strm.recent } := rfl
@[simp] theorem Device.recent_cores (e : RecentEffect) : (d.recent e).cores = d.cores := rfl
@[simp] theorem Device.recent_mem (e : RecentEffect) : (d.recent e).mem = d.mem := rfl
@[simp] theorem Device.recent_hamper (e : RecentEffect) : (d.recent e).hamper = d.hamper := rfl
@[simp] theorem Device.recent_links (e : RecentEffect) : (d.recent e).links = d.links := rfl
@[simp] theorem Device.recent_guest (e : RecentEffect) : (d.recent e).guest = d.guest := rfl
@[simp] theorem Device.recent_safety (e : RecentEffect) : (d.recent e).safety = d.safety := rfl
@[simp] theorem Device.recent_slots (e : RecentEffect) : (d.recent e).slots = d.slots := rfl
@[simp] theorem Device.recent_world (e : RecentEffect) : (d.recent e).world = d.world := rfl
@[simp] theorem Device.recent_fusion (e : RecentEffect) : (d.recent e).fusion = d.fusion := rfl
@[simp] theorem Device.recent_planning (e : RecentEffect) : (d.recent e).planning = d.planning := rfl
@[simp] theorem Device.recent_job (e : RecentEffect) : (d.recent e).job = d.job := rfl
@[simp] theorem Device.recent_power (e : RecentEffect) : (d.recent e).power = d.power := rfl
@[simp] theorem Device.recent_tallies (e : RecentEffect) : (d.recent e).tallies = d.tallies := rfl
@[simp] theorem Device.recent_msix (e : RecentEffect) : (d.recent e).msix = d.msix := rfl
@[simp] theorem Device.recent_draws (e : RecentEffect) : (d.recent e).draws = d.draws := rfl
@[simp] theorem Device.recent_rd (e : RecentEffect) (x0 : Nat) : (d.recent e).rd x0 = d.rd x0 := rfl
@[simp] theorem Device.recent_blob (e : RecentEffect) (x0 : Nat) : (d.recent e).blob x0 = d.blob x0 := rfl
@[simp] theorem Device.recent_shown (e : RecentEffect) (x0 : Nat) : (d.recent e).shown x0 = d.shown x0 := rfl
@[simp] theorem Device.recent_fn (e : RecentEffect) (x0 : FnId) : (d.recent e).fn x0 = d.fn x0 := rfl
@[simp] theorem Device.recent_personality (e : RecentEffect) : (d.recent e).personality = d.personality := rfl
@[simp] theorem Device.recent_transition (e : RecentEffect) : (d.recent e).transition = d.transition := rfl
@[simp] theorem Device.recent_core (e : RecentEffect) (x0 : Nat) : (d.recent e).core x0 = d.core x0 := rfl
@[simp] theorem Device.recent_req (e : RecentEffect) (x0 : Requester) : (d.recent e).req x0 = d.req x0 := rfl
@[simp] theorem Device.recent_ring (e : RecentEffect) (x0 : RingId) : (d.recent e).ring x0 = d.ring x0 := rfl
@[simp] theorem Device.recent_slot (e : RecentEffect) (x0 : Nat) : (d.recent e).slot x0 = d.slot x0 := rfl
@[simp] theorem Device.recent_mport (e : RecentEffect) (x0 : Nat) : (d.recent e).mport x0 = d.mport x0 := rfl
@[simp] theorem Device.recent_test (e : RecentEffect) (x0 : Nat) : (d.recent e).test x0 = d.test x0 := rfl

/-! ### Device.onTest -/

@[simp] theorem Device.onTest_dict (c : Nat) (f : CoreTest → CoreTest) : (d.onTest c f).dict = d.dict := rfl
@[simp] theorem Device.onTest_blobs (c : Nat) (f : CoreTest → CoreTest) : (d.onTest c f).blobs = d.blobs := rfl
@[simp] theorem Device.onTest_staged (c : Nat) (f : CoreTest → CoreTest) : (d.onTest c f).staged = d.staged := rfl
@[simp] theorem Device.onTest_stagedNew (c : Nat) (f : CoreTest → CoreTest) : (d.onTest c f).stagedNew = d.stagedNew := rfl
@[simp] theorem Device.onTest_reqs (c : Nat) (f : CoreTest → CoreTest) : (d.onTest c f).reqs = d.reqs := rfl
@[simp] theorem Device.onTest_log (c : Nat) (f : CoreTest → CoreTest) : (d.onTest c f).log = d.log := rfl
@[simp] theorem Device.onTest_rings (c : Nat) (f : CoreTest → CoreTest) : (d.onTest c f).rings = d.rings := rfl
@[simp] theorem Device.onTest_host (c : Nat) (f : CoreTest → CoreTest) : (d.onTest c f).host = d.host := rfl
@[simp] theorem Device.onTest_boot (c : Nat) (f : CoreTest → CoreTest) : (d.onTest c f).boot = d.boot := rfl
@[simp] theorem Device.onTest_loader (c : Nat) (f : CoreTest → CoreTest) : (d.onTest c f).loader = d.loader := rfl
@[simp] theorem Device.onTest_strm (c : Nat) (f : CoreTest → CoreTest) : (d.onTest c f).strm = d.strm := rfl
@[simp] theorem Device.onTest_cores (c : Nat) (f : CoreTest → CoreTest) : (d.onTest c f).cores = d.cores := rfl
@[simp] theorem Device.onTest_mem (c : Nat) (f : CoreTest → CoreTest) : (d.onTest c f).mem = d.mem := rfl
@[simp] theorem Device.onTest_hamper (c : Nat) (f : CoreTest → CoreTest) : (d.onTest c f).hamper = d.hamper := rfl
@[simp] theorem Device.onTest_links (c : Nat) (f : CoreTest → CoreTest) : (d.onTest c f).links = d.links := rfl
@[simp] theorem Device.onTest_guest (c : Nat) (f : CoreTest → CoreTest) : (d.onTest c f).guest = d.guest := rfl
@[simp] theorem Device.onTest_slots (c : Nat) (f : CoreTest → CoreTest) : (d.onTest c f).slots = d.slots := rfl
@[simp] theorem Device.onTest_world (c : Nat) (f : CoreTest → CoreTest) : (d.onTest c f).world = d.world := rfl
@[simp] theorem Device.onTest_fusion (c : Nat) (f : CoreTest → CoreTest) : (d.onTest c f).fusion = d.fusion := rfl
@[simp] theorem Device.onTest_planning (c : Nat) (f : CoreTest → CoreTest) : (d.onTest c f).planning = d.planning := rfl
@[simp] theorem Device.onTest_job (c : Nat) (f : CoreTest → CoreTest) : (d.onTest c f).job = d.job := rfl
@[simp] theorem Device.onTest_power (c : Nat) (f : CoreTest → CoreTest) : (d.onTest c f).power = d.power := rfl
@[simp] theorem Device.onTest_tallies (c : Nat) (f : CoreTest → CoreTest) : (d.onTest c f).tallies = d.tallies := rfl
@[simp] theorem Device.onTest_msix (c : Nat) (f : CoreTest → CoreTest) : (d.onTest c f).msix = d.msix := rfl
@[simp] theorem Device.onTest_draws (c : Nat) (f : CoreTest → CoreTest) : (d.onTest c f).draws = d.draws := rfl
@[simp] theorem Device.onTest_rd (c : Nat) (f : CoreTest → CoreTest) (x0 : Nat) : (d.onTest c f).rd x0 = d.rd x0 := rfl
@[simp] theorem Device.onTest_blob (c : Nat) (f : CoreTest → CoreTest) (x0 : Nat) : (d.onTest c f).blob x0 = d.blob x0 := rfl
@[simp] theorem Device.onTest_shown (c : Nat) (f : CoreTest → CoreTest) (x0 : Nat) : (d.onTest c f).shown x0 = d.shown x0 := rfl
@[simp] theorem Device.onTest_fn (c : Nat) (f : CoreTest → CoreTest) (x0 : FnId) : (d.onTest c f).fn x0 = d.fn x0 := rfl
@[simp] theorem Device.onTest_personality (c : Nat) (f : CoreTest → CoreTest) : (d.onTest c f).personality = d.personality := rfl
@[simp] theorem Device.onTest_transition (c : Nat) (f : CoreTest → CoreTest) : (d.onTest c f).transition = d.transition := rfl
@[simp] theorem Device.onTest_core (c : Nat) (f : CoreTest → CoreTest) (x0 : Nat) : (d.onTest c f).core x0 = d.core x0 := rfl
@[simp] theorem Device.onTest_req (c : Nat) (f : CoreTest → CoreTest) (x0 : Requester) : (d.onTest c f).req x0 = d.req x0 := rfl
@[simp] theorem Device.onTest_ring (c : Nat) (f : CoreTest → CoreTest) (x0 : RingId) : (d.onTest c f).ring x0 = d.ring x0 := rfl
@[simp] theorem Device.onTest_slot (c : Nat) (f : CoreTest → CoreTest) (x0 : Nat) : (d.onTest c f).slot x0 = d.slot x0 := rfl
@[simp] theorem Device.onTest_mport (c : Nat) (f : CoreTest → CoreTest) (x0 : Nat) : (d.onTest c f).mport x0 = d.mport x0 := rfl
@[simp] theorem Device.onTest_active (c : Nat) (f : CoreTest → CoreTest) (x0 : Nat) : (d.onTest c f).active x0 = d.active x0 := rfl

/-! ### Device.onPort -/

@[simp] theorem Device.onPort_dict (p : Nat) (f : MemPort → MemPort) : (d.onPort p f).dict = d.dict := rfl
@[simp] theorem Device.onPort_blobs (p : Nat) (f : MemPort → MemPort) : (d.onPort p f).blobs = d.blobs := rfl
@[simp] theorem Device.onPort_staged (p : Nat) (f : MemPort → MemPort) : (d.onPort p f).staged = d.staged := rfl
@[simp] theorem Device.onPort_stagedNew (p : Nat) (f : MemPort → MemPort) : (d.onPort p f).stagedNew = d.stagedNew := rfl
@[simp] theorem Device.onPort_reqs (p : Nat) (f : MemPort → MemPort) : (d.onPort p f).reqs = d.reqs := rfl
@[simp] theorem Device.onPort_log (p : Nat) (f : MemPort → MemPort) : (d.onPort p f).log = d.log := rfl
@[simp] theorem Device.onPort_rings (p : Nat) (f : MemPort → MemPort) : (d.onPort p f).rings = d.rings := rfl
@[simp] theorem Device.onPort_host (p : Nat) (f : MemPort → MemPort) : (d.onPort p f).host = d.host := rfl
@[simp] theorem Device.onPort_boot (p : Nat) (f : MemPort → MemPort) : (d.onPort p f).boot = d.boot := rfl
@[simp] theorem Device.onPort_loader (p : Nat) (f : MemPort → MemPort) : (d.onPort p f).loader = d.loader := rfl
@[simp] theorem Device.onPort_strm (p : Nat) (f : MemPort → MemPort) : (d.onPort p f).strm = d.strm := rfl
@[simp] theorem Device.onPort_cores (p : Nat) (f : MemPort → MemPort) : (d.onPort p f).cores = d.cores := rfl
@[simp] theorem Device.onPort_hamper (p : Nat) (f : MemPort → MemPort) : (d.onPort p f).hamper = d.hamper := rfl
@[simp] theorem Device.onPort_links (p : Nat) (f : MemPort → MemPort) : (d.onPort p f).links = d.links := rfl
@[simp] theorem Device.onPort_guest (p : Nat) (f : MemPort → MemPort) : (d.onPort p f).guest = d.guest := rfl
@[simp] theorem Device.onPort_safety (p : Nat) (f : MemPort → MemPort) : (d.onPort p f).safety = d.safety := rfl
@[simp] theorem Device.onPort_slots (p : Nat) (f : MemPort → MemPort) : (d.onPort p f).slots = d.slots := rfl
@[simp] theorem Device.onPort_world (p : Nat) (f : MemPort → MemPort) : (d.onPort p f).world = d.world := rfl
@[simp] theorem Device.onPort_fusion (p : Nat) (f : MemPort → MemPort) : (d.onPort p f).fusion = d.fusion := rfl
@[simp] theorem Device.onPort_planning (p : Nat) (f : MemPort → MemPort) : (d.onPort p f).planning = d.planning := rfl
@[simp] theorem Device.onPort_job (p : Nat) (f : MemPort → MemPort) : (d.onPort p f).job = d.job := rfl
@[simp] theorem Device.onPort_power (p : Nat) (f : MemPort → MemPort) : (d.onPort p f).power = d.power := rfl
@[simp] theorem Device.onPort_tallies (p : Nat) (f : MemPort → MemPort) : (d.onPort p f).tallies = d.tallies := rfl
@[simp] theorem Device.onPort_msix (p : Nat) (f : MemPort → MemPort) : (d.onPort p f).msix = d.msix := rfl
@[simp] theorem Device.onPort_draws (p : Nat) (f : MemPort → MemPort) : (d.onPort p f).draws = d.draws := rfl
@[simp] theorem Device.onPort_rd (p : Nat) (f : MemPort → MemPort) (x0 : Nat) : (d.onPort p f).rd x0 = d.rd x0 := rfl
@[simp] theorem Device.onPort_blob (p : Nat) (f : MemPort → MemPort) (x0 : Nat) : (d.onPort p f).blob x0 = d.blob x0 := rfl
@[simp] theorem Device.onPort_shown (p : Nat) (f : MemPort → MemPort) (x0 : Nat) : (d.onPort p f).shown x0 = d.shown x0 := rfl
@[simp] theorem Device.onPort_fn (p : Nat) (f : MemPort → MemPort) (x0 : FnId) : (d.onPort p f).fn x0 = d.fn x0 := rfl
@[simp] theorem Device.onPort_personality (p : Nat) (f : MemPort → MemPort) : (d.onPort p f).personality = d.personality := rfl
@[simp] theorem Device.onPort_transition (p : Nat) (f : MemPort → MemPort) : (d.onPort p f).transition = d.transition := rfl
@[simp] theorem Device.onPort_core (p : Nat) (f : MemPort → MemPort) (x0 : Nat) : (d.onPort p f).core x0 = d.core x0 := rfl
@[simp] theorem Device.onPort_req (p : Nat) (f : MemPort → MemPort) (x0 : Requester) : (d.onPort p f).req x0 = d.req x0 := rfl
@[simp] theorem Device.onPort_ring (p : Nat) (f : MemPort → MemPort) (x0 : RingId) : (d.onPort p f).ring x0 = d.ring x0 := rfl
@[simp] theorem Device.onPort_slot (p : Nat) (f : MemPort → MemPort) (x0 : Nat) : (d.onPort p f).slot x0 = d.slot x0 := rfl
@[simp] theorem Device.onPort_active (p : Nat) (f : MemPort → MemPort) (x0 : Nat) : (d.onPort p f).active x0 = d.active x0 := rfl
@[simp] theorem Device.onPort_test (p : Nat) (f : MemPort → MemPort) (x0 : Nat) : (d.onPort p f).test x0 = d.test x0 := rfl

/-! ### Device.onLinkPort -/

@[simp] theorem Device.onLinkPort_dict (p : Nat) (f : LinkPort → LinkPort) : (d.onLinkPort p f).dict = d.dict := rfl
@[simp] theorem Device.onLinkPort_blobs (p : Nat) (f : LinkPort → LinkPort) : (d.onLinkPort p f).blobs = d.blobs := rfl
@[simp] theorem Device.onLinkPort_staged (p : Nat) (f : LinkPort → LinkPort) : (d.onLinkPort p f).staged = d.staged := rfl
@[simp] theorem Device.onLinkPort_stagedNew (p : Nat) (f : LinkPort → LinkPort) : (d.onLinkPort p f).stagedNew = d.stagedNew := rfl
@[simp] theorem Device.onLinkPort_reqs (p : Nat) (f : LinkPort → LinkPort) : (d.onLinkPort p f).reqs = d.reqs := rfl
@[simp] theorem Device.onLinkPort_log (p : Nat) (f : LinkPort → LinkPort) : (d.onLinkPort p f).log = d.log := rfl
@[simp] theorem Device.onLinkPort_rings (p : Nat) (f : LinkPort → LinkPort) : (d.onLinkPort p f).rings = d.rings := rfl
@[simp] theorem Device.onLinkPort_host (p : Nat) (f : LinkPort → LinkPort) : (d.onLinkPort p f).host = d.host := rfl
@[simp] theorem Device.onLinkPort_boot (p : Nat) (f : LinkPort → LinkPort) : (d.onLinkPort p f).boot = d.boot := rfl
@[simp] theorem Device.onLinkPort_loader (p : Nat) (f : LinkPort → LinkPort) : (d.onLinkPort p f).loader = d.loader := rfl
@[simp] theorem Device.onLinkPort_strm (p : Nat) (f : LinkPort → LinkPort) : (d.onLinkPort p f).strm = d.strm := rfl
@[simp] theorem Device.onLinkPort_cores (p : Nat) (f : LinkPort → LinkPort) : (d.onLinkPort p f).cores = d.cores := rfl
@[simp] theorem Device.onLinkPort_mem (p : Nat) (f : LinkPort → LinkPort) : (d.onLinkPort p f).mem = d.mem := rfl
@[simp] theorem Device.onLinkPort_hamper (p : Nat) (f : LinkPort → LinkPort) : (d.onLinkPort p f).hamper = d.hamper := rfl
@[simp] theorem Device.onLinkPort_guest (p : Nat) (f : LinkPort → LinkPort) : (d.onLinkPort p f).guest = d.guest := rfl
@[simp] theorem Device.onLinkPort_safety (p : Nat) (f : LinkPort → LinkPort) : (d.onLinkPort p f).safety = d.safety := rfl
@[simp] theorem Device.onLinkPort_slots (p : Nat) (f : LinkPort → LinkPort) : (d.onLinkPort p f).slots = d.slots := rfl
@[simp] theorem Device.onLinkPort_world (p : Nat) (f : LinkPort → LinkPort) : (d.onLinkPort p f).world = d.world := rfl
@[simp] theorem Device.onLinkPort_fusion (p : Nat) (f : LinkPort → LinkPort) : (d.onLinkPort p f).fusion = d.fusion := rfl
@[simp] theorem Device.onLinkPort_planning (p : Nat) (f : LinkPort → LinkPort) : (d.onLinkPort p f).planning = d.planning := rfl
@[simp] theorem Device.onLinkPort_job (p : Nat) (f : LinkPort → LinkPort) : (d.onLinkPort p f).job = d.job := rfl
@[simp] theorem Device.onLinkPort_power (p : Nat) (f : LinkPort → LinkPort) : (d.onLinkPort p f).power = d.power := rfl
@[simp] theorem Device.onLinkPort_tallies (p : Nat) (f : LinkPort → LinkPort) : (d.onLinkPort p f).tallies = d.tallies := rfl
@[simp] theorem Device.onLinkPort_msix (p : Nat) (f : LinkPort → LinkPort) : (d.onLinkPort p f).msix = d.msix := rfl
@[simp] theorem Device.onLinkPort_draws (p : Nat) (f : LinkPort → LinkPort) : (d.onLinkPort p f).draws = d.draws := rfl
@[simp] theorem Device.onLinkPort_rd (p : Nat) (f : LinkPort → LinkPort) (x0 : Nat) : (d.onLinkPort p f).rd x0 = d.rd x0 := rfl
@[simp] theorem Device.onLinkPort_blob (p : Nat) (f : LinkPort → LinkPort) (x0 : Nat) : (d.onLinkPort p f).blob x0 = d.blob x0 := rfl
@[simp] theorem Device.onLinkPort_shown (p : Nat) (f : LinkPort → LinkPort) (x0 : Nat) : (d.onLinkPort p f).shown x0 = d.shown x0 := rfl
@[simp] theorem Device.onLinkPort_fn (p : Nat) (f : LinkPort → LinkPort) (x0 : FnId) : (d.onLinkPort p f).fn x0 = d.fn x0 := rfl
@[simp] theorem Device.onLinkPort_personality (p : Nat) (f : LinkPort → LinkPort) : (d.onLinkPort p f).personality = d.personality := rfl
@[simp] theorem Device.onLinkPort_transition (p : Nat) (f : LinkPort → LinkPort) : (d.onLinkPort p f).transition = d.transition := rfl
@[simp] theorem Device.onLinkPort_core (p : Nat) (f : LinkPort → LinkPort) (x0 : Nat) : (d.onLinkPort p f).core x0 = d.core x0 := rfl
@[simp] theorem Device.onLinkPort_req (p : Nat) (f : LinkPort → LinkPort) (x0 : Requester) : (d.onLinkPort p f).req x0 = d.req x0 := rfl
@[simp] theorem Device.onLinkPort_ring (p : Nat) (f : LinkPort → LinkPort) (x0 : RingId) : (d.onLinkPort p f).ring x0 = d.ring x0 := rfl
@[simp] theorem Device.onLinkPort_slot (p : Nat) (f : LinkPort → LinkPort) (x0 : Nat) : (d.onLinkPort p f).slot x0 = d.slot x0 := rfl
@[simp] theorem Device.onLinkPort_mport (p : Nat) (f : LinkPort → LinkPort) (x0 : Nat) : (d.onLinkPort p f).mport x0 = d.mport x0 := rfl
@[simp] theorem Device.onLinkPort_active (p : Nat) (f : LinkPort → LinkPort) (x0 : Nat) : (d.onLinkPort p f).active x0 = d.active x0 := rfl
@[simp] theorem Device.onLinkPort_test (p : Nat) (f : LinkPort → LinkPort) (x0 : Nat) : (d.onLinkPort p f).test x0 = d.test x0 := rfl

/-! ### Device.countEv -/

@[simp] theorem Device.countEv_blobs (c : Code) (i k : Nat) : (d.countEv c i k).blobs = d.blobs := rfl
@[simp] theorem Device.countEv_staged (c : Code) (i k : Nat) : (d.countEv c i k).staged = d.staged := rfl
@[simp] theorem Device.countEv_stagedNew (c : Code) (i k : Nat) : (d.countEv c i k).stagedNew = d.stagedNew := rfl
@[simp] theorem Device.countEv_reqs (c : Code) (i k : Nat) : (d.countEv c i k).reqs = d.reqs := rfl
@[simp] theorem Device.countEv_log (c : Code) (i k : Nat) : (d.countEv c i k).log = d.log := rfl
@[simp] theorem Device.countEv_rings (c : Code) (i k : Nat) : (d.countEv c i k).rings = d.rings := rfl
@[simp] theorem Device.countEv_host (c : Code) (i k : Nat) : (d.countEv c i k).host = d.host := rfl
@[simp] theorem Device.countEv_boot (c : Code) (i k : Nat) : (d.countEv c i k).boot = d.boot := rfl
@[simp] theorem Device.countEv_loader (c : Code) (i k : Nat) : (d.countEv c i k).loader = d.loader := rfl
@[simp] theorem Device.countEv_strm (c : Code) (i k : Nat) : (d.countEv c i k).strm = d.strm := rfl
@[simp] theorem Device.countEv_cores (c : Code) (i k : Nat) : (d.countEv c i k).cores = d.cores := rfl
@[simp] theorem Device.countEv_mem (c : Code) (i k : Nat) : (d.countEv c i k).mem = d.mem := rfl
@[simp] theorem Device.countEv_hamper (c : Code) (i k : Nat) : (d.countEv c i k).hamper = d.hamper := rfl
@[simp] theorem Device.countEv_links (c : Code) (i k : Nat) : (d.countEv c i k).links = d.links := rfl
@[simp] theorem Device.countEv_guest (c : Code) (i k : Nat) : (d.countEv c i k).guest = d.guest := rfl
@[simp] theorem Device.countEv_safety (c : Code) (i k : Nat) : (d.countEv c i k).safety = d.safety := rfl
@[simp] theorem Device.countEv_slots (c : Code) (i k : Nat) : (d.countEv c i k).slots = d.slots := rfl
@[simp] theorem Device.countEv_world (c : Code) (i k : Nat) : (d.countEv c i k).world = d.world := rfl
@[simp] theorem Device.countEv_fusion (c : Code) (i k : Nat) : (d.countEv c i k).fusion = d.fusion := rfl
@[simp] theorem Device.countEv_planning (c : Code) (i k : Nat) : (d.countEv c i k).planning = d.planning := rfl
@[simp] theorem Device.countEv_job (c : Code) (i k : Nat) : (d.countEv c i k).job = d.job := rfl
@[simp] theorem Device.countEv_power (c : Code) (i k : Nat) : (d.countEv c i k).power = d.power := rfl
@[simp] theorem Device.countEv_msix (c : Code) (i k : Nat) : (d.countEv c i k).msix = d.msix := rfl
@[simp] theorem Device.countEv_draws (c : Code) (i k : Nat) : (d.countEv c i k).draws = d.draws := rfl
@[simp] theorem Device.countEv_blob (c : Code) (i k : Nat) (x0 : Nat) : (d.countEv c i k).blob x0 = d.blob x0 := rfl
@[simp] theorem Device.countEv_core (c : Code) (i k : Nat) (x0 : Nat) : (d.countEv c i k).core x0 = d.core x0 := rfl
@[simp] theorem Device.countEv_req (c : Code) (i k : Nat) (x0 : Requester) : (d.countEv c i k).req x0 = d.req x0 := rfl
@[simp] theorem Device.countEv_ring (c : Code) (i k : Nat) (x0 : RingId) : (d.countEv c i k).ring x0 = d.ring x0 := rfl
@[simp] theorem Device.countEv_slot (c : Code) (i k : Nat) (x0 : Nat) : (d.countEv c i k).slot x0 = d.slot x0 := rfl
@[simp] theorem Device.countEv_mport (c : Code) (i k : Nat) (x0 : Nat) : (d.countEv c i k).mport x0 = d.mport x0 := rfl
@[simp] theorem Device.countEv_test (c : Code) (i k : Nat) (x0 : Nat) : (d.countEv c i k).test x0 = d.test x0 := rfl

end Sys2Proof.Machine
end

