-- ==== Sys2Proof/Laws/Reads.lean ====
section
/-!
SUPPORT. What each reader answers after the update that writes it: registers, BLOBs, cores, requesters, rings, slots,
ports; and what running a meaning answers.
-/

namespace Sys2Proof.Machine

variable (d : Device)

/-! ### Running a meaning -/

/-- Every meaning answers a next state with the queue as before. -/
theorem run_next (s : State) (f : Device → Device) : s.run f = .next { s with dev := f s.dev } := rfl

/-- A command completes with what its meaning makes of the block. -/
theorem completes_run {c : Instr} {s : State} {p : Device → Prop} (f : Device → Device) (h : exec c s = s.run f) (hp : p (f s.dev)) :
    Completes c s p := ⟨_, h, rfl, hp⟩

/-! ### Registers -/

theorem Device.rd_wr (k v j : Nat) : (d.wr k v).rd j = if k = j then v else d.rd j := by
  by_cases h : k = j
  · subst h; simp [Device.rd, Device.wr]
  · simp [Device.rd, Device.wr, h, SMap.getD, SMap.find_put_ne]

@[simp] theorem Device.rd_wr_self (k v : Nat) : (d.wr k v).rd k = v := by simp [Device.rd_wr]

theorem Device.rd_wr_ne {k j : Nat} (v : Nat) (h : k ≠ j) : (d.wr k v).rd j = d.rd j := by simp [Device.rd_wr, h]

@[simp] theorem Device.wrAll_nil : d.wrAll [] = d := rfl
@[simp] theorem Device.wrAll_cons (p : Nat × Nat) (l : List (Nat × Nat)) : d.wrAll (p :: l) = (d.wr p.1 p.2).wrAll l := rfl

theorem Device.rd_addSat (w k n j : Nat) : (d.addSat w k n).rd j = if k = j then satTo w (d.rd k + n) else d.rd j := Device.rd_wr ..
theorem Device.rd_bump (k j : Nat) : (d.bump k).rd j = if k = j then satTo 32 (d.rd k + 1) else d.rd j := Device.rd_wr ..
theorem Device.rd_bumpWrap (k j : Nat) : (d.bumpWrap k).rd j = if k = j then wrapTo 32 (d.rd k + 1) else d.rd j := Device.rd_wr ..
@[simp] theorem Device.rd_bump_self (k : Nat) : (d.bump k).rd k = satTo 32 (d.rd k + 1) := by simp [Device.rd_bump]

theorem Device.rd_setFn (f : FnId) (x : FnState) (j : Nat) : (d.setFn f x).rd j = if f.stateKey = j then x.code else d.rd j :=
  Device.rd_wr ..
theorem Device.rd_setPersonality (p : Personality) (j : Nat) :
    (d.setPersonality p).rd j = if Reg.PERSONALITY_NOW = j then p.code else d.rd j := Device.rd_wr ..
theorem Device.rd_setTransition (t : Transition) (j : Nat) :
    (d.setTransition t).rd j = if Reg.TRANSITION = j then t.code else d.rd j := Device.rd_wr ..

@[simp] theorem FnState.ofCode_code (x : FnState) : FnState.ofCode x.code = x := by cases x <;> rfl
@[simp] theorem Personality.ofCode_code (p : Personality) : Personality.ofCode p.code = p := by cases p <;> rfl
@[simp] theorem Transition.ofCode_code (t : Transition) : Transition.ofCode t.code = t := by cases t <;> rfl

@[simp] theorem Device.fn_setFn_self (f : FnId) (x : FnState) : (d.setFn f x).fn f = x := by
  simp [Device.fn, Device.rd_setFn]
@[simp] theorem Device.transition_setTransition (t : Transition) : (d.setTransition t).transition = t := by
  simp [Device.transition, Device.rd_setTransition]
@[simp] theorem Device.personality_setPersonality (p : Personality) : (d.setPersonality p).personality = p := by
  simp [Device.personality, Device.rd_setPersonality]

theorem Device.fn_wr_ne (k v : Nat) (f : FnId) (h : k ≠ f.stateKey) : (d.wr k v).fn f = d.fn f := by
  simp [Device.fn, Device.rd_wr, h]

@[simp] theorem Device.blob_wrBlob_self (k : Nat) (b : List Byte) : (d.wrBlob k b).blob k = b := by
  by_cases h : b = blobDefault k <;> simp [Device.blob, Device.wrBlob, SMap.put, h, SMap.find_erase, SMap.find_insert]

theorem Device.blob_wrBlob_ne {k j : Nat} (b : List Byte) (h : k ≠ j) : (d.wrBlob k b).blob j = d.blob j := by
  simp [Device.blob, SMap.find_put_ne, Device.wrBlob, h]

theorem Device.shown_stage (k v j : Nat) : (d.stage k v).shown j = if k = j then v else d.shown j := by
  by_cases h : k = j <;> simp [Device.shown, SMap.find_insert, h, Device.rd, Device.stage]

/-! ### Cores, requesters, rings, slots -/

@[simp] theorem Device.core_setCore_self (c : Nat) (x : Core) : (d.setCore c x).core c = x := by simp [Device.core]
theorem Device.core_setCore_ne {c j : Nat} (x : Core) (h : c ≠ j) : (d.setCore c x).core j = d.core j := by
  simp [Device.core, SMap.getD_put, h]

@[simp] theorem Device.core_onCore_self (c : Nat) (f : Core → Core) : (d.onCore c f).core c = f (d.core c) := by
  simp [Device.core]
theorem Device.core_onCore_ne {c j : Nat} (f : Core → Core) (h : c ≠ j) : (d.onCore c f).core j = d.core j := by
  simp [Device.core, SMap.getD_put, h]

theorem Device.core_onCore (c j : Nat) (f : Core → Core) : (d.onCore c f).core j = if c = j then f (d.core c) else d.core j := by
  by_cases h : c = j
  · subst h; simp
  · simp [Device.core_onCore_ne d f h, h]

theorem Requester.num_inj {a b : Requester} (h : a.num = b.num) : a = b := by
  cases a <;> cases b <;> simp [Requester.num] at h ⊢ <;> omega

@[simp] theorem Device.req_setReq_self (r : Requester) (q : ReqState) : (d.setReq r q).req r = q := by simp [Device.req]
theorem Device.req_setReq_ne {r q : Requester} (x : ReqState) (h : r ≠ q) : (d.setReq r x).req q = d.req q := by
  have : r.num ≠ q.num := fun e => h (Requester.num_inj e)
  simp [Device.req, SMap.getD_put, this]

theorem RingId.num_inj {a b : RingId} (h : a.num = b.num) : a = b := by
  cases a <;> cases b <;> simp [RingId.num, RingId.index] at h ⊢

@[simp] theorem Device.ring_setRing_self (r : RingId) (x : Ring) : (d.setRing r x).ring r = x := by simp [Device.ring]
theorem Device.ring_setRing_ne {r q : RingId} (x : Ring) (h : r ≠ q) : (d.setRing r x).ring q = d.ring q := by
  have : r.num ≠ q.num := fun e => h (RingId.num_inj e)
  simp [Device.ring, SMap.getD_put, this]

@[simp] theorem Device.slot_onSlot_self (n : Nat) (f : Slot → Slot) : (d.onSlot n f).slot n = f (d.slot n) := by simp [Device.slot]
theorem Device.slot_onSlot_ne {n j : Nat} (f : Slot → Slot) (h : n ≠ j) : (d.onSlot n f).slot j = d.slot j := by
  simp [Device.slot, SMap.getD_put, h]

@[simp] theorem Device.mport_onPort_self (p : Nat) (f : MemPort → MemPort) : (d.onPort p f).mport p = f (d.mport p) := by
  simp [Device.mport, Device.onPort]

/-! ### One core -/

variable (k : Core)

@[simp] theorem Core.sreg_setSreg_self (r v : Nat) : (k.setSreg r v).sreg r = wrapTo 32 v := by simp [Core.sreg, Core.setSreg]
theorem Core.sreg_setSreg_ne {r j : Nat} (v : Nat) (h : r ≠ j) : (k.setSreg r v).sreg j = k.sreg j := by
  simp [Core.sreg, Core.setSreg, SMap.getD_put, h]
@[simp] theorem Core.sem_setSem_self (n v : Nat) : (k.setSem n v).sem n = v := by simp [Core.sem, Core.setSem]
theorem Core.sem_setSem_ne {n j : Nat} (v : Nat) (h : n ≠ j) : (k.setSem n v).sem j = k.sem j := by
  simp [Core.sem, Core.setSem, SMap.getD_put, h]
@[simp] theorem Core.chan_setChan_self (n : Nat) (l : List DeOp) : (k.setChan n l).chan n = l := by simp [Core.chan, Core.setChan]
theorem Core.chan_setChan_ne {n j : Nat} (l : List DeOp) (h : n ≠ j) : (k.setChan n l).chan j = k.chan j := by
  simp [Core.chan, Core.setChan, SMap.getD_put, h]

end Sys2Proof.Machine
end

