-- ==== Sys2Proof/Laws/Memory.lean ====
section
/-!
SUPPORT. What accesses to device memory do: byte runs and numbers read back, the lines of one access, reads and writes of
any length that meet no error, and the Hamper's fields.
-/

namespace Sys2Proof.Machine

/-! ### Numbers and runs of bytes -/

@[simp] theorem length_leBytes (v n : Nat) : (leBytes v n).length = n := by
  induction n generalizing v with
  | zero => rfl
  | succ n ih => simp [leBytes, ih]

theorem leNat_leBytes (v n : Nat) : leNat (leBytes v n) = v % 256 ^ n := by
  induction n generalizing v with
  | zero => simp [leBytes, leNat, Nat.mod_one]
  | succ n ih =>
    simp only [leBytes, leNat, ih, BitVec.toNat_ofNat]
    rw [show (2:Nat) ^ 8 = 256 from rfl, Nat.pow_succ, Nat.mul_comm (256 ^ n) 256, Nat.mod_mul]

theorem SMap.getList_putList_out [DecidableEq α] (l : List α) (m : SMap α) (k j n : Nat) (d : α)
    (h : j + n ≤ k ∨ k + l.length ≤ j) : SMap.getList (SMap.putList m k d l) j d n = SMap.getList m j d n := by
  induction n generalizing j with
  | zero => rfl
  | succ n ih =>
    simp only [SMap.getList]
    rw [SMap.getD_putList_out _ _ _ _ _ (by omega), ih (j + 1) (by omega)]

theorem SMap.getList_append (m : SMap α) (k : Nat) (d : α) (n n' : Nat) :
    SMap.getList m k d (n + n') = SMap.getList m k d n ++ SMap.getList m (k + n) d n' := by
  induction n generalizing k with
  | zero => simp [SMap.getList]
  | succ n ih =>
    rw [Nat.succ_add]
    simp only [SMap.getList, List.cons_append, ih]
    rw [show k + 1 + n = k + (n + 1) by omega]

@[simp] theorem SMap.length_getList (m : SMap α) (k : Nat) (d : α) (n : Nat) : (SMap.getList m k d n).length = n := by
  induction n generalizing k with
  | zero => rfl
  | succ n ih => simp [SMap.getList, ih]

theorem SMap.putList_append [DecidableEq α] (l l' : List α) (m : SMap α) (k : Nat) (d : α) :
    SMap.putList m k d (l ++ l') = SMap.putList (SMap.putList m k d l) (k + l.length) d l' := by
  induction l generalizing m k with
  | nil => rfl
  | cons v t ih =>
    simp only [List.cons_append, SMap.putList, ih, List.length_cons]
    rw [show k + 1 + t.length = k + (t.length + 1) by omega]

/-! ### Memory's bytes -/

theorem Memory.bytes_store_self (m : Memory) (a : Nat) (l : List Byte) : (m.store a l).bytes a l.length = l := by
  unfold Memory.store Memory.bytes
  split <;> exact SMap.getList_putList ..

theorem Memory.bytes_store_out (m : Memory) (a b n : Nat) (l : List Byte) (h : b + n ≤ a ∨ a + l.length ≤ b) :
    (m.store a l).bytes b n = m.bytes b n := by
  unfold Memory.store Memory.bytes
  split <;> split <;> first | rfl | exact SMap.getList_putList_out _ _ _ _ _ _ h

theorem Device.memNat_setMemNat_self (d : Device) (a n v : Nat) : (d.setMemNat a n v).memNat a n = v % 256 ^ n := by
  have := Memory.bytes_store_self d.mem a (leBytes v n)
  rw [length_leBytes] at this
  show leNat ((d.mem.store a (leBytes v n)).bytes a n) = _
  rw [this, leNat_leBytes]

theorem Device.memNat_setMemNat_out (d : Device) (a n v b k : Nat) (h : b + k ≤ a ∨ a + n ≤ b) :
    (d.setMemNat a n v).memNat b k = d.memNat b k := by
  show leNat ((d.mem.store a (leBytes v n)).bytes b k) = leNat (d.mem.bytes b k)
  rw [Memory.bytes_store_out _ _ _ _ _ (by rw [length_leBytes]; exact h)]

theorem Device.bytes_setMemNat_out (d : Device) (a n v b k : Nat) (h : b + k ≤ a ∨ a + n ≤ b) :
    (d.setMemNat a n v).mem.bytes b k = d.mem.bytes b k :=
  Memory.bytes_store_out _ _ _ _ _ (by rw [length_leBytes]; exact h)

/-! ### One line, no error -/

/-- Two devices differ at most in the floor cache's contents and counters, in what regulation and row counting note of a
request, and in the producers of lines that hold no poison. -/
structure Device.quiet (d e : Device) : Prop where
  frame : e = { d with dict := e.dict, mem := { d.mem with cache := e.mem.cache, ports := e.mem.ports, producers := e.mem.producers
                                                           activations := e.mem.activations, disturbed := e.mem.disturbed } }
  regs : ∀ k, k ≠ Reg.FC_HITS → k ≠ Reg.FC_MISSES → e.rd k = d.rd k

theorem Device.quiet_refl (d : Device) : d.quiet d := ⟨rfl, fun _ _ _ => rfl⟩

theorem Device.quiet_trans {d e f : Device} (h : d.quiet e) (h' : e.quiet f) : d.quiet f := by
  refine ⟨?_, fun k a b => (h'.regs k a b).trans (h.regs k a b)⟩
  have e1 := h.frame
  rw [h'.frame, e1]

theorem Device.touchLine_quiet (d : Device) (line : Nat) : d.quiet (d.touchLine line) := ⟨rfl, fun _ _ _ => rfl⟩

theorem Device.allocLine_quiet (d : Device) (port line : Nat) : d.quiet (d.allocLine port line) := by
  unfold Device.allocLine
  dsimp only
  split
  · exact d.quiet_refl
  · exact ⟨rfl, fun _ _ _ => rfl⟩

theorem Device.hits_quiet (d : Device) : d.quiet (d.addSat 64 Reg.FC_HITS 1) :=
  ⟨rfl, fun k h _ => by rw [Device.rd_addSat, if_neg (Ne.symm h)]⟩

theorem Device.misses_quiet (d : Device) : d.quiet (d.addSat 64 Reg.FC_MISSES 1) :=
  ⟨rfl, fun k _ h => by rw [Device.rd_addSat, if_neg (Ne.symm h)]⟩

theorem Device.onPort_quiet (d : Device) (p : Nat) (f : MemPort → MemPort) : d.quiet (d.onPort p f) := ⟨rfl, fun _ _ _ => rfl⟩

theorem Device.completed_quiet (d : Device) (p a due : Nat) (e : MemEnv) : d.quiet (d.completed p a due e) := by
  unfold Device.completed; exact d.onPort_quiet p _

theorem Device.issued_quiet (d : Device) (p n : Nat) : d.quiet (d.issued p n) := by
  unfold Device.issued; exact d.onPort_quiet p _

theorem Device.portIssue_quiet (d : Device) (p n : Nat) : d.quiet (d.portIssue p n) := by
  unfold Device.portIssue
  split
  · unfold Device.budgetStop Device.newWindow Device.issued
    exact Device.quiet_trans (Device.quiet_trans (d.onPort_quiet p _) (Device.onPort_quiet _ p _)) (Device.onPort_quiet _ p _)
  · exact d.issued_quiet p n

theorem Device.rowOpened_quiet (d : Device) (port a : Nat) (e : MemEnv) : d.quiet (d.rowOpened port a e) := by
  unfold Device.rowOpened Device.activate
  split
  · split
    · exact d.quiet_refl
    · dsimp only [Device.onMem]
      split <;> exact ⟨rfl, fun _ _ _ => rfl⟩
  · exact d.quiet_refl

theorem Device.dramRead_good (d : Device) (port a : Nat) (h : d.mem.poisoned (a / 64) = false) : d.dramRead port a none = (d, 0) := by
  unfold Device.dramRead
  simp [h]

theorem takeLine_good (d : Device) (port line : Nat) (alloc : Bool) :
    (takeLine (d, 0) port line alloc).2 = 0 ∧ d.quiet (takeLine (d, 0) port line alloc).1 := by
  unfold takeLine
  split
  · dsimp only
    exact ⟨rfl, d.allocLine_quiet port line⟩
  · exact ⟨rfl, d.quiet_refl⟩

/-- A line read that meets no error changes only the floor cache. -/
theorem Device.readLine_good (d : Device) (port a : Nat) (alloc : Bool) (hp : d.mem.poisoned (a / 64) = false) :
    (d.readLine port a alloc none).2 = 0 ∧ d.quiet (d.readLine port a alloc none).1 := by
  unfold Device.readLine
  dsimp only
  split
  · simp [hp, d.quiet_refl]
  split
  · exact ⟨rfl, Device.quiet_trans d.hits_quiet (touchLine_quiet ..)⟩
  · rw [Device.dramRead_good (d.addSat 64 Reg.FC_MISSES 1) port a hp]
    have h := takeLine_good (d.addSat 64 Reg.FC_MISSES 1) port (a / 64) alloc
    exact ⟨h.1, Device.quiet_trans d.misses_quiet h.2⟩

/-- Storing bytes in a line, with no poison anywhere, is the store itself. -/
theorem Device.store_quiet {d e : Device} (h : d.quiet e) (hp : d.mem.poison = []) (a : Nat) (b : List Byte) (full : Bool) :
    (d.onMem fun m => m.store a b).quiet
      (e.onMem fun m => (m.store a b).setPoison (a / 64) (false || (m.poisoned (a / 64) && !full))) := by
  have h2 := h.frame
  refine ⟨?_, fun k x y => h.regs k x y⟩
  rw [h2]
  unfold Device.onMem Memory.setPoison Memory.store
  split <;> simp [Memory.poisoned, hp, SMap.getD] <;> rfl

/-- A line write that meets no error stores its bytes, and beside them changes only the floor cache. -/
theorem Device.writeLine_good (d : Device) (port a : Nat) (b : List Byte) (alloc : Bool) (hp : d.mem.poison = []) :
    (d.writeLine port a b false alloc none).2 = 0 ∧ (d.onMem fun m => m.store a b).quiet (d.writeLine port a b false alloc none).1 := by
  have hq : ∀ e : Device, d.quiet e → e.mem.poisoned (a / 64) = false := by
    intro e he; rw [he.frame]; unfold Memory.poisoned; simp [hp]
  unfold Device.writeLine
  dsimp only
  have hn2 : ¬ (a < lockedBase ∧ (none : Option MemFault) = some .caRetried) := fun h => by cases h.2
  rw [if_neg hn2]
  have h2 : d.quiet (if a < lockedBase then (if d.cached (a / 64) then (d.addSat 64 Reg.FC_HITS 1).touchLine (a / 64) else d.addSat 64 Reg.FC_MISSES 1) else d) := by
    split
    · split
      · exact Device.quiet_trans d.hits_quiet (touchLine_quiet ..)
      · exact d.misses_quiet
    · exact d.quiet_refl
  generalize (if a < lockedBase then (if d.cached (a / 64) then (d.addSat 64 Reg.FC_HITS 1).touchLine (a / 64) else d.addSat 64 Reg.FC_MISSES 1) else d) = e at h2
  rw [if_neg (fun h => by rcases h.2 with h | h
                          · rw [hq e h2] at h; exact absurd h (by decide)
                          · cases h.2)]
  simp only [Bool.false_eq_true, if_false]
  have h3 := Device.store_quiet h2 hp a b (decide (a % 64 = 0 ∧ b.length = 64))
  generalize (e.onMem fun m => (m.store a b).setPoison (a / 64) (false || (m.poisoned (a / 64) && !decide (a % 64 = 0 ∧ b.length = 64)))) = f at h3
  split
  · refine ⟨rfl, ?_⟩
    dsimp only
    exact Device.quiet_trans h3 (allocLine_quiet ..)
  · exact ⟨rfl, h3⟩

/-! ### Accesses of any length, no error -/

theorem Device.mapCode_plain (d : Device) (a n b : Nat) (h : d.plain a n) (h1 : a ≤ b) (h2 : b < a + n) : d.mapCode b = 0 := by
  unfold Device.mapCode
  have h3 := h.1
  by_cases hb : b < drivePartEnd
  · rcases h.2 with h | h
    · omega
    · rw [if_pos hb, if_neg h]
  · rw [if_neg hb, if_pos (by omega)]

theorem Device.plain_of {d e : Device} {a n : Nat} (h : d.quiet e) (hp : d.plain a n) : e.plain a n := by
  refine ⟨hp.1, hp.2.imp id fun h' => ?_⟩
  rw [h.regs _ (by decide) (by decide)]; exact h'

theorem Device.served_of_plain {d : Device} {a n : Nat} (h : d.plain a n) : d.served a n := by
  have hd : dramEnd = 206158430208 := rfl
  have hl : lockedBase = 274877906944 := rfl
  have := h.1
  exact ⟨Or.inl (by omega), fun b h1 h2 => Device.mapCode_plain d a n b h h1 h2⟩

/-- Two folds over one list whose steps agree on its elements. -/
theorem foldl_congr_mem {α β : Type} (f g : β → α → β) (l : List α) (b : β) (h : ∀ b, ∀ a ∈ l, f b a = g b a) :
    l.foldl f b = l.foldl g b := by
  induction l generalizing b with
  | nil => rfl
  | cons a t ih =>
    rw [List.foldl_cons, List.foldl_cons, h b a List.mem_cons_self]
    exact ih _ fun b a ha => h b a (List.mem_cons_of_mem _ ha)

theorem Device.mapCode_of {d e : Device} (h : d.quiet e) (a : Nat) : e.mapCode a = d.mapCode a := by
  have hp : ∀ i < 8, e.rd (Reg.PART i) = d.rd (Reg.PART i) := fun i hi =>
    h.regs _ (by simp only [Reg.PART, Reg.FC_HITS, key]; omega) (by simp only [Reg.PART, Reg.FC_MISSES, key]; omega)
  have h1 : e.lockedWays = d.lockedWays :=
    foldl_congr_mem _ _ _ _ fun w i hi => by rw [hp i (List.mem_range.mp hi)]
  have h2 : e.unified = d.unified := by
    unfold Device.unified
    rw [h.regs _ (by decide) (by decide)]
  unfold Device.mapCode
  rw [h1, h2, h.regs _ (by decide) (by decide)]

/-- The whole locked window is served where all its ways are locked and memory is not unified. -/
theorem Device.served_of_locked {d : Device} {a n : Nat} (h1 : d.unified = false) (h2 : ∀ w < 16, bitAt d.lockedWays w = true)
    (h3 : lockedBase ≤ a) (h4 : a + n ≤ lockedBase + lockedSize) : d.served a n := by
  have hl : lockedBase = 274877906944 := rfl
  have hd : dramEnd = 206158430208 := rfl
  have hp : drivePartEnd ≤ dramEnd := by decide
  have hs : lockedSize = 268435456 := rfl
  have hw : waySize = 16777216 := rfl
  refine ⟨Or.inr h3, fun b hb hb' => ?_⟩
  unfold Device.mapCode
  rw [if_neg (by omega), if_neg (by omega), if_pos (by omega), h1, if_neg (by decide), h2 _ (by rw [hw]; omega), if_pos rfl]

theorem Device.served_of {d e : Device} {a n : Nat} (h : d.quiet e) (hs : d.served a n) : e.served a n :=
  ⟨hs.1, fun b h1 h2 => (mapCode_of h b).trans (hs.2 b h1 h2)⟩

theorem bytes_append (m : Memory) (a n n' : Nat) (h : a + n + n' ≤ lockedBase ∨ lockedBase ≤ a) : m.bytes a (n + n') = m.bytes a n ++ m.bytes (a + n) n' := by
  unfold Memory.bytes
  by_cases h0 : n' = 0
  · subst h0; rw [Nat.add_zero]; split <;> split <;> simp [SMap.getList]
  rcases h with h | h
  · rw [if_pos (by omega), if_pos (by omega), if_pos (by omega), SMap.getList_append]
  · rw [if_neg (by omega), if_neg (by omega), if_neg (by omega), SMap.getList_append]

/-- Folding over the lines of a range, from `b` with `k` bytes left, keeps what each line keeps. -/
theorem linePieces_fold {β : Type} (P : Nat → β → Prop) (f : β → Nat × Nat × Nat → β) (a n : Nat)
    (hf : ∀ r i b k, a ≤ b → b + k ≤ a + n → 0 < k → b % 64 + k ≤ 64 → P b r → P (b + k) (f r (i, b, k))) :
    ∀ (fuel b k i : Nat) (r : β), a ≤ b → b + k = a + n → (k = 0 ∨ b % 64 + k ≤ 64 * fuel) → P b r →
      P (a + n) ((linePieces b fuel k i).foldl f r) := by
  intro fuel
  induction fuel with
  | zero =>
    intro b k i r h1 h2 h3 h4
    have : b = a + n := by omega
    rw [← this]; exact h4
  | succ fuel ih =>
    intro b k i r h1 h2 h3 h4
    by_cases hk : k = 0
    · subst hk
      have : b = a + n := by omega
      simp only [linePieces, if_true, List.foldl_nil]
      rw [← this]; exact h4
    simp only [linePieces, if_neg hk, List.foldl_cons]
    have hlt := Nat.mod_lt b (show 0 < 64 by decide)
    refine ih (b + min k (64 - b % 64)) (k - min k (64 - b % 64)) (i + 1) _ (by omega) (by omega) ?_ (hf _ _ _ _ h1 (by omega) (by omega) (by omega) h4)
    by_cases hle : k ≤ 64 - b % 64
    · exact Or.inl (by omega)
    · rw [Nat.min_eq_right (by omega)]; exact Or.inr (by omega)

/-- The lines of a read that meets no error. -/
theorem Device.rawRead_served (d : Device) (port a n : Nat) (alloc : Bool) (e : MemEnv) (he : e.faults = []) (h : d.served a n)
    (hp : d.mem.poison = []) :
    (d.rawRead port a n alloc e).data = d.mem.bytes a n ∧ (d.rawRead port a n alloc e).bad = [] ∧ (d.rawRead port a n alloc e).code = 0 ∧
      d.quiet (d.rawRead port a n alloc e).dev := by
  have hat : ∀ i, e.at i = none := by intro i; unfold MemEnv.at; rw [he]; rfl
  unfold Device.rawRead
  rw [show d.mem.bytes a n = d.mem.bytes a (a + n - a) by rw [Nat.add_sub_cancel_left]]
  refine linePieces_fold (fun (b : Nat) (r : ReadResult) => r.data = d.mem.bytes a (b - a) ∧ r.bad = [] ∧ r.code = 0 ∧ d.quiet r.dev) _ a n ?_ (n / 64 + 2) a n 0
    { dev := d } (Nat.le_refl a) rfl (Or.inr (by omega)) ⟨?_, rfl, rfl, d.quiet_refl⟩
  · rintro r i b k h1 h2 h3 h4 ⟨h5, h6, h7, h8⟩
    have hm : r.dev.mapCode b = 0 := (served_of h8 h).2 b h1 (by omega)
    have hpz : r.dev.mem.poisoned (b / 64 * 64 / 64) = false := by rw [h8.frame]; unfold Memory.poisoned; simp [hp]
    obtain ⟨g1, g2⟩ := Device.readLine_good r.dev port (b / 64 * 64) alloc hpz
    have g3 := Device.quiet_trans h8 g2
    have hb : (r.dev.readLine port (b / 64 * 64) alloc none).1.mem.bytes = d.mem.bytes := by rw [g3.frame]; rfl
    dsimp only
    rw [hm, if_neg (by simp), hat]
    dsimp only
    rw [g1, h7, h5, hb]
    refine ⟨?_, by simpa using h6, rfl, g3⟩
    have := h.1
    rw [show b + k - a = (b - a) + k by omega, bytes_append d.mem a (b - a) k (h.1.imp (fun h => by omega) id)]
    congr 2; omega
  · rw [Nat.sub_self]; unfold Memory.bytes; split <;> rfl

/-- A read request of any length that meets no error: its data, and no more than the floor cache and the counting changed. -/
theorem Device.memRead_served (d : Device) (port a n : Nat) (alloc : Bool) (e : MemEnv) (due : Option Nat) (he : e.faults = [])
    (h : d.served a n) (hp : d.mem.poison = []) :
    (d.memRead port a n alloc e due).data = d.mem.bytes a n ∧ (d.memRead port a n alloc e due).bad = [] ∧
      (d.memRead port a n alloc e due).code = 0 ∧ d.quiet (d.memRead port a n alloc e due).dev := by
  have h1 := d.rowOpened_quiet port a e
  have h2 : (d.rowOpened port a e).mem.bytes = d.mem.bytes := by rw [h1.frame]; rfl
  have h3 : (d.rowOpened port a e).mem.poison = [] := by rw [h1.frame]; exact hp
  obtain ⟨g1, g2, g3, g4⟩ := Device.rawRead_served (d.rowOpened port a e) port a n alloc e he (Device.served_of h1 h) h3
  rw [h2] at g1
  exact ⟨g1, g2, g3, Device.quiet_trans (Device.quiet_trans h1 g4) (Device.completed_quiet ..)⟩

theorem Device.portRead_served (d : Device) (port a n : Nat) (alloc : Bool) (e : MemEnv) (he : e.faults = []) (h : d.served a n)
    (hp : d.mem.poison = []) :
    (d.portRead port a n alloc e).data = d.mem.bytes a n ∧ (d.portRead port a n alloc e).bad = [] ∧
      (d.portRead port a n alloc e).code = 0 ∧ d.quiet (d.portRead port a n alloc e).dev := by
  have h1 := d.portIssue_quiet port n
  have h2 : (d.portIssue port n).mem.bytes = d.mem.bytes := by rw [h1.frame]; rfl
  have h3 : (d.portIssue port n).mem.poison = [] := by rw [h1.frame]; exact hp
  obtain ⟨g1, g2, g3, g4⟩ := Device.memRead_served (d.portIssue port n) port a n alloc e none he (Device.served_of h1 h) h3
  rw [h2] at g1
  exact ⟨g1, g2, g3, Device.quiet_trans h1 g4⟩

theorem store_append (m : Memory) (a : Nat) (l l' : List Byte) (h : a + (l ++ l').length ≤ lockedBase ∨ lockedBase ≤ a) :
    m.store a (l ++ l') = (m.store a l).store (a + l.length) l' := by
  rw [List.length_append] at h
  unfold Memory.store
  rcases h with h | h
  · by_cases h0 : l' = []
    · subst h0; rw [List.append_nil]; split <;> split <;> rfl
    have := List.length_pos_iff.mpr h0
    rw [if_pos (by omega), if_pos (by omega), if_pos (by omega), SMap.putList_append]
  · rw [if_neg (by omega), if_neg (by omega), if_neg (by omega), SMap.putList_append]

theorem Device.quiet_store {d e : Device} (h : d.quiet e) (a : Nat) (l : List Byte) :
    (d.onMem fun m => m.store a l).quiet (e.onMem fun m => m.store a l) := by
  refine ⟨?_, fun k x y => h.regs k x y⟩
  have h1 := h.frame
  rw [h1]
  unfold Device.onMem Memory.store
  split <;> rfl

/-- The lines of a write that meets no error. -/
theorem Device.rawWrite_served (d : Device) (port a : Nat) (l : List Byte) (alloc : Bool) (e : MemEnv) (he : e.faults = [])
    (h : d.served a l.length) (hp : d.mem.poison = []) :
    (d.rawWrite port a l [] alloc e).2 = 0 ∧ (d.onMem fun m => m.store a l).quiet (d.rawWrite port a l [] alloc e).1 := by
  have hat : ∀ i, e.at i = none := by intro i; unfold MemEnv.at; rw [he]; rfl
  unfold Device.rawWrite
  rw [show (d.onMem fun m => m.store a l) = d.onMem fun m => m.store a (l.take (a + l.length - a)) by
    rw [Nat.add_sub_cancel_left, List.take_length]]
  refine linePieces_fold (fun (b : Nat) (r : Device × Code) => r.2 = 0 ∧ (d.onMem fun m => m.store a (l.take (b - a))).quiet r.1) _ a l.length ?_ (l.length / 64 + 2) a l.length 0
    (d, 0) (Nat.le_refl a) rfl (Or.inr (by omega)) ⟨rfl, ?_⟩
  · rintro r i b k h1 h2 h3 h4 ⟨h5, h6⟩
    have hpl : r.1.served a l.length := served_of h6 h
    have hm : r.1.mapCode b = 0 := hpl.2 b h1 (by omega)
    have hpz : r.1.mem.poison = [] := by
      rw [h6.frame]
      show (d.mem.store a _).poison = []
      unfold Memory.store; split <;> exact hp
    obtain ⟨g1, g2⟩ := Device.writeLine_good r.1 port b (slice l (b - a) k) alloc hpz
    dsimp only
    rw [hm, if_neg (by simp), hat]
    dsimp only
    have hbad : badIn [] (b - a) k = false := rfl
    rw [hbad, g1, h5]
    refine ⟨rfl, ?_⟩
    have hlen : (l.take (b - a)).length = b - a := by rw [List.length_take]; omega
    have hst : ∀ m : Memory, m.store a (l.take (b + k - a)) = (m.store a (l.take (b - a))).store b (slice l (b - a) k) := by
      intro m
      have := h.1
      rw [show l.take (b + k - a) = l.take (b - a) ++ slice l (b - a) k by
        rw [show b + k - a = (b - a) + k by omega]; exact List.take_add, store_append m a (l.take (b - a)) (slice l (b - a) k) (h.1.imp (fun h => by have := List.length_take_le (b - a) l; simp only [List.length_append, slice, List.length_take, List.length_drop]; omega) id), hlen]
      congr 1; omega
    have h7 := Device.quiet_trans (quiet_store h6 b (slice l (b - a) k)) g2
    have h8 : ((d.onMem fun m => m.store a (l.take (b - a))).onMem fun m => m.store b (slice l (b - a) k)) =
        d.onMem fun m => m.store a (l.take (b + k - a)) := by
      show d.onMem (fun m => (m.store a (l.take (b - a))).store b (slice l (b - a) k)) = _
      congr 1; funext m; exact (hst m).symm
    rw [h8] at h7
    exact h7
  · rw [Nat.sub_self, List.take_zero]
    have : (d.onMem fun m => m.store a []) = d := by
      unfold Device.onMem Memory.store; split <;> rfl
    rw [this]; exact d.quiet_refl

/-- A write request of any length that meets no error: its bytes are stored, and beside them no more than the floor cache and
the counting changed. -/
theorem Device.memWrite_served (d : Device) (port a : Nat) (l : List Byte) (alloc : Bool) (e : MemEnv) (due : Option Nat)
    (he : e.faults = []) (h : d.served a l.length) (hp : d.mem.poison = []) :
    (d.memWrite port a l [] alloc e due).2 = 0 ∧ (d.onMem fun m => m.store a l).quiet (d.memWrite port a l [] alloc e due).1 := by
  have h1 := d.rowOpened_quiet port a e
  have h3 : (d.rowOpened port a e).mem.poison = [] := by rw [h1.frame]; exact hp
  obtain ⟨g1, g2⟩ := Device.rawWrite_served (d.rowOpened port a e) port a l alloc e he (Device.served_of h1 h) h3
  exact ⟨g1, Device.quiet_trans (Device.quiet_trans (quiet_store h1 a l) g2) (Device.completed_quiet ..)⟩

theorem Device.portWrite_served (d : Device) (port a : Nat) (l : List Byte) (alloc : Bool) (e : MemEnv) (he : e.faults = [])
    (h : d.served a l.length) (hp : d.mem.poison = []) :
    (d.portWrite port a l [] alloc e).2 = 0 ∧ (d.onMem fun m => m.store a l).quiet (d.portWrite port a l [] alloc e).1 := by
  have h1 := d.portIssue_quiet port l.length
  have h3 : (d.portIssue port l.length).mem.poison = [] := by rw [h1.frame]; exact hp
  obtain ⟨g1, g2⟩ := Device.memWrite_served (d.portIssue port l.length) port a l alloc e none he (Device.served_of h1 h) h3
  exact ⟨g1, Device.quiet_trans (quiet_store h1 a l) g2⟩

theorem Device.memRead_good (d : Device) (port a n : Nat) (alloc : Bool) (e : MemEnv) (due : Option Nat) (he : e.faults = [])
    (h : d.plain a n) (hp : d.mem.poison = []) :
    (d.memRead port a n alloc e due).data = d.mem.bytes a n ∧ (d.memRead port a n alloc e due).bad = [] ∧
      (d.memRead port a n alloc e due).code = 0 ∧ d.quiet (d.memRead port a n alloc e due).dev :=
  memRead_served d port a n alloc e due he (served_of_plain h) hp

theorem Device.portRead_good (d : Device) (port a n : Nat) (alloc : Bool) (e : MemEnv) (he : e.faults = []) (h : d.plain a n)
    (hp : d.mem.poison = []) :
    (d.portRead port a n alloc e).data = d.mem.bytes a n ∧ (d.portRead port a n alloc e).bad = [] ∧
      (d.portRead port a n alloc e).code = 0 ∧ d.quiet (d.portRead port a n alloc e).dev :=
  portRead_served d port a n alloc e he (served_of_plain h) hp

theorem Device.memWrite_good (d : Device) (port a : Nat) (l : List Byte) (alloc : Bool) (e : MemEnv) (due : Option Nat)
    (he : e.faults = []) (h : d.plain a l.length) (hp : d.mem.poison = []) :
    (d.memWrite port a l [] alloc e due).2 = 0 ∧ (d.onMem fun m => m.store a l).quiet (d.memWrite port a l [] alloc e due).1 :=
  memWrite_served d port a l alloc e due he (served_of_plain h) hp

theorem Device.portWrite_good (d : Device) (port a : Nat) (l : List Byte) (alloc : Bool) (e : MemEnv) (he : e.faults = [])
    (h : d.plain a l.length) (hp : d.mem.poison = []) :
    (d.portWrite port a l [] alloc e).2 = 0 ∧ (d.onMem fun m => m.store a l).quiet (d.portWrite port a l [] alloc e).1 :=
  portWrite_served d port a l alloc e he (served_of_plain h) hp

/-- Whatever errors they meet, the operations on lines leave the ports' regulation as it is. -/
theorem Device.allocLine_ports (d : Device) (p l : Nat) : (d.allocLine p l).mem.ports = d.mem.ports := by
  unfold Device.allocLine; dsimp only; split <;> rfl

theorem Device.caFail_ports (d : Device) (p a : Nat) (c : Bool) : (d.caFail p a c).mem.ports = d.mem.ports := by
  unfold Device.caFail; dsimp only
  generalize (if c then SMap.getD d.mem.caOld ((d.locate a).stack * 24 + (d.locate a).channel) 0 else 0) = o
  split <;> rfl

theorem Device.dramCorrected_ports (d : Device) (p a n : Nat) : (d.dramCorrected p a n).mem.ports = d.mem.ports := by
  unfold Device.dramCorrected; dsimp only [Device.onMem]; split <;> rfl

theorem Memory.store_ports (m : Memory) (a : Nat) (l : List Byte) : (m.store a l).ports = m.ports := by
  unfold Memory.store; split <;> rfl

theorem Memory.setPoison_ports (m : Memory) (l : Nat) (b : Bool) : (m.setPoison l b).ports = m.ports := rfl

theorem Device.dramUncorrectable_ports (d : Device) (p a : Nat) : (d.dramUncorrectable p a).mem.ports = d.mem.ports := by
  unfold Device.dramUncorrectable; split <;> rfl

theorem Device.dramRead_ports (d : Device) (p a : Nat) (f : Option MemFault) : (d.dramRead p a f).1.mem.ports = d.mem.ports := by
  unfold Device.dramRead
  split
  · exact Device.caFail_ports ..
  · dsimp only
    have h : ∀ g : Option MemFault,
        (if g = some .caRetried then d.bump (Reg.STACK_CA_RETRIES (d.locate a).stack) else d).mem.ports = d.mem.ports := by
      intro g; split <;> rfl
    have h := h f
    generalize (if f = some .caRetried then d.bump (Reg.STACK_CA_RETRIES (d.locate a).stack) else d) = d1 at h ⊢
    split
    · exact h
    · split
      · exact (Device.dramUncorrectable_ports ..).trans h
      · exact (Device.dramCorrected_ports ..).trans h
      · exact h

theorem takeLine_ports (r : Device × Code) (p l : Nat) (al : Bool) : (takeLine r p l al).1.mem.ports = r.1.mem.ports := by
  have h := r.1.allocLine_ports p l
  unfold takeLine
  generalize r.1.allocLine p l = y at h ⊢
  split
  · exact h
  · rfl

theorem Device.readLine_ports (d : Device) (p a : Nat) (al : Bool) (f : Option MemFault) : (d.readLine p a al f).1.mem.ports = d.mem.ports := by
  unfold Device.readLine
  dsimp only
  split
  · split <;> rfl
  split
  · split
    · rfl
    · exact (takeLine_ports ..).trans (Device.dramRead_ports ..)
    · rfl
  · exact (takeLine_ports ..).trans (Device.dramRead_ports ..)

theorem Device.refuse_ports (d : Device) (c : Code) (p a b : Nat) : (d.refuse c p a b).mem.ports = d.mem.ports := by
  unfold Device.refuse; split <;> rfl

theorem Device.rawRead_ports (d : Device) (p a n : Nat) (al : Bool) (e : MemEnv) : (d.rawRead p a n al e).dev.mem.ports = d.mem.ports := by
  unfold Device.rawRead
  generalize linePieces a (n / 64 + 2) n 0 = l
  have : ∀ r : ReadResult, r.dev.mem.ports = d.mem.ports → (l.foldl
      (fun r p_1 =>
        let c := r.dev.mapCode p_1.2.1
        let off := r.data.length
        let gs := (List.range ((off + p_1.2.2 - 1) / 32 - off / 32 + 1)).map (· + off / 32)
        if c ≠ 0 then
          ⟨r.dev.refuse c p p_1.2.1 a, r.data ++ zeros p_1.2.2, r.bad ++ gs, if r.code = 0 then c else r.code⟩
        else
          let x := r.dev.readLine p (p_1.2.1 / 64 * 64) al (e.at p_1.1)
          ⟨x.1, r.data ++ x.1.mem.bytes p_1.2.1 p_1.2.2, if x.2 = 0 then r.bad else r.bad ++ gs, if r.code = 0 then x.2 else r.code⟩) r).dev.mem.ports =
      d.mem.ports := by
    induction l with
    | nil => intro r h; exact h
    | cons q t ih =>
      intro r h
      simp only [List.foldl_cons]
      refine ih _ ?_
      split
      · exact (Device.refuse_ports ..).trans h
      · exact (Device.readLine_ports ..).trans h
  exact this _ rfl

theorem Device.writeLine_ports (d : Device) (p a : Nat) (b : List Byte) (po al : Bool) (f : Option MemFault) :
    (d.writeLine p a b po al f).1.mem.ports = d.mem.ports := by
  unfold Device.writeLine
  extract_lets line full isDram parity d0 d1 d2 d3
  have h0 : d0.mem.ports = d.mem.ports := by show (if _ then _ else _ : Device).mem.ports = _; split <;> rfl
  have h1 : d1.mem.ports = d.mem.ports := by
    show Memory.ports (Device.mem (match f with | some (.dramCorrected s) => if isDram ∧ ¬ full then d0.dramCorrected p a s.val else d0 | _ => d0)) = _
    split
    · split
      · exact (Device.dramCorrected_ports ..).trans h0
      · exact h0
    · exact h0
  have h2 : d2.mem.ports = d.mem.ports := by
    show (if isDram then (if d.cached line then (d1.addSat 64 Reg.FC_HITS 1).touchLine line else d1.addSat 64 Reg.FC_MISSES 1) else d1 : Device).mem.ports = _
    split
    · split
      · exact h1
      · exact h1
    · exact h1
  have h3 : d3.mem.ports = d.mem.ports := by
    show ((d2.mem.store a b).setPoison _ _).ports = _
    rw [Memory.setPoison_ports, Memory.store_ports]; exact h2
  cases parity with
  | some close => exact Device.caFail_ports ..
  | none =>
    dsimp only
    have key : ∀ (x y z w : Device), x.mem.ports = d.mem.ports → y.mem.ports = d.mem.ports → z.mem.ports = d.mem.ports →
        w.mem.ports = d.mem.ports → ∀ (c1 c2 : Prop) {i1 : Decidable c1} {i2 : Decidable c2} (k : Code),
        (if c1 then (x, k) else if po = true then (y, 0) else if c2 then (z, 0) else (w, 0)).1.mem.ports = d.mem.ports := by
      intro x y z w hx hy hz hw c1 c2 i1 i2 k
      split
      · exact hx
      split
      · exact hy
      split
      · exact hz
      · exact hw
    exact key _ _ _ _ ((Device.dramUncorrectable_ports ..).trans h2) ((show (d3.dropLine line).mem.ports = d3.mem.ports from rfl).trans h3) ((Device.allocLine_ports ..).trans h3) h3 _ _ _

theorem Device.rawWrite_ports (d : Device) (p a : Nat) (b : List Byte) (bad : List Nat) (al : Bool) (e : MemEnv) :
    (d.rawWrite p a b bad al e).1.mem.ports = d.mem.ports := by
  unfold Device.rawWrite
  generalize linePieces a (b.length / 64 + 2) b.length 0 = l
  have : ∀ r : Device × Code, r.1.mem.ports = d.mem.ports → (l.foldl
      (fun r p_1 =>
        let c := r.1.mapCode p_1.2.1
        if c ≠ 0 then (r.1.refuse c p p_1.2.1 a, if r.2 = 0 then c else r.2)
        else
          let x := r.1.writeLine p p_1.2.1 (slice b (p_1.2.1 - a) p_1.2.2) (badIn bad (p_1.2.1 - a) p_1.2.2) al (e.at p_1.1)
          (x.1, if r.2 = 0 then x.2 else r.2)) r).1.mem.ports = d.mem.ports := by
    induction l with
    | nil => intro r h; exact h
    | cons q t ih =>
      intro r h
      simp only [List.foldl_cons]
      refine ih _ ?_
      split
      · exact (Device.refuse_ports ..).trans h
      · exact (Device.writeLine_ports ..).trans h
  exact this _ rfl

theorem Device.mport_onPort_ne (d : Device) (f : MemPort → MemPort) {p q : Nat} (h : q ≠ p) : (d.onPort p f).mport q = d.mport q :=
  SMap.getD_put_ne _ _ _ (Ne.symm h)

theorem Device.rowOpened_mport (d : Device) (p a q : Nat) (e : MemEnv) : (d.rowOpened p a e).mport q = d.mport q := by
  unfold Device.rowOpened Device.activate
  split
  · split
    · rfl
    · dsimp only [Device.mport, Device.onMem]; split <;> rfl
  · rfl

/-- An access of a port to memory touches no other port's regulation. -/
theorem Device.memRead_mport (d : Device) (p a n : Nat) (al : Bool) (e : MemEnv) (due : Option Nat) {q : Nat} (h : q ≠ p) :
    (d.memRead p a n al e due).dev.mport q = d.mport q := by
  unfold Device.memRead
  dsimp only
  unfold Device.completed
  rw [Device.mport_onPort_ne _ _ h]
  refine Eq.trans ?_ (d.rowOpened_mport p a q e)
  unfold Device.mport; rw [Device.rawRead_ports]

theorem Device.memWrite_mport (d : Device) (p a : Nat) (b : List Byte) (bad : List Nat) (al : Bool) (e : MemEnv) (due : Option Nat)
    {q : Nat} (h : q ≠ p) : (d.memWrite p a b bad al e due).1.mport q = d.mport q := by
  unfold Device.memWrite
  dsimp only
  unfold Device.completed
  rw [Device.mport_onPort_ne _ _ h]
  refine Eq.trans ?_ (d.rowOpened_mport p a q e)
  unfold Device.mport; rw [Device.rawWrite_ports]

/-! ### Reads, whatever errors they meet -/

/-- Reads, whatever errors they meet, leave the cores, the bytes of memory and the requesters. -/
structure Device.reads (d e : Device) : Prop where
  cores : e.cores = d.cores
  dram : e.mem.dram = d.mem.dram
  locked : e.mem.locked = d.mem.locked
  reqs : e.reqs = d.reqs

theorem Device.reads_refl (d : Device) : d.reads d := ⟨rfl, rfl, rfl, rfl⟩

theorem Device.reads_trans {d e f : Device} (h : d.reads e) (h' : e.reads f) : d.reads f :=
  ⟨h'.cores.trans h.cores, h'.dram.trans h.dram, h'.locked.trans h.locked, h'.reqs.trans h.reqs⟩

theorem Device.reads_allocLine (d : Device) (p l : Nat) : Device.reads d (d.allocLine p l) := by
  unfold Device.allocLine; dsimp only; split <;> exact ⟨rfl, rfl, rfl, rfl⟩

theorem Device.reads_caFail (d : Device) (p a : Nat) (c : Bool) : Device.reads d (d.caFail p a c) := by
  unfold Device.caFail; dsimp only
  generalize (if c then SMap.getD d.mem.caOld ((d.locate a).stack * 24 + (d.locate a).channel) 0 else 0) = o
  refine Device.reads_trans (e := ((d.bump (Reg.STACK_CA_RETRIES (d.locate a).stack)).logMem St.DRAM_CA_FAILED p a).onMem fun m =>
    { m with caFails := SMap.put m.caFails ((d.locate a).stack * 24 + (d.locate a).channel) (SMap.getD d.mem.caFails ((d.locate a).stack * 24 + (d.locate a).channel) 0 + 1) 0 }) ⟨rfl, rfl, rfl, rfl⟩ ?_
  split
  · exact ⟨rfl, rfl, rfl, rfl⟩
  · exact Device.reads_refl _

theorem Device.reads_corrected (d : Device) (p a n : Nat) : Device.reads d (d.dramCorrected p a n) := by
  unfold Device.dramCorrected; dsimp only
  refine ⟨rfl, ?_, ?_, rfl⟩ <;> (dsimp only [Device.onMem]; split <;> rfl)

theorem Device.reads_uncorrectable (d : Device) (p a : Nat) : Device.reads d (d.dramUncorrectable p a) := by
  unfold Device.dramUncorrectable; split <;> exact ⟨rfl, rfl, rfl, rfl⟩

theorem Device.reads_dramRead (d : Device) (p a : Nat) (f : Option MemFault) : Device.reads d (d.dramRead p a f).1 := by
  unfold Device.dramRead
  split
  · exact Device.reads_caFail ..
  · dsimp only
    have h : ∀ g : Option MemFault, Device.reads d (if g = some .caRetried then d.bump (Reg.STACK_CA_RETRIES (d.locate a).stack) else d) := by
      intro g; split <;> exact ⟨rfl, rfl, rfl, rfl⟩
    have h := h f
    generalize (if f = some .caRetried then d.bump (Reg.STACK_CA_RETRIES (d.locate a).stack) else d) = d1 at h ⊢
    split
    · exact Device.reads_trans h ⟨rfl, rfl, rfl, rfl⟩
    · split
      · exact Device.reads_trans h (Device.reads_uncorrectable ..)
      · exact Device.reads_trans h (Device.reads_corrected ..)
      · exact h

theorem Device.reads_takeLine (r : Device × Code) (p l : Nat) (al : Bool) : Device.reads r.1 (takeLine r p l al).1 := by
  have h := Device.reads_allocLine r.1 p l
  unfold takeLine
  generalize r.1.allocLine p l = y at h ⊢
  split
  · exact h
  · exact Device.reads_refl _

theorem Device.reads_readLine (d : Device) (p a : Nat) (al : Bool) (f : Option MemFault) : Device.reads d (d.readLine p a al f).1 := by
  unfold Device.readLine
  dsimp only
  split
  · split <;> exact ⟨rfl, rfl, rfl, rfl⟩
  split
  · split
    · exact ⟨rfl, rfl, rfl, rfl⟩
    · refine Device.reads_trans ?_ (Device.reads_takeLine ..)
      exact Device.reads_trans (e := (((d.addSat 64 Reg.FC_HITS 1).touchLine (a / 64)).bump Reg.FC_ECC_REFETCHED).dropLine (a / 64)) ⟨rfl, rfl, rfl, rfl⟩ (Device.reads_dramRead ..)
    · exact ⟨rfl, rfl, rfl, rfl⟩
  · refine Device.reads_trans ?_ (Device.reads_takeLine ..)
    exact Device.reads_trans (⟨rfl, rfl, rfl, rfl⟩ : Device.reads d (d.addSat 64 Reg.FC_MISSES 1)) (Device.reads_dramRead (d.addSat 64 Reg.FC_MISSES 1) p a f)

theorem Device.reads_quiet (d e : Device) (h : d.quiet e) : Device.reads d e := by
  have := h.frame; rw [this]; exact ⟨rfl, rfl, rfl, rfl⟩

theorem Device.reads_rowOpened (d : Device) (p a : Nat) (e : MemEnv) : Device.reads d (d.rowOpened p a e) := Device.reads_quiet _ _ (Device.rowOpened_quiet ..)

theorem Device.reads_tableAccess (d : Device) (p : Nat) (l : List Nat) (e : MemEnv) : Device.reads d (d.tableAccess p l e).1 := by
  unfold Device.tableAccess
  have : ∀ (z : List (Nat × Nat)) (r : Device × Code), Device.reads d r.1 → Device.reads d (z.foldl
    (fun r p_1 =>
      let x := (r.1.portIssue p 64).readLine p (p_1.1 / 64 * 64) true (e.at p_1.2)
      (x.1.completed p p_1.1 (d.deadline p) e, if r.2 = 0 then x.2 else r.2)) r).1 := by
    intro z
    induction z with
    | nil => intro r h; exact h
    | cons q t ih =>
      intro r h
      simp only [List.foldl_cons]
      have h1 := Device.reads_readLine (r.1.portIssue p 64) p (q.1 / 64 * 64) true (e.at q.2)
      exact ih _ (Device.reads_trans (Device.reads_trans (Device.reads_trans h (Device.reads_quiet _ _ (Device.portIssue_quiet r.1 p 64))) h1) (Device.reads_quiet _ _ (Device.completed_quiet ..)))
  exact this _ _ (Device.reads_rowOpened ..)

theorem Device.reads_rawRead (d : Device) (p a n : Nat) (al : Bool) (e : MemEnv) : d.reads (d.rawRead p a n al e).dev := by
  unfold Device.rawRead
  generalize linePieces a (n / 64 + 2) n 0 = l
  have : ∀ r : ReadResult, d.reads r.dev → d.reads (l.foldl
      (fun r p_1 =>
        let c := r.dev.mapCode p_1.2.1
        let off := r.data.length
        let gs := (List.range ((off + p_1.2.2 - 1) / 32 - off / 32 + 1)).map (· + off / 32)
        if c ≠ 0 then
          ⟨r.dev.refuse c p p_1.2.1 a, r.data ++ zeros p_1.2.2, r.bad ++ gs, if r.code = 0 then c else r.code⟩
        else
          let x := r.dev.readLine p (p_1.2.1 / 64 * 64) al (e.at p_1.1)
          ⟨x.1, r.data ++ x.1.mem.bytes p_1.2.1 p_1.2.2, if x.2 = 0 then r.bad else r.bad ++ gs, if r.code = 0 then x.2 else r.code⟩) r).dev := by
    induction l with
    | nil => intro r h; exact h
    | cons q t ih =>
      intro r h
      simp only [List.foldl_cons]
      refine ih _ ?_
      split
      · refine Device.reads_trans h ?_
        show r.dev.reads (r.dev.refuse _ _ _ _)
        unfold Device.refuse; split <;> exact ⟨rfl, rfl, rfl, rfl⟩
      · exact Device.reads_trans h (Device.reads_readLine ..)
  exact this _ (Device.reads_refl d)

theorem Device.reads_portRead (d : Device) (p a n : Nat) (al : Bool) (e : MemEnv) : d.reads (d.portRead p a n al e).dev :=
  Device.reads_trans (Device.reads_quiet _ _ (Device.portIssue_quiet d p n)) (Device.reads_trans (Device.reads_rowOpened _ p a e)
    (Device.reads_trans (Device.reads_rawRead _ p a n al e) (Device.reads_quiet _ _ (Device.completed_quiet ..))))

theorem Device.reads_regionFault (d : Device) (r : Region) (c : Code) : d.reads (d.regionFault r c) := by
  have hd : ∀ x : Device, x.reads x.disarmAll := by
    intro x; unfold Device.disarmAll
    have : ∀ (l : List Nat) (y : Device), x.reads y → x.reads (y.each l fun d s => d.wr (Reg.WD_STATE s) 0) := by
      intro l; induction l with
      | nil => intro y h; exact h
      | cons s t ih => intro y h; exact ih _ (Device.reads_trans h ⟨rfl, rfl, rfl, rfl⟩)
    exact this _ _ (Device.reads_refl x)
  unfold Device.regionFault
  dsimp only
  have h := Device.reads_trans (⟨rfl, rfl, rfl, rfl⟩ : d.reads (d.onStrm fun s => { s with running := false })) (hd _)
  generalize (d.onStrm fun s => { s with running := false }).disarmAll = x at h ⊢
  have hi : ∀ (P : Prop) {_ : Decidable P} (a b : Device), d.reads a → d.reads b → d.reads (if P then a else b) :=
    fun P _ a b ha hb => by split <;> assumption
  exact hi _ _ _ (Device.reads_trans h ⟨rfl, rfl, rfl, rfl⟩) (Device.reads_trans h ⟨rfl, rfl, rfl, rfl⟩)

theorem Device.reads_worldRead (d : Device) (a n : Nat) (e : MemEnv) : d.reads (d.worldRead a n e).dev := by
  unfold Device.worldRead
  dsimp only
  split
  · exact Device.reads_portRead ..
  · exact Device.reads_trans (Device.reads_portRead ..) (Device.reads_regionFault ..)

theorem Device.reads_worldScan (d : Device) (e : MemEnv) (l : List (Nat × Nat)) : d.reads (d.worldScan e l).1 := by
  induction l generalizing d e with
  | nil => exact Device.reads_refl d
  | cons p t ih =>
    unfold Device.worldScan
    dsimp only
    split
    · exact Device.reads_trans (Device.reads_worldRead ..) (ih ..)
    · exact Device.reads_worldRead ..

/-! ### The world engine's reads -/

/-- Reads of the world engine over ranges that meet no error all answer, and change only what an access changes. -/
theorem Device.worldScan_good (d : Device) (env : MemEnv) (l : List (Nat × Nat)) (he : env.faults = []) (hl : ∀ p, p ∈ l → d.plain p.1 p.2)
    (hp : d.mem.poison = []) : (d.worldScan env l).2 = true ∧ d.quiet (d.worldScan env l).1 := by
  induction l generalizing d env with
  | nil => exact ⟨rfl, quiet_refl d⟩
  | cons p t ih =>
    obtain ⟨-, -, g3, g4⟩ := Device.portRead_good d portWorld p.1 p.2 false env he (hl p (List.mem_cons_self ..)) hp
    have hw : d.worldRead p.1 p.2 env = d.portRead portWorld p.1 p.2 false env := by
      unfold Device.worldRead; dsimp only; rw [if_pos g3]
    unfold Device.worldScan
    dsimp only
    rw [hw, if_pos g3]
    generalize (d.portRead portWorld p.1 p.2 false env).dev = e at g4
    obtain ⟨i1, i2⟩ := ih e (env.skip (p.2 / 64 + 1)) (by unfold MemEnv.skip; rw [he]; rfl)
      (fun q hq => plain_of g4 (hl q (List.mem_cons_of_mem _ hq))) (by rw [g4.frame]; exact hp)
    exact ⟨i1, quiet_trans g4 i2⟩

/-- What R316's check of the lattice finds depends on the lattice's bytes and place alone. -/
theorem Device.latticeFault_quiet {d e : Device} (h : d.quiet e) : e.latticeFault = d.latticeFault := by
  have hb : e.mem.bytes = d.mem.bytes := by rw [h.frame]; rfl
  have h1 : e.rd Reg.LATTICE_BASE = d.rd Reg.LATTICE_BASE := h.regs _ (by decide) (by decide)
  have h2 : e.rd Reg.LATTICE_BYTES = d.rd Reg.LATTICE_BYTES := h.regs _ (by decide) (by decide)
  unfold Device.latticeFault Device.binCount Device.binMrm Device.primitive Device.memNat
  rw [hb, h1, h2]

end Sys2Proof.Machine
end

