-- ==== Sys2Proof/Laws/Sound.lean ====
section
/-!
SUPPORT. The invariant Device.sound through the operations: what each can do to the canonical maps and to the log.
-/

namespace Sys2Proof.Machine

/-! ### The primitive updates -/

@[simp] theorem Device.wr_sound (d : Device) (k v : Nat) (h : d.sound) : (d.wr k v).sound :=
  ⟨⟨SMap.wf_put dictDefault d.dict k v h.1.1, h.1.2⟩, h.2⟩

@[simp] theorem Device.wrBlob_sound (d : Device) (k : Nat) (b : List Byte) (h : d.sound) : (d.wrBlob k b).sound :=
  ⟨⟨h.1.1, SMap.wf_put blobDefault d.blobs k b h.1.2.1, h.1.2.2⟩, h.2⟩

@[simp] theorem Device.setReq_sound (d : Device) (r : Requester) (q : ReqState) (h : d.sound) : (d.setReq r q).sound :=
  ⟨⟨h.1.1, h.1.2.1, SMap.wf_put (fun _ => {}) d.reqs r.num q h.1.2.2.1, h.1.2.2.2⟩, h.2⟩

@[simp] theorem Device.setRing_sound (d : Device) (r : RingId) (x : Ring) (h : d.sound) : (d.setRing r x).sound :=
  ⟨⟨h.1.1, h.1.2.1, h.1.2.2.1, SMap.wf_put (fun _ => {}) d.rings r.num x h.1.2.2.2.1, h.1.2.2.2.2⟩, h.2⟩

@[simp] theorem Device.hostWrite_sound (d : Device) (a : Nat) (l : List Byte) (h : d.sound) : (d.hostWrite a l).sound :=
  ⟨⟨h.1.1, h.1.2.1, h.1.2.2.1, h.1.2.2.2.1, SMap.wf_putList 0 l d.host a h.1.2.2.2.2⟩, h.2⟩

@[simp] theorem Device.setCore_sound (d : Device) (c : Nat) (k : Core) (h : d.sound) : (d.setCore c k).sound :=
  ⟨h.1, ⟨SMap.wf_put (fun _ => {}) d.cores c k h.2.1.1, h.2.1.2⟩, h.2.2⟩

@[simp] theorem Device.onCore_sound (d : Device) (c : Nat) (f : Core → Core) (h : d.sound) : (d.onCore c f).sound :=
  Device.setCore_sound d c _ h

@[simp] theorem Device.onSlot_sound (d : Device) (n : Nat) (f : Slot → Slot) (h : d.sound) : (d.onSlot n f).sound :=
  ⟨h.1, ⟨h.2.1.1, SMap.wf_put (fun _ => {}) d.slots n _ h.2.1.2.1, h.2.1.2.2⟩, h.2.2⟩

@[simp] theorem Device.tally_sound (d : Device) (c : Code) (i n : Nat) (h : d.sound) : (d.tally c i n).sound :=
  ⟨h.1, ⟨h.2.1.1, h.2.1.2.1, SMap.wf_put (fun _ => 0) d.tallies _ _ h.2.1.2.2⟩, h.2.2⟩

@[simp] theorem Device.logEv_sound (d : Device) (c : Code) (i d0 d1 d2 : Nat) (h : d.sound) : (d.logEv c i d0 d1 d2).sound := h
@[simp] theorem Device.stage_sound (d : Device) (k v : Nat) (h : d.sound) : (d.stage k v).sound := h
@[simp] theorem Device.unstage_sound (d : Device) (k : Nat) (h : d.sound) : (d.unstage k).sound := h
@[simp] theorem Device.stagedCycle_sound (d : Device) (h : d.sound) : d.stagedCycle.sound := h
@[simp] theorem Device.drawn_sound (d : Device) (h : d.sound) : d.drawn.sound := h
@[simp] theorem Device.drew_sound (d : Device) (n : Nat) (h : d.sound) : (d.drew n).sound := h
@[simp] theorem Device.onBoot_sound (d : Device) (f : Boot → Boot) (h : d.sound) : (d.onBoot f).sound := h
@[simp] theorem Device.onLoader_sound (d : Device) (f : Loader → Loader) (h : d.sound) : (d.onLoader f).sound := h
@[simp] theorem Device.onStrm_sound (d : Device) (f : Stream → Stream) (h : d.sound) : (d.onStrm f).sound := h
@[simp] theorem Device.onPlanning_sound (d : Device) (f : Planning → Planning) (h : d.sound) : (d.onPlanning f).sound := h
@[simp] theorem Device.onSafety_sound (d : Device) (f : Safety → Safety) (h : d.sound) : (d.onSafety f).sound := h
@[simp] theorem Device.onPower_sound (d : Device) (f : Power → Power) (h : d.sound) : (d.onPower f).sound := h
@[simp] theorem Device.onJob_sound (d : Device) (f : Job → Job) (h : d.sound) : (d.onJob f).sound := h
@[simp] theorem Device.onGuest_sound (d : Device) (f : Guest → Guest) (h : d.sound) : (d.onGuest f).sound := h
@[simp] theorem Device.onLinks_sound (d : Device) (f : Links → Links) (h : d.sound) : (d.onLinks f).sound := h
@[simp] theorem Device.onFusion_sound (d : Device) (f : Fusion → Fusion) (h : d.sound) : (d.onFusion f).sound := h
@[simp] theorem Device.onWorld_sound (d : Device) (f : World → World) (h : d.sound) : (d.onWorld f).sound := h
@[simp] theorem Device.tellA_sound (d : Device) (e : LookoutEvent) (h : d.sound) : (d.tellA e).sound := h

/-! ### Parts of a sound block -/

theorem Device.sound_mk (a b c d e f g h i j k l m n o p q r s t u v w x y z) :
    Device.sound ⟨a, b, c, d, e, f, g, h, i, j, k, l, m, n, o, p, q, r, s, t, u, v, w, x, y, z⟩ =
      ((SMap.wf dictDefault a = true ∧ SMap.wf blobDefault b = true ∧ SMap.wf (fun _ => ({} : ReqState)) e = true ∧
        SMap.wf (fun _ => ({} : Ring)) g = true ∧ SMap.wf (fun _ => (0 : Byte)) h = true) ∧
      (SMap.wf (fun _ => ({} : Core)) l = true ∧ SMap.wf (fun _ => ({} : Slot)) r = true ∧ SMap.wf (fun _ => 0) x = true) ∧
      m.wf = true ∧ f.ordered = true) := rfl

@[simp] theorem Device.sound_dict {d : Device} (h : d.sound) : SMap.wf dictDefault d.dict = true := h.1.1
@[simp] theorem Device.sound_blobs {d : Device} (h : d.sound) : SMap.wf blobDefault d.blobs = true := h.1.2.1
@[simp] theorem Device.sound_reqs {d : Device} (h : d.sound) : SMap.wf (fun _ => ({} : ReqState)) d.reqs = true := h.1.2.2.1
@[simp] theorem Device.sound_rings {d : Device} (h : d.sound) : SMap.wf (fun _ => ({} : Ring)) d.rings = true := h.1.2.2.2.1
@[simp] theorem Device.sound_host {d : Device} (h : d.sound) : SMap.wf (fun _ => 0#8) d.host = true := h.1.2.2.2.2
@[simp] theorem Device.sound_cores {d : Device} (h : d.sound) : SMap.wf (fun _ => ({} : Core)) d.cores = true := h.2.1.1
@[simp] theorem Device.sound_slots {d : Device} (h : d.sound) : SMap.wf (fun _ => ({} : Slot)) d.slots = true := h.2.1.2.1
@[simp] theorem Device.sound_tallies {d : Device} (h : d.sound) : SMap.wf (fun _ => 0) d.tallies = true := h.2.1.2.2
@[simp] theorem Device.sound_log {d : Device} (h : d.sound) : d.log.ordered = true := h.2.2.2

@[simp] theorem Device.sound_setStaged (d : Device) (m : SMap Nat) (l : List Nat) (h : d.sound) :
    ({ d with staged := m, stagedNew := l } : Device).sound := h
@[simp] theorem Device.sound_setNew (d : Device) (l : List Nat) (h : d.sound) : ({ d with stagedNew := l } : Device).sound := h
@[simp] theorem Device.sound_setHamper (d : Device) (x : Hamper) (h : d.sound) : ({ d with hamper := x } : Device).sound := h
@[simp] theorem Device.sound_setMsix (d : Device) (n : Nat) (h : d.sound) : ({ d with msix := n } : Device).sound := h
@[simp] theorem Device.sound_setDraws (d : Device) (n : Nat) (h : d.sound) : ({ d with draws := n } : Device).sound := h
@[simp] theorem Device.sound_setPower (d : Device) (x : Power) (h : d.sound) : ({ d with power := x } : Device).sound := h
@[simp] theorem Device.sound_setFusion (d : Device) (x : Fusion) (h : d.sound) : ({ d with fusion := x } : Device).sound := h
@[simp] theorem Device.sound_setTallies (d : Device) (h : d.sound) : ({ d with tallies := [] } : Device).sound :=
  ⟨h.1, ⟨h.2.1.1, h.2.1.2.1, rfl⟩, h.2.2⟩
@[simp] theorem Device.sound_setInbox (d : Device) (i : List LogRecord) (h : d.sound) :
    ({ d with log := { d.log with inbox := i } } : Device).sound := h

/-- What is on its way to the Warden is no part of the log's order. -/
@[simp] theorem Log.ordered_inbox (i : List LogRecord) (l : Log) : Log.ordered ⟨i, l.stored, l.nextSeq⟩ = l.ordered := rfl
@[simp] theorem Log.ordered_nil (i : List LogRecord) : Log.ordered ⟨i, [], 0⟩ = true := rfl

@[simp] theorem restoreDict_wf (snap m : SMap Nat) (h : SMap.wf dictDefault m = true) :
    SMap.wf dictDefault (restoreDict snap m) = true := by
  unfold restoreDict
  induction snap generalizing m with
  | nil => exact h
  | cons p t ih => exact ih _ (SMap.wf_put dictDefault m p.1 p.2 h)

@[simp] theorem restoreBlobs_wf (snap m : SMap (List Byte)) (h : SMap.wf blobDefault m = true) :
    SMap.wf blobDefault (restoreBlobs snap m) = true := by
  unfold restoreBlobs
  induction snap generalizing m with
  | nil => exact h
  | cons p t ih => exact ih _ (SMap.wf_put blobDefault m p.1 p.2 h)

theorem SMap.rises_map {α : Type} (f : α → α) (m : SMap α) (lo : Nat) (h : SMap.risesFrom m lo = true) :
    SMap.risesFrom (m.map (fun p => (p.1, f p.2))) lo = true := by
  induction m generalizing lo with
  | nil => rfl
  | cons p t ih =>
    simp only [SMap.risesFrom, Bool.and_eq_true, decide_eq_true_eq, List.map_cons] at h ⊢
    exact ⟨h.1, ih _ h.2⟩

theorem SMap.risesFrom_filter {α : Type} (m : SMap α) (p : Nat × α → Bool) (lo : Nat) (h : SMap.risesFrom m lo = true) :
    SMap.risesFrom (m.filter p) lo = true := by
  induction m generalizing lo with
  | nil => rfl
  | cons q t ih =>
    simp only [SMap.risesFrom, Bool.and_eq_true, decide_eq_true_eq] at h
    by_cases hp : p q = true
    · simp [hp, SMap.risesFrom, h.1, ih _ h.2]
    · simp [hp, ih lo (SMap.risesFrom_le t (by omega) h.2)]

/-- Changing every value and dropping those that read as unlisted keeps the canonical form. -/
@[simp] theorem SMap.wf_map_filter {α : Type} [DecidableEq α] (f : α → α) (d : α) (m : SMap α)
    (h : SMap.wf (fun _ => d) m = true) : SMap.wf (fun _ => d) ((m.map (fun p => (p.1, f p.2))).filter (fun p => p.2 != d)) = true := by
  simp only [SMap.wf, Bool.and_eq_true, List.all_eq_true, decide_eq_true_eq] at h ⊢
  refine ⟨?_, fun q hq => by simpa using (List.mem_filter.1 hq).2⟩
  cases m with
  | nil => rfl
  | cons q t =>
    simp only [SMap.rises, List.map_cons] at h ⊢
    have h1 := SMap.risesFrom_filter _ (fun p => p.2 != d) _ (SMap.rises_map f t _ h.1)
    by_cases hp : (f q.2 != d) = true
    · simp [hp, SMap.rises, h1]
    · simp only [List.filter_cons, hp]; exact SMap.rises_of_risesFrom _ h1

/-! ### Memory -/

@[simp] theorem Device.sound_mem {d : Device} (h : d.sound) : d.mem.wf = true := h.2.2.1

@[simp] theorem Device.onMem_sound (d : Device) (f : Memory → Memory) (h : d.sound) (hf : (f d.mem).wf = true) :
    (d.onMem f).sound := ⟨h.1, h.2.1, hf, h.2.2.2⟩

@[simp] theorem Memory.store_wf (m : Memory) (a : Nat) (l : List Byte) (h : m.wf = true) : (m.store a l).wf = true := by
  simp only [Memory.wf, Bool.and_eq_true] at h
  obtain ⟨⟨h1, h2⟩, h3⟩ := h
  by_cases ha : a < lockedBase
  · simp only [Memory.store, ha, if_true, Memory.wf, Bool.and_eq_true]
    exact ⟨⟨SMap.wf_putList 0 l m.dram a h1, h2⟩, h3⟩
  · simp only [Memory.store, ha, if_false, Memory.wf, Bool.and_eq_true]
    exact ⟨⟨h1, SMap.wf_putList 0 l m.locked a h2⟩, h3⟩

@[simp] theorem Memory.setPoison_wf (m : Memory) (line : Nat) (b : Bool) (h : m.wf = true) : (m.setPoison line b).wf = true := by
  simp only [Memory.wf, Bool.and_eq_true, Memory.setPoison] at h ⊢
  exact ⟨h.1, SMap.wf_put (fun _ => false) m.poison line b h.2⟩

@[simp] theorem Device.sound_dram {d : Device} (h : d.sound) : SMap.wf (fun _ => 0#8) d.mem.dram = true := by
  have := h.2.2.1; simp only [Memory.wf, Bool.and_eq_true] at this; exact this.1.1

@[simp] theorem Device.sound_locked {d : Device} (h : d.sound) : SMap.wf (fun _ => 0#8) d.mem.locked = true := by
  have := h.2.2.1; simp only [Memory.wf, Bool.and_eq_true] at this; exact this.1.2

@[simp] theorem Device.sound_poison {d : Device} (h : d.sound) : SMap.wf (fun _ => false) d.mem.poison = true := by
  have := h.2.2.1; simp only [Memory.wf, Bool.and_eq_true] at this; exact this.2

@[simp] theorem Memory.wf_mk (a b : SMap Byte) (p : SMap Bool) c1 c2 c3 c4 c5 c6 c7 c8 c9 c10 c11 c12 c13 c14 c15 c16 c17 c18 c19 :
    Memory.wf ⟨a, b, p, c1, c2, c3, c4, c5, c6, c7, c8, c9, c10, c11, c12, c13, c14, c15, c16, c17, c18, c19⟩ =
      (SMap.wf (fun _ => 0) a && SMap.wf (fun _ => 0) b && SMap.wf (fun _ => false) p) := rfl

@[simp] theorem SMap.wf_keep' {α : Type} [DecidableEq α] (f : Nat → α) (m : SMap α) (p : Nat → Bool) (h : SMap.wf f m = true) :
    SMap.wf f (SMap.keep m p) = true := SMap.wf_keep f m p h

@[simp] theorem SMap.wf_nil {α : Type} [DecidableEq α] (f : Nat → α) : SMap.wf f [] = true := rfl

@[simp] theorem ite_wf (c : Prop) [Decidable c] (a b : Memory) (ha : a.wf = true) (hb : b.wf = true) :
    (if c then a else b).wf = true := by by_cases h : c <;> simp [h, ha, hb]

/-! ### The log (R74) -/

theorem seqsTo_append (l : List LogRecord) (n : Nat) (r : LogRecord) (h : seqsTo l n = true) (hr : r.seq = n) :
    seqsTo (l ++ [r]) ((n + 1) % 65536) = true := by
  induction l with
  | nil => simp [seqsTo, hr]
  | cons a t ih =>
    cases t with
    | nil => simp only [seqsTo, beq_iff_eq] at h; simp [seqsTo, hr, h]
    | cons b t =>
      simp only [seqsTo, Bool.and_eq_true] at h
      simp only [List.cons_append, seqsTo, Bool.and_eq_true]
      exact ⟨h.1, ih h.2⟩

theorem seqsTo_tail (l : List LogRecord) (n : Nat) (h : seqsTo l n = true) : seqsTo (l.drop 1) n = true := by
  match l with
  | [] => rfl
  | [_] => rfl
  | _ :: b :: t => simp only [seqsTo, Bool.and_eq_true] at h; exact h.2

theorem seqsTo_congr (l m : List LogRecord) (n : Nat) (h : l.map (·.seq) = m.map (·.seq)) : seqsTo l n = seqsTo m n := by
  induction l generalizing m with
  | nil => cases m with
    | nil => rfl
    | cons _ _ => simp at h
  | cons a t ih =>
    cases m with
    | nil => simp at h
    | cons b u =>
      simp only [List.map_cons, List.cons.injEq] at h
      have e := ih u h.2
      cases t with
      | nil => cases u with
        | nil => simp [seqsTo, h.1]
        | cons _ _ => simp at h
      | cons a' t' => cases u with
        | nil => simp at h
        | cons b' u' =>
          simp only [List.map_cons, List.cons.injEq] at h
          simp only [seqsTo, h.1, h.2.1]; rw [e]

theorem Log.ordered_iff (l : Log) : l.ordered = true ↔ l.stored.length ≤ 4096 ∧ l.nextSeq < 65536 ∧
    seqsTo l.stored l.nextSeq = true ∧ ∀ r ∈ l.stored, r.reps ≤ 65535 := by
  simp [Log.ordered, and_assoc]

theorem Device.setLog_sound (d : Device) (l : Log) (h : d.sound) (hl : l.ordered = true) : ({ d with log := l } : Device).sound :=
  ⟨h.1, h.2.1, h.2.2.1, hl⟩

/-! ### Loops and choices -/

@[simp] theorem fst_ite_sound {α : Type} (c : Prop) [Decidable c] (a b : Device × α) (ha : a.1.sound) (hb : b.1.sound) :
    (if c then a else b).1.sound := by by_cases h : c <;> simp [h, ha, hb]

@[simp] theorem snd_ite_sound {α : Type} (c : Prop) [Decidable c] (a b : α × Device) (ha : a.2.sound) (hb : b.2.sound) :
    (if c then a else b).2.sound := by by_cases h : c <;> simp [h, ha, hb]

theorem foldl_keeps {α β : Type} (P : β → Prop) (l : List α) (f : β → α → β) (b : β) (h : P b) (hf : ∀ b x, P b → P (f b x)) :
    P (l.foldl f b) := by
  induction l generalizing b with
  | nil => exact h
  | cons x t ih => exact ih _ (hf b x h)

@[simp] theorem foldl_fst_sound {α β : Type} (l : List α) (f : Device × β → α → Device × β) (b : Device × β) (h : b.1.sound)
    (hf : ∀ b x, b.1.sound → (f b x).1.sound) : (l.foldl f b).1.sound := foldl_keeps (fun b => b.1.sound) l f b h hf

@[simp] theorem foldl_dev_sound {α : Type} (l : List α) (f : ReadResult → α → ReadResult) (b : ReadResult) (h : b.dev.sound)
    (hf : ∀ b x, b.dev.sound → (f b x).dev.sound) : (l.foldl f b).dev.sound := foldl_keeps (fun b => b.dev.sound) l f b h hf

@[simp] theorem dev_ite_sound (c : Prop) [Decidable c] (a b : ReadResult) (ha : a.dev.sound) (hb : b.dev.sound) :
    (if c then a else b).dev.sound := by by_cases h : c <;> simp [h, ha, hb]


@[simp] theorem Device.each_sound {α : Type} (d : Device) (l : List α) (f : Device → α → Device) (h : d.sound)
    (hf : ∀ (d : Device) x, d.sound → (f d x).sound) : (d.each l f).sound := by
  induction l generalizing d with
  | nil => exact h
  | cons x t ih => exact ih _ (hf d x h)

@[simp] theorem foldl_sound {α : Type} (l : List α) (f : Device → α → Device) (d : Device) (h : d.sound)
    (hf : ∀ (d : Device) x, d.sound → (f d x).sound) : (l.foldl f d).sound := Device.each_sound d l f h hf

@[simp] theorem Device.wrAll_sound (d : Device) (l : List (Nat × Nat)) (h : d.sound) : (d.wrAll l).sound :=
  foldl_sound l _ d h fun d p hd => Device.wr_sound d p.1 p.2 hd

@[simp] theorem ite_sound (c : Prop) [Decidable c] (a b : Device) (ha : a.sound) (hb : b.sound) : (if c then a else b).sound := by
  by_cases h : c <;> simp [h, ha, hb]

@[simp] theorem Device.ifActive_sound (d : Device) (c : Nat) (f : Device → Device) (h : d.sound)
    (hf : ∀ d : Device, d.sound → (f d).sound) : (d.ifActive c f).sound := ite_sound _ _ _ (hf d h) h


@[simp] theorem Device.addSat_sound (d : Device) (w k n : Nat) (hd : d.sound) : (Device.addSat d w k n).sound := by
  unfold Device.addSat
  simp (maxDischargeDepth := 60) +contextual [*]

@[simp] theorem Device.bump_sound (d : Device) (k : Nat) (hd : d.sound) : (Device.bump d k).sound := by
  unfold Device.bump
  simp (maxDischargeDepth := 60) +contextual [*]

@[simp] theorem Device.bumpWrap_sound (d : Device) (k : Nat) (hd : d.sound) : (Device.bumpWrap d k).sound := by
  unfold Device.bumpWrap
  simp (maxDischargeDepth := 60) +contextual [*]

@[simp] theorem Device.setFn_sound (d : Device) (f : FnId) (st : FnState) (hd : d.sound) : (Device.setFn d f st).sound := by
  unfold Device.setFn
  simp (maxDischargeDepth := 60) +contextual [*]

@[simp] theorem Device.setEnable_sound (d : Device) (f : FnId) (v : Nat) (hd : d.sound) : (Device.setEnable d f v).sound := by
  unfold Device.setEnable
  try dsimp only
  repeat' first
    | (simp (maxDischargeDepth := 60) +contextual [*]; done)
    | split

@[simp] theorem Device.fnOff_sound (d : Device) (f : FnId) (hd : d.sound) : (Device.fnOff d f).sound := by
  unfold Device.fnOff
  simp (maxDischargeDepth := 60) +contextual [*]

@[simp] theorem Device.setPersonality_sound (d : Device) (p : Personality) (hd : d.sound) : (Device.setPersonality d p).sound := by
  unfold Device.setPersonality
  simp (maxDischargeDepth := 60) +contextual [*]

@[simp] theorem Device.setTransition_sound (d : Device) (t : Transition) (hd : d.sound) : (Device.setTransition d t).sound := by
  unfold Device.setTransition
  simp (maxDischargeDepth := 60) +contextual [*]

@[simp] theorem Device.countEv_sound (d : Device) (c : Code) (inst k : Nat) (hd : d.sound) : (Device.countEv d c inst k).sound := by
  unfold Device.countEv
  simp (maxDischargeDepth := 60) +contextual [*]

@[simp] theorem Device.thCode_sound (d : Device) (c : Code) (d0 : Nat) (d1 : Nat) (hd : d.sound) : (Device.thCode d c d0 d1).sound := by
  unfold Device.thCode
  simp (maxDischargeDepth := 60) +contextual [*]

@[simp] theorem Device.looked_sound (d : Device) (c : Nat) (hd : d.sound) : (Device.looked d c).sound := by
  unfold Device.looked
  try dsimp only
  repeat' first
    | (simp (maxDischargeDepth := 60) +contextual [*]; done)
    | split

@[simp] theorem Device.tellFunctions_sound (d : Device) (hd : d.sound) : (Device.tellFunctions d).sound := by
  unfold Device.tellFunctions
  simp (maxDischargeDepth := 60) +contextual [*]

@[simp] theorem Device.demandChip_sound (d : Device) (c : Code) (hd : d.sound) : (Device.demandChip d c).sound := by
  unfold Device.demandChip
  simp (maxDischargeDepth := 60) +contextual [*]

@[simp] theorem Device.disarmAll_sound (d : Device) (hd : d.sound) : (Device.disarmAll d).sound := by
  unfold Device.disarmAll
  simp (maxDischargeDepth := 60) +contextual [*]

@[simp] theorem Device.regionFault_sound (d : Device) (r : Region) (c : Code) (hd : d.sound) : (Device.regionFault d r c).sound := by
  unfold Device.regionFault
  simp (maxDischargeDepth := 60) +contextual [*]

@[simp] theorem Device.coreFault_sound (d : Device) (c : Nat) (code : Code) (detail : Nat) (hd : d.sound) : (Device.coreFault d c code detail).sound := by
  unfold Device.coreFault
  simp (maxDischargeDepth := 60) +contextual [*]

@[simp] theorem Device.recent_sound (d : Device) (e : RecentEffect) (hd : d.sound) : (Device.recent d e).sound := by
  unfold Device.recent
  simp (maxDischargeDepth := 60) +contextual [*]

@[simp] theorem Device.raiseSem_sound (d : Device) (c sem engine chan : Nat) (hd : d.sound) : (Device.raiseSem d c sem engine chan).sound := by
  unfold Device.raiseSem
  simp (maxDischargeDepth := 60) +contextual [*]

@[simp] theorem Device.syncAdd_sound (d : Device) (c sem n : Nat) (hd : d.sound) : (Device.syncAdd d c sem n).sound := by
  unfold Device.syncAdd
  simp (maxDischargeDepth := 60) +contextual [*]

@[simp] theorem Device.syncSub_sound (d : Device) (c sem n : Nat) (hd : d.sound) : (Device.syncSub d c sem n).sound := by
  unfold Device.syncSub
  simp (maxDischargeDepth := 60) +contextual [*]

@[simp] theorem Device.barArrive_sound (d : Device) (c b : Nat) (hd : d.sound) : (Device.barArrive d c b).sound := by
  unfold Device.barArrive
  simp (maxDischargeDepth := 60) +contextual [*]

@[simp] theorem Device.barLeave_sound (d : Device) (c b : Nat) (hd : d.sound) : (Device.barLeave d c b).sound := by
  unfold Device.barLeave
  simp (maxDischargeDepth := 60) +contextual [*]

@[simp] theorem Device.lmEcc_sound (d : Device) (c : Nat) (l : List (Nat × Bool)) (hd : d.sound) : (Device.lmEcc d c l).sound := by
  unfold Device.lmEcc
  simp (maxDischargeDepth := 60) +contextual [*]

@[simp] theorem Device.settleHamper_sound (d : Device) (hd : d.sound) : (Device.settleHamper d).sound := by
  unfold Device.settleHamper
  simp (maxDischargeDepth := 60) +contextual [*]

@[simp] theorem Device.onTest_sound (d : Device) (c : Nat) (f : CoreTest → CoreTest) (hd : d.sound) : (Device.onTest d c f).sound := by
  unfold Device.onTest
  simp (maxDischargeDepth := 60) +contextual [*]

@[simp] theorem Device.deferSlice_sound (d : Device) (c : Nat) (hd : d.sound) : (Device.deferSlice d c).sound := by
  unfold Device.deferSlice
  simp (maxDischargeDepth := 60) +contextual [*]

@[simp] theorem Device.ptEvent_sound (d : Device) (code : Code) (d0 : Nat) (hd : d.sound) : (Device.ptEvent d code d0).sound := by
  unfold Device.ptEvent
  simp (maxDischargeDepth := 60) +contextual [*]

@[simp] theorem Device.divTake_sound (d : Device) (r div : Nat) (hd : d.sound) : (Device.divTake d r div).sound := by
  unfold Device.divTake
  simp (maxDischargeDepth := 60) +contextual [*]

@[simp] theorem Device.setVout_sound (d : Device) (r mv : Nat) (hd : d.sound) : (Device.setVout d r mv).sound := by
  unfold Device.setVout
  simp (maxDischargeDepth := 60) +contextual [*]

@[simp] theorem Device.divUpdate_sound (d : Device) (r : Nat) (hardware : Bool) (hd : d.sound) : (Device.divUpdate d r hardware).sound := by
  unfold Device.divUpdate
  simp (maxDischargeDepth := 60) +contextual [*]

@[simp] theorem Device.vrSettled_sound (d : Device) (r readMv : Nat) (hd : d.sound) : (Device.vrSettled d r readMv).sound := by
  unfold Device.vrSettled
  try dsimp only
  repeat' first
    | (simp (maxDischargeDepth := 60) +contextual [*]; done)
    | split

@[simp] theorem Device.divChange_sound (d : Device) (r : Nat) (hd : d.sound) : (Device.divChange d r).sound := by
  unfold Device.divChange
  try dsimp only
  repeat' first
    | (simp (maxDischargeDepth := 60) +contextual [*]; done)
    | split

@[simp] theorem Device.logMem_sound (d : Device) (c : Code) (port a : Nat) (specific : Nat) (hd : d.sound) : (Device.logMem d c port a specific).sound := by
  unfold Device.logMem
  simp (maxDischargeDepth := 60) +contextual [*]

@[simp] theorem Device.onPort_sound (d : Device) (p : Nat) (f : MemPort → MemPort) (hd : d.sound) : (Device.onPort d p f).sound := by
  unfold Device.onPort
  simp (maxDischargeDepth := 60) +contextual [*]

@[simp] theorem Device.dropLine_sound (d : Device) (line : Nat) (hd : d.sound) : (Device.dropLine d line).sound := by
  unfold Device.dropLine
  simp (maxDischargeDepth := 60) +contextual [*]

@[simp] theorem Device.touchLine_sound (d : Device) (line : Nat) (hd : d.sound) : (Device.touchLine d line).sound := by
  unfold Device.touchLine
  simp (maxDischargeDepth := 60) +contextual [*]

@[simp] theorem Device.allocLine_sound (d : Device) (port line : Nat) (hd : d.sound) : (Device.allocLine d port line).sound := by
  unfold Device.allocLine
  try dsimp only
  repeat' first
    | (simp (maxDischargeDepth := 60) +contextual [*]; done)
    | split

@[simp] theorem Device.channelFail_sound (d : Device) (stack channel : Nat) (hd : d.sound) : (Device.channelFail d stack channel).sound := by
  unfold Device.channelFail
  simp (maxDischargeDepth := 60) +contextual [*]

@[simp] theorem Device.caFail_sound (d : Device) (port a : Nat) (close : Bool) (hd : d.sound) : (Device.caFail d port a close).sound := by
  unfold Device.caFail
  simp (maxDischargeDepth := 60) +contextual [*]

@[simp] theorem Device.dramCorrected_sound (d : Device) (port a symbol : Nat) (hd : d.sound) : (Device.dramCorrected d port a symbol).sound := by
  unfold Device.dramCorrected
  refine Device.onMem_sound _ _ (Device.bump_sound _ _ hd) ?_
  split <;> exact hd.2.2.1

@[simp] theorem Device.dramUncorrectable_sound (d : Device) (port a : Nat) (hd : d.sound) : (Device.dramUncorrectable d port a).sound := by
  unfold Device.dramUncorrectable
  simp (maxDischargeDepth := 60) +contextual [*]

@[simp] theorem Device.dramRead_sound (d : Device) (port a : Nat) (f : Option MemFault) (hd : d.sound) : (Device.dramRead d port a f).1.sound := by
  unfold Device.dramRead
  try dsimp only
  repeat' first
    | (simp (maxDischargeDepth := 60) +contextual [*]; done)
    | split

@[simp] theorem takeLine_sound (r : Device × Code) (port line : Nat) (alloc : Bool) (hr : r.1.sound) : (takeLine r port line alloc).1.sound := by
  unfold takeLine
  try dsimp only
  repeat' first
    | (simp (maxDischargeDepth := 60) +contextual [*]; done)
    | split

@[simp] theorem Device.readLine_sound (d : Device) (port a : Nat) (alloc : Bool) (f : Option MemFault) (hd : d.sound) : (Device.readLine d port a alloc f).1.sound := by
  unfold Device.readLine
  try dsimp only
  repeat' first
    | (simp (maxDischargeDepth := 60) +contextual [*]; done)
    | split

@[simp] theorem Device.writeLine_sound (d : Device) (port a : Nat) (bytes : List Byte) (poison alloc : Bool) (f : Option MemFault) (hd : d.sound) : (Device.writeLine d port a bytes poison alloc f).1.sound := by
  unfold Device.writeLine
  extract_lets line full isDram parity d0 d1 d2 d3
  generalize parity = p
  cases p with
  | some close => exact Device.caFail_sound _ _ _ _ hd
  | none =>
  have h0 : d0.sound := ite_sound _ _ _ (Device.bump_sound _ _ hd) hd
  have h1 : d1.sound := by
    unfold d1
    split
    · exact ite_sound _ _ _ (Device.dramCorrected_sound _ _ _ _ h0) h0
    · exact h0
  have h2 : d2.sound := ite_sound _ _ _
    (ite_sound _ _ _ (Device.touchLine_sound _ _ (Device.addSat_sound _ _ _ _ h1)) (Device.addSat_sound _ _ _ _ h1)) h1
  have h3 : d3.sound := Device.onMem_sound _ _ h2 (Memory.setPoison_wf _ _ _ (Memory.store_wf _ _ _ (Device.sound_mem h2)))
  clear_value d3
  dsimp only
  split
  · exact Device.dramUncorrectable_sound _ _ _ h2
  · split
    · exact Device.dropLine_sound _ _ h3
    · split
      · simp [h3]
      · exact h3

@[simp] theorem Device.refuse_sound (d : Device) (c : Code) (port a start : Nat) (hd : d.sound) : (Device.refuse d c port a start).sound := by
  unfold Device.refuse
  simp (maxDischargeDepth := 60) +contextual [*]

@[simp] theorem Device.rawRead_sound (d : Device) (port a n : Nat) (alloc : Bool) (e : MemEnv) (hd : d.sound) : (Device.rawRead d port a n alloc e).dev.sound := by
  unfold Device.rawRead
  try dsimp only
  repeat' first
    | (simp (maxDischargeDepth := 60) +contextual [*]; done)
    | split

@[simp] theorem Device.rawWrite_sound (d : Device) (port a : Nat) (bytes : List Byte) (bad : List Nat) (alloc : Bool) (e : MemEnv) (hd : d.sound) : (Device.rawWrite d port a bytes bad alloc e).1.sound := by
  unfold Device.rawWrite
  try dsimp only
  repeat' first
    | (simp (maxDischargeDepth := 60) +contextual [*]; done)
    | split

@[simp] theorem Device.setMemNat_sound (d : Device) (a n v : Nat) (hd : d.sound) : (Device.setMemNat d a n v).sound := by
  unfold Device.setMemNat
  simp (maxDischargeDepth := 60) +contextual [*]

@[simp] theorem Device.panicLevel_sound (d : Device) (p level : Nat) (hd : d.sound) : (Device.panicLevel d p level).sound := by
  unfold Device.panicLevel
  simp (maxDischargeDepth := 60) +contextual [*]

@[simp] theorem Device.budgetStop_sound (d : Device) (p : Nat) (hd : d.sound) : (Device.budgetStop d p).sound := by
  unfold Device.budgetStop
  simp (maxDischargeDepth := 60) +contextual [*]

@[simp] theorem Device.issued_sound (d : Device) (p n : Nat) (hd : d.sound) : (Device.issued d p n).sound := by
  unfold Device.issued
  simp (maxDischargeDepth := 60) +contextual [*]

@[simp] theorem Device.completed_sound (d : Device) (p a deadline : Nat) (e : MemEnv) (hd : d.sound) : (Device.completed d p a deadline e).sound := by
  unfold Device.completed
  simp (maxDischargeDepth := 60) +contextual [*]

@[simp] theorem Device.newWindow_sound (d : Device) (p : Nat) (hd : d.sound) : (Device.newWindow d p).sound := by
  unfold Device.newWindow
  simp (maxDischargeDepth := 60) +contextual [*]

@[simp] theorem Device.portIssue_sound (d : Device) (p n : Nat) (hd : d.sound) : (Device.portIssue d p n).sound := by
  unfold Device.portIssue
  try dsimp only
  repeat' first
    | (simp (maxDischargeDepth := 60) +contextual [*]; done)
    | split

@[simp] theorem Device.activate_sound (d : Device) (port a : Nat) (hd : d.sound) : (Device.activate d port a).sound := by
  unfold Device.activate
  simp (maxDischargeDepth := 60) +contextual [*]

@[simp] theorem Device.rowOpened_sound (d : Device) (port a : Nat) (e : MemEnv) (hd : d.sound) : (Device.rowOpened d port a e).sound := by
  unfold Device.rowOpened
  try dsimp only
  repeat' first
    | (simp (maxDischargeDepth := 60) +contextual [*]; done)
    | split

@[simp] theorem Device.memRead_sound (d : Device) (port a n : Nat) (alloc : Bool) (e : MemEnv) (due : Option Nat) (hd : d.sound) : (Device.memRead d port a n alloc e due).dev.sound := by
  unfold Device.memRead
  simp (maxDischargeDepth := 60) +contextual [*]

@[simp] theorem Device.memWrite_sound (d : Device) (port a : Nat) (bytes : List Byte) (bad : List Nat) (alloc : Bool) (e : MemEnv) (due : Option Nat) (hd : d.sound) : (Device.memWrite d port a bytes bad alloc e due).1.sound := by
  unfold Device.memWrite
  simp (maxDischargeDepth := 60) +contextual [*]

@[simp] theorem Device.portRead_sound (d : Device) (port a n : Nat) (alloc : Bool) (e : MemEnv) (hd : d.sound) : (Device.portRead d port a n alloc e).dev.sound := by
  unfold Device.portRead
  try dsimp only
  repeat' first
    | (simp (maxDischargeDepth := 60) +contextual [*]; done)
    | split

@[simp] theorem Device.portWrite_sound (d : Device) (port a : Nat) (bytes : List Byte) (bad : List Nat) (alloc : Bool) (e : MemEnv) (hd : d.sound) : (Device.portWrite d port a bytes bad alloc e).1.sound := by
  unfold Device.portWrite
  try dsimp only
  repeat' first
    | (simp (maxDischargeDepth := 60) +contextual [*]; done)
    | split

@[simp] theorem Device.tableAccess_sound (d : Device) (port : Nat) (addrs : List Nat) (e : MemEnv) (hd : d.sound) : (Device.tableAccess d port addrs e).1.sound := by
  unfold Device.tableAccess
  try dsimp only
  repeat' first
    | (simp (maxDischargeDepth := 60) +contextual [*]; done)
    | split

@[simp] theorem Device.rowDisturb_sound (d : Device) (hd : d.sound) : (Device.rowDisturb d).sound := by
  unfold Device.rowDisturb
  try dsimp only
  repeat' first
    | (simp (maxDischargeDepth := 60) +contextual [*]; done)
    | split

@[simp] theorem Device.answer_sound (d : Device) (port : Nat) (a : MemAnswer) (hd : d.sound) : (Device.answer d port a).sound := by
  unfold Device.answer
  simp (maxDischargeDepth := 60) +contextual [*]

@[simp] theorem Device.serve_sound (d : Device) (port a n : Nat) (write : Option (List Byte)) (poison alloc : Bool) (e : MemEnv) (hd : d.sound) : (Device.serve d port a n write poison alloc e).sound := by
  unfold Device.serve
  try dsimp only
  repeat' first
    | (simp (maxDischargeDepth := 60) +contextual [*]; done)
    | split

@[simp] theorem Device.atLevel_sound (d : Device) (port : Nat) (e : MemEnv) (hd : d.sound) : (Device.atLevel d port e).sound := by
  unfold Device.atLevel
  try dsimp only
  repeat' first
    | (simp (maxDischargeDepth := 60) +contextual [*]; done)
    | split

@[simp] theorem Device.portAccess_sound (d : Device) (port a n : Nat) (write : Option (List Byte)) (poison alloc : Bool) (e : MemEnv) (hd : d.sound) : (Device.portAccess d port a n write poison alloc e).sound := by
  unfold Device.portAccess
  simp (maxDischargeDepth := 60) +contextual [*]

@[simp] theorem Device.atomic_sound (d : Device) (port a w : Nat) (e : MemEnv) (f : Nat → Option Nat) (hd : d.sound) : (Device.atomic d port a w e f).sound := by
  unfold Device.atomic
  try dsimp only
  repeat' first
    | (simp (maxDischargeDepth := 60) +contextual [*]; done)
    | split

@[simp] theorem Device.retrainNext_sound (d : Device) (s : Nat) (hd : d.sound) : (Device.retrainNext d s).sound := by
  unfold Device.retrainNext
  try dsimp only
  repeat' first
    | (simp (maxDischargeDepth := 60) +contextual [*]; done)
    | split

@[simp] theorem Device.retrained_sound (d : Device) (stack channel : Nat) (ok : Bool) (hd : d.sound) : (Device.retrained d stack channel ok).sound := by
  unfold Device.retrained
  simp (maxDischargeDepth := 60) +contextual [*]

@[simp] theorem Device.patrol_sound (d : Device) (f : Option MemFault) (hd : d.sound) : (Device.patrol d f).sound := by
  unfold Device.patrol
  simp (maxDischargeDepth := 60) +contextual [*]

@[simp] theorem Device.zeroise_sound (d : Device) (base size : Nat) (hd : d.sound) : (Device.zeroise d base size).sound := by
  unfold Device.zeroise
  simp (maxDischargeDepth := 60) +contextual [*]

@[simp] theorem Device.zeroLocked_sound (d : Device) (hd : d.sound) : (Device.zeroLocked d).sound := by
  unfold Device.zeroLocked
  simp (maxDischargeDepth := 60) +contextual [*]

@[simp] theorem Device.zeroiseDone_sound (d : Device) (hd : d.sound) : (Device.zeroiseDone d).sound := by
  unfold Device.zeroiseDone
  try dsimp only
  repeat' first
    | (simp (maxDischargeDepth := 60) +contextual [*]; done)
    | split

@[simp] theorem Device.inboundDrop_sound (d : Device) (c ep : Nat) (hd : d.sound) : (Device.inboundDrop d c ep).sound := by
  unfold Device.inboundDrop
  simp (maxDischargeDepth := 60) +contextual [*]

@[simp] theorem Device.epLand_sound (d : Device) (c : Nat) (x : EpWrite) (hd : d.sound) : (Device.epLand d c x).sound := by
  unfold Device.epLand
  try dsimp only
  repeat' first
    | (simp (maxDischargeDepth := 60) +contextual [*]; done)
    | split

@[simp] theorem Device.epWrite_sound (d : Device) (c ep off : Nat) (data : List Byte) (bad : List Nat) (last : Bool) (sem : Nat) (hd : d.sound) : (Device.epWrite d c ep off data bad last sem).sound := by
  unfold Device.epWrite
  simp (maxDischargeDepth := 60) +contextual [*]

@[simp] theorem Device.epRelease_sound (d : Device) (c : Nat) (hd : d.sound) : (Device.epRelease d c).sound := by
  unfold Device.epRelease
  try dsimp only
  repeat' first
    | (simp (maxDischargeDepth := 60) +contextual [*]; done)
    | split

@[simp] theorem Device.abandonChannel_sound (d : Device) (guest : Bool) (channel : Nat) (hd : d.sound) : (Device.abandonChannel d guest channel).sound := by
  unfold Device.abandonChannel
  try dsimp only
  repeat' first
    | (simp (maxDischargeDepth := 60) +contextual [*]; done)
    | split

@[simp] theorem Device.applyEpoch_sound (d : Device) (guest : Bool) (channel v : Nat) (hd : d.sound) : (Device.applyEpoch d guest channel v).sound := by
  unfold Device.applyEpoch
  simp (maxDischargeDepth := 60) +contextual [*]

@[simp] theorem Device.freeEpoch_sound (d : Device) (guest : Bool) (channel e : Nat) (hd : d.sound) : (Device.freeEpoch d guest channel e).sound := by
  unfold Device.freeEpoch
  simp (maxDischargeDepth := 60) +contextual [*]

@[simp] theorem Device.applyEntry_sound (d : Device) (k v : Nat) (hd : d.sound) : (Device.applyEntry d k v).sound := by
  unfold Device.applyEntry
  simp (maxDischargeDepth := 60) +contextual [*]

@[simp] theorem Device.dropTransfer_sound (d : Device) (c ep : Nat) (t : OpenTransfer) (last : Bool) (hd : d.sound) : (Device.dropTransfer d c ep t last).sound := by
  unfold Device.dropTransfer
  try dsimp only
  repeat' first
    | (simp (maxDischargeDepth := 60) +contextual [*]; done)
    | split

@[simp] theorem Device.chanWrite_sound (d : Device) (w : ChanWrite) (hd : d.sound) : (Device.chanWrite d w).1.sound := by
  unfold Device.chanWrite
  try dsimp only
  repeat' first
    | (simp (maxDischargeDepth := 60) +contextual [*]; done)
    | split

@[simp] theorem Device.linkMemWrite_sound (d : Device) (port a : Nat) (data : List Byte) (bad : List Nat) (e : MemEnv) (hd : d.sound) : (Device.linkMemWrite d port a data bad e).1.sound := by
  unfold Device.linkMemWrite
  simp (maxDischargeDepth := 60) +contextual [*]

@[simp] theorem Device.onLinkPort_sound (d : Device) (p : Nat) (f : LinkPort → LinkPort) (hd : d.sound) : (Device.onLinkPort d p f).sound := by
  unfold Device.onLinkPort
  simp (maxDischargeDepth := 60) +contextual [*]

@[simp] theorem Device.flushLink_sound (d : Device) (p : Nat) (hd : d.sound) : (Device.flushLink d p).sound := by
  unfold Device.flushLink
  simp (maxDischargeDepth := 60) +contextual [*]

@[simp] theorem Device.linkSend_sound (d : Device) (p : Nat) (x : LinkPacket) (hd : d.sound) : (Device.linkSend d p x).sound := by
  unfold Device.linkSend
  simp (maxDischargeDepth := 60) +contextual [*]

@[simp] theorem Device.unreachable_sound (d : Device) (dev : Nat) (from? : Option Nat) (hd : d.sound) : (Device.unreachable d dev from?).sound := by
  unfold Device.unreachable
  try dsimp only
  repeat' first
    | (simp (maxDischargeDepth := 60) +contextual [*]; done)
    | split

@[simp] theorem Device.sendAnswer_sound (d : Device) (x : LinkPacket) (hd : d.sound) : (Device.sendAnswer d x).sound := by
  unfold Device.sendAnswer
  try dsimp only
  repeat' first
    | (simp (maxDischargeDepth := 60) +contextual [*]; done)
    | split

@[simp] theorem Device.answerRequest_sound (d : Device) (x : LinkPacket) (code : Code) (hd : d.sound) : (Device.answerRequest d x code).sound := by
  unfold Device.answerRequest
  simp (maxDischargeDepth := 60) +contextual [*]

@[simp] theorem Device.deliver_sound (d : Device) (port : Nat) (x : LinkPacket) (e : MemEnv) (hd : d.sound) : (Device.deliver d port x e).1.sound := by
  unfold Device.deliver
  simp (maxDischargeDepth := 60) +contextual [*]

@[simp] theorem Device.seWrite_sound (d : Device) (c rd ra rb : Nat) (immSel : Bool) (imm : Nat) (f : Nat → Nat → Nat) (hd : d.sound) : (Device.seWrite d c rd ra rb immSel imm f).sound := by
  unfold Device.seWrite
  simp (maxDischargeDepth := 60) +contextual [*]

@[simp] theorem Device.seAccess_sound (d : Device) (c rd ra rb : Nat) (immSel : Bool) (imm : Nat) (load : Bool) (hd : d.sound) : (Device.seAccess d c rd ra rb immSel imm load).sound := by
  unfold Device.seAccess
  try dsimp only
  repeat' first
    | (simp (maxDischargeDepth := 60) +contextual [*]; done)
    | split

@[simp] theorem Device.seBarcfg_sound (d : Device) (c rd rb : Nat) (immSel : Bool) (imm : Nat) (hd : d.sound) : (Device.seBarcfg d c rd rb immSel imm).sound := by
  unfold Device.seBarcfg
  simp (maxDischargeDepth := 60) +contextual [*]

@[simp] theorem Device.seSemrd_sound (d : Device) (c rd rb : Nat) (immSel : Bool) (imm : Nat) (hd : d.sound) : (Device.seSemrd d c rd rb immSel imm).sound := by
  unfold Device.seSemrd
  simp (maxDischargeDepth := 60) +contextual [*]

@[simp] theorem Device.seIssue_sound (d : Device) (c op rd ra rb : Nat) (immSel : Bool) (imm : Nat) (hd : d.sound) : (Device.seIssue d c op rd ra rb immSel imm).sound := by
  unfold Device.seIssue
  try dsimp only
  repeat' first
    | (simp (maxDischargeDepth := 60) +contextual [*]; done)
    | split

@[simp] theorem Device.seComplete_sound (d : Device) (c : Nat) (ecc : List (Nat × Bool)) (hd : d.sound) : (Device.seComplete d c ecc).sound := by
  unfold Device.seComplete
  try dsimp only
  repeat' first
    | (simp (maxDischargeDepth := 60) +contextual [*]; done)
    | split

@[simp] theorem Device.tePush_sound (d : Device) (c op : Nat) (sr : Bool) (done : Option Nat) (operands : Nat) (hd : d.sound) : (Device.tePush d c op sr done operands).sound := by
  unfold Device.tePush
  simp (maxDischargeDepth := 60) +contextual [*]

@[simp] theorem Device.vePush_sound (d : Device) (c : Nat) (o : VeOp) (hd : d.sound) : (Device.vePush d c o).sound := by
  unfold Device.vePush
  simp (maxDischargeDepth := 60) +contextual [*]

@[simp] theorem Device.dePush_sound (d : Device) (c ch : Nat) (o : DeOp) (hd : d.sound) : (Device.dePush d c ch o).sound := by
  unfold Device.dePush
  simp (maxDischargeDepth := 60) +contextual [*]

@[simp] theorem Device.quarantine_sound (d : Device) (c : Nat) (code : Code) (hd : d.sound) : (Device.quarantine d c code).sound := by
  unfold Device.quarantine
  simp (maxDischargeDepth := 60) +contextual [*]

@[simp] theorem Device.applyResult_sound (d : Device) (c : Nat) (r : EngineResult) (hd : d.sound) : (Device.applyResult d c r).sound := by
  unfold Device.applyResult
  simp (maxDischargeDepth := 60) +contextual [*]

@[simp] theorem Device.raiseDone_sound (d : Device) (c engine chan : Nat) (done : Option Nat) (hd : d.sound) : (Device.raiseDone d c engine chan done).sound := by
  unfold Device.raiseDone
  try dsimp only
  repeat' first
    | (simp (maxDischargeDepth := 60) +contextual [*]; done)
    | split

@[simp] theorem Device.stir_sound (d : Device) (c n : Nat) (rnd : Bool) (hd : d.sound) : (Device.stir d c n rnd).sound := by
  unfold Device.stir
  try dsimp only
  repeat' first
    | (simp (maxDischargeDepth := 60) +contextual [*]; done)
    | split

@[simp] theorem Device.finalDraw_sound (d : Device) (c : Nat) (r : EngineResult) (hd : d.sound) : (Device.finalDraw d c r).sound := by
  unfold Device.finalDraw
  try dsimp only
  repeat' first
    | (simp (maxDischargeDepth := 60) +contextual [*]; done)
    | split

@[simp] theorem Device.streamFault_sound (d : Device) (c : Code) (addr : Nat) (hd : d.sound) : (Device.streamFault d c addr).sound := by
  unfold Device.streamFault
  simp (maxDischargeDepth := 60) +contextual [*]

@[simp] theorem Device.follow_sound (d : Device) (a w preds : Nat) (hd : d.sound) : (Device.follow d a w preds).sound := by
  unfold Device.follow
  try dsimp only
  repeat' first
    | (simp (maxDischargeDepth := 60) +contextual [*]; done)
    | split

@[simp] theorem Device.dispatch_sound (d : Device) (hd : d.sound) : (Device.dispatch d).sound := by
  unfold Device.dispatch
  simp (maxDischargeDepth := 60) +contextual [*]

@[simp] theorem Device.cycle_sound (d : Device) (hd : d.sound) : (Device.cycle d).sound := by
  unfold Device.cycle
  simp (maxDischargeDepth := 60) +contextual [*]

@[simp] theorem Device.holdCycle_sound (d : Device) (l : List (Nat × Nat)) (floor : Bool) (hd : d.sound) : (Device.holdCycle d l floor).sound := by
  unfold Device.holdCycle
  simp (maxDischargeDepth := 60) +contextual [*]

@[simp] theorem Device.nocSend_sound (d : Device) (c peer granule : Nat) (hd : d.sound) : (Device.nocSend d c peer granule).sound := by
  unfold Device.nocSend
  simp (maxDischargeDepth := 60) +contextual [*]

@[simp] theorem Device.nocWrite_sound (d : Device) (c granule : Nat) (f : Flit) (hd : d.sound) : (Device.nocWrite d c granule f).sound := by
  unfold Device.nocWrite
  simp (maxDischargeDepth := 60) +contextual [*]

@[simp] theorem Device.syncIssue_sound (d : Device) (c y : Nat) (hd : d.sound) : (Device.syncIssue d c y).sound := by
  unfold Device.syncIssue
  try dsimp only
  repeat' first
    | (simp (maxDischargeDepth := 60) +contextual [*]; done)
    | split

@[simp] theorem Device.nocIssue_sound (d : Device) (c z : Nat) (arr : List Flit) (hd : d.sound) : (Device.nocIssue d c z arr).sound := by
  unfold Device.nocIssue
  try dsimp only
  repeat' first
    | (simp (maxDischargeDepth := 60) +contextual [*]; done)
    | split

@[simp] theorem Device.engineIssue_sound (d : Device) (c w : Nat) (hd : d.sound) : (Device.engineIssue d c w).sound := by
  unfold Device.engineIssue
  simp (maxDischargeDepth := 60) +contextual [*]

@[simp] theorem Device.coreIssue_sound (d : Device) (c w : Nat) (hd : d.sound) : (Device.coreIssue d c w).sound := by
  unfold Device.coreIssue
  try dsimp only
  repeat' first
    | (simp (maxDischargeDepth := 60) +contextual [*]; done)
    | split

@[simp] theorem Device.pushReduction_sound (d : Device) (op reg bit core pred : Nat) (hd : d.sound) : (Device.pushReduction d op reg bit core pred).sound := by
  unfold Device.pushReduction
  simp (maxDischargeDepth := 60) +contextual [*]

@[simp] theorem Device.applyStaged_sound (d : Device) (hd : d.sound) : (Device.applyStaged d).sound := by
  unfold Device.applyStaged
  simp (maxDischargeDepth := 60) +contextual [*]

@[simp] theorem Device.applyMark_sound (d : Device) (hd : d.sound) : (Device.applyMark d).sound := by
  unfold Device.applyMark
  simp (maxDischargeDepth := 60) +contextual [*]

@[simp] theorem Device.grantWindow_sound (d : Device) (c len : Nat) (hd : d.sound) : (Device.grantWindow d c len).sound := by
  unfold Device.grantWindow
  simp (maxDischargeDepth := 60) +contextual [*]

@[simp] theorem Device.submit_sound (d : Device) (j : WorldJob) (hd : d.sound) : (Device.submit d j).sound := by
  unfold Device.submit
  simp (maxDischargeDepth := 60) +contextual [*]

@[simp] theorem Device.runOff_sound (d : Device) (hd : d.sound) : (Device.runOff d).sound := by
  unfold Device.runOff
  simp (maxDischargeDepth := 60) +contextual [*]

@[simp] theorem Device.settleRun_sound (d : Device) (hd : d.sound) : (Device.settleRun d).sound := by
  unfold Device.settleRun
  simp (maxDischargeDepth := 60) +contextual [*]

@[simp] theorem Device.stopStream_sound (d : Device) (hd : d.sound) : (Device.stopStream d).sound := by
  unfold Device.stopStream
  simp (maxDischargeDepth := 60) +contextual [*]

@[simp] theorem Device.haltStream_sound (d : Device) (hd : d.sound) : (Device.haltStream d).sound := by
  unfold Device.haltStream
  simp (maxDischargeDepth := 60) +contextual [*]

@[simp] theorem Device.chipIssue_sound (d : Device) (w : Nat) (hd : d.sound) : (Device.chipIssue d w).sound := by
  unfold Device.chipIssue
  simp (maxDischargeDepth := 60) +contextual [*]

@[simp] theorem Device.issue_sound (d : Device) (a : Nat) (hd : d.sound) : (Device.issue d a).sound := by
  unfold Device.issue
  simp (maxDischargeDepth := 60) +contextual [*]

@[simp] theorem Device.sendEcc_sound (d : Device) (a : Nat) (hd : d.sound) : (Device.sendEcc d a).sound := by
  unfold Device.sendEcc
  try dsimp only
  repeat' first
    | (simp (maxDischargeDepth := 60) +contextual [*]; done)
    | split

@[simp] theorem Device.fillSkid_sound (d : Device) (room n : Nat) (hd : d.sound) : (d.fillSkid room n).sound := by
  induction n generalizing d with
  | zero => exact hd
  | succ n ih => exact ite_sound _ _ _ (ih _ (Device.dispatch_sound d hd)) hd

@[simp] theorem Device.bundleCycle_sound (d : Device) (hd : d.sound) : (Device.bundleCycle d).sound := by
  unfold Device.bundleCycle
  try dsimp only
  repeat' first
    | (simp (maxDischargeDepth := 60) +contextual [*]; done)
    | split

@[simp] theorem Device.startStream_sound (d : Device) (a : Nat) (hd : d.sound) : (Device.startStream d a).sound := by
  unfold Device.startStream
  simp (maxDischargeDepth := 60) +contextual [*]

@[simp] theorem Device.holdTimeout_sound (d : Device) (hd : d.sound) : (Device.holdTimeout d).sound := by
  unfold Device.holdTimeout
  try dsimp only
  repeat' first
    | (simp (maxDischargeDepth := 60) +contextual [*]; done)
    | split

@[simp] theorem Device.nocReceive_sound (d : Device) (c peer granule : Nat) (hd : d.sound) : (Device.nocReceive d c peer granule).sound := by
  unfold Device.nocReceive
  try dsimp only
  repeat' first
    | (simp (maxDischargeDepth := 60) +contextual [*]; done)
    | split

@[simp] theorem Device.startChain_sound (d : Device) (c : Nat) (o : TeOp) (integers : Bool) (hd : d.sound) : (Device.startChain d c o integers).sound := by
  unfold Device.startChain
  simp (maxDischargeDepth := 60) +contextual [*]

@[simp] theorem Device.teBegin_sound (d : Device) (c : Nat) (o : TeOp) (hd : d.sound) : (Device.teBegin d c o).sound := by
  unfold Device.teBegin
  try dsimp only
  repeat' first
    | (simp (maxDischargeDepth := 60) +contextual [*]; done)
    | split

@[simp] theorem Device.teStart_sound (d : Device) (c : Nat) (ecc : List (Nat × Bool)) (hd : d.sound) : (Device.teStart d c ecc).sound := by
  unfold Device.teStart
  try dsimp only
  repeat' first
    | (simp (maxDischargeDepth := 60) +contextual [*]; done)
    | split

@[simp] theorem Device.mismatch_sound (d : Device) (c : Nat) (run : TeRun) (ch : Chain) (m : ReplayElement × Nat × Num) (hd : d.sound) : (Device.mismatch d c run ch m).sound := by
  unfold Device.mismatch
  simp (maxDischargeDepth := 60) +contextual [*]

@[simp] theorem Device.comparatorDisagree_sound (d : Device) (c : Nat) (hd : d.sound) : (Device.comparatorDisagree d c).sound := by
  unfold Device.comparatorDisagree
  simp (maxDischargeDepth := 60) +contextual [*]

@[simp] theorem Device.compare_sound (d : Device) (c : Nat) (run : TeRun) (ch : Chain) (replay : List (ReplayElement × Nat)) (disagree : Bool) (hd : d.sound) : (Device.compare d c run ch replay disagree).sound := by
  unfold Device.compare
  try dsimp only
  repeat' first
    | (simp (maxDischargeDepth := 60) +contextual [*]; done)
    | split

@[simp] theorem Device.teComplete_sound (d : Device) (c which : Nat) (replay : List (ReplayElement × Nat)) (disagree : Bool) (hd : d.sound) : (Device.teComplete d c which replay disagree).sound := by
  unfold Device.teComplete
  try dsimp only
  repeat' first
    | (simp (maxDischargeDepth := 60) +contextual [*]; done)
    | split

@[simp] theorem Device.veStart_sound (d : Device) (c : Nat) (ecc : List (Nat × Bool)) (hd : d.sound) : (Device.veStart d c ecc).sound := by
  unfold Device.veStart
  try dsimp only
  repeat' first
    | (simp (maxDischargeDepth := 60) +contextual [*]; done)
    | split

@[simp] theorem Device.veComplete_sound (d : Device) (c : Nat) (hd : d.sound) : (Device.veComplete d c).sound := by
  unfold Device.veComplete
  try dsimp only
  repeat' first
    | (simp (maxDischargeDepth := 60) +contextual [*]; done)
    | split

@[simp] theorem Device.setOp_sound (d : Device) (c ch i : Nat) (o : DeOp) (hd : d.sound) : (Device.setOp d c ch i o).sound := by
  unfold Device.setOp
  simp (maxDischargeDepth := 60) +contextual [*]

@[simp] theorem Device.writeAnswered_sound (d : Device) (c ch : Nat) (code : Code) (hd : d.sound) : (Device.writeAnswered d c ch code).sound := by
  unfold Device.writeAnswered
  simp (maxDischargeDepth := 60) +contextual [*]

@[simp] theorem Device.requestAnswered_sound (d : Device) (tag : Nat) (code : Code) (hd : d.sound) : (Device.requestAnswered d tag code).sound := by
  unfold Device.requestAnswered
  try dsimp only
  repeat' first
    | (simp (maxDischargeDepth := 60) +contextual [*]; done)
    | split

@[simp] theorem Device.stamp_sound (d : Device) (c : Nat) (x : InFlight) (hd : d.sound) : (Device.stamp d c x).1.sound := by
  unfold Device.stamp
  try dsimp only
  repeat' first
    | (simp (maxDischargeDepth := 60) +contextual [*]; done)
    | split

@[simp] theorem Device.issueWrite_sound (d : Device) (c ch i : Nat) (o : DeOp) (j : Nat) (x0 : InFlight) (hd : d.sound) : (Device.issueWrite d c ch i o j x0).sound := by
  unfold Device.issueWrite
  try dsimp only
  repeat' first
    | (simp (maxDischargeDepth := 60) +contextual [*]; done)
    | split

@[simp] theorem Device.issueNext_sound (d : Device) (c ch : Nat) (hd : d.sound) : (Device.issueNext d c ch).sound := by
  unfold Device.issueNext
  try dsimp only
  repeat' first
    | (simp (maxDischargeDepth := 60) +contextual [*]; done)
    | split

@[simp] theorem Device.grant_sound (d : Device) (c : Nat) (hd : d.sound) : (Device.grant d c).sound := by
  unfold Device.grant
  try dsimp only
  repeat' first
    | (simp (maxDischargeDepth := 60) +contextual [*]; done)
    | split

@[simp] theorem Device.grantEcc_sound (d : Device) (c : Nat) (ecc : List (Nat × Bool)) (hd : d.sound) : (Device.grantEcc d c ecc).sound := by
  unfold Device.grantEcc
  try dsimp only
  repeat' first
    | (simp (maxDischargeDepth := 60) +contextual [*]; done)
    | split

@[simp] theorem Device.fetch_sound (d : Device) (c : Nat) (o : DeOp) (x : InFlight) (e : MemEnv) (hd : d.sound) : (Device.fetch d c o x e).dev.sound := by
  unfold Device.fetch
  simp (maxDischargeDepth := 60) +contextual [*]

@[simp] theorem Device.readReturn_sound (d : Device) (c ch which : Nat) (ecc : List (Nat × Bool)) (e : MemEnv) (hd : d.sound) : (Device.readReturn d c ch which ecc e).sound := by
  unfold Device.readReturn
  try dsimp only
  repeat' first
    | (simp (maxDischargeDepth := 60) +contextual [*]; done)
    | split

@[simp] theorem Device.perform_sound (d : Device) (c ch : Nat) (o : DeOp) (x : InFlight) (e : MemEnv) (hd : d.sound) : (Device.perform d c ch o x e).1.sound := by
  unfold Device.perform
  refine fst_ite_sound _ _ _ (by simp [*]) (fst_ite_sound _ _ _ ?_ ?_)
  · exact Device.onMem_sound _ _ (Device.memWrite_sound _ _ _ _ _ _ _ _ hd)
      (Device.memWrite_sound d c x.dst x.data x.bad o.desc.allocate e (some x.deadline) hd).2.2.1
  · extract_lets p
    have h := Device.deliver_sound d c p e hd
    split
    · rename_i heq; rw [heq] at h; exact ite_sound _ _ _ h (Device.completed_sound _ _ _ _ _ h)
    · exact h

@[simp] theorem Device.writeAck_sound (d : Device) (c ch which : Nat) (e : MemEnv) (hd : d.sound) : (Device.writeAck d c ch which e).sound := by
  unfold Device.writeAck
  split
  · exact hd
  · rename_i i o j x _
    have h := Device.perform_sound d c ch o x e hd
    refine ite_sound _ _ _ hd ?_
    split <;> rename_i heq <;> rw [heq] at h
    · exact h
    · exact Device.writeAnswered_sound _ _ _ _ (Device.setOp_sound _ _ _ _ _ h)

@[simp] theorem Device.ackTimeout_sound (d : Device) (c ch : Nat) (hd : d.sound) : (Device.ackTimeout d c ch).sound := by
  unfold Device.ackTimeout
  simp (maxDischargeDepth := 60) +contextual [*]

@[simp] theorem Device.opDone_sound (d : Device) (c ch i : Nat) (o : DeOp) (hd : d.sound) : (Device.opDone d c ch i o).sound := by
  unfold Device.opDone
  simp (maxDischargeDepth := 60) +contextual [*]

@[simp] theorem Device.setSeqFlag_sound (d : Device) (s bit : Nat) (b : Bool) (hd : d.sound) : (Device.setSeqFlag d s bit b).sound := by
  unfold Device.setSeqFlag
  simp (maxDischargeDepth := 60) +contextual [*]

@[simp] theorem Device.setHeldSteps_sound (d : Device) (s v : Nat) (hd : d.sound) : (Device.setHeldSteps d s v).sound := by
  unfold Device.setHeldSteps
  simp (maxDischargeDepth := 60) +contextual [*]

@[simp] theorem Device.addGen_sound (d : Device) (s n : Nat) (hd : d.sound) : (Device.addGen d s n).sound := by
  unfold Device.addGen
  simp (maxDischargeDepth := 60) +contextual [*]

@[simp] theorem Device.minRecompute_sound (d : Device) (s v : Nat) (hd : d.sound) : (Device.minRecompute d s v).sound := by
  unfold Device.minRecompute
  simp (maxDischargeDepth := 60) +contextual [*]

@[simp] theorem Device.raiseRecompute_sound (d : Device) (s : Nat) (hd : d.sound) : (Device.raiseRecompute d s).sound := by
  unfold Device.raiseRecompute
  try dsimp only
  repeat' first
    | (simp (maxDischargeDepth := 60) +contextual [*]; done)
    | split

@[simp] theorem Device.setSlotsHeld_sound (d : Device) (s v : Nat) (hd : d.sound) : (Device.setSlotsHeld d s v).sound := by
  unfold Device.setSlotsHeld
  simp (maxDischargeDepth := 60) +contextual [*]

@[simp] theorem Device.setPage_sound (d : Device) (s l q e : Nat) (hd : d.sound) : (Device.setPage d s l q e).sound := by
  unfold Device.setPage
  simp (maxDischargeDepth := 60) +contextual [*]

@[simp] theorem Device.setBusy_sound (d : Device) (s l core : Nat) (expected : Nat) (hd : d.sound) : (Device.setBusy d s l core expected).1.sound := by
  unfold Device.setBusy
  simp (maxDischargeDepth := 60) +contextual [*]

@[simp] theorem Device.clearBusy_sound (d : Device) (s l : Nat) (hd : d.sound) : (Device.clearBusy d s l).sound := by
  unfold Device.clearBusy
  simp (maxDischargeDepth := 60) +contextual [*]

@[simp] theorem Device.popSlot_sound (d : Device) (hd : d.sound) : (Device.popSlot d).1.sound := by
  unfold Device.popSlot
  simp (maxDischargeDepth := 60) +contextual [*]

@[simp] theorem Device.pushSlot_sound (d : Device) (p : Nat) (hd : d.sound) : (Device.pushSlot d p).sound := by
  unfold Device.pushSlot
  simp (maxDischargeDepth := 60) +contextual [*]

@[simp] theorem Device.journal_sound (d : Device) (c ch s l p : Nat) (hd : d.sound) : (Device.journal d c ch s l p).sound := by
  unfold Device.journal
  simp (maxDischargeDepth := 60) +contextual [*]

@[simp] theorem Device.clearJournal_sound (d : Device) (c ch : Nat) (hd : d.sound) : (Device.clearJournal d c ch).sound := by
  unfold Device.clearJournal
  simp (maxDischargeDepth := 60) +contextual [*]

@[simp] theorem Device.auditRecord_sound (d : Device) (c ch : Nat) (hd : d.sound) : (Device.auditRecord d c ch).sound := by
  unfold Device.auditRecord
  simp (maxDischargeDepth := 60) +contextual [*]

@[simp] theorem Device.clearRegionBusy_sound (d : Device) (r : Nat) (hd : d.sound) : (Device.clearRegionBusy d r).sound := by
  unfold Device.clearRegionBusy
  refine Device.each_sound _ _ _ hd fun d s hd => ?_
  split
  · exact hd
  · exact Device.addGen_sound _ _ _ (Device.each_sound _ _ _ (Device.addGen_sound _ _ _ hd) fun d l hd => Device.clearBusy_sound _ _ _ hd)

@[simp] theorem Device.hamperRestart_sound (d : Device) (r : Nat) (hd : d.sound) : (Device.hamperRestart d r).sound := by
  unfold Device.hamperRestart
  simp (maxDischargeDepth := 60) +contextual [*]

@[simp] theorem Device.dropPage_sound (d : Device) (s l q : Nat) (hd : d.sound) : (Device.dropPage d s l q).1.sound := by
  unfold Device.dropPage
  simp (maxDischargeDepth := 60) +contextual [*]

@[simp] theorem Edits.touch_sound (x : Edits) (s : Nat) (hx : x.dev.sound) : (Edits.touch x s).dev.sound := by
  unfold Edits.touch
  try dsimp only
  repeat' first
    | (simp (maxDischargeDepth := 60) +contextual [*]; done)
    | split

@[simp] theorem Edits.on_sound (x : Edits) (f : Device → Device) (hx : x.dev.sound) (hf : ∀ d : Device, d.sound → (f d).sound) : (Edits.on x f).dev.sound := by
  unfold Edits.on
  try dsimp only
  repeat' first
    | (simp (maxDischargeDepth := 60) +contextual [*]; done)
    | split

@[simp] theorem Edits.close_sound (x : Edits) (hx : x.dev.sound) : (Edits.close x).sound := by
  unfold Edits.close
  try dsimp only
  repeat' first
    | (simp (maxDischargeDepth := 60) +contextual [*]; done)
    | split

@[simp] theorem Edits.evict_sound (x : Edits) (s : Nat) (columns : List Nat) (from? : Nat) (edit : Device → Device) (hx : x.dev.sound) (hedit : ∀ d : Device, d.sound → (edit d).sound) : (Edits.evict x s columns from? edit).dev.sound := by
  have hr : ∀ (l : List (Nat × Nat)) (d : Device), d.sound → (l.foldl (fun (acc : Device × List Nat) p =>
      match acc.1.dropPage s p.1 p.2 with
      | (d, some slot) => (d, acc.2 ++ [slot])
      | (d, none) => (d, acc.2)) (d, [])).1.sound := fun l d hd =>
    foldl_fst_sound l _ _ hd fun b x hb => by
      have := Device.dropPage_sound b.1 s x.1 x.2 hb
      split <;> rename_i heq <;> rw [heq] at this <;> exact this
  unfold Edits.evict
  exact Device.addSat_sound _ _ _ _ (Device.setSlotsHeld_sound _ _ _ (hedit _ (Device.minRecompute_sound _ _ _
    (hr _ _ (Edits.touch_sound _ _ hx)))))

@[simp] theorem Edits.evictColumn_sound (x : Edits) (s q : Nat) (hx : x.dev.sound) : (Edits.evictColumn x s q).dev.sound := by
  unfold Edits.evictColumn
  try dsimp only
  repeat' first
    | (simp (maxDischargeDepth := 60) +contextual [*]; done)
    | split

@[simp] theorem Edits.preempt_sound (x : Edits) (s : Nat) (hx : x.dev.sound) : (Edits.preempt x s).dev.sound := by
  unfold Edits.preempt
  try dsimp only
  repeat' first
    | (simp (maxDischargeDepth := 60) +contextual [*]; done)
    | split

@[simp] theorem Edits.clearHeld_sound (x : Edits) (h : Nat) (hx : x.dev.sound) : (Edits.clearHeld x h).dev.sound := by
  unfold Edits.clearHeld
  try dsimp only
  repeat' first
    | (simp (maxDischargeDepth := 60) +contextual [*]; done)
    | split

@[simp] theorem Edits.resolveHeld_sound (p : Edits × Nat) (h : Nat) (hp : p.1.dev.sound) : (Edits.resolveHeld p h).1.dev.sound := by
  unfold Edits.resolveHeld
  try dsimp only
  repeat' first
    | (simp (maxDischargeDepth := 60) +contextual [*]; done)
    | split

@[simp] theorem Edits.keepFree_sound (n : Nat) (x : Edits) (hx : x.dev.sound) : (x.keepFree n).dev.sound := by
  induction n generalizing x with
  | zero => exact hx
  | succ n ih =>
    unfold Edits.keepFree
    repeat' split
    · exact ih _ (Edits.evictColumn_sound _ _ _ hx)
    · exact hx
    · exact hx

@[simp] theorem Device.hamperIteration_sound (d0 : Device) (e : MemEnv) (hd0 : d0.sound) : (Device.hamperIteration d0 e).sound := by
  have ht := Device.tableAccess_sound d0 portWarden ((List.range (d0.rd Reg.SEQ_MAX)).map d0.seqAddr) e hd0
  unfold Device.hamperIteration
  extract_lets t d r
  refine ite_sound _ _ _ hd0 (ite_sound _ _ _ ht (Edits.close_sound _ (Edits.keepFree_sound _ _ ?_)))
  exact foldl_keeps (fun p : Edits × Nat => p.1.dev.sound) d.heldSequences Edits.resolveHeld ({ dev := d }, _) ht
    fun b x hb => Edits.resolveHeld_sound b x hb

@[simp] theorem Device.zeroRange_sound (d : Device) (a n : Nat) (hd : d.sound) : (Device.zeroRange d a n).sound := by
  unfold Device.zeroRange
  simp (maxDischargeDepth := 60) +contextual [*]

@[simp] theorem Device.hamperFill_sound (d : Device) (hd : d.sound) : (Device.hamperFill d).sound := by
  unfold Device.hamperFill
  simp (maxDischargeDepth := 60) +contextual [*]

@[simp] theorem Device.putHeader_sound (d : Device) (c : Nat) (w : Walk) (f : Nat) (h : List Byte) (hd : d.sound) : (Device.putHeader d c w f h).sound := by
  unfold Device.putHeader
  simp (maxDischargeDepth := 60) +contextual [*]

@[simp] theorem Device.voidFrames_sound (d : Device) (c : Nat) (w : Walk) (status : Nat) (hd : d.sound) : (Device.voidFrames d c w status).sound := by
  unfold Device.voidFrames
  simp (maxDischargeDepth := 60) +contextual [*]

@[simp] theorem Device.cancelFrames_sound (d : Device) (c : Nat) (w : Walk) (hd : d.sound) : (Device.cancelFrames d c w).sound := by
  unfold Device.cancelFrames
  simp (maxDischargeDepth := 60) +contextual [*]

@[simp] theorem Device.readFrame_sound (d : Device) (c : Nat) (w : Walk) (gen len f : Nat) (hd : d.sound) : (Device.readFrame d c w gen len f).1.sound := by
  unfold Device.readFrame
  simp (maxDischargeDepth := 60) +contextual [*]

@[simp] theorem Device.setWalk_sound (d : Device) (c ch i : Nat) (o : DeOp) (w : Walk) (hd : d.sound) : (Device.setWalk d c ch i o w).sound := by
  unfold Device.setWalk
  simp (maxDischargeDepth := 60) +contextual [*]

@[simp] theorem Device.conflict_sound (d : Device) (c ch i : Nat) (o : DeOp) (w : Walk) (hd : d.sound) : (Device.conflict d c ch i o w).sound := by
  unfold Device.conflict
  simp (maxDischargeDepth := 60) +contextual [*]

@[simp] theorem Device.attemptFailed_sound (d : Device) (c ch i : Nat) (o : DeOp) (w : Walk) (hd : d.sound) : (Device.attemptFailed d c ch i o w).sound := by
  unfold Device.attemptFailed
  simp (maxDischargeDepth := 60) +contextual [*]

@[simp] theorem Device.walkError_sound (d : Device) (c ch i : Nat) (o : DeOp) (w : Walk) (code : Code) (hd : d.sound) : (Device.walkError d c ch i o w code).sound := by
  unfold Device.walkError
  try dsimp only
  repeat' first
    | (simp (maxDischargeDepth := 60) +contextual [*]; done)
    | split

@[simp] theorem Device.attempt_sound (d0 : Device) (c ch i : Nat) (o : DeOp) (w : Walk) (e : MemEnv) (hd0 : d0.sound) : (Device.attempt d0 c ch i o w e).sound := by
  unfold Device.attempt
  simp (maxDischargeDepth := 60) +contextual [*]

@[simp] theorem Device.readWalk_sound (d : Device) (c ch : Nat) (e : MemEnv) (hd : d.sound) : (Device.readWalk d c ch e).sound := by
  unfold Device.readWalk
  try dsimp only
  repeat' first
    | (simp (maxDischargeDepth := 60) +contextual [*]; done)
    | split

@[simp] theorem Device.walkRetry_sound (d : Device) (c ch : Nat) (e : MemEnv) (hd : d.sound) : (Device.walkRetry d c ch e).sound := by
  unfold Device.walkRetry
  try dsimp only
  repeat' first
    | (simp (maxDischargeDepth := 60) +contextual [*]; done)
    | split

@[simp] theorem Device.writePage_sound (d : Device) (c : Nat) (w : Walk) (q slot : Nat) (hd : d.sound) : (Device.writePage d c w q slot).1.sound := by
  unfold Device.writePage
  exact Device.addSat_sound _ _ _ _ (Device.looked_sound _ _ hd)

@[simp] theorem Device.appendPage_sound (d : Device) (c ch : Nat) (w : Walk) (q : Nat) (hd : d.sound) : (Device.appendPage d c ch w q).1.sound := by
  unfold Device.appendPage
  dsimp only
  repeat' first
    | (simp (maxDischargeDepth := 60) +contextual [*]; done)
    | (have h := Device.popSlot_sound d hd
       split <;> rename_i heq <;> rw [heq] at h <;> simp (maxDischargeDepth := 60) +contextual [*])
    | split

@[simp] theorem Device.refuseWalk_sound (d : Device) (c ch i : Nat) (o : DeOp) (w : Walk) (code : Code) (event : Nat) (hd : d.sound) : (Device.refuseWalk d c ch i o w code event).sound := by
  unfold Device.refuseWalk
  simp (maxDischargeDepth := 60) +contextual [*]

@[simp] theorem Device.append_sound (d0 : Device) (c ch i : Nat) (o : DeOp) (w : Walk) (e : MemEnv) (hd0 : d0.sound) : (Device.append d0 c ch i o w e).sound := by
  unfold Device.append
  simp (maxDischargeDepth := 60) +contextual [*]

@[simp] theorem Device.appendWalk_sound (d : Device) (c ch mode : Nat) (e : MemEnv) (hd : d.sound) : (Device.appendWalk d c ch mode e).sound := by
  unfold Device.appendWalk
  try dsimp only
  repeat' first
    | (simp (maxDischargeDepth := 60) +contextual [*]; done)
    | split

@[simp] theorem Device.publish_sound (d0 : Device) (c ch : Nat) (e : MemEnv) (hd0 : d0.sound) : (Device.publish d0 c ch e).sound := by
  unfold Device.publish
  try dsimp only
  repeat' first
    | (simp (maxDischargeDepth := 60) +contextual [*]; done)
    | split

@[simp] theorem Device.walkStart_sound (d0 : Device) (c ch i : Nat) (o : DeOp) (a : Nat) (hd0 : d0.sound) : (Device.walkStart d0 c ch i o a).sound := by
  unfold Device.walkStart
  try dsimp only
  repeat' first
    | (simp (maxDischargeDepth := 60) +contextual [*]; done)
    | split

@[simp] theorem Device.deStart_sound (d : Device) (c ch : Nat) (ecc : List (Nat × Bool)) (hd : d.sound) : (Device.deStart d c ch ecc).sound := by
  unfold Device.deStart
  try dsimp only
  repeat' first
    | (simp (maxDischargeDepth := 60) +contextual [*]; done)
    | split

@[simp] theorem Device.walkDone_sound (d : Device) (c ch i : Nat) (o : DeOp) (w : Walk) (hd : d.sound) : (Device.walkDone d c ch i o w).sound := by
  unfold Device.walkDone
  simp (maxDischargeDepth := 60) +contextual [*]

@[simp] theorem Device.walkCheck_sound (d0 : Device) (c ch i : Nat) (o : DeOp) (w : Walk) (g : Nat) (e : MemEnv) (hd0 : d0.sound) : (Device.walkCheck d0 c ch i o w g e).sound := by
  unfold Device.walkCheck
  simp (maxDischargeDepth := 60) +contextual [*]

@[simp] theorem Device.deComplete_sound (d : Device) (c ch which : Nat) (e : MemEnv) (hd : d.sound) : (Device.deComplete d c ch which e).sound := by
  unfold Device.deComplete
  try dsimp only
  repeat' first
    | (simp (maxDischargeDepth := 60) +contextual [*]; done)
    | split

@[simp] theorem Device.cancelWalk_sound (d : Device) (c ch : Nat) (hd : d.sound) : (Device.cancelWalk d c ch).sound := by
  unfold Device.cancelWalk
  try dsimp only
  repeat' first
    | (simp (maxDischargeDepth := 60) +contextual [*]; done)
    | split

@[simp] theorem Device.onRing_sound (d : Device) (r : RingId) (f : Ring → Ring) (hd : d.sound) : (Device.onRing d r f).sound := by
  unfold Device.onRing
  simp (maxDischargeDepth := 60) +contextual [*]

@[simp] theorem Device.ringStart_sound (d : Device) (r : RingId) (hd : d.sound) : (Device.ringStart d r).sound := by
  unfold Device.ringStart
  simp (maxDischargeDepth := 60) +contextual [*]

@[simp] theorem Device.ringSettle_sound (d : Device) (r : RingId) (hd : d.sound) : (Device.ringSettle d r).sound := by
  unfold Device.ringSettle
  simp (maxDischargeDepth := 60) +contextual [*]

@[simp] theorem Device.ringDrain_sound (d : Device) (r : RingId) (hd : d.sound) : (Device.ringDrain d r).sound := by
  unfold Device.ringDrain
  simp (maxDischargeDepth := 60) +contextual [*]

@[simp] theorem Device.writeCompletion_sound (d : Device) (r : RingId) (c : Completion) (hd : d.sound) : (Device.writeCompletion d r c).sound := by
  unfold Device.writeCompletion
  simp (maxDischargeDepth := 60) +contextual [*]

@[simp] theorem Device.deliverOwed_sound (d : Device) (r : RingId) (hd : d.sound) : (Device.deliverOwed d r).sound := by
  unfold Device.deliverOwed
  simp (maxDischargeDepth := 60) +contextual [*]

@[simp] theorem Device.ringComplete_sound (d : Device) (r : RingId) (wanted full : Bool) (c : Completion) (hd : d.sound) : (Device.ringComplete d r wanted full c).sound := by
  unfold Device.ringComplete
  simp (maxDischargeDepth := 60) +contextual [*]

@[simp] theorem Device.ringTake_sound (d : Device) (r : RingId) (hd : d.sound) : (Device.ringTake d r).sound := by
  unfold Device.ringTake
  simp (maxDischargeDepth := 60) +contextual [*]

@[simp] theorem Device.producerFault_sound (d : Device) (p : Producer) (hd : d.sound) : (Device.producerFault d p).sound := by
  unfold Device.producerFault
  try dsimp only
  repeat' first
    | (simp (maxDischargeDepth := 60) +contextual [*]; done)
    | split

@[simp] theorem Device.ringSource_sound (d : Device) (a n : Nat) (hd : d.sound) : (Device.ringSource d a n).sound := by
  unfold Device.ringSource
  try dsimp only
  repeat' first
    | (simp (maxDischargeDepth := 60) +contextual [*]; done)
    | split

@[simp] theorem Device.ringPush_sound (d : Device) (r : RingId) (x : RingItem) (hd : d.sound) : (Device.ringPush d r x).sound := by
  unfold Device.ringPush
  simp (maxDischargeDepth := 60) +contextual [*]

@[simp] theorem Device.ringFill_sound (d : Device) (r : RingId) (x : Descriptor) (full : Bool) (hd : d.sound) : (Device.ringFill d r x full).sound := by
  unfold Device.ringFill
  try dsimp only
  repeat' first
    | (simp (maxDischargeDepth := 60) +contextual [*]; done)
    | split

@[simp] theorem Device.ringBad_sound (d : Device) (r : RingId) (x : Descriptor) (full : Bool) (detail : Nat) (hd : d.sound) : (Device.ringBad d r x full detail).sound := by
  unfold Device.ringBad
  simp (maxDischargeDepth := 60) +contextual [*]

@[simp] theorem Device.ringDone_sound (d : Device) (r : RingId) (x : Descriptor) (full : Bool) (status : Code) (bytes detail : Nat) (hd : d.sound) : (Device.ringDone d r x full status bytes detail).sound := by
  unfold Device.ringDone
  simp (maxDischargeDepth := 60) +contextual [*]

@[simp] theorem Device.ringCancel_sound (d : Device) (r : RingId) (tags : List (BitVec 32)) (full : Bool) (hd : d.sound) : (Device.ringCancel d r tags full).sound := by
  unfold Device.ringCancel
  simp (maxDischargeDepth := 60) +contextual [*]

@[simp] theorem Device.ringDiscard_sound (d : Device) (r : RingId) (hd : d.sound) : (Device.ringDiscard d r).sound := by
  unfold Device.ringDiscard
  simp (maxDischargeDepth := 60) +contextual [*]

@[simp] theorem Device.ringFault_sound (d : Device) (r : RingId) (code : Code) (tags : List (BitVec 32)) (hd : d.sound) : (Device.ringFault d r code tags).sound := by
  unfold Device.ringFault
  simp (maxDischargeDepth := 60) +contextual [*]

@[simp] theorem Device.setSlotState_sound (d : Device) (n : Nat) (st : FnState) (hd : d.sound) : (Device.setSlotState d n st).sound := by
  unfold Device.setSlotState
  simp (maxDischargeDepth := 60) +contextual [*]

@[simp] theorem Device.unbound_sound (d : Device) (hd : d.sound) : (Device.unbound d).sound := by
  unfold Device.unbound
  simp (maxDischargeDepth := 60) +contextual [*]

@[simp] theorem Device.slotStart_sound (d : Device) (n : Nat) (hd : d.sound) : (Device.slotStart d n).sound := by
  unfold Device.slotStart
  try dsimp only
  repeat' first
    | (simp (maxDischargeDepth := 60) +contextual [*]; done)
    | split

@[simp] theorem Device.slotSettle_sound (d : Device) (n : Nat) (hd : d.sound) : (Device.slotSettle d n).sound := by
  unfold Device.slotSettle
  simp (maxDischargeDepth := 60) +contextual [*]

@[simp] theorem Device.slotDrain_sound (d : Device) (n : Nat) (hd : d.sound) : (Device.slotDrain d n).sound := by
  unfold Device.slotDrain
  simp (maxDischargeDepth := 60) +contextual [*]

@[simp] theorem Device.slotWrite_sound (d : Device) (n a : Nat) (bytes : List Byte) (env : MemEnv) (hd : d.sound) : (Device.slotWrite d n a bytes env).1.sound := by
  unfold Device.slotWrite
  try dsimp only
  repeat' first
    | (simp (maxDischargeDepth := 60) +contextual [*]; done)
    | split

@[simp] theorem Device.beginSample_sound (d : Device) (n : Nat) (frame : Nat) (flags : Nat) (env : MemEnv) (hd : d.sound) : (Device.beginSample d n frame flags env).1.sound := by
  unfold Device.beginSample
  simp (maxDischargeDepth := 60) +contextual [*]

@[simp] theorem Device.storeData_sound (d : Device) (n : Nat) (x0 : Sample) (bytes : List Byte) (room : Option Nat) (env : MemEnv) (hd : d.sound) : (Device.storeData d n x0 bytes room env).1.sound := by
  unfold Device.storeData
  simp (maxDischargeDepth := 60) +contextual [*]

@[simp] theorem Device.putSample_sound (d : Device) (n : Nat) (x : Sample) (hd : d.sound) : (Device.putSample d n x).sound := by
  unfold Device.putSample
  simp (maxDischargeDepth := 60) +contextual [*]

@[simp] theorem Device.endSample_sound (d : Device) (n : Nat) (x : Sample) (hd : d.sound) : (Device.endSample d n x).sound := by
  unfold Device.endSample
  simp (maxDischargeDepth := 60) +contextual [*]

@[simp] theorem Device.countFlags_sound (d : Device) (n flags : Nat) (hd : d.sound) : (Device.countFlags d n flags).sound := by
  unfold Device.countFlags
  simp (maxDischargeDepth := 60) +contextual [*]

@[simp] theorem Device.patternRun_sound (d : Device) (n flags : Nat) (hd : d.sound) : (Device.patternRun d n flags).sound := by
  unfold Device.patternRun
  simp (maxDischargeDepth := 60) +contextual [*]

@[simp] theorem Device.capture_sound (d : Device) (n : Nat) (record data : List Byte) (src seq : Nat) (room : Bool) (hd : d.sound) : (Device.capture d n record data src seq room).sound := by
  unfold Device.capture
  simp (maxDischargeDepth := 60) +contextual [*]

@[simp] theorem Device.doneRecord_sound (d : Device) (n : Nat) (r : SampleRecord) (env : MemEnv) (hd : d.sound) : (Device.doneRecord d n r env).1.sound := by
  unfold Device.doneRecord
  simp (maxDischargeDepth := 60) +contextual [*]

@[simp] theorem Device.closeSample_sound (d : Device) (n : Nat) (x : Sample) (t : Option (Int × Nat)) (room : Bool) (env : MemEnv) (hd : d.sound) : (Device.closeSample d n x t room env).1.sound := by
  unfold Device.closeSample
  try dsimp only
  repeat' first
    | (simp (maxDischargeDepth := 60) +contextual [*]; done)
    | split

@[simp] theorem Device.sampleComplete_sound (d : Device) (n : Nat) (corrupt room : Bool) (env : MemEnv) (hd : d.sound) : (Device.sampleComplete d n corrupt room env).sound := by
  unfold Device.sampleComplete
  split
  · exact hd
  extract_lets buf at? w r code x1 x2 d1 t c d2 d3
  have h1 : d1.sound := Device.portRead_sound _ _ _ _ _ _ (Device.slotWrite_sound _ _ _ _ _ hd)
  have h2 : d2.sound := Device.patternRun_sound _ _ _ (Device.closeSample_sound _ _ _ _ _ _ (Device.onSlot_sound _ _ _ h1))
  have h3 : d3.sound := ite_sound _ _ _ (Device.bumpWrap_sound _ _ (Device.onSlot_sound _ _ _ h2)) h2
  exact Device.slotSettle_sound _ _ h3

@[simp] theorem Device.slotCancel_sound (d : Device) (n : Nat) (room : Bool) (env : MemEnv) (hd : d.sound) : (Device.slotCancel d n room env).sound := by
  unfold Device.slotCancel
  simp (maxDischargeDepth := 60) +contextual [*]

@[simp] theorem Device.countDropout_sound (d : Device) (n : Nat) (hd : d.sound) : (Device.countDropout d n).sound := by
  unfold Device.countDropout
  try dsimp only
  repeat' first
    | (simp (maxDischargeDepth := 60) +contextual [*]; done)
    | split

@[simp] theorem Device.dropout_sound (d : Device) (n : Nat) (env : MemEnv) (hd : d.sound) : (Device.dropout d n env).sound := by
  unfold Device.dropout
  simp (maxDischargeDepth := 60) +contextual [*]

@[simp] theorem Device.headerEcc_sound (d : Device) (rx : Nat) (h : HeaderEcc) (hd : d.sound) : (Device.headerEcc d rx h).sound := by
  unfold Device.headerEcc
  try dsimp only
  repeat' first
    | (simp (maxDischargeDepth := 60) +contextual [*]; done)
    | split

@[simp] theorem Device.frameStart_sound (d : Device) (rx vc frame : Nat) (h : HeaderEcc) (env : MemEnv) (hd : d.sound) : (Device.frameStart d rx vc frame h env).sound := by
  unfold Device.frameStart
  dsimp only
  refine ite_sound _ _ _ hd (ite_sound _ _ _ (by simp [*]) (ite_sound _ _ _ (by simp [*]) (Device.each_sound _ _ _ (by simp [*]) ?_)))
  intro d x hd
  repeat' first
    | (simp (maxDischargeDepth := 60) +contextual [*]; done)
    | split

@[simp] theorem Device.csiPacket_sound (d : Device) (n dt : Nat) (payload : List Byte) (crcOk : Bool) (room : Option Nat) (env : MemEnv) (hd : d.sound) : (Device.csiPacket d n dt payload crcOk room env).sound := by
  unfold Device.csiPacket
  try dsimp only
  repeat' first
    | (simp (maxDischargeDepth := 60) +contextual [*]; done)
    | split

@[simp] theorem Device.longPacket_sound (d : Device) (rx vc dt : Nat) (payload : List Byte) (crcOk : Bool) (h : HeaderEcc) (room : Option Nat) (env : MemEnv) (hd : d.sound) : (Device.longPacket d rx vc dt payload crcOk h room env).sound := by
  unfold Device.longPacket
  try dsimp only
  repeat' first
    | (simp (maxDischargeDepth := 60) +contextual [*]; done)
    | split

@[simp] theorem Device.frameEnd_sound (d : Device) (rx vc : Nat) (h : HeaderEcc) (hd : d.sound) : (Device.frameEnd d rx vc h).sound := by
  unfold Device.frameEnd
  dsimp only
  refine ite_sound _ _ _ hd (ite_sound _ _ _ (by simp [*]) (ite_sound _ _ _ (by simp [*]) (Device.each_sound _ _ _ (by simp [*]) ?_)))
  intro d x hd
  repeat' first
    | (simp (maxDischargeDepth := 60) +contextual [*]; done)
    | split

@[simp] theorem Device.ethFrame_sound (d : Device) (port : Nat) (f : List Byte) (fcsOk : Bool) (room : Option Nat) (env : MemEnv) (hd : d.sound) : (Device.ethFrame d port f fcsOk room env).sound := by
  unfold Device.ethFrame
  refine ite_sound _ _ _ hd (ite_sound _ _ _ ?_ ?_)
  · exact ite_sound _ _ _ (Device.countEv_sound _ _ _ _ hd) (Device.tally_sound _ _ _ _ hd)
  split
  · exact Device.unbound_sound _ hd
  rename_i n hn
  refine ite_sound _ _ _ hd ?_
  extract_lets o st b0 src0 b src s x
  have hb : b.1.sound := by
    unfold b
    split
    · exact hd
    · exact Device.beginSample_sound d n 0 0 env hd
  have hs : s.1.sound := Device.storeData_sound _ _ _ _ _ _ hb
  exact ite_sound _ _ _ (Device.endSample_sound _ _ _ hs) (Device.putSample_sound _ _ _ hs)

@[simp] theorem Device.canFrame_sound (d : Device) (bus ident : Nat) (data : List Byte) (room : Option Nat) (env : MemEnv) (hd : d.sound) : (Device.canFrame d bus ident data room env).sound := by
  unfold Device.canFrame
  try dsimp only
  repeat' first
    | (simp (maxDischargeDepth := 60) +contextual [*]; done)
    | split

@[simp] theorem Device.spiReady_sound (d : Device) (port : Nat) (data : List Byte) (room : Option Nat) (env : MemEnv) (hd : d.sound) : (Device.spiReady d port data room env).sound := by
  unfold Device.spiReady
  try dsimp only
  repeat' first
    | (simp (maxDischargeDepth := 60) +contextual [*]; done)
    | split

@[simp] theorem Device.replayData_sound (d : Device) (x : Descriptor) (payload : List Byte) (env : MemEnv) (hd : d.sound) : (Device.replayData d x payload env).1.sound := by
  unfold Device.replayData
  try dsimp only
  repeat' first
    | (simp (maxDischargeDepth := 60) +contextual [*]; done)
    | split

@[simp] theorem Device.onIsl_sound (d : Device) (i : Island) (f : Isl → Isl) (hd : d.sound) : (Device.onIsl d i f).sound := by
  unfold Device.onIsl
  simp (maxDischargeDepth := 60) +contextual [*]

@[simp] theorem Device.setCause_sound (d : Device) (i : Island) (bit : Nat) (b : Bool) (hd : d.sound) : (Device.setCause d i bit b).sound := by
  unfold Device.setCause
  simp (maxDischargeDepth := 60) +contextual [*]

@[simp] theorem Device.streamFor_sound (d : Device) (reason : Nat) (hd : d.sound) : (Device.streamFor d reason).sound := by
  unfold Device.streamFor
  simp (maxDischargeDepth := 60) +contextual [*]

@[simp] theorem Device.streamEnd_sound (d : Device) (reasons : List Nat) (hd : d.sound) : (Device.streamEnd d reasons).sound := by
  unfold Device.streamEnd
  simp (maxDischargeDepth := 60) +contextual [*]

@[simp] theorem Device.toLookoutB_sound (d : Device) (traj back : List Byte) (intact : Bool) (hd : d.sound) : (Device.toLookoutB d traj back intact).sound := by
  unfold Device.toLookoutB
  simp (maxDischargeDepth := 60) +contextual [*]

@[simp] theorem Device.fallbackFrame_sound (d : Device) (age : Nat) (hd : d.sound) : (Device.fallbackFrame d age).sound := by
  unfold Device.fallbackFrame
  simp (maxDischargeDepth := 60) +contextual [*]

@[simp] theorem Device.substitute_sound (d : Device) (age : Nat) (hd : d.sound) : (Device.substitute d age).sound := by
  unfold Device.substitute
  simp (maxDischargeDepth := 60) +contextual [*]

@[simp] theorem Device.peerMessage_sound (d : Device) (i : Island) (hd : d.sound) : (Device.peerMessage d i).sound := by
  unfold Device.peerMessage
  try dsimp only
  repeat' first
    | (simp (maxDischargeDepth := 60) +contextual [*]; done)
    | split

@[simp] theorem Device.peerLost_sound (d : Device) (i : Island) (hd : d.sound) : (Device.peerLost d i).sound := by
  unfold Device.peerLost
  simp (maxDischargeDepth := 60) +contextual [*]

@[simp] theorem Device.sliceStart_sound (d : Device) (c : Nat) (inTime : Bool) (hd : d.sound) : (Device.sliceStart d c inTime).sound := by
  unfold Device.sliceStart
  try dsimp only
  repeat' first
    | (simp (maxDischargeDepth := 60) +contextual [*]; done)
    | split

@[simp] theorem Device.quarantineLogged_sound (d : Device) (c : Nat) (cause : Code) (hd : d.sound) : (Device.quarantineLogged d c cause).sound := by
  unfold Device.quarantineLogged
  simp (maxDischargeDepth := 60) +contextual [*]

@[simp] theorem Device.resolveMismatches_sound (d : Device) (c : Nat) (hd : d.sound) : (Device.resolveMismatches d c).sound := by
  unfold Device.resolveMismatches
  simp (maxDischargeDepth := 60) +contextual [*]

@[simp] theorem Device.sliceResult_sound (d : Device) (c slice : Nat) (passed : Bool) (hd : d.sound) : (Device.sliceResult d c slice passed).sound := by
  unfold Device.sliceResult
  simp (maxDischargeDepth := 60) +contextual [*]

@[simp] theorem Device.sliceComplete_sound (d : Device) (c : Nat) (passed : Bool) (hd : d.sound) : (Device.sliceComplete d c passed).sound := by
  unfold Device.sliceComplete
  try dsimp only
  repeat' first
    | (simp (maxDischargeDepth := 60) +contextual [*]; done)
    | split

@[simp] theorem Device.testRow_sound (d : Device) (c : Nat) (passed : Bool) (hd : d.sound) : (Device.testRow d c passed).sound := by
  unfold Device.testRow
  simp (maxDischargeDepth := 60) +contextual [*]

@[simp] theorem Device.lookoutWrite_sound (d : Device) (i : Island) (a : Nat) (bytes : List Byte) (env retry : MemEnv) (hd : d.sound) : (Device.lookoutWrite d i a bytes env retry).1.sound := by
  unfold Device.lookoutWrite
  simp (maxDischargeDepth := 60) +contextual [*]

@[simp] theorem Device.shedStage_sound (d : Device) (stage : Nat) (cores : Nat) (env retry : MemEnv) (hd : d.sound) : (Device.shedStage d stage cores env retry).sound := by
  unfold Device.shedStage
  simp (maxDischargeDepth := 60) +contextual [*]

@[simp] theorem Device.shedDue_sound (d : Device) (due : List Nat) (env retry : MemEnv) (hd : d.sound) : (Device.shedDue d due env retry).sound := by
  unfold Device.shedDue
  try dsimp only
  repeat' first
    | (simp (maxDischargeDepth := 60) +contextual [*]; done)
    | split

@[simp] theorem Device.watchdogFault_sound (d : Device) (s : Nat) (code : Code) (counter : Nat) (hd : d.sound) : (Device.watchdogFault d s code counter).sound := by
  unfold Device.watchdogFault
  simp (maxDischargeDepth := 60) +contextual [*]

@[simp] theorem Device.kickStage_sound (d : Device) (s us : Nat) (hd : d.sound) : (Device.kickStage d s us).sound := by
  unfold Device.kickStage
  dsimp only
  repeat' first
    | exact hd
    | apply ite_sound
    | apply Device.wr_sound
    | apply Device.watchdogFault_sound
    | apply Device.bumpWrap_sound
    | apply Device.onStrm_sound

@[simp] theorem Device.watchdogAction_sound (d : Device) (s : Nat) (code : Code) (hd : d.sound) : (Device.watchdogAction d s code).sound := by
  unfold Device.watchdogAction
  try dsimp only
  repeat' first
    | (simp (maxDischargeDepth := 60) +contextual [*]; done)
    | split

@[simp] theorem Device.appDemand_sound (d : Device) (i : Island) (x : AppDemand) (hd : d.sound) : (Device.appDemand d i x).sound := by
  unfold Device.appDemand
  try dsimp only
  repeat' first
    | (simp (maxDischargeDepth := 60) +contextual [*]; done)
    | split

@[simp] theorem Device.jobDone_sound (d : Device) (j : WorldJob) (status : Code) (instant : Nat) (out : Nat) (hd : d.sound) : (Device.jobDone d j status instant out).sound := by
  unfold Device.jobDone
  simp (maxDischargeDepth := 60) +contextual [*]

@[simp] theorem Device.worldRead_sound (d : Device) (a n : Nat) (env : MemEnv) (hd : d.sound) : (Device.worldRead d a n env).dev.sound := by
  unfold Device.worldRead
  simp (maxDischargeDepth := 60) +contextual [*]

@[simp] theorem Device.worldScan_sound (d : Device) (e : MemEnv) (l : List (Nat × Nat)) (hd : d.sound) : (d.worldScan e l).1.sound := by
  induction l generalizing d e with
  | nil => exact hd
  | cons p t ih => exact fst_ite_sound _ _ _ (ih _ _ (Device.worldRead_sound _ _ _ _ hd)) (Device.worldRead_sound _ _ _ _ hd)

@[simp] theorem Device.worldWrites_sound (d : Device) (e : MemEnv) (l : List (Nat × List Byte)) (hd : d.sound) :
    (d.worldWrites e l).1.sound := by
  induction l generalizing d e with
  | nil => exact hd
  | cons p t ih =>
    have h := Device.portWrite_sound d portWorld p.1 p.2 [] false e hd
    exact fst_ite_sound _ _ _ (ih _ _ h) (Device.regionFault_sound _ _ _ h)

@[simp] theorem Device.worldWrite_sound (d : Device) (a : Nat) (bytes : List Byte) (env : MemEnv) (hd : d.sound) : (Device.worldWrite d a bytes env).sound := by
  unfold Device.worldWrite
  simp (maxDischargeDepth := 60) +contextual [*]

@[simp] theorem Device.wheelCorrect_sound (d : Device) (tau : Int) (hd : d.sound) : (Device.wheelCorrect d tau).sound := by
  unfold Device.wheelCorrect
  try dsimp only
  repeat' first
    | (simp (maxDischargeDepth := 60) +contextual [*]; done)
    | split

@[simp] theorem Device.fusionEvent_sound (d : Device) (c : Code) (i : Nat) (hd : d.sound) : (Device.fusionEvent d c i).sound := by
  unfold Device.fusionEvent
  simp (maxDischargeDepth := 60) +contextual [*]

@[simp] theorem Device.unusable_sound (d : Device) (c : Code) (hd : d.sound) : (Device.unusable d c).sound := by
  unfold Device.unusable
  simp (maxDischargeDepth := 60) +contextual [*]

@[simp] theorem Device.resample_sound (d : Device) (pose : EgoEntry) (hd : d.sound) : (Device.resample d pose).sound := by
  unfold Device.resample
  try dsimp only
  repeat' first
    | (simp (maxDischargeDepth := 60) +contextual [*]; done)
    | split

@[simp] theorem Device.noteUsed_sound (d : Device) (n : Nat) (k : Option Nat) (hd : d.sound) : (Device.noteUsed d n k).sound := by
  unfold Device.noteUsed
  try dsimp only
  repeat' first
    | (simp (maxDischargeDepth := 60) +contextual [*]; done)
    | split

@[simp] theorem Device.addPacket_sound (d : Device) (x : LidarPacket) (hd : d.sound) : (Device.addPacket d x).1.sound := by
  unfold Device.addPacket
  extract_lets tau
  split
  · refine foldl_fst_sound _ _ _ (Device.noteUsed_sound _ _ _ hd) fun b x hb => ?_
    dsimp only
    repeat' first
      | (simp (maxDischargeDepth := 60) +contextual [*]; done)
      | split
  · simp [*]
  · exact hd

@[simp] theorem Device.birth_sound (d : Device) (e : EgoEntry) (m : Measurement) (hd : d.sound) : (Device.birth d e m).sound := by
  unfold Device.birth
  try dsimp only
  repeat' first
    | (simp (maxDischargeDepth := 60) +contextual [*]; done)
    | split

@[simp] theorem Device.contradict_sound (d : Device) (id : Nat) (x : Dispute) (hd : d.sound) : (Device.contradict d id x).sound := by
  unfold Device.contradict
  try dsimp only
  repeat' first
    | (simp (maxDischargeDepth := 60) +contextual [*]; done)
    | split

@[simp] theorem Device.classCheck_sound (d : Device) (k : Nat) (t : Track) (others : List Measurement) (m : Measurement) (hd : d.sound) : (Device.classCheck d k t others m).sound := by
  unfold Device.classCheck
  try dsimp only
  repeat' first
    | (simp (maxDischargeDepth := 60) +contextual [*]; done)
    | split

@[simp] theorem Device.listMeasurements_sound (d : Device) (e : EgoEntry) (packets : List LidarPacket) (x : DetectionList) (hd : d.sound) : (Device.listMeasurements d e packets x).1.sound := by
  unfold Device.listMeasurements
  refine foldl_fst_sound _ _ _ hd fun b x hb => ?_
  repeat' first
    | (simp (maxDischargeDepth := 60) +contextual [*]; done)
    | split

@[simp] theorem Device.fuseList_sound (d : Device) (k : Nat) (packets : List LidarPacket) (x : DetectionList) (hd : d.sound) : (Device.fuseList d k packets x).sound := by
  unfold Device.fuseList
  extract_lets tau
  split
  · simp [*]
  · extract_lets r live tracks got marked hit born
    have hr : r.1.sound := Device.listMeasurements_sound _ _ _ _ (Device.noteUsed_sound _ _ _ hd)
    have hh : hit.sound := by
      refine Device.each_sound _ _ _ (Device.onFusion_sound _ _ hr) fun d x h => ?_
      split
      · exact Device.onFusion_sound _ _ h
      · exact h
    have hb : born.sound := foldl_sound _ _ _ hh fun d m h => ite_sound _ _ _ h (Device.birth_sound _ _ _ h)
    refine Device.each_sound _ _ _ hb fun d x h => ?_
    split
    · exact Device.classCheck_sound _ _ _ _ _ h
    · exact h

@[simp] theorem Device.foldList_sound (d : Device) (x : DetectionList) (hd : d.sound) : (Device.foldList d x).sound := by
  unfold Device.foldList
  extract_lets tau
  split
  · exact hd
  · simp [*]
  · refine Device.each_sound _ _ _ (Device.listMeasurements_sound _ _ _ _ hd) fun d x h => ?_
    split
    · simp [h]
    · split
      · exact h
      · exact ite_sound _ _ _ (Device.onFusion_sound _ _ (Device.fusionEvent_sound _ _ _ h))
          (Device.onFusion_sound _ _ (Device.classCheck_sound _ _ _ _ _ h))

@[simp] theorem Device.occupancyCheck_sound (d : Device) (k : Nat) (e : EgoEntry) (slots : List Nat) (touched : List (Nat × List Nat)) (t : Track) (hd : d.sound) : (Device.occupancyCheck d k e slots touched t).sound := by
  unfold Device.occupancyCheck
  extract_lets cells p free
  refine ite_sound _ _ _ hd ?_
  split
  · exact Device.contradict_sound _ _ _ hd
  · exact hd

@[simp] theorem Device.paintDetections_sound (d : Device) (e : EgoEntry) (ms : List Measurement) (hd : d.sound) : (Device.paintDetections d e ms).sound := by
  unfold Device.paintDetections
  simp (maxDischargeDepth := 60) +contextual [*]

@[simp] theorem Device.dropLate_sound (d : Device) (hd : d.sound) : (Device.dropLate d).sound := by
  unfold Device.dropLate
  simp (maxDischargeDepth := 60) +contextual [*]

@[simp] theorem Device.retime_sound (d : Device) (k : Nat) (hd : d.sound) : (Device.retime d k).sound := by
  unfold Device.retime
  try dsimp only
  repeat' first
    | (simp (maxDischargeDepth := 60) +contextual [*]; done)
    | split

@[simp] theorem Device.pruneEgo_sound (d : Device) (tk : Int) (hd : d.sound) : (Device.pruneEgo d tk).sound := by
  unfold Device.pruneEgo
  try dsimp only
  repeat' first
    | (simp (maxDischargeDepth := 60) +contextual [*]; done)
    | split

@[simp] theorem Device.beginOutput_sound (d : Device) (env : MemEnv) (hd : d.sound) : (Device.beginOutput d env).sound := by
  unfold Device.beginOutput
  try dsimp only
  repeat' first
    | (simp (maxDischargeDepth := 60) +contextual [*]; done)
    | split

@[simp] theorem Device.closeInstant_sound (d0 : Device) (k : Nat) (guard : Bool) (env : MemEnv) (hd0 : d0.sound) : (Device.closeInstant d0 k guard env).sound := by
  unfold Device.closeInstant
  extract_lets tk horizon stale missing d folded d1 past d2 inK shut next
  split
  · exact hd0
  extract_lets d3 lists packets r d4 slots d5 lidars d6 d7 d8 d9 tracks disputes shown f flags used header live x d10
  have h0 : d.sound := Device.retime_sound _ _ hd0
  have h1 : d1.sound := Device.each_sound _ _ _ h0 fun d x h => Device.addPacket_sound _ _ h
  have h2 : d2.sound := Device.each_sound _ _ _ (Device.onFusion_sound _ _ h1) fun d x h => Device.foldList_sound _ _ h
  have h3 : d3.sound := Device.resample_sound _ _ h2
  have hr : r.1.sound := by
    unfold r
    exact foldl_fst_sound _ _ _ h3 fun b x hb => Device.addPacket_sound _ _ hb
  have h4 : d4.sound := Device.each_sound _ _ _ hr fun d x h => Device.fuseList_sound _ _ _ _ h
  have h5 : d5.sound := Device.onFusion_sound _ _ h4
  have h6 : d6.sound := Device.each_sound _ _ _ h5 fun d x h => Device.occupancyCheck_sound _ _ _ _ _ _ h
  have h7 : d7.sound := Device.onFusion_sound _ _ h6
  have h8 : d8.sound := Device.paintDetections_sound _ _ _ h7
  have h9 : d9.sound := by
    refine Device.each_sound _ _ _ h8 fun d x h => ?_
    dsimp only
    split
    · refine Device.onFusion_sound _ _ ?_
      split
      · exact Device.onFusion_sound _ _ h
      · exact h
    · split
      · exact Device.onFusion_sound _ _ h
      · exact h
  have h10 : d10.sound := Device.onFusion_sound _ _ (Device.pruneEgo_sound _ _ h9)
  exact ite_sound _ _ _ (Device.beginOutput_sound _ _ h10) h10

@[simp] theorem Device.closeLoop_sound (d : Device) (e : MemEnv) (n : Nat) (hd : d.sound) : (d.closeLoop e n).sound := by
  induction n generalizing d with
  | zero => exact hd
  | succ n ih =>
    unfold Device.closeLoop
    split
    · exact ite_sound _ _ _ (ih _ (Device.closeInstant_sound _ _ _ _ hd)) hd
    · exact hd

@[simp] theorem Device.closeCheck_sound (d : Device) (env : MemEnv) (hd : d.sound) : (Device.closeCheck d env).sound := by
  unfold Device.closeCheck
  try dsimp only
  repeat' first
    | (simp (maxDischargeDepth := 60) +contextual [*]; done)
    | split

@[simp] theorem Device.guardClose_sound (d : Device) (env : MemEnv) (hd : d.sound) : (Device.guardClose d env).sound := by
  unfold Device.guardClose
  try dsimp only
  repeat' first
    | (simp (maxDischargeDepth := 60) +contextual [*]; done)
    | split

@[simp] theorem Device.usableRecord_sound (d : Device) (n i : Nat) (env : MemEnv) (hd : d.sound) : (Device.usableRecord d n i env).1.sound := by
  unfold Device.usableRecord
  simp (maxDischargeDepth := 60) +contextual [*]

@[simp] theorem Device.sampleData_sound (d : Device) (slot i off n : Nat) (env : MemEnv) (hd : d.sound) : (Device.sampleData d slot i off n env).dev.sound := by
  unfold Device.sampleData
  simp (maxDischargeDepth := 60) +contextual [*]

@[simp] theorem Device.wheelsDue_sound (d : Device) (hd : d.sound) : (Device.wheelsDue d).sound := by
  unfold Device.wheelsDue
  try dsimp only
  repeat' first
    | (simp (maxDischargeDepth := 60) +contextual [*]; done)
    | split

@[simp] theorem Device.egoTake_sound (d : Device) (x : EgoSample) (hd : d.sound) : (Device.egoTake d x).1.sound := by
  unfold Device.egoTake
  try dsimp only
  repeat' first
    | (simp (maxDischargeDepth := 60) +contextual [*]; done)
    | split

@[simp] theorem Device.showHorizon_sound (d : Device) (hd : d.sound) : (Device.showHorizon d).sound := by
  unfold Device.showHorizon
  try dsimp only
  repeat' first
    | (simp (maxDischargeDepth := 60) +contextual [*]; done)
    | split

@[simp] theorem Device.egoReplay_sound (d : Device) (hd : d.sound) : (Device.egoReplay d).sound := by
  unfold Device.egoReplay
  try dsimp only
  repeat' first
    | (simp (maxDischargeDepth := 60) +contextual [*]; done)
    | split

@[simp] theorem Device.egoUsed_sound (d : Device) (x : EgoSample) (hd : d.sound) : (Device.egoUsed d x).sound := by
  unfold Device.egoUsed
  try dsimp only
  repeat' first
    | (simp (maxDischargeDepth := 60) +contextual [*]; done)
    | split

@[simp] theorem Device.imuSample_sound (d : Device) (n i : Nat) (env : MemEnv) (hd : d.sound) : (Device.imuSample d n i env).sound := by
  unfold Device.imuSample
  try dsimp only
  repeat' first
    | (simp (maxDischargeDepth := 60) +contextual [*]; done)
    | split

@[simp] theorem Device.wheelSample_sound (d : Device) (n i : Nat) (env : MemEnv) (hd : d.sound) : (Device.wheelSample d n i env).sound := by
  unfold Device.wheelSample
  try dsimp only
  repeat' first
    | (simp (maxDischargeDepth := 60) +contextual [*]; done)
    | split

@[simp] theorem Device.lidarPacket_sound (d : Device) (n i off : Nat) (env : MemEnv) (hd : d.sound) : (Device.lidarPacket d n i off env).sound := by
  unfold Device.lidarPacket
  refine ite_sound _ _ _ hd ?_
  have hu := Device.usableRecord_sound d n i env hd
  dsimp only
  split
  · exact hu
  · have hh := Device.sampleData_sound (d.usableRecord n i env).1 n i off 16 env hu
    refine ite_sound _ _ _ hh ?_
    have hx := Device.sampleData_sound _ n i (off + 16)
      (leAt ((d.usableRecord n i env).1.sampleData n i off 16 env).data 8 2) env hh
    refine ite_sound _ _ _ hx (Device.closeCheck_sound _ _ ?_)
    have h1 := fun f => Device.onFusion_sound _ f hx
    exact ite_sound _ _ _ (Device.onFusion_sound _ _ (h1 _))
      (ite_sound _ _ _ (Device.onFusion_sound _ _ (Device.fusionEvent_sound _ _ _ (h1 _))) (Device.dropLate_sound _ (h1 _)))

@[simp] theorem Device.detections_sound (d : Device) (j : WorldJob) (env : MemEnv) (hd : d.sound) : (Device.detections d j env).sound := by
  unfold Device.detections
  try dsimp only
  repeat' first
    | (simp (maxDischargeDepth := 60) +contextual [*]; done)
    | split

@[simp] theorem Device.awaitInstant_sound (d : Device) (j : WorldJob) (hd : d.sound) : (Device.awaitInstant d j).sound := by
  unfold Device.awaitInstant
  try dsimp only
  repeat' first
    | (simp (maxDischargeDepth := 60) +contextual [*]; done)
    | split

@[simp] theorem Device.fusionStart_sound (d : Device) (again : Bool) (hd : d.sound) : (Device.fusionStart d again).sound := by
  unfold Device.fusionStart
  try dsimp only
  repeat' first
    | (simp (maxDischargeDepth := 60) +contextual [*]; done)
    | split

@[simp] theorem Device.fusionTimeout_sound (d : Device) (hd : d.sound) : (Device.fusionTimeout d).sound := by
  unfold Device.fusionTimeout
  simp (maxDischargeDepth := 60) +contextual [*]

@[simp] theorem Device.fusionOff_sound (d : Device) (hd : d.sound) : (Device.fusionOff d).sound := by
  unfold Device.fusionOff
  simp (maxDischargeDepth := 60) +contextual [*]

@[simp] theorem Device.fusionDrain_sound (d : Device) (hd : d.sound) : (Device.fusionDrain d).sound := by
  unfold Device.fusionDrain
  try dsimp only
  repeat' first
    | (simp (maxDischargeDepth := 60) +contextual [*]; done)
    | split

@[simp] theorem Device.fusionCancel_sound (d : Device) (env : MemEnv) (hd : d.sound) : (Device.fusionCancel d env).sound := by
  unfold Device.fusionCancel
  try dsimp only
  repeat' first
    | (simp (maxDischargeDepth := 60) +contextual [*]; done)
    | split

@[simp] theorem Device.fusionRing_sound (d : Device) (x : ClosedInstant) (header grid : List Byte) (room : Bool) (hd : d.sound) : (Device.fusionRing d x header grid room).sound := by
  unfold Device.fusionRing
  simp (maxDischargeDepth := 60) +contextual [*]

@[simp] theorem Device.outputDone_sound (d : Device) (room : Bool) (env : MemEnv) (hd : d.sound) : (Device.outputDone d room env).1.sound := by
  unfold Device.outputDone
  try dsimp only
  repeat' first
    | (simp (maxDischargeDepth := 60) +contextual [*]; done)
    | split

@[simp] theorem Device.fusionWorldRestart_sound (d : Device) (hd : d.sound) : (Device.fusionWorldRestart d).sound := by
  unfold Device.fusionWorldRestart
  simp (maxDischargeDepth := 60) +contextual [*]

@[simp] theorem Device.planEvent_sound (d : Device) (c : Code) (i : Nat) (hd : d.sound) : (Device.planEvent d c i).sound := by
  unfold Device.planEvent
  simp (maxDischargeDepth := 60) +contextual [*]

@[simp] theorem Device.epochInvalid_sound (d : Device) (e : Nat) (env : MemEnv) (hd : d.sound) : (Device.epochInvalid d e env).sound := by
  unfold Device.epochInvalid
  simp (maxDischargeDepth := 60) +contextual [*]

@[simp] theorem Device.planOff_sound (d : Device) (env : MemEnv) (hd : d.sound) : (Device.planOff d env).sound := by
  unfold Device.planOff
  simp (maxDischargeDepth := 60) +contextual [*]

@[simp] theorem Device.planSettle_sound (d : Device) (env : MemEnv) (hd : d.sound) : (Device.planSettle d env).sound := by
  unfold Device.planSettle
  simp (maxDischargeDepth := 60) +contextual [*]

@[simp] theorem Device.buildCheck_sound (d : Device) (b : Build) (rest : List Build) (env : MemEnv) (hd : d.sound) : (Device.buildCheck d b rest env).sound := by
  unfold Device.buildCheck
  try dsimp only
  repeat' first
    | (simp (maxDischargeDepth := 60) +contextual [*]; done)
    | split

@[simp] theorem Device.buildJob_sound (d : Device) (j : WorldJob) (env : MemEnv) (hd : d.sound) : (Device.buildJob d j env).sound := by
  unfold Device.buildJob
  simp (maxDischargeDepth := 60) +contextual [*]

@[simp] theorem Device.buildStart_sound (d0 : Device) (env : MemEnv) (hd0 : d0.sound) : (Device.buildStart d0 env).sound := by
  unfold Device.buildStart
  try dsimp only
  repeat' first
    | (simp (maxDischargeDepth := 60) +contextual [*]; done)
    | split

@[simp] theorem Device.epochComplete_sound (d : Device) (env : MemEnv) (hd : d.sound) : (Device.epochComplete d env).sound := by
  unfold Device.epochComplete
  try dsimp only
  repeat' first
    | (simp (maxDischargeDepth := 60) +contextual [*]; done)
    | split

@[simp] theorem Device.takeSettings_sound (d : Device) (hd : d.sound) : (Device.takeSettings d).sound := by
  unfold Device.takeSettings
  simp (maxDischargeDepth := 60) +contextual [*]

@[simp] theorem Device.planStart_sound (d : Device) (hd : d.sound) : (Device.planStart d).sound := by
  unfold Device.planStart
  try dsimp only
  repeat' first
    | (simp (maxDischargeDepth := 60) +contextual [*]; done)
    | split

@[simp] theorem Device.latticeBegin_sound (d : Device) (hd : d.sound) : (Device.latticeBegin d).sound := by
  unfold Device.latticeBegin
  simp (maxDischargeDepth := 60) +contextual [*]

@[simp] theorem Device.latticeDescriptor_sound (d : Device) (x : Descriptor) (addrOk : Bool) (payload : List Byte) (env : MemEnv) (full : Bool) (hd : d.sound) : (Device.latticeDescriptor d x addrOk payload env full).sound := by
  unfold Device.latticeDescriptor
  simp (maxDischargeDepth := 60) +contextual [*]

@[simp] theorem Device.onCycle_sound (d : Device) (f : Cycle → Cycle) (hd : d.sound) : (Device.onCycle d f).sound := by
  unfold Device.onCycle
  simp (maxDischargeDepth := 60) +contextual [*]

@[simp] theorem Device.choose_sound (d : Device) (c : Cycle) (job : Option WorldJob) (status flags : Nat) (x : Choice) (env : MemEnv) (hd : d.sound) : (Device.choose d c job status flags x env).sound := by
  unfold Device.choose
  simp (maxDischargeDepth := 60) +contextual [*]

@[simp] theorem Device.noPath_sound (d : Device) (c : Cycle) (job : Option WorldJob) (status flags : Nat) (env : MemEnv) (hd : d.sound) : (Device.noPath d c job status flags env).sound := by
  unfold Device.noPath
  try dsimp only
  repeat' first
    | (simp (maxDischargeDepth := 60) +contextual [*]; done)
    | split

@[simp] theorem Device.deadlineNoPath_sound (d : Device) (c : Cycle) (env : MemEnv) (hd : d.sound) : (Device.deadlineNoPath d c env).sound := by
  unfold Device.deadlineNoPath
  try dsimp only
  repeat' first
    | (simp (maxDischargeDepth := 60) +contextual [*]; done)
    | split

@[simp] theorem Device.expandStart_sound (d : Device) (c : Cycle) (j : WorldJob) (env : MemEnv) (hd : d.sound) : (Device.expandStart d c j env).sound := by
  unfold Device.expandStart
  try dsimp only
  repeat' first
    | (simp (maxDischargeDepth := 60) +contextual [*]; done)
    | split

@[simp] theorem Device.expandJob_sound (d : Device) (j : WorldJob) (env : MemEnv) (hd : d.sound) : (Device.expandJob d j env).sound := by
  unfold Device.expandJob
  try dsimp only
  repeat' first
    | (simp (maxDischargeDepth := 60) +contextual [*]; done)
    | split

@[simp] theorem Device.finalCheck_sound (d : Device) (c : Cycle) (order : List Survivor) (job : Option WorldJob) (flags : Nat) (env : MemEnv) (hd : d.sound) : (Device.finalCheck d c order job flags env).sound := by
  unfold Device.finalCheck
  try dsimp only
  repeat' first
    | (simp (maxDischargeDepth := 60) +contextual [*]; done)
    | split

@[simp] theorem Device.selectRun_sound (d : Device) (c : Cycle) (j : WorldJob) (env : MemEnv) (hd : d.sound) : (Device.selectRun d c j env).sound := by
  unfold Device.selectRun
  try dsimp only
  repeat' first
    | (simp (maxDischargeDepth := 60) +contextual [*]; done)
    | split

@[simp] theorem Device.selectJob_sound (d : Device) (j : WorldJob) (env : MemEnv) (hd : d.sound) : (Device.selectJob d j env).sound := by
  unfold Device.selectJob
  try dsimp only
  repeat' first
    | (simp (maxDischargeDepth := 60) +contextual [*]; done)
    | split

@[simp] theorem Device.expandDone_sound (d : Device) (env : MemEnv) (hd : d.sound) : (Device.expandDone d env).sound := by
  unfold Device.expandDone
  try dsimp only
  repeat' first
    | (simp (maxDischargeDepth := 60) +contextual [*]; done)
    | split

@[simp] theorem Device.planDeadline_sound (d : Device) (env : MemEnv) (hd : d.sound) : (Device.planDeadline d env).sound := by
  unfold Device.planDeadline
  try dsimp only
  repeat' first
    | (simp (maxDischargeDepth := 60) +contextual [*]; done)
    | split

@[simp] theorem Device.queueFrame_sound (d : Device) (record : List Byte) (o : Nat) (hd : d.sound) : (Device.queueFrame d record o).sound := by
  unfold Device.queueFrame
  simp (maxDischargeDepth := 60) +contextual [*]

@[simp] theorem Device.frameDropped_sound (d : Device) (o : Nat) (hd : d.sound) : (Device.frameDropped d o).sound := by
  unfold Device.frameDropped
  simp (maxDischargeDepth := 60) +contextual [*]

@[simp] theorem Device.recordDone_sound (d : Device) (room intact : Bool) (env : MemEnv) (hd : d.sound) : (Device.recordDone d room intact env).sound := by
  unfold Device.recordDone
  try dsimp only
  repeat' first
    | (simp (maxDischargeDepth := 60) +contextual [*]; done)
    | split

@[simp] theorem Device.cycleBegin_sound (d : Device) (k : Nat) (header : List Byte) (room : Bool) (env : MemEnv) (hd : d.sound) : (Device.cycleBegin d k header room env).sound := by
  unfold Device.cycleBegin
  try dsimp only
  repeat' first
    | (simp (maxDischargeDepth := 60) +contextual [*]; done)
    | split

@[simp] theorem Device.planDrain_sound (d : Device) (env : MemEnv) (hd : d.sound) : (Device.planDrain d env).sound := by
  unfold Device.planDrain
  try dsimp only
  repeat' first
    | (simp (maxDischargeDepth := 60) +contextual [*]; done)
    | split

@[simp] theorem Device.planCancel_sound (d : Device) (room : Bool) (env : MemEnv) (hd : d.sound) : (Device.planCancel d room env).sound := by
  unfold Device.planCancel
  simp (maxDischargeDepth := 60) +contextual [*]

@[simp] theorem Device.planWorldRestart_sound (d : Device) (hd : d.sound) : (Device.planWorldRestart d).sound := by
  unfold Device.planWorldRestart
  simp (maxDischargeDepth := 60) +contextual [*]

@[simp] theorem Device.replayDescriptor_sound (d : Device) (x : Descriptor) (addrOk : Bool) (payload : List Byte) (env : MemEnv) (full : Bool) (hd : d.sound) : (Device.replayDescriptor d x addrOk payload env full).sound := by
  unfold Device.replayDescriptor
  simp (maxDischargeDepth := 60) +contextual [*]

@[simp] theorem Device.dispatchJob_sound (d : Device) (hd : d.sound) : (Device.dispatchJob d).sound := by
  unfold Device.dispatchJob
  try dsimp only
  repeat' first
    | (simp (maxDischargeDepth := 60) +contextual [*]; done)
    | split

@[simp] theorem Device.withJob_sound (d : Device) (cls : Nat) (busy : Bool) (f : Device → WorldJob → Device) (hd : d.sound) (hf : ∀ (d : Device) x, d.sound → (f d x).sound) : (Device.withJob d cls busy f).sound := by
  unfold Device.withJob
  try dsimp only
  repeat' first
    | (simp (maxDischargeDepth := 60) +contextual [*]; done)
    | split

@[simp] theorem Device.worldRestart_sound (d : Device) (hd : d.sound) : (Device.worldRestart d).sound := by
  unfold Device.worldRestart
  simp (maxDischargeDepth := 60) +contextual [*]

@[simp] theorem Device.instantOutput_sound (d : Device) (room planRoom : Bool) (env : MemEnv) (hd : d.sound) : (Device.instantOutput d room planRoom env).sound := by
  unfold Device.instantOutput
  try dsimp only
  repeat' first
    | (simp (maxDischargeDepth := 60) +contextual [*]; done)
    | split

@[simp] theorem Device.dispose_sound (d : Device) (seq code : Nat) (estimate : Nat) (hd : d.sound) : (Device.dispose d seq code estimate).sound := by
  unfold Device.dispose
  simp (maxDischargeDepth := 60) +contextual [*]

@[simp] theorem Device.showQueue_sound (d : Device) (hd : d.sound) : (Device.showQueue d).sound := by
  unfold Device.showQueue
  simp (maxDischargeDepth := 60) +contextual [*]

@[simp] theorem Device.wardenStore_sound (d : Device) (a : Nat) (bytes : List Byte) (hd : d.sound) : (Device.wardenStore d a bytes).sound := by
  unfold Device.wardenStore
  simp (maxDischargeDepth := 60) +contextual [*]

@[simp] theorem Device.jobStart_sound (d : Device) (hd : d.sound) : (Device.jobStart d).sound := by
  unfold Device.jobStart
  try dsimp only
  repeat' first
    | (simp (maxDischargeDepth := 60) +contextual [*]; done)
    | split

@[simp] theorem Device.clearSequence_sound (d : Device) (s : Nat) (hd : d.sound) : (Device.clearSequence d s).sound := by
  unfold Device.clearSequence
  simp (maxDischargeDepth := 60) +contextual [*]

@[simp] theorem Device.finishSequence_sound (d : Device) (s : Nat) (hd : d.sound) : (Device.finishSequence d s).sound := by
  unfold Device.finishSequence
  simp (maxDischargeDepth := 60) +contextual [*]

@[simp] theorem Device.serveRequest_sound (d : Device) (r : JobReq) (hd : d.sound) : (Device.serveRequest d r).sound := by
  unfold Device.serveRequest
  simp (maxDischargeDepth := 60) +contextual [*]

@[simp] theorem Device.judgeAdmission_sound (d : Device) (r : JobReq) (hd : d.sound) : (Device.judgeAdmission d r).1.sound := by
  unfold Device.judgeAdmission
  simp (maxDischargeDepth := 60) +contextual [*]

@[simp] theorem Device.jobDescriptor_sound (d : Device) (op : Nat) (x : Descriptor) (addrOk : Bool) (payload : List Byte) (full : Bool) (env : MemEnv) (hd : d.sound) : (Device.jobDescriptor d op x addrOk payload full env).sound := by
  unfold Device.jobDescriptor
  extract_lets r code s n req move data w a
  refine ite_sound _ _ _ hd (ite_sound _ _ _ (ite_sound _ _ _ (Device.ringBad_sound _ _ _ _ _ hd) hd)
    (ite_sound _ _ _ hd ?_))
  refine ite_sound _ _ _ (ite_sound _ _ _ ?_ ?_) ?_
  · exact Device.ringDone_sound _ _ _ _ _ _ _ (Device.finishSequence_sound _ _ hd)
  · exact Device.ringDone_sound _ _ _ _ _ _ _ (Device.bump_sound _ _ hd)
  have hw : w.1.sound := by
    unfold w
    split
    · exact Device.portWrite_sound _ _ _ _ _ _ _ hd
    · exact hd
  refine ite_sound _ _ _ (Device.ringDone_sound _ _ _ _ _ _ _ hw) ?_
  exact Device.ringDone_sound _ _ _ _ _ _ _ (Device.judgeAdmission_sound _ _ hw)

@[simp] theorem Device.requeuePreempted_sound (d : Device) (hd : d.sound) : (Device.requeuePreempted d).sound := by
  unfold Device.requeuePreempted
  simp (maxDischargeDepth := 60) +contextual [*]

@[simp] theorem Device.takeTokens_sound (d : Device) (abandoned : Bool) (l : List TokenEntry) (hd : d.sound) : (Device.takeTokens d abandoned l).sound := by
  unfold Device.takeTokens
  simp (maxDischargeDepth := 60) +contextual [*]

@[simp] theorem Device.jobOut_sound (d : Device) (rec_ list : List Byte) (room : Bool) (hd : d.sound) : (Device.jobOut d rec_ list room).sound := by
  unfold Device.jobOut
  simp (maxDischargeDepth := 60) +contextual [*]

@[simp] theorem Device.stepBoundary_sound (d : Device) (hd : d.sound) : (Device.stepBoundary d).sound := by
  unfold Device.stepBoundary
  simp (maxDischargeDepth := 60) +contextual [*]

@[simp] theorem Device.readStep_sound (d : Device) (n : Nat) (env : MemEnv) (hd : d.sound) : (Device.readStep d n env).1.sound := by
  unfold Device.readStep
  try dsimp only
  repeat' first
    | (simp (maxDischargeDepth := 60) +contextual [*]; done)
    | split

@[simp] theorem Device.takeStep_sound (d : Device) (n : Nat) (room : Bool) (hd : d.sound) : (Device.takeStep d n room).sound := by
  unfold Device.takeStep
  try dsimp only
  repeat' first
    | (simp (maxDischargeDepth := 60) +contextual [*]; done)
    | split

@[simp] theorem Device.checkpoint_sound (d : Device) (final : Bool) (hd : d.sound) : (Device.checkpoint d final).sound := by
  unfold Device.checkpoint
  simp (maxDischargeDepth := 60) +contextual [*]

@[simp] theorem Device.checkpointDue_sound (d : Device) (room : Bool) (hd : d.sound) : (Device.checkpointDue d room).sound := by
  unfold Device.checkpointDue
  simp (maxDischargeDepth := 60) +contextual [*]

@[simp] theorem Device.jobClose_sound (d : Device) (disp : Nat) (hd : d.sound) : (Device.jobClose d disp).sound := by
  unfold Device.jobClose
  simp (maxDischargeDepth := 60) +contextual [*]

@[simp] theorem Device.clearLocal_sound (d : Device) (hd : d.sound) : (Device.clearLocal d).sound := by
  unfold Device.clearLocal
  have h := SMap.wf_map_filter (fun k : Core => { k with lm := [], poison := [], sems := [], bars := [] }) {} d.cores hd.2.1.1
  exact ⟨hd.1, ⟨h, hd.2.1.2⟩, hd.2.2⟩

@[simp] theorem Device.tenantWipe_sound (d : Device) (hd : d.sound) : (Device.tenantWipe d).sound := by
  unfold Device.tenantWipe
  simp (maxDischargeDepth := 60) +contextual [*]

@[simp] theorem Device.jobOff_sound (d : Device) (hd : d.sound) : (Device.jobOff d).sound := by
  unfold Device.jobOff
  simp (maxDischargeDepth := 60) +contextual [*]

@[simp] theorem Device.jobRow3_sound (d : Device) (hd : d.sound) : (Device.jobRow3 d).sound := by
  unfold Device.jobRow3
  simp (maxDischargeDepth := 60) +contextual [*]

@[simp] theorem Device.jobClosing_sound (d : Device) (room : Bool) (hd : d.sound) : (Device.jobClosing d room).sound := by
  unfold Device.jobClosing
  try dsimp only
  repeat' first
    | (simp (maxDischargeDepth := 60) +contextual [*]; done)
    | split

@[simp] theorem Device.jobSettle_sound (d : Device) (hd : d.sound) : (Device.jobSettle d).sound := by
  unfold Device.jobSettle
  simp (maxDischargeDepth := 60) +contextual [*]

@[simp] theorem Device.admitQueued_sound (l : List JobReq) (d : Device) (hd : d.sound) : (d.admitQueued l).sound := by
  induction l generalizing d with
  | nil => exact hd
  | cons q t ih => exact ite_sound _ _ _ (ih _ (by simp [*])) (ite_sound _ _ _ (ih _ (by simp (maxDischargeDepth := 9) [*])) hd)

@[simp] theorem Device.takeSteps_sound (d : Device) (room : Bool) (e : MemEnv) (n : Nat) (hd : d.sound) : (d.takeSteps room e n).sound := by
  induction n generalizing d with
  | zero => exact hd
  | succ n ih =>
    have h := Device.readStep_sound d (d.rd Reg.STEPS_TAKEN + 1) e hd
    exact ite_sound _ _ _ (ite_sound _ _ _ (ih _ (Device.takeStep_sound _ _ _ h)) h) hd

@[simp] theorem Device.jobIteration_sound (d : Device) (outRoom ckptRoom : Bool) (env : MemEnv) (hd : d.sound) : (Device.jobIteration d outRoom ckptRoom env).sound := by
  unfold Device.jobIteration
  simp (maxDischargeDepth := 60) +contextual [*]

@[simp] theorem Device.yieldForced_sound (d : Device) (hd : d.sound) : (Device.yieldForced d).sound := by
  unfold Device.yieldForced
  simp (maxDischargeDepth := 60) +contextual [*]

@[simp] theorem Device.finalLost_sound (d : Device) (hd : d.sound) : (Device.finalLost d).sound := by
  unfold Device.finalLost
  simp (maxDischargeDepth := 60) +contextual [*]

@[simp] theorem Device.jobDrain_sound (d : Device) (hd : d.sound) : (Device.jobDrain d).sound := by
  unfold Device.jobDrain
  simp (maxDischargeDepth := 60) +contextual [*]

@[simp] theorem Device.jobCancel_sound (d : Device) (hd : d.sound) : (Device.jobCancel d).sound := by
  unfold Device.jobCancel
  simp (maxDischargeDepth := 60) +contextual [*]

@[simp] theorem Device.jobLost_sound (d : Device) (hd : d.sound) : (Device.jobLost d).sound := by
  unfold Device.jobLost
  simp (maxDischargeDepth := 60) +contextual [*]

@[simp] theorem Device.ackCheckpoint_sound (d : Device) (v : Nat) (hd : d.sound) : (Device.ackCheckpoint d v).1.sound := by
  unfold Device.ackCheckpoint
  simp (maxDischargeDepth := 60) +contextual [*]

@[simp] theorem Device.attestStart_sound (d : Device) (nonce : List Byte) (hd : d.sound) : (Device.attestStart d nonce).sound := by
  unfold Device.attestStart
  simp (maxDischargeDepth := 60) +contextual [*]

@[simp] theorem Device.attestReady_sound (d : Device) (signature : List Byte) (hd : d.sound) : (Device.attestReady d signature).sound := by
  unfold Device.attestReady
  try dsimp only
  repeat' first
    | (simp (maxDischargeDepth := 60) +contextual [*]; done)
    | split

@[simp] theorem Device.linkStart_sound (d : Device) (p : Fin 4) (hd : d.sound) : (Device.linkStart d p).sound := by
  unfold Device.linkStart
  simp (maxDischargeDepth := 60) +contextual [*]

@[simp] theorem Device.refuseRequest_sound (d : Device) (x : LinkPacket) (code : Code) (hd : d.sound) : (Device.refuseRequest d x code).sound := by
  unfold Device.refuseRequest
  simp (maxDischargeDepth := 60) +contextual [*]

@[simp] theorem Device.endRequests_sound (d : Device) (p : Nat) (code : Code) (hd : d.sound) : (Device.endRequests d p code).sound := by
  unfold Device.endRequests
  simp (maxDischargeDepth := 60) +contextual [*]

@[simp] theorem Device.linkSettle_sound (d : Device) (p : Fin 4) (hd : d.sound) : (Device.linkSettle d p).sound := by
  unfold Device.linkSettle
  simp (maxDischargeDepth := 60) +contextual [*]

@[simp] theorem Device.linkDrain_sound (d : Device) (p : Fin 4) (hd : d.sound) : (Device.linkDrain d p).sound := by
  unfold Device.linkDrain
  simp (maxDischargeDepth := 60) +contextual [*]

@[simp] theorem Device.linkCancel_sound (d : Device) (p : Fin 4) (hd : d.sound) : (Device.linkCancel d p).sound := by
  unfold Device.linkCancel
  simp (maxDischargeDepth := 60) +contextual [*]

@[simp] theorem Device.linkFault_sound (d : Device) (p : Fin 4) (code : Code) (hd : d.sound) : (Device.linkFault d p code).sound := by
  unfold Device.linkFault
  simp (maxDischargeDepth := 60) +contextual [*]

@[simp] theorem Device.linkFail_sound (d : Device) (p : Fin 4) (hd : d.sound) : (Device.linkFail d p).sound := by
  unfold Device.linkFail
  simp (maxDischargeDepth := 60) +contextual [*]

@[simp] theorem Device.freeCredit_sound (d : Device) (p : Nat) (x : LinkPacket) (hd : d.sound) : (Device.freeCredit d p x).sound := by
  unfold Device.freeCredit
  simp (maxDischargeDepth := 60) +contextual [*]

@[simp] theorem Device.countAnswer_sound (d : Device) (p : Nat) (x : LinkPacket) (code : Code) (hd : d.sound) : (Device.countAnswer d p x code).sound := by
  unfold Device.countAnswer
  simp (maxDischargeDepth := 60) +contextual [*]

@[simp] theorem Device.linkPerform_sound (d : Device) (p : Nat) (x : LinkPacket) (e : MemEnv) (hd : d.sound) : (Device.linkPerform d p x e).1.sound := by
  unfold Device.linkPerform
  refine fst_ite_sound _ _ _ hd (fst_ite_sound _ _ _ (by simp [*]) ?_)
  have h := Device.deliver_sound d (portLink p) x e hd
  split <;> rename_i heq <;> rw [heq] at h <;> simp (maxDischargeDepth := 60) +contextual [*]

@[simp] theorem Device.retryPort_sound (d : Device) (p : Nat) (hd : d.sound) : (Device.retryPort d p).sound := by
  unfold Device.retryPort
  simp (maxDischargeDepth := 60) +contextual [*]

@[simp] theorem Device.linkForward_sound (d : Device) (p : Nat) (x : LinkPacket) (hd : d.sound) : (Device.linkForward d p x).sound := by
  unfold Device.linkForward
  try dsimp only
  repeat' first
    | (simp (maxDischargeDepth := 60) +contextual [*]; done)
    | split

@[simp] theorem Device.linkArrive_sound (d : Device) (p : Fin 4) (typ : Nat) (a : LinkArrival) (here : Device → LinkPacket → Device) (hd : d.sound) (hhere : ∀ (d : Device) x, d.sound → (here d x).sound) : (Device.linkArrive d p typ a here).sound := by
  unfold Device.linkArrive
  simp (maxDischargeDepth := 60) +contextual [*]

@[simp] theorem Device.linkRequest_sound (d : Device) (p : Nat) (x : LinkPacket) (e : MemEnv) (hd : d.sound) : (Device.linkRequest d p x e).sound := by
  unfold Device.linkRequest
  simp (maxDischargeDepth := 60) +contextual [*]

@[simp] theorem Device.linkAnswer_sound (d : Device) (p : Nat) (x : LinkPacket) (hd : d.sound) : (Device.linkAnswer d p x).sound := by
  unfold Device.linkAnswer
  simp (maxDischargeDepth := 60) +contextual [*]

@[simp] theorem Device.linkCredit_sound (d : Device) (p : Nat) (lane n : Nat) (hd : d.sound) : (Device.linkCredit d p lane n).sound := by
  unfold Device.linkCredit
  simp (maxDischargeDepth := 60) +contextual [*]

@[simp] theorem Device.linkRetrained_sound (d : Device) (p : Fin 4) (ok : Bool) (hd : d.sound) : (Device.linkRetrained d p ok).sound := by
  unfold Device.linkRetrained
  simp (maxDischargeDepth := 60) +contextual [*]

@[simp] theorem Device.guestSend_sound (d : Device) (x : GuestPacket) (hd : d.sound) : (Device.guestSend d x).sound := by
  unfold Device.guestSend
  simp (maxDischargeDepth := 60) +contextual [*]

@[simp] theorem Device.guestFence_sound (d : Device) (hd : d.sound) : (Device.guestFence d).sound := by
  unfold Device.guestFence
  simp (maxDischargeDepth := 60) +contextual [*]

@[simp] theorem Device.guestFailure_sound (d : Device) (hd : d.sound) : (Device.guestFailure d).sound := by
  unfold Device.guestFailure
  simp (maxDischargeDepth := 60) +contextual [*]

@[simp] theorem Device.guestRetrain_sound (d : Device) (hd : d.sound) : (Device.guestRetrain d).sound := by
  unfold Device.guestRetrain
  simp (maxDischargeDepth := 60) +contextual [*]

@[simp] theorem Device.guestGrant_sound (d : Device) (hd : d.sound) : (Device.guestGrant d).sound := by
  unfold Device.guestGrant
  simp (maxDischargeDepth := 60) +contextual [*]

@[simp] theorem Device.guestStart_sound (d : Device) (hd : d.sound) : (Device.guestStart d).sound := by
  unfold Device.guestStart
  simp (maxDischargeDepth := 60) +contextual [*]

@[simp] theorem Device.guestSettle_sound (d : Device) (hd : d.sound) : (Device.guestSettle d).sound := by
  unfold Device.guestSettle
  simp (maxDischargeDepth := 60) +contextual [*]

@[simp] theorem Device.guestDrain_sound (d : Device) (hd : d.sound) : (Device.guestDrain d).sound := by
  unfold Device.guestDrain
  simp (maxDischargeDepth := 60) +contextual [*]

@[simp] theorem Device.guestAnswer_sound (d : Device) (x : GuestPacket) (code : Code) (hd : d.sound) : (Device.guestAnswer d x code).sound := by
  unfold Device.guestAnswer
  simp (maxDischargeDepth := 60) +contextual [*]

@[simp] theorem Device.guestCancel_sound (d : Device) (hd : d.sound) : (Device.guestCancel d).sound := by
  unfold Device.guestCancel
  simp (maxDischargeDepth := 60) +contextual [*]

@[simp] theorem Device.guestAttempt_failed_sound (d : Device) (hd : d.sound) : (Device.guestAttempt.failed d).sound := by
  unfold Device.guestAttempt.failed
  simp (maxDischargeDepth := 60) +contextual [*]

@[simp] theorem Device.guestAttempt_sound (d : Device) (t : GuestTraining) (hd : d.sound) : (Device.guestAttempt d t).sound := by
  unfold Device.guestAttempt
  try dsimp only
  repeat' first
    | (simp (maxDischargeDepth := 60) +contextual [*]; done)
    | split

@[simp] theorem Device.guestFree_sound (d : Device) (x : GuestPacket) (hd : d.sound) : (Device.guestFree d x).sound := by
  unfold Device.guestFree
  simp (maxDischargeDepth := 60) +contextual [*]

@[simp] theorem Device.guestSixteen_sound (d : Device) (n : Nat) (hd : d.sound) : (Device.guestSixteen d n).sound := by
  unfold Device.guestSixteen
  simp (maxDischargeDepth := 60) +contextual [*]

@[simp] theorem Device.guestPerform_sound (d : Device) (x : GuestPacket) (e : MemEnv) (hd : d.sound) : (Device.guestPerform d x e).1.sound := by
  unfold Device.guestPerform
  extract_lets base size n outside d2 d3 d4
  refine fst_ite_sound _ _ _ (fst_ite_sound _ _ _ (by simp [*]) ?_) ?_
  · have h := Device.chanWrite_sound d (ChanWrite.mk true x.channel x.epoch 64 0 0 x.addr x.data (bitList x.poison 8) x.last) hd
    split <;> rename_i heq <;> rw [heq] at h
    · exact h
    · simp (maxDischargeDepth := 60) +contextual [*]
  · refine fst_ite_sound _ _ _ (by simp (maxDischargeDepth := 60) [*]) (fst_ite_sound _ _ _ hd (fst_ite_sound _ _ _ (by simp [*]) ?_))
    refine fst_ite_sound _ _ _ ?_ ?_
    · exact Device.guestFree_sound _ _ (Device.guestSend_sound _ _ (Device.memRead_sound _ _ _ _ _ _ _ (Device.issued_sound _ _ _ hd)))
    · exact Device.guestFree_sound _ _ (Device.guestAnswer_sound _ _ _
        (Device.memWrite_sound _ _ _ _ _ _ _ _ (Device.issued_sound _ _ _ hd)))

@[simp] theorem Device.guestArrive_sound (d : Device) (typ : Nat) (a : GuestArrival) (act : Device → GuestPacket → Device) (hd : d.sound) (hact : ∀ (d : Device) x, d.sound → (act d x).sound) : (Device.guestArrive d typ a act).sound := by
  unfold Device.guestArrive
  simp (maxDischargeDepth := 60) +contextual [*]

@[simp] theorem Device.guestRequest_sound (d : Device) (x : GuestPacket) (e : MemEnv) (hd : d.sound) : (Device.guestRequest d x e).sound := by
  unfold Device.guestRequest
  simp (maxDischargeDepth := 60) +contextual [*]

@[simp] theorem Device.retryGuest_sound (d : Device) (hd : d.sound) : (Device.retryGuest d).sound := by
  unfold Device.retryGuest
  simp (maxDischargeDepth := 60) +contextual [*]

@[simp] theorem Device.retryHeld_sound (d : Device) (hd : d.sound) : (Device.retryHeld d).sound := by
  unfold Device.retryHeld
  simp (maxDischargeDepth := 60) +contextual [*]

@[simp] theorem Device.railRead_sound (d : Device) (i : Nat) (x : RailRead) (hd : d.sound) : (Device.railRead d i x).sound := by
  unfold Device.railRead
  try dsimp only
  repeat' first
    | (simp (maxDischargeDepth := 60) +contextual [*]; done)
    | split

@[simp] theorem Device.vrAlert_sound (d : Device) (segment : Nat) (rails : List Nat) (hd : d.sound) : (Device.vrAlert d segment rails).sound := by
  unfold Device.vrAlert
  simp (maxDischargeDepth := 60) +contextual [*]

@[simp] theorem Device.powerRead_sound (d : Device) (m : MgmtInput) (hd : d.sound) : (Device.powerRead d m).sound := by
  unfold Device.powerRead
  simp (maxDischargeDepth := 60) +contextual [*]

@[simp] theorem Device.coolantReport_sound (d : Device) (v : Nat) (hd : d.sound) : (Device.coolantReport d v).sound := by
  unfold Device.coolantReport
  simp (maxDischargeDepth := 60) +contextual [*]

@[simp] theorem Device.capLapse_sound (d : Device) (hd : d.sound) : (Device.capLapse d).sound := by
  unfold Device.capLapse
  simp (maxDischargeDepth := 60) +contextual [*]

@[simp] theorem Device.coolantStale_sound (d : Device) (hd : d.sound) : (Device.coolantStale d).sound := by
  unfold Device.coolantStale
  simp (maxDischargeDepth := 60) +contextual [*]

@[simp] theorem Device.capEntry_sound (d : Device) (hd : d.sound) : (Device.capEntry d).sound := by
  unfold Device.capEntry
  simp (maxDischargeDepth := 60) +contextual [*]

@[simp] theorem Device.coolantIteration_sound (d : Device) (ms : Nat) (hd : d.sound) : (Device.coolantIteration d ms).sound := by
  unfold Device.coolantIteration
  simp (maxDischargeDepth := 60) +contextual [*]

@[simp] theorem Device.capLoop_sound (d : Device) (hd : d.sound) : (Device.capLoop d).sound := by
  unfold Device.capLoop
  try dsimp only
  repeat' first
    | (simp (maxDischargeDepth := 60) +contextual [*]; done)
    | split

@[simp] theorem Device.setTemp_sound (d : Device) (s : Nat) (t : Int) (hd : d.sound) : (Device.setTemp d s t).sound := by
  unfold Device.setTemp
  simp (maxDischargeDepth := 60) +contextual [*]

@[simp] theorem Device.setStackTemp_sound (d : Device) (s : Nat) (t : Int) (hd : d.sound) : (Device.setStackTemp d s t).sound := by
  unfold Device.setStackTemp
  simp (maxDischargeDepth := 60) +contextual [*]

@[simp] theorem Device.judgeSensor_sound (d : Device) (s : Nat) (hd : d.sound) : (Device.judgeSensor d s).sound := by
  unfold Device.judgeSensor
  simp (maxDischargeDepth := 60) +contextual [*]

@[simp] theorem Device.softThermal_sound (d : Device) (r : Nat) (hd : d.sound) : (Device.softThermal d r).sound := by
  unfold Device.softThermal
  simp (maxDischargeDepth := 60) +contextual [*]

@[simp] theorem Device.thermalIteration_sound (d : Device) (m : MgmtInput) (hd : d.sound) : (Device.thermalIteration d m).sound := by
  unfold Device.thermalIteration
  try dsimp only
  repeat' first
    | (simp (maxDischargeDepth := 60) +contextual [*]; done)
    | split

@[simp] theorem Device.setThrottle_sound (d : Device) (bit : Nat) (b : Bool) (hd : d.sound) : (Device.setThrottle d bit b).sound := by
  unfold Device.setThrottle
  simp (maxDischargeDepth := 60) +contextual [*]

@[simp] theorem Device.ocIteration_sound (d : Device) (low : Nat) (hd : d.sound) : (Device.ocIteration d low).sound := by
  unfold Device.ocIteration
  simp (maxDischargeDepth := 60) +contextual [*]

@[simp] theorem Device.ageField_sound (d : Device) (off n v : Nat) (hd : d.sound) : (Device.ageField d off n v).sound := by
  unfold Device.ageField
  simp (maxDischargeDepth := 60) +contextual [*]

@[simp] theorem Device.ageCount_sound (d : Device) (off : Nat) (n : Nat) (hd : d.sound) : (Device.ageCount d off n).sound := by
  unfold Device.ageCount
  simp (maxDischargeDepth := 60) +contextual [*]

@[simp] theorem Device.ageMeasure_sound (d : Device) (r now : Nat) (hd : d.sound) : (Device.ageMeasure d r now).sound := by
  unfold Device.ageMeasure
  simp (maxDischargeDepth := 60) +contextual [*]

@[simp] theorem Device.ageAll_sound (d : Device) (ro : List (BitVec 32)) (hd : d.sound) : (Device.ageAll d ro).sound := by
  unfold Device.ageAll
  simp (maxDischargeDepth := 60) +contextual [*]

@[simp] theorem Device.ageStart_sound (d : Device) (ro : List (BitVec 32)) (hd : d.sound) : (Device.ageStart d ro).sound := by
  unfold Device.ageStart
  simp (maxDischargeDepth := 60) +contextual [*]

@[simp] theorem Device.ageIteration_sound (d : Device) (ro : List (BitVec 32)) (ms : Nat) (hd : d.sound) : (Device.ageIteration d ro ms).sound := by
  unfold Device.ageIteration
  simp (maxDischargeDepth := 60) +contextual [*]

@[simp] theorem Device.powerIteration_sound (d : Device) (m : MgmtInput) (hd : d.sound) : (Device.powerIteration d m).sound := by
  unfold Device.powerIteration
  simp (maxDischargeDepth := 60) +contextual [*]

@[simp] theorem Device.powerRestart_sound (d : Device) (hd : d.sound) : (Device.powerRestart d).sound := by
  unfold Device.powerRestart
  simp (maxDischargeDepth := 60) +contextual [*]

@[simp] theorem Device.powerCold_sound (d : Device) (hd : d.sound) : (Device.powerCold d).sound := by
  unfold Device.powerCold
  simp (maxDischargeDepth := 60) +contextual [*]

@[simp] theorem Device.sensorReads_sound (d : Device) (s : Nat) (t : Int) (hd : d.sound) : (Device.sensorReads d s t).sound := by
  unfold Device.sensorReads
  simp (maxDischargeDepth := 60) +contextual [*]

@[simp] theorem Device.sendNode_sound (d : Device) (n : Fin 8) (frame : List Byte) (hd : d.sound) : (Device.sendNode d n frame).sound := by
  unfold Device.sendNode
  simp (maxDischargeDepth := 60) +contextual [*]

@[simp] theorem Device.sendAbort_sound (d : Device) (n : Fin 8) (txn k : Nat) (code owner : Code) (hd : d.sound) : (Device.sendAbort d n txn k code owner).sound := by
  unfold Device.sendAbort
  simp (maxDischargeDepth := 60) +contextual [*]

@[simp] theorem Device.abortSession_sound (d : Device) (n : Fin 8) (code : Code) (hd : d.sound) : (Device.abortSession d n code).sound := by
  unfold Device.abortSession
  try dsimp only
  repeat' first
    | (simp (maxDischargeDepth := 60) +contextual [*]; done)
    | split

@[simp] theorem Device.hamperStart_sound (d : Device) (hd : d.sound) : (Device.hamperStart d).sound := by
  unfold Device.hamperStart
  simp (maxDischargeDepth := 60) +contextual [*]

@[simp] theorem Device.ringBegin_sound (d : Device) (r : RingId) (hd : d.sound) : (Device.ringBegin d r).sound := by
  unfold Device.ringBegin
  simp (maxDischargeDepth := 60) +contextual [*]

@[simp] theorem Device.fnStart_sound (d : Device) (f : FnId) (hd : d.sound) : (Device.fnStart d f).sound := by
  unfold Device.fnStart
  try dsimp only
  repeat' first
    | (simp (maxDischargeDepth := 60) +contextual [*]; done)
    | split

@[simp] theorem Device.settleFieldNet_sound (d : Device) (hd : d.sound) : (Device.settleFieldNet d).sound := by
  unfold Device.settleFieldNet
  try dsimp only
  repeat' first
    | (simp (maxDischargeDepth := 60) +contextual [*]; done)
    | split

@[simp] theorem Device.fieldNetDrain_sound (d : Device) (hd : d.sound) : (Device.fieldNetDrain d).sound := by
  unfold Device.fieldNetDrain
  simp (maxDischargeDepth := 60) +contextual [*]

@[simp] theorem Device.fieldNetCancel_sound (d : Device) (hd : d.sound) : (Device.fieldNetCancel d).sound := by
  unfold Device.fieldNetCancel
  try dsimp only
  repeat' first
    | (simp (maxDischargeDepth := 60) +contextual [*]; done)
    | split

@[simp] theorem Device.fnDrain_sound (d : Device) (f : FnId) (hd : d.sound) : (Device.fnDrain d f).sound := by
  unfold Device.fnDrain
  try dsimp only
  repeat' first
    | (simp (maxDischargeDepth := 60) +contextual [*]; done)
    | split

@[simp] theorem Device.runCancel_sound (d : Device) (hd : d.sound) : (Device.runCancel d).sound := by
  unfold Device.runCancel
  simp (maxDischargeDepth := 60) +contextual [*]

@[simp] theorem Device.hamperCancel_sound (d : Device) (hd : d.sound) : (Device.hamperCancel d).sound := by
  unfold Device.hamperCancel
  simp (maxDischargeDepth := 60) +contextual [*]

@[simp] theorem Device.fnCancel_sound (d : Device) (f : FnId) (tags : List (BitVec 32)) (full room : Bool) (env : MemEnv) (hd : d.sound) : (Device.fnCancel d f tags full room env).sound := by
  unfold Device.fnCancel
  try dsimp only
  repeat' first
    | (simp (maxDischargeDepth := 60) +contextual [*]; done)
    | split

@[simp] theorem Device.fnClear_sound (d : Device) (f : FnId) (hd : d.sound) : (Device.fnClear d f).sound := by
  unfold Device.fnClear
  split <;> simp (maxDischargeDepth := 60) [*]

@[simp] theorem Device.writeEnable_sound (d : Device) (f : FnId) (v : Nat) (hd : d.sound) : (Device.writeEnable d f v).sound := by
  unfold Device.writeEnable
  try dsimp only
  repeat' first
    | (simp (maxDischargeDepth := 60) +contextual [*]; done)
    | split

@[simp] theorem Device.startFunctions_sound (d : Device) (hd : d.sound) : (Device.startFunctions d).sound := by
  unfold Device.startFunctions
  refine Device.each_sound _ _ _ hd fun d x hd => ?_
  split <;> simp (maxDischargeDepth := 60) [*]

@[simp] theorem Device.loaderSays_sound (d : Device) (e : LoadError) (hd : d.sound) : (Device.loaderSays d e).sound := by
  unfold Device.loaderSays
  simp (maxDischargeDepth := 60) +contextual [*]

@[simp] theorem Device.showReceived_sound (d : Device) (hd : d.sound) : (Device.showReceived d).sound := by
  unfold Device.showReceived
  simp (maxDischargeDepth := 60) +contextual [*]

@[simp] theorem Device.receive_sound (d : Device) (off : Nat) (bytes : List Byte) (hd : d.sound) : (Device.receive d off bytes).1.sound := by
  unfold Device.receive
  try dsimp only
  repeat' first
    | (simp (maxDischargeDepth := 60) +contextual [*]; done)
    | split

@[simp] theorem Device.uploadDescriptor_sound (d : Device) (x : Descriptor) (addrOk : Bool) (payload : List Byte) (full : Bool) (hd : d.sound) : (Device.uploadDescriptor d x addrOk payload full).sound := by
  unfold Device.uploadDescriptor
  simp (maxDischargeDepth := 60) +contextual [*]

@[simp] theorem Device.publishImage_sound (d : Device) (img : List Byte) (hd : d.sound) : (Device.publishImage d img).sound := by
  unfold Device.publishImage
  simp (maxDischargeDepth := 60) +contextual [*]

@[simp] theorem Device.loadData_sound (d : Device) (img : List Byte) (e : MemEnv) (hd : d.sound) : (Device.loadData d img e).1.sound := by
  unfold Device.loadData
  simp (maxDischargeDepth := 60) +contextual [*]

@[simp] theorem Device.acceptImage_sound (d : Device) (img : List Byte) (e : MemEnv) (hd : d.sound) : (Device.acceptImage d img e).1.sound := by
  unfold Device.acceptImage
  extract_lets r
  have h : r.1.sound := Device.loadData_sound _ _ _ hd
  split
  · exact h
  · exact Device.publishImage_sound _ _ h

@[simp] theorem Device.expandLanes_sound (d : Device) (v : Variant) (cores : List Nat) (hd : d.sound) : (Device.expandLanes d v cores).sound := by
  unfold Device.expandLanes
  simp (maxDischargeDepth := 60) +contextual [*]

@[simp] theorem Device.expandChip_sound (d : Device) (v : Variant) (hd : d.sound) : (Device.expandChip d v).sound := by
  unfold Device.expandChip
  simp (maxDischargeDepth := 60) +contextual [*]

@[simp] theorem Device.writeLocalInit_sound (d : Device) (cores : List Nat) (hd : d.sound) : (Device.writeLocalInit d cores).sound := by
  unfold Device.writeLocalInit
  simp (maxDischargeDepth := 60) +contextual [*]

@[simp] theorem Device.resetStream_sound (d : Device) (hd : d.sound) : (Device.resetStream d).sound := by
  unfold Device.resetStream
  simp (maxDischargeDepth := 60) +contextual [*]

@[simp] theorem Device.coldReset_sound (d : Device) (hd : d.sound) : (Device.coldReset d).sound := by
  unfold Device.coldReset
  have h1 := Device.resetStream_sound d hd
  refine Device.disarmAll_sound _ (Device.setCause_sound _ _ _ _ (Device.setCause_sound _ _ _ _ ?_))
  exact ⟨⟨SMap.wf_keep _ _ _ h1.1.1, SMap.wf_keep _ _ _ h1.1.2.1, rfl, rfl, h1.1.2.2.2.2⟩, ⟨rfl, rfl, rfl⟩, rfl, rfl⟩

@[simp] theorem Device.tripReset_sound (d : Device) (hd : d.sound) : (Device.tripReset d).sound := by
  unfold Device.tripReset
  simp (maxDischargeDepth := 60) +contextual [*]

@[simp] theorem Device.timeStep_sound (d : Device) (n us : Nat) (hd : d.sound) : (Device.timeStep d n us).sound := by
  unfold Device.timeStep
  simp (maxDischargeDepth := 60) +contextual [*]

@[simp] theorem Device.atStep_sound (d : Device) (n : Nat) (hd : d.sound) : (Device.atStep d n).sound := by
  unfold Device.atStep
  simp (maxDischargeDepth := 60) +contextual [*]

@[simp] theorem Device.closeUpload_sound (d : Device) (hd : d.sound) : (Device.closeUpload d).sound := by
  unfold Device.closeUpload
  try dsimp only
  repeat' first
    | (simp (maxDischargeDepth := 60) +contextual [*]; done)
    | split

@[simp] theorem Device.thStop_sound (d : Device) (c : Code) (d0 : Nat) (d1 : Nat) (hd : d.sound) : (Device.thStop d c d0 d1).sound := by
  unfold Device.thStop
  simp (maxDischargeDepth := 60) +contextual [*]

@[simp] theorem Device.beginStep5_sound (d : Device) (hd : d.sound) : (Device.beginStep5 d).sound := by
  unfold Device.beginStep5
  simp (maxDischargeDepth := 60) +contextual [*]

@[simp] theorem Device.advanceEarly_sound (d : Device) (hd : d.sound) : (Device.advanceEarly d).sound := by
  unfold Device.advanceEarly
  simp (maxDischargeDepth := 60) +contextual [*]

@[simp] theorem Device.coldStart_sound (d : Device) (hd : d.sound) : (Device.coldStart d).sound := by
  unfold Device.coldStart
  simp (maxDischargeDepth := 60) +contextual [*]

@[simp] theorem Device.openWindow_sound (d : Device) (w : CfgWindow) (host : Bool) (hd : d.sound) : (Device.openWindow d w host).sound := by
  unfold Device.openWindow
  simp (maxDischargeDepth := 60) +contextual [*]

@[simp] theorem Device.takeSnapshot_sound (d : Device) (hd : d.sound) : (Device.takeSnapshot d).sound := by
  unfold Device.takeSnapshot
  simp (maxDischargeDepth := 60) +contextual [*]

@[simp] theorem Device.chooseMap_sound (d : Device) (hd : d.sound) : (Device.chooseMap d).sound := by
  unfold Device.chooseMap
  simp (maxDischargeDepth := 60) +contextual [*]

@[simp] theorem Device.trainedNow_sound (d : Device) (hd : d.sound) : (Device.trainedNow d).sound := by
  unfold Device.trainedNow
  simp (maxDischargeDepth := 60) +contextual [*]

@[simp] theorem Device.newKeys_sound (d : Device) (hd : d.sound) : (Device.newKeys d).sound := by
  unfold Device.newKeys
  try dsimp only
  repeat' first
    | (simp (maxDischargeDepth := 60) +contextual [*]; done)
    | split

@[simp] theorem Device.dramStep_sound (d : Device) (sensed : List Int) (failed : List Nat) (channels : List Byte) (hd : d.sound) : (Device.dramStep d sensed failed channels).sound := by
  unfold Device.dramStep
  simp (maxDischargeDepth := 60) +contextual [*]

@[simp] theorem Device.failCores_sound (d : Device) (l : List Nat) (hd : d.sound) : (Device.failCores d l).sound := by
  unfold Device.failCores
  simp (maxDischargeDepth := 60) +contextual [*]

@[simp] theorem Device.ageFree_sound (d : Device) (hd : d.sound) : (Device.ageFree d).sound := by
  unfold Device.ageFree
  simp (maxDischargeDepth := 60) +contextual [*]

@[simp] theorem Device.assignRoles_sound (d : Device) (hd : d.sound) : (Device.assignRoles d).sound := by
  unfold Device.assignRoles
  simp (maxDischargeDepth := 60) +contextual [*]

@[simp] theorem Device.trainLinks_sound (d : Device) (hd : d.sound) : (Device.trainLinks d).sound := by
  unfold Device.trainLinks
  simp (maxDischargeDepth := 60) +contextual [*]

@[simp] theorem Device.beginFetch_sound (d : Device) (hd : d.sound) : (Device.beginFetch d).sound := by
  unfold Device.beginFetch
  simp (maxDischargeDepth := 60) +contextual [*]

@[simp] theorem Device.lanesStep_sound (d : Device) (hd : d.sound) : (Device.lanesStep d).sound := by
  unfold Device.lanesStep
  simp (maxDischargeDepth := 60) +contextual [*]

@[simp] theorem Device.imageFailed_sound (d : Device) (c : Code) (d0 : Nat) (hd : d.sound) : (Device.imageFailed d c d0).sound := by
  unfold Device.imageFailed
  simp (maxDischargeDepth := 60) +contextual [*]

@[simp] theorem Device.fetched_sound (d : Device) (us : Nat) (hd : d.sound) : (Device.fetched d us).sound := by
  unfold Device.fetched
  simp (maxDischargeDepth := 60) +contextual [*]

@[simp] theorem Device.flashImage_sound (d : Device) (bytes : List Byte) (us : Nat) (hd : d.sound) : (Device.flashImage d bytes us).sound := by
  unfold Device.flashImage
  simp (maxDischargeDepth := 60) +contextual [*]

@[simp] theorem Device.hostImage_sound (d : Device) (us : Nat) (hd : d.sound) : (Device.hostImage d us).sound := by
  unfold Device.hostImage
  simp (maxDischargeDepth := 60) +contextual [*]

@[simp] theorem Device.verifyStep_sound (d : Device) (certOk sigOk : Bool) (e : MemEnv) (us : Nat) (hd : d.sound) : (Device.verifyStep d certOk sigOk e us).sound := by
  unfold Device.verifyStep
  extract_lets img d1 refuse
  have hr : ∀ d x, d.sound → (refuse d x).sound := fun d x h => by simp (maxDischargeDepth := 60) [refuse, h]
  have h1 : d1.sound := Device.timeStep_sound _ _ _ hd
  split
  · exact hr _ _ h1
  have h := Device.acceptImage_sound (d1.onLoader fun l => { l with image := img }) img e (Device.onLoader_sound _ _ h1)
  split <;> rename_i heq <;> rw [heq] at h
  · exact hr _ _ h
  · simp (maxDischargeDepth := 60) [h]

@[simp] theorem Device.takeModes_sound (d : Device) (hd : d.sound) : (Device.takeModes d).sound := by
  unfold Device.takeModes
  try dsimp only
  repeat' first
    | (simp (maxDischargeDepth := 60) +contextual [*]; done)
    | split

@[simp] theorem Device.chooseVariant_sound (d : Device) (hd : d.sound) : (Device.chooseVariant d).sound := by
  unfold Device.chooseVariant
  simp (maxDischargeDepth := 60) +contextual [*]

@[simp] theorem Device.seedCore_sound (d : Device) (n : Nat) (hd : d.sound) : (Device.seedCore d n).sound := by
  unfold Device.seedCore
  simp (maxDischargeDepth := 60) +contextual [*]

@[simp] theorem Device.seedCores_sound (d : Device) (l : List Nat) (hd : d.sound) : (Device.seedCores d l).sound := by
  unfold Device.seedCores
  simp (maxDischargeDepth := 60) +contextual [*]

@[simp] theorem Device.publishFunctions_sound (d : Device) (functions : Nat) (hd : d.sound) : (Device.publishFunctions d functions).sound := by
  unfold Device.publishFunctions
  simp (maxDischargeDepth := 60) +contextual [*]

@[simp] theorem Device.coreStart_sound (d : Device) (mask c : Nat) (hd : d.sound) : (Device.coreStart d mask c).sound := by
  unfold Device.coreStart
  simp (maxDischargeDepth := 60) +contextual [*]

@[simp] theorem Device.runOn_sound (d : Device) (hd : d.sound) : (Device.runOn d).sound := by
  unfold Device.runOn
  simp (maxDischargeDepth := 60) +contextual [*]

@[simp] theorem Device.runFaults_sound (d : Device) (hd : d.sound) : (Device.runFaults d).sound := by
  unfold Device.runFaults
  try dsimp only
  repeat' first
    | (simp (maxDischargeDepth := 60) +contextual [*]; done)
    | split

@[simp] theorem Device.runStart_sound (d : Device) (silent : List Nat) (hd : d.sound) : (Device.runStart d silent).sound := by
  unfold Device.runStart
  try dsimp only
  repeat' first
    | (simp (maxDischargeDepth := 60) +contextual [*]; done)
    | split

@[simp] theorem Device.startFirmware_sound (d : Device) (i : Island) (version : Nat) (hd : d.sound) : (Device.startFirmware d i version).sound := by
  unfold Device.startFirmware
  simp (maxDischargeDepth := 60) +contextual [*]

@[simp] theorem Device.entryStep_sound (d : Device) (fwA fwB : Nat) (silent : List Nat) (us : Nat) (hd : d.sound) : (Device.entryStep d fwA fwB silent us).sound := by
  unfold Device.entryStep
  simp (maxDischargeDepth := 60) +contextual [*]

@[simp] theorem Device.startRings_sound (d : Device) (hd : d.sound) : (Device.startRings d).sound := by
  unfold Device.startRings
  try dsimp only
  repeat' first
    | (simp (maxDischargeDepth := 60) +contextual [*]; done)
    | split

@[simp] theorem Device.closeWindow_sound (d : Device) (hd : d.sound) : (Device.closeWindow d).sound := by
  unfold Device.closeWindow
  simp (maxDischargeDepth := 60) +contextual [*]

@[simp] theorem Device.recordRefused_sound (d : Device) (i : Nat) (hd : d.sound) : (Device.recordRefused d i).sound := by
  unfold Device.recordRefused
  simp (maxDischargeDepth := 60) +contextual [*]

@[simp] theorem Device.ucieStep_sound (d : Device) (hd : d.sound) : (Device.ucieStep d).sound := by
  unfold Device.ucieStep
  simp (maxDischargeDepth := 60) +contextual [*]

@[simp] theorem Device.romFail_sound (d : Device) (i : Island) (hd : d.sound) : (Device.romFail d i).sound := by
  unfold Device.romFail
  simp (maxDischargeDepth := 60) +contextual [*]

@[simp] theorem Device.stepFail_sound (d : Device) (step detail : Nat) (hd : d.sound) : (Device.stepFail d step detail).sound := by
  unfold Device.stepFail
  try dsimp only
  repeat' first
    | (simp (maxDischargeDepth := 60) +contextual [*]; done)
    | split

@[simp] theorem Device.transitionOver_sound (d : Device) (us : Nat) (code : Code) (hd : d.sound) : (Device.transitionOver d us code).sound := by
  unfold Device.transitionOver
  simp (maxDischargeDepth := 60) +contextual [*]

@[simp] theorem Device.enterPersonality_sound (d : Device) (p : Personality) (hd : d.sound) : (Device.enterPersonality d p).sound := by
  unfold Device.enterPersonality
  simp (maxDischargeDepth := 60) +contextual [*]

@[simp] theorem Device.edgeDrain_sound (d : Device) (hd : d.sound) : (Device.edgeDrain d).sound := by
  unfold Device.edgeDrain
  simp (maxDischargeDepth := 60) +contextual [*]

@[simp] theorem Device.edgeStep_sound (d : Device) (hd : d.sound) : (Device.edgeStep d).sound := by
  unfold Device.edgeStep
  simp (maxDischargeDepth := 60) +contextual [*]

@[simp] theorem Device.edgeBegin_sound (d : Device) (t : Transition) (hd : d.sound) : (Device.edgeBegin d t).sound := by
  unfold Device.edgeBegin
  simp (maxDischargeDepth := 60) +contextual [*]

@[simp] theorem Device.clearFloorCache_sound (d : Device) (hd : d.sound) : (Device.clearFloorCache d).sound := by
  unfold Device.clearFloorCache
  simp (maxDischargeDepth := 60) +contextual [*]

@[simp] theorem Device.overnightEnter_sound (d : Device) (us : Nat) (hd : d.sound) : (Device.overnightEnter d us).sound := by
  unfold Device.overnightEnter
  simp (maxDischargeDepth := 60) +contextual [*]

@[simp] theorem Device.serviceEnter_sound (d : Device) (us : Nat) (hd : d.sound) : (Device.serviceEnter d us).sound := by
  unfold Device.serviceEnter
  simp (maxDischargeDepth := 60) +contextual [*]

@[simp] theorem Device.restoreDrive_sound (d : Device) (hd : d.sound) : (Device.restoreDrive d).sound := by
  unfold Device.restoreDrive
  exact ⟨⟨restoreDict_wf _ _ (SMap.wf_keep _ _ _ hd.1.1), restoreBlobs_wf _ _ (SMap.wf_keep _ _ _ hd.1.2.1), hd.1.2.2⟩, hd.2⟩

@[simp] theorem Device.yieldBegin_sound (d : Device) (hd : d.sound) : (Device.yieldBegin d).sound := by
  unfold Device.yieldBegin
  have h : (((d.setTransition .yielding).onBoot fun b => { b with begunIn := 0 }).wr Reg.CAP_GRANTED 0).sound :=
    Device.wr_sound _ _ _ (Device.setTransition_sound d .yielding hd)
  generalize ((d.setTransition .yielding).onBoot fun b => { b with begunIn := 0 }).wr Reg.CAP_GRANTED 0 = d1 at h
  exact ite_sound _ _ _ (Device.jobClose_sound _ _ h) (ite_sound _ _ _ (Device.stopStream_sound _ h) h)

@[simp] theorem Device.yieldEnd_sound (d : Device) (us : Nat) (bad : Option Nat) (silent : List Nat) (hd : d.sound) : (Device.yieldEnd d us bad silent).sound := by
  unfold Device.yieldEnd
  have h1 : (if d.fn .job = .off then d.tenantWipe else d.jobOff).clearFloorCache.sound :=
    Device.clearFloorCache_sound _ (ite_sound _ _ _ (Device.tenantWipe_sound _ hd) (Device.jobOff_sound _ hd))
  extract_lets d1 d2 d3 d4 d5 d6
  have h2 : d2.sound := Device.onLoader_sound _ _ (Device.wrAll_sound _ _ h1)
  split
  · simp (maxDischargeDepth := 60) [h2]
  · have h3 := Device.transitionOver_sound _ us 0 (Device.enterPersonality_sound _ .drive (Device.chooseVariant_sound _
      (Device.restoreDrive_sound _ (Device.publishImage_sound _ d2.loader.image h2))))
    exact Device.runStart_sound _ _ (Device.each_sound _ _ _ h3 fun d r h => Device.divUpdate_sound d r false h)

@[simp] theorem Device.transitionEnd_sound (d : Device) (us : Nat) (bad : Option Nat) (silent : List Nat) (hd : d.sound) : (Device.transitionEnd d us bad silent).sound := by
  unfold Device.transitionEnd
  try dsimp only
  repeat' first
    | (simp (maxDischargeDepth := 60) +contextual [*]; done)
    | split

@[simp] theorem Device.warmBegin_sound (d : Device) (t : Transition) (endIn : Nat) (hd : d.sound) : (Device.warmBegin d t endIn).sound := by
  unfold Device.warmBegin
  have h0 : (if d.personality = .drive then d.streamFor reasonWarm else d).sound :=
    ite_sound _ _ _ (Device.streamFor_sound _ _ hd) hd
  have h1 : (if d.personality = .overnight then (if d.personality = .drive then d.streamFor reasonWarm else d).jobLost.tenantWipe
      else (if d.personality = .drive then d.streamFor reasonWarm else d)).sound :=
    ite_sound _ _ _ (Device.tenantWipe_sound _ (Device.jobLost_sound _ h0)) h0
  dsimp only
  generalize (if d.personality = .overnight then (if d.personality = .drive then d.streamFor reasonWarm else d).jobLost.tenantWipe
      else (if d.personality = .drive then d.streamFor reasonWarm else d)) = d1 at h1
  refine Device.tellFunctions_sound _ (Device.disarmAll_sound _ (Device.powerRestart_sound _ (Device.bump_sound _ _ ?_)))
  refine ite_sound _ _ _ (Device.setFn_sound _ _ _ (Device.wrAll_sound _ _ ?_)) (Device.wrAll_sound _ _ ?_) <;>
  exact ⟨⟨restoreDict_wf _ _ (SMap.wf_keep _ _ _ h1.1.1), restoreBlobs_wf _ _ (SMap.wf_keep _ _ _ h1.1.2.1), rfl, rfl, h1.1.2.2.2.2⟩,
    ⟨rfl, rfl, h1.2.1.2.2⟩, by
      rw [Memory.wf_mk, Bool.and_eq_true, Bool.and_eq_true]
      exact ⟨⟨Device.sound_dram h1, rfl⟩, SMap.wf_keep _ _ _ (Device.sound_poison h1)⟩, h1.2.2.2⟩

@[simp] theorem Device.warmFail_sound (d : Device) (detail : Nat) (hd : d.sound) : (Device.warmFail d detail).sound := by
  unfold Device.warmFail
  simp (maxDischargeDepth := 60) +contextual [*]

@[simp] theorem Device.warmEnd_sound (d : Device) (us : Nat) (failing : List Nat) (bad : Option Nat) (silent : List Nat) (hd : d.sound) : (Device.warmEnd d us failing bad silent).sound := by
  unfold Device.warmEnd
  try dsimp only
  repeat' first
    | (simp (maxDischargeDepth := 60) +contextual [*]; done)
    | split

@[simp] theorem Device.loseWrites_sound (d : Device) (lines : List Nat) (hd : d.sound) : (Device.loseWrites d lines).sound := by
  unfold Device.loseWrites
  try dsimp only
  repeat' first
    | (simp (maxDischargeDepth := 60) +contextual [*]; done)
    | split

@[simp] theorem Device.regionBegin_sound (d : Device) (r : Region) (hd : d.sound) : (Device.regionBegin d r).sound := by
  unfold Device.regionBegin
  simp (maxDischargeDepth := 60) +contextual [*]

@[simp] theorem Device.computeReload_sound (d : Device) (r : Nat) (failing : List Nat) (hd : d.sound) : (Device.computeReload d r failing).sound := by
  unfold Device.computeReload
  have h : ({ d with cores := SMap.keep d.cores (fun c => decide (c / 16 ≠ r))
                     links := { d.links with requests := d.links.requests.filter (fun q => decide (q.core / 16 ≠ r)) } } : Device).sound :=
    ⟨hd.1, ⟨SMap.wf_keep _ _ (fun c => decide (c / 16 ≠ r)) hd.2.1.1, hd.2.1.2⟩, hd.2.2⟩
  generalize ({ d with cores := SMap.keep d.cores (fun c => decide (c / 16 ≠ r))
                       links := { d.links with requests := d.links.requests.filter (fun q => decide (q.core / 16 ≠ r)) } } : Device) = e at h
  dsimp only
  refine Device.hamperRestart_sound _ _ (Device.writeLocalInit_sound _ _ (Device.expandLanes_sound _ _ _ ?_))
  simp (maxDischargeDepth := 60) +contextual [*]

@[simp] theorem Device.portAReload_sound (d : Device) (hd : d.sound) : (Device.portAReload d).sound := by
  unfold Device.portAReload
  simp (maxDischargeDepth := 60) +contextual [*]

@[simp] theorem Device.regionReload_sound (d : Device) (r : Region) (failing : List Nat) (hd : d.sound) : (Device.regionReload d r failing).sound := by
  unfold Device.regionReload
  try dsimp only
  repeat' first
    | (simp (maxDischargeDepth := 60) +contextual [*]; done)
    | split

@[simp] theorem Device.regionRestart_sound (d : Device) (failing : List Nat) (hd : d.sound) : (Device.regionRestart d failing).sound := by
  unfold Device.regionRestart
  try dsimp only
  repeat' first
    | (simp (maxDischargeDepth := 60) +contextual [*]; done)
    | split

@[simp] theorem Device.regionResume_sound (d : Device) (us : Nat) (hd : d.sound) : (Device.regionResume d us).sound := by
  unfold Device.regionResume
  try dsimp only
  repeat' first
    | (simp (maxDischargeDepth := 60) +contextual [*]; done)
    | split

@[simp] theorem Device.logVerdict_sound (d : Device) (q : Requester) (v : Verdict) (hd : d.sound) : (Device.logVerdict d q v).sound := by
  unfold Device.logVerdict
  try dsimp only
  repeat' first
    | (simp (maxDischargeDepth := 60) +contextual [*]; done)
    | split

@[simp] theorem Device.setLast_sound (d : Device) (q : Requester) (k : Nat) (v : Verdict) (hd : d.sound) : (Device.setLast d q k v).sound := by
  unfold Device.setLast
  simp (maxDischargeDepth := 60) +contextual [*]

@[simp] theorem Device.request_sound (d : Device) (v : Nat) (hd : d.sound) : (Device.request d v).sound := by
  unfold Device.request
  try dsimp only
  repeat' first
    | (simp (maxDischargeDepth := 60) +contextual [*]; done)
    | split

@[simp] theorem Device.askGuest_sound (d : Device) (k len value : Nat) (hd : d.sound) : (Device.askGuest d k len value).sound := by
  unfold Device.askGuest
  simp (maxDischargeDepth := 60) +contextual [*]

@[simp] theorem Device.mbxBegin_sound (d : Device) (q : Requester) (v : Nat) (hd : d.sound) : (Device.mbxBegin d q v).sound := by
  unfold Device.mbxBegin
  try dsimp only
  repeat' first
    | (simp (maxDischargeDepth := 60) +contextual [*]; done)
    | split

@[simp] theorem Device.writeOwn_sound (d : Device) (q : Requester) (k v : Nat) (hd : d.sound) : (Device.writeOwn d q k v).sound := by
  unfold Device.writeOwn
  simp (maxDischargeDepth := 60) +contextual [*]

@[simp] theorem Device.calibrate_sound (d : Device) (k : Nat) (b : List Byte) (hd : d.sound) : (Device.calibrate d k b).sound := by
  have h : (((d.wrBlob k b).bumpWrap (Reg.CAL_GEN (k / 256 % 64))).onFusion fun f => { f with calibChanged := true }).sound :=
    Device.onFusion_sound _ _ (Device.bumpWrap_sound _ _ (Device.wrBlob_sound _ _ _ hd))
  exact ite_sound _ _ _ (Device.egoReplay_sound _ h) h

@[simp] theorem Device.applyWrite_sound (d : Device) (q : Requester) (e : EntrySpec) (k : Nat) (x : Carried) (hd : d.sound) : (Device.applyWrite d q e k x).sound := by
  unfold Device.applyWrite
  dsimp only
  refine ite_sound _ _ _ (Device.onBoot_sound _ _ hd) ?_
  split
  · repeat' first
      | exact ite_sound _ _ _ (by simp [hd]) (by simp (maxDischargeDepth := 60) [hd])
      | split
  · split
    · simp (maxDischargeDepth := 60) +contextual [*]
    · repeat' first
        | split
        | simp (maxDischargeDepth := 60) [hd]

@[simp] theorem Device.noteRefusal_sound (d : Device) (k : Nat) (v : Verdict) (hd : d.sound) : (Device.noteRefusal d k v).sound := by
  unfold Device.noteRefusal
  try dsimp only
  repeat' first
    | (simp (maxDischargeDepth := 60) +contextual [*]; done)
    | split

@[simp] theorem Device.write_sound (d : Device) (q : Requester) (k : Nat) (x : Carried) (hd : d.sound) : (Device.write d q k x).1.sound := by
  unfold Device.write
  try dsimp only
  repeat' first
    | (simp (maxDischargeDepth := 60) +contextual [*]; done)
    | split

@[simp] theorem Device.sendValue_sound (d : Device) (n : Fin 8) (txn k : Nat) (bytes : List Byte) (seg : Bool) (off : Nat) (hd : d.sound) : (Device.sendValue d n txn k bytes seg off).sound := by
  unfold Device.sendValue
  simp (maxDischargeDepth := 60) +contextual [*]

@[simp] theorem Device.answerWrite_sound (d : Device) (n : Fin 8) (txn k : Nat) (v : Verdict) (hd : d.sound) : (Device.answerWrite d n txn k v).sound := by
  unfold Device.answerWrite
  try dsimp only
  repeat' first
    | (simp (maxDischargeDepth := 60) +contextual [*]; done)
    | split

@[simp] theorem Device.answerRead_sound (d : Device) (n : Fin 8) (txn k : Nat) (v : Verdict) (bytes : List Byte) (seg : Bool) (hd : d.sound) : (Device.answerRead d n txn k v bytes seg).sound := by
  unfold Device.answerRead
  try dsimp only
  repeat' first
    | (simp (maxDischargeDepth := 60) +contextual [*]; done)
    | split

@[simp] theorem Device.cross_sound (d : Device) (q : Requester) (c : Crossing) (hd : d.sound) : (Device.cross d q c).sound := by
  unfold Device.cross
  simp (maxDischargeDepth := 60) +contextual [*]

@[simp] theorem Device.crossGuest_sound (d : Device) (q : Requester) (c : Crossing) (k len value : Nat) (hd : d.sound) : (Device.crossGuest d q c k len value).sound := by
  unfold Device.crossGuest
  try dsimp only
  repeat' first
    | (simp (maxDischargeDepth := 60) +contextual [*]; done)
    | split

@[simp] theorem Device.finish_sound (d : Device) (q : Requester) (k : Nat) (v : Verdict) (answer : Option Nat) (hd : d.sound) : (Device.finish d q k v answer).sound := by
  unfold Device.finish
  simp (maxDischargeDepth := 60) +contextual [*]

@[simp] theorem Device.mappedWrite_sound (d : Device) (q : Requester) (k v bytes : Nat) (enters : Bool) (hd : d.sound) : (Device.mappedWrite d q k v bytes enters).sound := by
  unfold Device.mappedWrite
  simp (maxDischargeDepth := 60) +contextual [*]

@[simp] theorem Device.mappedRead_sound (d : Device) (q : Requester) (k : Nat) (crosses : Bool) (hd : d.sound) : (Device.mappedRead d q k crosses).sound := by
  unfold Device.mappedRead
  try dsimp only
  repeat' first
    | (simp (maxDischargeDepth := 60) +contextual [*]; done)
    | split

@[simp] theorem Device.performAccess_sound (d : Device) (q : Requester) (a : HeldAccess) (hd : d.sound) : (d.performAccess q a).sound := by
  cases a <;> unfold Device.performAccess <;> simp [*]

@[simp] theorem Device.runHeld_sound (l : List HeldAccess) (d : Device) (q : Requester) (hd : d.sound) : (d.runHeld q l).sound := by
  induction l generalizing d with
  | nil => exact hd
  | cons a t ih => exact ite_sound _ _ _ (ih _ (Device.performAccess_sound _ _ _ hd)) (Device.setReq_sound _ _ _ hd)

@[simp] theorem Device.access_sound (d : Device) (q : Requester) (a : HeldAccess) (hd : d.sound) : (Device.access d q a).sound := by
  unfold Device.access
  simp (maxDischargeDepth := 60) +contextual [*]

@[simp] theorem Device.wordWrite_sound (d : Device) (q : Requester) (k v : Nat) (hd : d.sound) : (Device.wordWrite d q k v).sound := by
  unfold Device.wordWrite
  simp (maxDischargeDepth := 60) +contextual [*]

@[simp] theorem Device.crossEnd_sound (d : Device) (q : Requester) (k : Nat) (v : Verdict) (value : Nat) (hd : d.sound) : (Device.crossEnd d q k v value).sound := by
  unfold Device.crossEnd
  try dsimp only
  repeat' first
    | (simp (maxDischargeDepth := 60) +contextual [*]; done)
    | split

@[simp] theorem Device.crossTimeout_sound (d : Device) (q : Requester) (hd : d.sound) : (Device.crossTimeout d q).sound := by
  unfold Device.crossTimeout
  try dsimp only
  repeat' first
    | (simp (maxDischargeDepth := 60) +contextual [*]; done)
    | split

@[simp] theorem Device.mbxAnswered_sound (d : Device) (q : Requester) (k value : Nat) (code : Code) (hd : d.sound) : (Device.mbxAnswered d q k value code).sound := by
  unfold Device.mbxAnswered
  try dsimp only
  repeat' first
    | (simp (maxDischargeDepth := 60) +contextual [*]; done)
    | split

@[simp] theorem Device.guestAnswered_sound (d : Device) (x : GuestPacket) (hd : d.sound) : (Device.guestAnswered d x).sound := by
  unfold Device.guestAnswered
  try dsimp only
  repeat' first
    | (simp (maxDischargeDepth := 60) +contextual [*]; done)
    | split

@[simp] theorem Device.snapshotEnd_sound (d : Device) (q : Requester) (status : Code) (bytes : List Byte) (hd : d.sound) : (Device.snapshotEnd d q status bytes).sound := by
  unfold Device.snapshotEnd
  simp (maxDischargeDepth := 60) +contextual [*]

@[simp] theorem Device.commitEnd_sound (d : Device) (q : Requester) (v : Verdict) (hd : d.sound) : (Device.commitEnd d q v).sound := by
  unfold Device.commitEnd
  simp (maxDischargeDepth := 60) +contextual [*]

@[simp] theorem Device.mbxDone_sound (d : Device) (q : Requester) (crossed : Bool) (hd : d.sound) : (Device.mbxDone d q crossed).sound := by
  unfold Device.mbxDone
  try dsimp only
  repeat' first
    | (simp (maxDischargeDepth := 60) +contextual [*]; done)
    | split

@[simp] theorem Device.nodeWrong_sound (d : Device) (n : Fin 8) (txn k : Nat) (c : Code) (hd : d.sound) : (Device.nodeWrong d n txn k c).sound := by
  unfold Device.nodeWrong
  simp (maxDischargeDepth := 60) +contextual [*]

@[simp] theorem Device.segmentWrong_sound (d : Device) (n : Fin 8) (txn k : Nat) (hd : d.sound) : (Device.segmentWrong d n txn k).sound := by
  unfold Device.segmentWrong
  simp (maxDischargeDepth := 60) +contextual [*]

@[simp] theorem Device.nodeRead_sound (d : Device) (n : Fin 8) (txn k : Nat) (seg : Bool) (hd : d.sound) : (Device.nodeRead d n txn k seg).sound := by
  unfold Device.nodeRead
  try dsimp only
  repeat' first
    | (simp (maxDischargeDepth := 60) +contextual [*]; done)
    | split

@[simp] theorem Device.nodeWrite_sound (d : Device) (n : Fin 8) (txn k : Nat) (bytes : List Byte) (hd : d.sound) : (Device.nodeWrite d n txn k bytes).sound := by
  unfold Device.nodeWrite
  simp (maxDischargeDepth := 60) +contextual [*]

@[simp] theorem Device.nodeRequest_sound (d : Device) (n : Fin 8) (f : List Byte) (hd : d.sound) : (Device.nodeRequest d n f).sound := by
  unfold Device.nodeRequest
  try dsimp only
  repeat' first
    | (simp (maxDischargeDepth := 60) +contextual [*]; done)
    | split

@[simp] theorem Device.fieldFrame_sound (d : Device) (bus ident : Nat) (f : List Byte) (hd : d.sound) : (Device.fieldFrame d bus ident f).sound := by
  unfold Device.fieldFrame
  try dsimp only
  repeat' first
    | (simp (maxDischargeDepth := 60) +contextual [*]; done)
    | split

@[simp] theorem Device.doorbell_sound (d : Device) (q : Requester) (r : RingId) (v : Nat) (hd : d.sound) : (Device.doorbell d q r v).sound := by
  unfold Device.doorbell
  simp (maxDischargeDepth := 60) +contextual [*]

@[simp] theorem Device.fillDescriptor_sound (d : Device) (r : RingId) (x : Descriptor) (addrOk full : Bool) (hd : d.sound) : (Device.fillDescriptor d r x addrOk full).sound := by
  unfold Device.fillDescriptor
  simp (maxDischargeDepth := 60) +contextual [*]

@[simp] theorem Device.overnightImage_sound (d : Device) (certOk sigOk : Bool) (silent : List Nat) (e : MemEnv) (hd : d.sound) : (Device.overnightImage d certOk sigOk silent e).sound := by
  unfold Device.overnightImage
  refine ite_sound _ _ _ hd ?_
  extract_lets img
  split
  · simp (maxDischargeDepth := 60) [*]
  have h := Device.acceptImage_sound (d.onLoader fun l => { l with upload := [] }) img e (Device.onLoader_sound _ _ hd)
  split <;> rename_i heq <;> rw [heq] at h
  · exact Device.loaderSays_sound _ _ h
  · simp (maxDischargeDepth := 60) [h]

@[simp] theorem Device.upload_sound (d : Device) (x : Descriptor) (addrOk : Bool) (payload : List Byte) (full certOk sigOk : Bool) (silent : List Nat) (env : MemEnv) (hd : d.sound) : (Device.upload d x addrOk payload full certOk sigOk silent env).sound := by
  unfold Device.upload
  simp (maxDischargeDepth := 60) +contextual [*]

@[simp] theorem Device.descriptor_sound (d : Device) (r : RingId) (x : Descriptor) (addrOk : Bool) (payload : List Byte) (full certOk sigOk : Bool) (silent : List Nat) (env : MemEnv) (hd : d.sound) : (Device.descriptor d r x addrOk payload full certOk sigOk silent env).sound := by
  unfold Device.descriptor
  try dsimp only
  repeat' first
    | (simp (maxDischargeDepth := 60) +contextual [*]; done)
    | split

@[simp] theorem Device.keepRecord_sound (d : Device) (r : LogRecord) (hd : d.sound) : (Device.keepRecord d r).sound := by
  unfold Device.keepRecord
  have hl := (Log.ordered_iff _).1 (Device.sound_log hd)
  have hs := seqsTo_append d.log.stored d.log.nextSeq
    { r with mgmt := d.rd Reg.MGMT_PERIODS, seq := d.log.nextSeq, reps := 0 } hl.2.2.1 rfl
  have key : ∀ l : List LogRecord, l.length ≤ 4096 → seqsTo l ((d.log.nextSeq + 1) % 65536) = true → (∀ r ∈ l, r.reps ≤ 65535) →
      ({ d with log := { d.log with stored := l, nextSeq := (d.log.nextSeq + 1) % 65536 } } : Device).sound := fun l h1 h2 h3 =>
    Device.setLog_sound d _ hd ((Log.ordered_iff _).2 ⟨h1, Nat.mod_lt _ (by decide), h2, h3⟩)
  have hr : ∀ x ∈ d.log.stored ++ [{ r with mgmt := d.rd Reg.MGMT_PERIODS, seq := d.log.nextSeq, reps := 0 }], x.reps ≤ 65535 := by
    intro x hx
    rcases List.mem_append.1 hx with hx | hx
    · exact hl.2.2.2 x hx
    · simp only [List.mem_singleton] at hx; subst hx; exact Nat.zero_le _
  dsimp only
  split
  · rename_i h
    refine Device.bump_sound _ _ (key _ ?_ (seqsTo_tail _ _ hs) fun x hx => hr x (List.mem_of_mem_drop hx))
    have := hl.1
    simp only [List.length_drop, List.length_append, List.length_singleton] at h ⊢
    omega
  · rename_i h
    exact key _ (by omega) hs hr

@[simp] theorem Device.storeRecord_sound (d : Device) (r : LogRecord) (hd : d.sound) : (Device.storeRecord d r).sound := by
  unfold Device.storeRecord
  dsimp only
  split
  · rename_i n hn
    split
    · have hl := (Log.ordered_iff _).1 (Device.sound_log hd)
      have hne : d.log.stored ≠ [] := by intro h; simp [h] at hn
      have hlast : d.log.stored.getLast hne = n := by rw [List.getLast?_eq_some_getLast hne] at hn; exact Option.some.inj hn
      have e := List.dropLast_concat_getLast hne
      refine Device.setLog_sound d _ hd ((Log.ordered_iff _).2 ⟨?_, hl.2.1, ?_, ?_⟩)
      · have := hl.1
        rw [← e] at this
        simpa using this
      · rw [seqsTo_congr _ d.log.stored _ ?_]
        · exact hl.2.2.1
        · conv => rhs; rw [← e, hlast]
          simp
      · intro x hx
        rcases List.mem_append.1 hx with hx | hx
        · exact hl.2.2.2 x ((List.dropLast_sublist _).subset hx)
        · simp only [List.mem_singleton] at hx; subst hx; exact Nat.min_le_left _ _
    · exact Device.keepRecord_sound _ _ hd
  · exact Device.keepRecord_sound _ _ hd

@[simp] theorem Device.islDefaults_sound (d : Device) (i : Island) (hd : d.sound) : (Device.islDefaults d i).sound := by
  unfold Device.islDefaults
  exact ⟨⟨SMap.wf_keep _ _ (fun k => !islGone i k) hd.1.1, SMap.wf_keep _ _ (fun k => !islGone i k) hd.1.2.1, hd.1.2.2⟩, hd.2⟩

@[simp] theorem Device.islCleared_sound (d : Device) (i : Island) (hd : d.sound) : (Device.islCleared d i).sound := by
  unfold Device.islCleared
  try dsimp only
  repeat' first
    | (simp (maxDischargeDepth := 60) +contextual [*]; done)
    | split

@[simp] theorem Device.islReset_sound (d : Device) (i : Island) (released : Bool) (hd : d.sound) : (Device.islReset d i released).sound := by
  unfold Device.islReset
  simp (maxDischargeDepth := 60) +contextual [*]

@[simp] theorem Device.resetAssert_sound (d : Device) (hd : d.sound) : (Device.resetAssert d).sound := by
  unfold Device.resetAssert
  simp (maxDischargeDepth := 60) +contextual [*]

@[simp] theorem Device.resetRelease_sound (d : Device) (src : Nat) (hd : d.sound) : (Device.resetRelease d src).sound := by
  unfold Device.resetRelease
  simp (maxDischargeDepth := 60) +contextual [*]

@[simp] theorem Device.recordApply_sound (n : Nat) (d : Device) (b : List Byte) (i : Nat) (hd : d.sound) : (d.recordApply b i n).sound := by
  induction n generalizing d b i with
  | zero => exact Device.recordRefused_sound _ _ hd
  | succ n ih =>
    unfold Device.recordApply
    dsimp only
    refine ite_sound _ _ _ (Device.recordRefused_sound _ _ hd) (ite_sound _ _ _ (Device.closeWindow_sound _ hd)
      (ite_sound _ _ _ (Device.recordRefused_sound _ _ hd) ?_))
    split
    · exact ih _ _ _ (Device.applyWrite_sound _ _ _ _ _ hd)
    · exact Device.recordRefused_sound _ _ hd

@[simp] theorem Device.flashRecord_sound (d : Device) (b : List Byte) (hd : d.sound) : (Device.flashRecord d b).sound := by
  unfold Device.flashRecord
  simp (maxDischargeDepth := 60) +contextual [*]

@[simp] theorem Device.floorInit_sound (d : Device) (temps sensed : List Int) (us : Nat) (hd : d.sound) : (Device.floorInit d temps sensed us).sound := by
  unfold Device.floorInit
  simp (maxDischargeDepth := 60) +contextual [*]

@[simp] theorem Device.periphWindow_sound (d : Device) (i : Island) (count : Nat) (hd : d.sound) : (Device.periphWindow d i count).sound := by
  unfold Device.periphWindow
  simp (maxDischargeDepth := 60) +contextual [*]

@[simp] theorem Device.flushTallies_sound (d : Device) (hd : d.sound) : (Device.flushTallies d).sound := by
  unfold Device.flushTallies
  simp (maxDischargeDepth := 60) +contextual [*]

@[simp] theorem Device.flushCorrections_sound (d : Device) (hd : d.sound) : (Device.flushCorrections d).sound := by
  unfold Device.flushCorrections
  have h : (d.each d.mem.corrections fun d p => { d with log := { d.log with inbox := d.log.inbox ++ [p.2] } }).sound :=
    Device.each_sound _ _ _ hd fun d x hd => hd
  simp (maxDischargeDepth := 60) [h]

@[simp] theorem Device.bankWaits_sound (d : Device) (l : List BankWait) (hd : d.sound) : (Device.bankWaits d l).sound := by
  unfold Device.bankWaits
  exact Device.each_sound _ _ _ hd fun d x hd => by simp [hd]

@[simp] theorem Device.portSnapshot_sound (d : Device) (m : MgmtInput) (p : Nat) (hd : d.sound) : (Device.portSnapshot d m p).sound := by
  unfold Device.portSnapshot
  simp (maxDischargeDepth := 60) +contextual [*]

@[simp] theorem Device.retrainStep_sound (d : Device) (hd : d.sound) : (Device.retrainStep d).sound := by
  unfold Device.retrainStep
  exact ite_sound _ _ _ hd (Device.each_sound _ _ _ hd fun d x hd => Device.retrainNext_sound _ _ hd)

@[simp] theorem Device.ageTests_sound (d : Device) (ms : Nat) (hd : d.sound) : (Device.ageTests d ms).sound := by
  unfold Device.ageTests
  simp (maxDischargeDepth := 60) +contextual [*]

@[simp] theorem Device.skipPeriods_sound (d : Device) (n : Nat) (hd : d.sound) : (Device.skipPeriods d n).sound := by
  unfold Device.skipPeriods
  simp (maxDischargeDepth := 60) +contextual [*]

@[simp] theorem Device.mgmt_sound (d : Device) (m : MgmtInput) (hd : d.sound) : (Device.mgmt d m).sound := by
  unfold Device.mgmt
  simp (maxDischargeDepth := 60) +contextual [*]

@[simp] theorem Device.actOn_sound (d : Device) (e : LookoutEvent) (hd : d.sound) : (d.actOn e).sound := by
  cases e <;> unfold Device.actOn <;> simp (maxDischargeDepth := 60) +contextual [*]

@[simp] theorem Device.warmCause_sound (d : Device) (c : ChipCause) (hd : d.sound) : (d.warmCause c).sound := by
  cases c <;> unfold Device.warmCause <;> simp (maxDischargeDepth := 60) +contextual [*]

@[simp] theorem Device.stepDone_sound (d : Device) (us : Nat) (r : StepResult) (hd : d.sound) : (d.stepDone us r).sound := by
  cases r <;> unfold Device.stepDone <;> simp (maxDischargeDepth := 60) +contextual [*]


end Sys2Proof.Machine
end

