-- ==== Sys2Proof/WellFormed.lean ====
section
/-!
DEFINITION. Which commands the world outside can send: the limits that the spec puts on a command's operands and that
the operand's type does not already carry.
-/

namespace Sys2Proof

open Machine

/-- A descriptor whose OWNER field has its 14 bytes (Table 2-11). -/
def wfDescriptor (d : Descriptor) : Bool := d.owner.length == 14

/-- The command is one that can reach the device. -/
def Instr.wellFormed : Instr → Bool
  /- A ring descriptor is 32 bytes, and its payload has the length it names (Table 2-11). -/
  | .ringDescriptor _ desc _ payload _ _ _ _ _ => wfDescriptor desc && payload.length ≤ desc.len.toNat
  | .programUpload desc _ payload _ _ _ _ => wfDescriptor desc && payload.bytes.length ≤ desc.len.toNat
  /- TW_LEN is 1 to 255 (R125). -/
  | .testWindowGrant _ len => len.val != 0
  /- A core does not send to itself (Table 4-5). -/
  | .send core peer _ => core != peer
  | .sendAndRecv core peer _ _ _ => core != peer
  /- A field-network payload is at most 1,024 bytes after the 8-byte header (R64). -/
  | .read _ _ frame => frame.length ≤ 1032
  | .write _ _ frame => frame.length ≤ 1032
  | _ => true

end Sys2Proof
end

