-- ==== Sys2Proof/Tests/Slice0.lean ====
section
/-!
SUPPORT. Tests: ill-formed terms that WellFormed refuses, a witness for the hypotheses of each statement, and single steps
on small states.
-/

set_option maxRecDepth 100000

namespace Sys2Proof.Tests

open Sys2Proof Sys2Proof.Machine

/-- The reset state with its block changed. -/
def onState (s : State) (f : Device → Device) : State := { s with dev := f s.dev }

/-- A state in which core `c` alone is placed and runs. -/
def running (c : Nat) : State := { pending := [], dev := { strm := { coreMask := 2 ^ c } } }

/-- The block after a command. -/
def after (c : Instr) (s : State) : Device :=
  match exec c s with
  | .next t => t.dev
  | _ => s.dev

/-- A state whose dictionary is reached by the Lookouts, the host and the nodes. -/
def live (f : Device → Device) : State :=
  onState (running 5) fun d => f { d with boot := { d.boot with floorGood := true, resetHigh := true, step4 := true, ioUp := true } }

/-! ### Ill-formed terms that WellFormed refuses, and their well-formed neighbours -/

/-- A descriptor whose OWNER field has `n` bytes. -/
def ownedBy (n : Nat) : Descriptor := ⟨64, 8, 9, 1, zeros n⟩

theorem test_wf_descriptor_owner : (Instr.ringDescriptor .capture (ownedBy 13) true [] true true true [] {}).wellFormed = false ∧
    (Instr.ringDescriptor .capture (ownedBy 14) true [] true true true [] {}).wellFormed = true := by decide

theorem test_wf_descriptor_payload : (Instr.ringDescriptor .capture (ownedBy 14) true (zeros 9) true true true [] {}).wellFormed = false ∧
    (Instr.ringDescriptor .capture (ownedBy 14) true (zeros 8) true true true [] {}).wellFormed = true := by decide

theorem test_wf_upload_owner : (Instr.programUpload (ownedBy 15) true ⟨[], {}⟩ true true true []).wellFormed = false ∧
    (Instr.programUpload (ownedBy 14) true ⟨[], {}⟩ true true true []).wellFormed = true := by decide

theorem test_wf_upload_payload : (Instr.programUpload (ownedBy 14) true ⟨zeros 9, {}⟩ true true true []).wellFormed = false := by decide

theorem test_wf_window_length : (Instr.testWindowGrant 0 0).wellFormed = false ∧ (Instr.testWindowGrant 0 1).wellFormed = true := by decide

theorem test_wf_send_to_self : (Instr.send 3 3 ⟨0, none⟩).wellFormed = false ∧ (Instr.send 3 4 ⟨0, none⟩).wellFormed = true := by decide

theorem test_wf_send_and_recv_to_self : (Instr.sendAndRecv 3 3 4 ⟨0, none⟩ 0).wellFormed = false ∧
    (Instr.sendAndRecv 3 4 3 ⟨0, none⟩ 0).wellFormed = true := by decide

theorem test_wf_read_frame : (Instr.read 0 0 (zeros 1033)).wellFormed = false := by decide

theorem test_wf_write_frame : (Instr.write 0 0 (zeros 1033)).wellFormed = false := by decide

/-! EmptyQueueIdles -/

theorem wit_EmptyQueueIdles : State.reset.pending = [] := by decide

/-! EveryStepKeepsBlockSound -/

theorem wit_EveryStepKeepsBlockSound :
    State.reset.dev.sound ∧ step State.reset = .next State.reset := ⟨by unfold Device.sound; decide, rfl⟩

/-! TensorOperationsEnterQueue -/

theorem wit_TensorOperationsEnterQueue : (running 3).dev.active 3 = true ∧ (running 3).dev.active 4 = false := by decide

theorem test_matmul_waits_in_order :
    ((after (.matmulTile 3 false none 5) (onState (running 3) fun d => d.tePush 3 2 true (some 9) 7)).core 3).teQueue.map (·.op) = [2, 1] := by decide

/-! VectorOperationsEnterQueue -/

theorem wit_VectorOperationsEnterQueue : (running 63).dev.active 63 = true ∧ (running 63).dev.active 0 = false := by decide

/-! DmaOperationsEnterChannel -/

theorem wit_DmaOperationsEnterChannel : (running 0).dev.active 0 = true ∧ (running 0).dev.active 63 = false := by decide

/-! ScalarArithmeticWritesRd -/

theorem wit_ScalarArithmeticWritesRd : (running 5).dev.active 5 = true ∧ (running 5).dev.active 6 = false := by decide

theorem test_add_wraps : ((after (.seAdd 5 7 7 7 true 1) (onState (running 5) fun d => d.onCore 5 fun k => k.setSreg 7 0xFFFFFFFF)).core 5).sreg 7 = 0 := by decide

theorem test_sub_borrows : ((after (.seSub 5 1 2 3 true 1) (running 5)).core 5).sreg 1 = 0xFFFFFFFF := by decide

theorem test_shl_takes_five_bits : ((after (.shl 5 1 2 3 true 33) (onState (running 5) fun d => d.onCore 5 fun k => k.setSreg 2 3)).core 5).sreg 1 = 6 := by decide

/-! ScalarMemoryAndSetup -/

theorem wit_ScalarMemoryAndSetup_address : (running 5).dev.active 5 = true ∧
    (((running 5).dev.core 5).sreg 0 + 0) % 2 ^ 32 % 4 = 0 ∧ (((running 5).dev.core 5).sreg 0 + 4194300) % 2 ^ 32 + 4 ≤ 4194304 ∧
    4194304 < (((running 5).dev.core 5).sreg 0 + 4194304) % 2 ^ 32 + 4 ∧ (((running 5).dev.core 5).sreg 0 + 2) % 2 ^ 32 % 4 ≠ 0 := by decide

def accessing (load : Bool) : State := onState (running 5) fun d => d.onCore 5 fun k => { k with loads := [⟨load, 1, 4194300, 7⟩] }

theorem wit_ScalarMemoryAndSetup_completion : ∀ b : Bool,
    ((accessing b).dev.core 5).loads = [⟨b, 1, 4194300, 7⟩] ∧ (accessing b).dev.fn .run ≠ .draining ∧
    (accessing b).dev.fn .hamper ≠ .draining ∧ ((accessing b).dev.core 5).poisonedIn 4194300 4 = false := by decide

theorem test_ld32_misaligned_halts : (after (.ld32 5 1 2 3 true 2) (running 5)).rd (Reg.CORE_FAULT_CODE 5) = 0x0408 := by decide

/-! SemaphoreAndBarrierActions -/

def semAt (v : Nat) : State := onState (running 5) fun d => d.onCore 5 fun k => { (k.setSem 7 v).setSem 248 v with bars := [(0, 3)] }

theorem wit_SemaphoreAndBarrierActions : (semAt 65535).dev.active 5 = true ∧
    ((semAt 65535).dev.core 5).sem 7 + (0 : BitVec 16).toNat ≤ 65535 ∧ 65535 < ((semAt 65535).dev.core 5).sem 7 + (1 : BitVec 16).toNat ∧
    (65535 : BitVec 16).toNat ≤ ((semAt 65535).dev.core 5).sem 7 ∧ ((semAt 2).dev.core 5).sem 7 < (3 : BitVec 16).toNat ∧
    (2 : BitVec 16).toNat ≤ (semAt 2).dev.judgedSem 5 7 ∧ (semAt 2).dev.judgedSem 5 7 < (3 : BitVec 16).toNat := by decide

theorem wit_SemaphoreAndBarrierActions_barriers : ((semAt 3).dev.core 5).bar (0 : BarNo) = 3 ∧ ((semAt 3).dev.core 5).sem 248 = 3 ∧
    (semAt 3).dev.judgedSem 5 248 = 3 ∧ (semAt 2).dev.judgedSem 5 248 < 3 ∧ ((semAt 3).dev.core 5).bar (1 : BarNo) = 0 := by decide

theorem test_sub_underflow_not_applied : ((after (.sub 5 7 3) (semAt 2)).core 5).sem 7 = 2 := by decide

/-! NetworkPlaneSendsAndReceives -/

def aFlit (src : Nat) : Flit := ⟨src, 5, List.replicate 32 7, false, 0⟩
def flying (l : List Flit) : State := onState (running 5) fun d => d.onStrm fun s => { s with flits := l }

theorem wit_NetworkPlane_one : (flying [aFlit 6]).dev.active 5 = true ∧
    (flying [aFlit 6]).dev.arriving 5 (flying [aFlit 6]).dev.strm.index = [aFlit 6] ∧ (aFlit 6).src = (6 : CoreNo).val := by decide

theorem wit_NetworkPlane_faults : (flying []).dev.arriving 5 0 = [] ∧ (aFlit 6).src ≠ (7 : CoreNo).val ∧
    (flying [aFlit 6, aFlit 7]).dev.arriving 5 0 = aFlit 6 :: aFlit 7 :: [] := by decide

theorem test_send_latency : ((after (.send 5 15 ⟨0, none⟩) (running 5)).strm.flits.map (·.arrives)) = [4] ∧
    ((after (.send 5 16 ⟨0, none⟩) (running 5)).strm.flits.map (·.arrives)) = [8] := by decide

/-! BranchesAndLoops -/

def looping (n : Nat) : State := onState (running 0) fun d => (d.wr Reg.STREAM_LENGTH_LOADED 9).onStrm fun s =>
  { s with loops := List.replicate n ⟨1, 5, 2⟩, preds := 8 }

theorem wit_BranchesAndLoops : bitAt ((looping 1).dev.strm.predsAt (looping 1).dev.strm.index) (3 : PredNo) = true ∧
    bitAt ((looping 1).dev.strm.predsAt (looping 1).dev.strm.index) (2 : PredNo) = false ∧
    (looping 1).dev.strm.loops = [⟨1, 5, 2⟩] ∧ (5 : Nat) ≠ (4 : BundleAddr).val ∧ (8 : BundleAddr).val + 1 = (looping 1).dev.rd Reg.STREAM_LENGTH_LOADED := by
  decide

theorem wit_BranchesAndLoops_levels : ¬ (4 ≤ (looping 3).dev.strm.loops.length) ∧ 4 ≤ (looping 4).dev.strm.loops.length ∧
    ¬ (5 < (5 : BundleAddr).val) ∧ 5 < (6 : BundleAddr).val := by decide

theorem test_lp_start_count_zero : (after (.lpStart 2 0 4) (looping 1)).strm.loops.map (·.left) = [65536, 2] := by decide

/-! ReductionsBecomeVisible -/

theorem test_rd_and_over_mask : ((after (.rdAnd 1 0 2) (onState (running 5) fun d => d.onCore 5 fun k => k.setSreg 1 1)).strm.predsAt 16,
    (after (.rdAnd 1 0 2) (running 5)).strm.predsAt 16) = (4, 0) := by decide

/-! ChipSlotActions -/

def halting : State := onState (running 5) fun d => (d.onStrm fun s => { s with running := true, handoff := [⟨1, 2, 3, 4, 5⟩], kicks := [3] }).onCore 5
  fun k => { k with teQueue := [⟨1, false, none, 0, 0, 0⟩] }

theorem wit_ChipSlotActions_halt : halting.dev.strm.running = true ∧ halting.dev.fn .hamper ≠ .draining ∧ halting.dev.enginesIdle = false ∧
    halting.dev.rd Reg.SAFETY_FN_MASK = 0 := by decide

theorem wit_ChipSlotActions_mark : (onState halting fun d => (d.stage 0x300207 5).stagedCycle).dev.staged = [(0x300207, 5)] ∧
    0x300207 ∉ (onState halting fun d => (d.stage 0x300207 5).stagedCycle).dev.stagedNew ∧ 0x300207 / 256 ≠ 0x9002 ∧
    0x300207 / 256 ≠ 0x9201 ∧ 0x300207 / 256 ≠ 0x2101 ∧ 0x300207 ≠ Reg.APPLY_MARKS := by decide

theorem wit_ChipSlotActions_grant : ((onState halting fun d => d.onTest 5 fun t => { t with pendingA := false, pendingB := false }).dev.test 5).next = none := by decide

def kicked : State := onState halting fun d => { d.wr Reg.WD_STAGES 8 with safety := { d.safety with a := { d.safety.a with firmware := true } }, boot := { d.boot with islA := true } }

theorem wit_ChipSlotActions_kick : kicked.dev.strm.kicks.contains 3 = true ∧ kicked.dev.firmware .A = true ∧
    bitAt (kicked.dev.rd Reg.WD_STAGES) 3 = true ∧ kicked.dev.rd Reg.FRAME_STAGE ≠ 3 ∧ kicked.dev.rd (Reg.WD_STATE 3) = 0 := by decide

theorem wit_ChipSlotActions_job : (onState halting fun d => d.setFn .fusion .on).dev.strm.handoff = [⟨1, 2, 3, 4, 5⟩] ∧
    (onState halting fun d => d.setFn .fusion .on).dev.regionStopped .world = false ∧
    (onState halting fun d => d.setFn .fusion .on).dev.fn .fusion = .on := by decide

/-! BundlesIssueOrHold -/

def issuing : State := onState (running 5) fun d => (d.onStrm fun s => { s with running := true, skid := [0, 1, 2, 3] }).wr Reg.STREAM_LENGTH_LOADED 9
def heldUp : State := onState issuing fun d => d.onStrm fun s => { s with lanes := [(5 * 16384, BitVec.ofNat 512 ((1 * 2 ^ 28 + 7 * 2 ^ 20 + 1 * 2 ^ 4) * 2 ^ 96))] }

theorem wit_BundlesIssueOrHold : (running 5).dev.strm.running = false ∧ issuing.dev.strm.running = true ∧ issuing.dev.strm.skid = 0 :: [1, 2, 3] ∧
    issuing.dev.holds 0 = [] ∧ issuing.dev.floorHold 0 = false ∧ heldUp.dev.holds 0 = [(5, 1)] := by decide

theorem test_bundle_issue_counts : (after .bundleIssue issuing).strm.count = 1 := by decide

/-! StreamStatusEvents -/

theorem wit_StreamStatusEvents_hold : (onState heldUp fun d => d.onStrm fun s => { s with holdCycles := 9 }).dev.holds 0 = [(5, 1)] ∧
    heldUp.dev.active 5 = true := by decide

def submitting : State := onState issuing fun d => d.onStrm fun s =>
  { s with holdCycles := 9, chip := [(0, BitVec.ofNat 512 (2 ^ 412))], handoff := List.replicate 16 ⟨1, 0, 0, 0, 0⟩ }

theorem wit_StreamStatusEvents_floor : submitting.dev.holds 0 = [] ∧ submitting.dev.floorHold 0 = true ∧
    submitting.dev.boot.regionDemand = 0 ∧ submitting.dev.boot.restarting = none ∧ submitting.dev.transition = .none := by decide

theorem wit_StreamStatusEvents_counts :
    let d := (onState (running 0) fun d => (d.stage 1 1).onStrm fun s => { s with sinceApply := 8000000, count := 2 ^ 48 - 1 }).dev
    8000000 ≤ d.strm.sinceApply ∧ d.staged ≠ [] ∧ 2 ^ 47 ≤ d.strm.count ∧ d.rd Reg.COUNTER_WARN = 0 ∧
      d.strm.count = 2 ^ 48 - 1 ∧ d.strm.saturated = false := by decide

/-! TensorEngineRuns -/

def teWaiting (h : TeHint) : State := onState (running 5) fun d => d.onCore 5 fun k => { k with teQueue := [⟨3, false, some 7, 0, 0, 0⟩], hint := h }

theorem wit_TensorEngineRuns_start : ((teWaiting .ready).dev.core 5).teQueue = ⟨3, false, some 7, 0, 0, 0⟩ :: [] ∧
    ((teWaiting .ready).dev.core 5).teRuns = [] ∧ SMap.getD (teWaiting .ready).dev.strm.divChange ((5 : CoreNo) / 16 : Nat) 0 = 0 ∧
    ((teWaiting .ready).dev.core 5).hint = .ready ∧ (teWaiting .idle).dev.rd Reg.LOADHINT_LEAD_NS ≠ 0 ∧ (teWaiting .idle).dev.active 5 = true := by decide

theorem wit_TensorEngineRuns_good : (teWaiting .ready).dev.teStop ((teWaiting .ready).dev.core 5) ⟨3, false, some 7, 0, 0, 0⟩ = none := by decide

theorem wit_TensorEngineRuns_bad : ((teWaiting .ready).dev.teStop ((teWaiting .ready).dev.core 5) ⟨3, false, some 7, 15 * 2 ^ 59, 0, 0⟩).isSome = true := by decide

def teRunning (r : Option Chain) : State := onState (running 5) fun d => d.onCore 5 fun k => { k with teRuns := [⟨⟨3, false, some 7, 0, 0, 0⟩, {}, r⟩] }

theorem wit_TensorEngineRuns_complete : ∀ r ∈ [none, some ({} : Chain)], ((teRunning r).dev.core 5).teRuns[(0 : Fin 2).val]? = some ⟨⟨3, false, some 7, 0, 0, 0⟩, {}, r⟩ ∧
    (teRunning r).dev.fn .run ≠ .draining ∧ (teRunning r).dev.fn .hamper ≠ .draining ∧ ((teRunning r).dev.core 5).sem 7 < 65535 ∧
    ({} : EngineResult).mismatch ((teRunning r).dev.rd (Reg.BAND_ULP ((5 : CoreNo) / 16))) [] = none := by decide

theorem test_te_completion_raises_done : ((after (.teOperationComplete 5 0 [] false) (teRunning none)).core 5).sem 7 = 1 := by decide

/-! VectorEngineRuns -/

def veWaiting (busy : Bool) : State := onState (running 5) fun d => d.onCore 5 fun k =>
  { k with veQueue := [⟨1, some 7, 0, 0⟩], veRun := if busy then some (⟨1, some 7, 0, 0⟩, {}) else none }

theorem wit_VectorEngineRuns : ((veWaiting false).dev.core 5).veQueue = ⟨1, some 7, 0, 0⟩ :: [] ∧
    SMap.getD (veWaiting false).dev.strm.divChange ((5 : CoreNo) / 16 : Nat) 0 = 0 ∧ ((veWaiting false).dev.core 5).veRun = none ∧
    (((veWaiting false).dev.core 5).veStop ⟨1, some 7, 15 * 2 ^ 44, 0⟩).isSome = true ∧ (veWaiting false).dev.active 5 = true ∧
    ((veWaiting true).dev.core 5).veRun = some (⟨1, some 7, 0, 0⟩, {}) ∧ (veWaiting true).dev.fn .run ≠ .draining ∧
    (veWaiting true).dev.fn .hamper ≠ .draining ∧ ((veWaiting true).dev.core 5).sem 7 < 65535 := by decide

theorem wit_VectorEngineRuns_good : ((veWaiting false).dev.core 5).veStop ⟨1, some 7, 2 ^ 48, 0⟩ = none := by decide

/-! DmaOperationsStartAndTimeOut -/

def deWaiting (op line : Nat) (f : Core → Core) : State := onState (running 5) fun d => d.onCore 5 fun k =>
  (f k).setChan 2 [⟨op, some 7, line * 2 ^ 44, .queued, {}, 0, 0, [], none, 0, 0⟩]

theorem wit_DmaOperationsStart : ∀ op ∈ [opFence, opXfer], ((deWaiting op 0 id).dev.core 5).startable 2 = some (0, ⟨op, some 7, 0, .queued, {}, 0, 0, [], none, 0, 0⟩) ∧
    (deWaiting op 0 id).dev.active 5 = true ∧ ((deWaiting op 0 id).dev.core 5).firstPoison 0 64 = none ∧
    ((deWaiting op 0 id).dev.core 5).descBad opXfer 0 = true := by decide

theorem wit_DmaOperationsStart_good : ((deWaiting opXfer 0 fun k => k.write 16 [0, 1, 0, 0, 1]).dev.core 5).descBad opXfer 0 = false := by decide

theorem wit_DmaOperationsStart_poison : ((deWaiting opXfer 0 fun k => k.mark 1 true).dev.core 5).firstPoison 0 64 = some 1 := by decide

def deUnanswered : State := onState (running 5) fun d => d.onCore 5 fun k =>
  k.setChan 2 [⟨opXfer, some 7, 0, .running, { dstSpace := 2, rows := 1, rowBytes := 32 }, 1, 0, [{ src := 0, dst := 0, len := 32, last := true, arrived := true, writing := true }], none, 0, 0⟩]

theorem wit_DmaTimeOut : (deUnanswered.dev.core 5).writesOut 2 ≠ 0 ∧ deUnanswered.dev.active 5 = true ∧ (deUnanswered.dev.core 5).writesOut 3 = 0 := by decide

/-! DmaTransactionsMove -/

def deBusy (src dst : Nat) (j : InFlight) : State := onState (running 5) fun d => d.onCore 5 fun k =>
  k.setChan 2 [⟨opXfer, some 7, 0, .running, { srcSpace := src, dstSpace := dst, dstUnit := 9, srcUnit := 9, rows := 1, rowBytes := 32 }, 0, 0, if j.arrived then [] else [j], none, 0, 0⟩,
    ⟨opFence, some 7, 0, .queued, {}, 0, 0, [], none, 0, 0⟩]

theorem wit_DmaTransactionsMove_local : ((deBusy 0 0 { src := 0, dst := 0, len := 0, last := true, arrived := true }).dev.core 5).localNext 2 = true := by decide

theorem wit_DmaTransactionsMove_read : (deBusy 1 0 { src := 0, dst := 0, len := 0, last := true, arrived := true }).dev.grantee 5 = some (2, 0) ∧
    ((deBusy 1 0 { src := 0, dst := 0, len := 0, last := true, arrived := true }).dev.mport 5).exhaustedNow = false ∧
    ((deBusy 1 0 { src := 0, dst := 0, len := 0, last := true, arrived := true }).dev.core 5).writable 2 = none := by decide

theorem wit_DmaTransactionsMove_return : (((deBusy 1 0 { src := 0, dst := 0, len := 32, last := true }).dev.core 5).flightsOf 2
    (fun o x => o.reads && !x.arrived))[(0 : Fin 192).val]?.isSome = true := by decide

theorem wit_DmaTransactionsMove_ack : (((deBusy 0 1 { src := 0, dst := 0, len := 32, last := true, writing := true }).dev.core 5).flightsOf 2
    (fun _ x => x.writing && x.tag == none))[(0 : Fin 64).val]?.isSome = true := by decide

def deFenced : State := onState (running 5) fun d => d.onCore 5 fun k => k.setChan 2 [⟨opFence, some 7, 0, .running, {}, 0, 0, [], none, 0, 0⟩]

theorem wit_DmaTransactionsMove_done : ∃ o, (deFenced.dev.core 5).chan 2 = [o] ∧ o.walk = none ∧ o.finished 0 = true ∧
    deFenced.dev.fn .run ≠ .draining ∧ deFenced.dev.fn .hamper ≠ .draining ∧ o.done = some 7 ∧ (deFenced.dev.core 5).sem 7 < 65535 :=
  ⟨⟨opFence, some 7, 0, .running, {}, 0, 0, [], none, 0, 0⟩, by decide⟩

theorem test_de_completion_raises_done : ((after (.deOperationComplete 5 ⟨2, {}⟩ 0) deFenced).core 5).sem 7 = 1 := by decide

/-! PortsReadAndWriteMemory -/

theorem wit_PortsReadAndWriteMemory : State.reset.dev.plain (0x600000000) 128 ∧ State.reset.dev.mem.poison = [] ∧
    State.reset.dev.zeroWait 0x600000000 128 = false ∧ (State.reset.dev.mport 5).exhaustedNow = false ∧ (State.reset.dev.mport portHost).exhaustedNow = false ∧
    State.reset.dev.plain (State.reset.dev.rd Reg.APERTURE_BASE + 0x40) 128 ∧ (List.replicate 128 (1 : Byte)).length = 128 :=
  ⟨⟨by decide, by decide⟩, by decide, by decide, by decide, by decide, ⟨by decide, by decide⟩, by decide⟩

theorem test_memory_reads_what_was_written : ((after (.floorCacheAccess 5 0x600000001 3 (some [1, 2, 3]) false false {}) State.reset).mem.bytes 0x600000000 5) =
    [0, 1, 2, 3, 0] := by decide

/-! AtomicOperationsAnswerOldValue -/

theorem wit_AtomicOperations : ((77 : Fin 79).val < 64 ∨ (77 : Fin 79).val = portWarden) ∧ State.reset.dev.zeroWait 0x600000008 8 = false ∧
    (0x600000008 : BitVec 64).toNat % 8 = 0 ∧ State.reset.dev.mem.poison = [] ∧ State.reset.dev.plain 0x600000008 8 ∧ (0x600000009 : BitVec 64).toNat % 4 ≠ 0 :=
  ⟨by decide, by decide, by decide, by decide, ⟨by decide, by decide⟩, by decide⟩

theorem test_atomic_unaligned : ((after (.atomicAdd 77 0x600000009 ⟨false, {}⟩ 1) State.reset).mport 77).answer.code = 0x0712 := by decide

/-! ReadWalksCopyPages -/

def hamperMap (f : Device → Device) : State := onState (running 5) fun d => f (d.wrAll [(Reg.SEQ_TABLE_BASE, 0x700000000), (Reg.LIST_BASE, 0x710000000),
  (Reg.POP_JOURNAL_BASE, 0x720000000), (Reg.HAMPER_BASE, 0x730000000), (Reg.FREE_RING_BASE, 0x740000000), (Reg.FREE_RING_ENTRIES, 16), (Reg.LAYERS, 1),
  (Reg.MAX_PAGES, 4), (Reg.KV_HEADS, 1), (Reg.HEAD_DIM, 64), (Reg.SLOT_BYTES, 4096), (Reg.SEQ_MAX, 2), (Reg.FORMATS_ALLOWED, 3)])

def walkOn (w : Walk) (d : Device) : Device := d.onCore 5 fun k => k.setChan 2 [{ op := opWalk, done := some 7, operands := 0, phase := .walking, walk := some w }]

def reading (ph : WalkPhase) (n : Nat) (f : Device → Device) : State := hamperMap fun d => f (walkOn { phase := ph, count := 3, frames := 1, attempts := n } d)

theorem wit_ReadWalksCopyPages : ∀ ph ∈ [WalkPhase.ready, .retry], ∀ n ∈ [0, 8],
    (((reading ph n id).dev.core 5).walking 2).map (fun p => (p.2.2.mode, p.2.2.phase, p.2.2.attempts, p.2.2.pages)) = some (0, ph, n, 1) ∧
    (reading ph n id).dev.seqGen 0 % 2 = 0 ∧ (reading ph n fun d => d.setMemNat 0x700000000 4 1).dev.seqGen 0 % 2 = 1 := by decide

theorem wit_ReadWalksCopyPages_page : pageUsable ((reading .ready 0 fun d => (d.setMemNat 0x710000000 4 3).setMemNat 0x710000040 4 0x80000000).dev.pageAt 0 0 0) = true ∧
    ({ count := 3, frames := 1 } : Walk).mask 3 0 ≠ 0 ∧ ({ count := 3, frames := 1 } : Walk).mask 0 0 = 0 ∧ (reading .ready 0 id).dev.mem.poison = [] ∧
    (reading .ready 0 id).dev.plain ((reading .ready 0 id).dev.slotAddr 0) (pageBytes 0xE (reading .ready 0 id).dev.kvElems) :=
  ⟨by decide, by decide, by decide, by decide, ⟨by decide, by decide⟩⟩

/-! AppendsAndRefillsWriteSlots -/

def appending (mode : Nat) (f : Device → Device) : State := hamperMap fun d => f (walkOn { mode := mode, count := 3, format := 0xE, srcElem := 4096, srcScale := 8192, srcTile := 12288 }
  ((d.onCore 5 fun k => (k.write 12288 [0, 0, 0x80, 0x3F]).write 12292 [0, 0, 0x80, 0x3F]).setMemNat 0x700000005 1 1))

theorem wit_AppendsAndRefills : ((appending 1 id).dev.core 5).walking 2 = some (0, { op := opWalk, done := some 7, operands := 0, phase := .walking, walk := some { mode := 1, count := 3, format := 0xE, srcElem := 4096, srcScale := 8192, srcTile := 12288 } },
      { mode := 1, count := 3, format := 0xE, srcElem := 4096, srcScale := 8192, srcTile := 12288 }) ∧
    (appending 1 id).dev.mem.poison = [] ∧ ((appending 1 id).dev.core 5).poison = [] := by decide

theorem wit_AppendsAndRefills_mem : (appending 1 id).dev.mem = ({} : Memory).store 0x700000005 (leBytes 1 1) := by decide

theorem wit_AppendsAndRefills_regs : (appending 1 id).dev.rd Reg.LIST_BASE = 0x710000000 ∧ (appending 1 id).dev.rd Reg.LAYERS = 1 ∧
    (appending 1 id).dev.rd Reg.MAX_PAGES = 4 := by decide

theorem wit_AppendsAndRefills_pages (q : Nat) : pageValid ((appending 1 id).dev.pageAt 0 0 q) = false := by
  have h : (appending 1 id).dev.pageAt 0 0 q = 0 := by
    unfold Device.pageAt Device.memNat
    rw [wit_AppendsAndRefills_mem, Memory.bytes_store_out]
    · unfold Memory.bytes; split <;> rfl
    · refine Or.inr ?_
      rw [length_leBytes]; unfold Device.entryAddr Device.listAddr
      obtain ⟨h1, h2, h3⟩ := wit_AppendsAndRefills_regs
      simp only [h1, h2, h3]; omega
  rw [h]; decide

theorem wit_AppendsAndRefills_ready : (appending 1 id).dev.appendReady 5 { mode := 1, count := 3, format := 0xE, srcElem := 4096, srcScale := 8192, srcTile := 12288 } :=
  ⟨by decide, by decide, by decide, by decide, by decide, by decide,
    fun q _ _ h => absurd h (by rw [wit_AppendsAndRefills_pages q]; decide)⟩

/-! PublishMakesPagesVisible -/

def toPublish : State := hamperMap fun d => walkOn { phase := .written, mode := 1, count := 3, news := [(0, pageEntry true 0 false 9)], resSlots := 1 } d

theorem wit_PublishMakesPagesVisible : ((toPublish.dev.core 5).walking 2).isSome = true ∧
    toPublish.dev.seqAddr 0 + 64 ≤ toPublish.dev.listAddr 0 0 ∧ toPublish.dev.listAddr 0 0 + toPublish.dev.listBytes ≤ toPublish.dev.journalAddr 5 2 ∧
    toPublish.dev.seqAddr 0 + 64 ≤ toPublish.dev.journalAddr 5 2 ∧ 0 < toPublish.dev.rd Reg.MAX_PAGES ∧
    (((hamperMap (walkOn {})).dev.core 5).walking 2).isSome = true := by decide

/-! MemoryUpkeepEffects -/

def upkeep (f : Memory → Memory) : State := onState (running 5) fun d => d.onMem f

theorem wit_MemoryUpkeepEffects : (upkeep fun m => { m with disturbed := [(7, 66, 4096, 3)] }).dev.mem.disturbed = [(7, 66, 4096, 3)] ∧
    (onState (running 5) fun d => d.setFn .scrub .on).dev.fn .scrub = .on ∧ (running 5).dev.mem.poisoned 0 = false ∧
    (upkeep fun m => { m with retraining := [8 - 1 + 24] }).dev.mem.retraining.contains (1 * 24 + 7) = true ∧
    (upkeep fun m => { m with zeroing := [(0, 64)] }).dev.mem.zeroing = [(0, 64)] ∧
    (upkeep fun m => { m with zeroing := [(0, 64)] }).dev.nothingHeld := ⟨rfl, by decide, by decide, by decide, rfl, by decide, by decide, by decide⟩

theorem test_zeroise_ends : (after .zeroiseComplete (onState (upkeep fun m => { m with zeroing := [(0, 64)] }) fun d => d.wr Reg.ZEROISE_BUSY 1)).rd
    Reg.ZEROISE_BUSY = 0 := by decide

/-! DictionaryAccesses -/

theorem wit_DictionaryAccesses_parks : (let d := (live fun d => d.setFn .run .fault).dev; let k := key 0x1101 2
    d.reached .fn0 = true ∧ (d.req .fn0).crossing = .none ∧ d.writeCheck .fn0 k (.word 8000) = .ok ∧ d.windowLocked .fn0 k = false ∧ isGuestEntry k = false ∧
    (d.entryFor .fn0 k).map (d.parks · k) = some true) := by decide

theorem wit_DictionaryAccesses_write : (live id).dev.takes .fn0 (key 0x6020 0) 1 ∧ plainEntry (key 0x6020 0) = true ∧
    ((live id).dev.entryFor .fn0 (key 0x6020 0)).map (fun x => (live id).dev.stages x (key 0x6020 0)) = some false := by decide

theorem wit_DictionaryAccesses_stages : (live fun d => d.setFn .fusion .on).dev.takes .fn0 (key 0x6020 0) 1 ∧
    ((live id).dev.entryFor .fn0 (key 0x6020 0)).map (fun x => (live fun d => d.setFn .fusion .on).dev.stages x (key 0x6020 0)) = some true := by decide

theorem wit_DictionaryAccesses_fails : (live id).dev.reached .fn0 = true ∧ ((live id).dev.req .fn0).crossing = .none ∧
    (live id).dev.reached .fn2 = true ∧ (live id).dev.writeCheck .fn2 (key 0x2000 3) (.word 0) = .drop ∧
    (live id).dev.writeCheck .fn0 (key 0x0001 1) (.word 0) = .fail St.DICT_NO_ENTRY 0 := by decide

theorem wit_DictionaryAccesses_read : (live id).dev.readCheck .fn0 (key 0x4110 0) true = .ok ∧ isGuestEntry (key 0x4110 0) = false ∧
    ((live id).dev.entryFor .fn0 (key 0x4110 0)).map (·.cross) = some true ∧ (live id).dev.domainUp (key 0x4110 0) = true ∧
    ((live fun d => d.cross .fn0 (.reading (key 0x4110 0))).dev.req .fn0).crossing = .reading (key 0x4110 0) := by decide

/-! MailboxOperations -/

def boxed (f : Mailbox → Mailbox) : State := live fun d => d.setReq .fn0 { d.req .fn0 with mbx := f {} }

theorem wit_MailboxOperations_begin : (live id).dev.takes .fn0 Reg.MBX_CTL (mbxWord 1 0x6020 0) ∧ (live id).dev.takes .fn0 Reg.MBX_CTL (mbxWord 2 0x6020 0) ∧
    (live id).dev.takes .fn0 Reg.MBX_CTL (mbxWord 3 0 0) ∧ (live id).dev.takes .fn0 (Reg.MBX_DATA 239) 7 ∧ (live id).dev.takes .fn0 Reg.MBX_LEN 4 ∧
    (live id).dev.readCheck .fn0 (key 0x6020 0) false = .ok ∧ isGuestEntry (key 0x6020 0) = false := by decide

theorem wit_MailboxOperations_commit : let m := boxed fun m => { m with op := .commit (key 0x6020 0) none, len := 1, buf := [(0, 1)] }
    (m.dev.req .fn0).mbx.op = .commit (key 0x6020 0) none ∧ plainEntry (key 0x6020 0) = true ∧ m.dev.windowLocked .fn0 (key 0x6020 0) = false ∧
    SMap.getList (m.dev.req .fn0).mbx.buf 0 0 (m.dev.req .fn0).mbx.len = [1] ∧ m.dev.writeCheck .fn0 (key 0x6020 0) (.bytes [1]) = .ok ∧
    m.dev.writeCheck .fn0 (key 0x6020 0) (.bytes [1, 1]) = .fail St.DICT_RANGE 0 ∧
    (m.dev.entryFor .fn0 (key 0x6020 0)).map (fun x => (x.cross, x.type.wide, m.dev.stages x (key 0x6020 0))) = some (false, false, false) := by decide

/-! EnablesAreWritten -/

theorem wit_EnablesAreWritten : (live fun d => d.setFn .scrub .on).dev.takes .fn0 Reg.SCRUB_ENABLE 1 ∧
    (live fun d => d.setFn .scrub .fault).dev.takes .fn0 Reg.SCRUB_ENABLE 0 ∧ (live fun d => d.setFn .scrub .fault).dev.fn .scrub = .fault ∧
    (live id).dev.takes .fn0 (Reg.SLOT_ENABLE 63) 1 ∧ (live id).dev.fnHeld (.slot 63) = true ∧ (live id).dev.takes .fn0 Reg.FN_ENABLE 0 ∧
    (live fun d => d.setFn .hamper .on).dev.takes .fn0 Reg.HAMPER_ENABLE 0 := by decide

theorem wit_EnablesAreWritten_names : writesEnable (.slotEnable .fn0 63 1) .fn0 1 (.slot 63) := .inr (.inr (.inr (.inl ⟨63, rfl, rfl⟩)))

/-! FunctionsStart -/

theorem wit_FunctionsStart : let s := live fun d => d.setPersonality .drive
    s.dev.takes .fn0 Reg.SCRUB_ENABLE 1 ∧ s.dev.fn .scrub = .off ∧ s.dev.fnHeld .scrub = false ∧ s.dev.takes .fn0 (Reg.SLOT_ENABLE 63) 1 ∧
    s.dev.fnHeld (.slot 63) = false ∧ s.dev.takes .fn0 Reg.FUSION_ENABLE 1 ∧ s.dev.takes .fn0 (Reg.LINK_ENABLE 3) 1 ∧
    s.dev.takes .fn0 (RingId.reg .replay 1) 1 ∧ (s.dev.slotFault 63).isSome = true := by decide

theorem wit_FunctionsStart_overnight : let s := live fun d => (d.setPersonality .overnight).wr Reg.SCRUB_ENABLE 0
    s.dev.takes .fn0 Reg.JOB_ENABLE 1 ∧ s.dev.fnHeld .job = false ∧ s.dev.takes .fn0 Reg.FN_ENABLE 1 ∧
    (live fun d => (d.setPersonality .drive).wr Reg.GUEST_PRESENT 1).dev.takes .fn0 Reg.GUEST_ENABLE 1 := by decide

theorem wit_FunctionsStart_hamper : let s := hamperMap fun d => (({ d with boot := { d.boot with floorGood := true, resetHigh := true, step4 := true, ioUp := true } }).setPersonality .drive).wrAll [(Reg.SLOT_COUNT, 8), (Reg.MAX_PAGES, 16)]
    s.dev.takes .fn0 Reg.HAMPER_ENABLE 1 ∧ s.dev.fn .hamper = .off ∧ s.dev.fnHeld .hamper = false ∧ (s.dev.wr Reg.HAMPER_ENABLE 1).hamperConfigOk = true := by decide

/-! ErrorLogStoresAndShows -/

def oneRecord : LogRecord := { status := 7, inst := 0, level := 1, personality := 0, bundle := 0, epoch := 0, d0 := 0, d1 := 0, d2 := 0 }

theorem wit_ErrorLogStoresAndShows : (live id).dev.takes .fn0 Reg.LOG_CTL 5 ∧
    ({ inbox := [oneRecord, oneRecord] } : Log).inbox[1]? = some oneRecord ∧ oneRecord.same oneRecord = true ∧
    ((live fun d => d.setReq .fn0 { window := { busy := true } }).dev.req .fn0).window.busy = true := by decide

theorem test_log_merges : (after (.logRecordStore 0) (live fun d => { d with log := { inbox := [oneRecord], stored := [oneRecord] } })).log.stored.map (·.reps) = [1] := by decide

/-! RingsTakeDescriptors -/

def ringOn (r : RingId) (f : Device → Device) : State := live fun d => f ((d.setFn (.ring r) .on).wrAll [(r.reg ringEntries, 4), (r.reg ringTail, 1)])

def oneDesc : Descriptor := ⟨64, 8, 9, 1, zeros 14⟩

theorem wit_RingsTakeDescriptors : (ringOn .capture id).dev.ringReady .capture ∧ (ringOn .capture id).dev.bellOk .capture 2 = true ∧
    (ringOn .capture id).dev.bellOk .capture 6 = false ∧ (entryAt (RingId.capture.reg 1)).map (fun x => decide (Requester.fn0.level ≤ x.wr)) = some true ∧
    ((ringOn .capture fun d => d.ringPush .capture { bytes := zeros 12 }).dev.ring .capture).items = [{ bytes := zeros 12 }] ∧
    oneDesc.usable true = true ∧ oneDesc.usable false = false := by decide

theorem wit_RingsTakeDescriptors_uploads : let s := ringOn .programUpload fun d => d.onLoader fun l => { l with fetching := true }
    s.dev.ringReady .programUpload ∧ s.dev.personality ≠ .overnight ∧ oneDesc.uploadForm = true ∧ imgComplete s.dev.loader.image = false ∧
    oneDesc.imageOffset = s.dev.loader.image.length ∧ (ringOn .programUpload id).dev.expectedOffset ≠ some oneDesc.imageOffset ∧
    (ringOn .latticeUpload id).dev.ringReady .latticeUpload ∧ leAt oneDesc.owner 0 8 = (ringOn .latticeUpload id).dev.rd Reg.LATTICE_BYTES ∧
    (ringOn .latticeUpload id).dev.rd Reg.LATTICE_BASE + 8 ≤ dramEnd ∧ (ringOn .latticeUpload id).dev.rd Reg.DRIVE_SEALED ≠ 1 := by decide

/-! LimitsEndDrainsAndSessions -/

theorem wit_LimitsEndDrainsAndSessions : (live fun d => d.setFn .scrub .draining).dev.fn .scrub = .draining ∧ (live id).dev.fn .scrub ≠ .draining ∧
    (live fun d => (d.setFn (.ring .capture) .draining).onRing .capture fun x => { x with limitPassed := true }).dev.fn (.ring .capture) = .draining ∧
    ((live fun d => d.onRing .capture fun x => { x with limitPassed := true }).dev.ring .capture).limitPassed = true ∧
    ((live id).dev.ring .capture).limitPassed = false ∧ ((live id).dev.req (.node 3)).crossing = .none ∧
    ((live fun d => d.setReq (.node 3) { session := .writing 1 2 [] }).dev.req (.node 3)).session = .writing 1 2 [] := by decide

/-! LookoutsRunAndStop -/

theorem wit_LookoutsRunAndStop : let s := onState (live id) fun d => d.onBoot fun b => { b with islA := true }
    s.dev.islUp .A = true ∧ s.dev.islReleased .A = true ∧ State.reset.dev.islReleased .B = false ∧ State.reset.dev.floorUp = false := by decide

/-! SensedLevelsAreShown -/

theorem wit_SensedLevelsAreShown : (live id).dev.floorUp = true ∧ (live id).dev.boot.hostPort = none ∧
    (let s := onState (live id) fun d => (d.wr Reg.TRAILHEAD_STEP 13).onBoot fun b => { b with cmpGood := 15, step3 := true }
     s.dev.started = true ∧ bitAt s.dev.boot.cmpGood 2 = true ∧ s.dev.boot.regionDemand = 0 ∧ s.dev.boot.restarting = none ∧ s.dev.transition = .none ∧
     s.dev.mainRuns = true) := by decide

/-! LinkPortEvents -/

theorem wit_LinkPortEvents : (live id).dev.fn (.link 1) ≠ .starting ∧
    (let s := live fun d => (d.setFn (.link 1) .starting).wr Reg.DEVICE_ID 3
     s.dev.fn (.link 1) = .starting ∧ s.dev.linkCut (1 : Fin 4).val = false ∧ 5 ≠ s.dev.ownId ∧ bitAt (s.dev.rd (Reg.LINK_PEER_EXPECT 1)) 7 = false) ∧
    (let s := live fun d => ((d.setFn (.link 1) .on).wr (Reg.LINK_PHASE 1) 2).onLinkPort 1 fun l => { l with throttled := true }
     s.dev.linkTakes 1 { dstDev := BitVec.ofNat 8 s.dev.ownId } ∧ s.dev.fn (.link 1) ≠ .draining ∧ (s.dev.linkPort 1).queue = [] ∧
       (s.dev.linkPort 1).throttled = true ∧ (s.dev.linkPort 1).full = false ∧ (s.dev.wr (Reg.LINK_PHASE 1) 3).rd (Reg.LINK_PHASE 1) = 3) := by
  unfold Device.linkTakes; decide

/-! LinkTransfersLand -/

def upLink (f : Device → Device) : State := live fun d => f (((d.setFn (.link 1) .on).wrAll [(Reg.LINK_PHASE 1, 2), (Reg.DEVICE_ID, 1), (Reg.LINK_WINDOW_SIZE, 4096)]))

theorem wit_LinkTransfersLand_packets : (upLink id).dev.linkTakes 1 { srcDev := 2, dstDev := 1, addr := 64, payload := [7], len := 1 } ∧ 2 ≠ (upLink id).dev.ownId ∧
    ((upLink id).dev.linkPort 1).held = [] ∧ ((upLink id).dev.mport (portLink 1)).exhaustedNow = false ∧
    ((upLink id).dev.linkPort 1).credited (LinkArrival.packet pktMemWrite { srcDev := 2, dstDev := 1, addr := 64, payload := [7], len := 1 }) = true ∧
    (upLink id).dev.zeroWait 64 1 = false ∧ (upLink id).dev.rd Reg.LINK_WINDOW_BASE ≤ 64 ∧ 65 ≤ dramEnd ∧ (upLink id).dev.rd Reg.DRIVE_SEALED ≠ 1 ∧
    (upLink id).dev.fn .run ≠ .on ∧ (live id).dev.rd Reg.LINK_WINDOW_SIZE = 0 ∧ (live id).dev.takes .fn0 Reg.EPOCH_RELEASE 0 := by
  unfold Device.linkTakes; decide

theorem wit_LinkTransfersLand_channel : (upLink fun d => (((d.setFn .run .on).wr (Reg.EP_BIND 0 0) 0x80000000).wr (Reg.EP_WINDOW 0 0) 1).wr (Reg.CORE_STATE 0) 0).dev.chanOpen
    { guest := false, channel := 0, epoch := 0, dev := 2, core := 0, chan := 0, off := 0, data := [7], bad := [], last := true } 0 0 := by
  unfold Device.chanOpen; decide

theorem wit_LinkTransfersLand_closes : let s := onState (live id) fun d => d.onCore 3 fun k => { k with transfers := [(1, [{ dev := 2, core := 0, chan := 0, channel := 5 }])] }
    0 < (SMap.getD (s.dev.core 3).transfers 1 []).length ∧ (live id).dev.epTakes 3 3 0 1 = false ∧
    (onState (live id) fun d => (d.wr (Reg.EP_WORLD_WINDOW 3) 1).wr (Reg.CORE_STATE 3) 0).dev.epTakes 3 3 0 1 = true := by decide

/-! GuestPacketsServed -/

def guestUp (f : Device → Device) : State :=
  live fun d => f ((d.setFn .guest .on).wrAll [(Reg.GUEST_PRESENT, 1), (Reg.GUEST_WINDOW_SIZE, 4096)])

theorem wit_GuestPacketsServed_arrivals : (guestUp id).dev.guestTakes gstRdReq { addr := 64, len := 8 } ∧ (guestUp id).dev.guestTakes gstWrReq { addr := 64, len := 1, data := [7] } ∧
    (guestUp id).dev.guestTakes gstDictRsp {} ∧ (guestUp id).dev.guestTakes gstCredit { status := 3 } ∧ (guestUp id).dev.guestTakes gstNack {} ∧
    (guestUp id).dev.rd Reg.GUEST_WINDOW_SIZE ≠ 0 ∧ (guestUp id).dev.rd Reg.GUEST_WINDOW_BASE ≤ 64 ∧ (guestUp id).dev.zeroWait 64 8 = false ∧
    ((guestUp id).dev.mport portGuest).exhaustedNow = false ∧ 72 ≤ dramEnd ∧ (guestUp id).dev.rd Reg.DRIVE_SEALED ≠ 1 ∧ (guestUp id).dev.guest.queue = [] ∧
    (guestUp id).dev.rd Reg.GUEST_FENCED ≠ 1 ∧ (guestUp id).dev.rd Reg.GUEST_FAILURES < 2 ∧ (guestUp id).dev.rd Reg.GUEST_PRESENT ≠ 0 ∧
    (guestUp fun d => d.wr Reg.GUEST_WINDOW_SIZE 0).dev.guestTakes gstRdReq {} := by
  unfold Device.guestTakes; decide

theorem wit_GuestPacketsServed_channel : let s := guestUp fun d => (((d.setFn .run .on).wr (Reg.EP_BIND 0 0) 0xC0000000).wr (Reg.EP_WINDOW 0 0) 1).wr (Reg.CORE_STATE 0) 0
    s.dev.guestTakes gstChXfer { flags := 1, len := 1, data := [7] } ∧ s.dev.chanOpen { guest := true, channel := 0, epoch := 0, dev := 64, core := 0, chan := 0, off := 0, data := [7], bad := [], last := true } 0 0 := by
  unfold Device.chanOpen Device.guestTakes; decide

theorem wit_GuestPacketsServed_held : (guestUp id).dev.nothingHeld := ⟨rfl, by decide, by decide⟩

theorem wit_GuestPacketsServed_answer : let s := guestUp fun d => d.setReq .fn0 { d.req .fn0 with crossing := .reading (key 0x9210 0), asked := some 5 }
    s.dev.guestTakes gstDictRsp { tag := 5, index := 0x9210 } ∧ allRequesters.find? (fun q => (s.dev.req q).asked == some 5) = some .fn0 ∧
    (s.dev.req .fn0).crossing = .reading (key 0x9210 0) ∧ (s.dev.req .fn0).held = [] ∧ key 0x9210 0 ≠ Reg.LAST_ACCESS_STATUS := by
  unfold Device.guestTakes; decide

theorem wit_GuestPacketsServed_site : (guestUp fun d => d.wr Reg.GUEST_FAILURES 2).dev.rd Reg.GUEST_FAILURES = 2 ∧
    (guestUp fun d => d.onGuest fun g => { g with retraining := true }).dev.guest.retraining = true ∧
    (guestUp fun d => d.onGuest fun g => { g with training := true }).dev.guest.training = true ∧ (live id).dev.guest.training = false ∧
    (live id).dev.fn .guest = .off ∧ (live fun d => d.wrAll [(Reg.GUEST_ENABLE, 1), (Reg.PERSONALITY_NOW, 0)]).dev.personality ≠ .bivouac ∧
    (live fun d => d.wrAll [(Reg.GUEST_ENABLE, 1), (Reg.PERSONALITY_NOW, 0)]).dev.personality ≠ .overnight ∧ (live fun d => d.wrAll [(Reg.GUEST_ENABLE, 1), (Reg.PERSONALITY_NOW, 0)]).dev.rd Reg.GUEST_ENABLE = 1 := by decide

/-! CameraFramesBecomeSamples -/

def slotUp (n kind : Nat) (f : Device → Device) : State :=
  live fun d => f (d.wrAll [(Reg.SLOT_STATE n, FnState.on.code), (Reg.SLOT_SOURCE_KIND n, kind), (Reg.SLOT_BUF_BASE n, drivePartEnd), (Reg.SLOT_BUF_BYTES n, 4096), (Reg.SLOT_BUF_COUNT n, 2), (Reg.SLOT_REC_BASE n, drivePartEnd + 8192), (Reg.SLOT_SHAPE n, 65538), (Reg.SLOT_STAMP_FIELD n, 16777216), (Reg.SLOT_CSI_SELECT n, 0x2A00)])

theorem wit_CameraFramesBecomeSamples_start : let s := slotUp 5 kindCsi id
    s.dev.ingestStopped kindCsi 0 = false ∧ s.dev.csiSlots 0 0 = [5] ∧ s.dev.csiSlots 0 1 = [] ∧ (s.dev.slot 5).sample = none ∧ s.dev.slotState 5 = .on ∧
    s.dev.takesStore (s.dev.recAddr 5 (s.dev.slot 5).seq) 64 {} ∧ (s.dev.csiSlots 0 1).find? (fun n => s.dev.takesType n 0x2A) = none := by
  unfold Device.takesStore Device.plain; decide

theorem wit_CameraFramesBecomeSamples_lines : let s := slotUp 5 kindCsi fun d => d.putSample 5 { seq := 0 }
    (s.dev.slot 5).sample = some { seq := 0 } ∧ (s.dev.csiSlots 0 0).find? (fun n => s.dev.takesType n 0x2A) = some 5 ∧
    (s.dev.csiSlots 0 0).find? (fun n => s.dev.takesType n 0x12) = some 5 ∧ selImage (s.dev.rd (Reg.SLOT_CSI_SELECT 5)) = 0x2A ∧
    stampIn (s.dev.rd (Reg.SLOT_STAMP_FIELD 5)) [7] = some 7 ∧ s.dev.rd (Reg.SLOT_PATTERN_KIND 5) = 0 ∧ shapeBytes (s.dev.rd (Reg.SLOT_SHAPE 5)) = 2 ∧
    0 + 2 ≤ s.dev.rd (Reg.SLOT_BUF_BYTES 5) - 64 ∧ s.dev.takesStore (s.dev.bufAddr 5 0 + 0) 2 {} := by
  unfold Device.takesStore Device.plain; decide

/-! FramesBecomeSamples -/

theorem wit_FramesBecomeSamples_ethernet : let s := slotUp 5 kindEth fun d => d.wrAll [(Reg.SLOT_SHAPE 5, 1), (Reg.MAC_ADDRESS 0, 9)]
    s.dev.ingestStopped kindEth 0 = false ∧ s.dev.boundSlot kindEth 0 (fun n => s.dev.ethMatches n (zeros 15)) = some 5 ∧ s.dev.boundSlot kindEth 1 (fun n => s.dev.ethMatches n (zeros 15)) = none ∧
    (s.dev.slot 5).sample = none ∧ s.dev.slotState 5 = .on ∧ shapeBytes (s.dev.rd (Reg.SLOT_SHAPE 5)) ≤ 1 ∧ field (s.dev.rd (Reg.SLOT_ETH_FLOW 5)) 15 0 = 0 ∧
    stampIn (s.dev.rd (Reg.SLOT_STAMP_FIELD 5)) ((zeros 15).drop 14) = some 0 ∧ s.dev.takesSample 5 32 {} := by
  unfold Device.takesSample Device.takesStore Device.plain; decide

theorem wit_FramesBecomeSamples_nodes : let s := live fun d => d.wrAll [(Reg.NODE_CFG 2, 0x80000005), (Reg.NODE_CFG 3, 0xA0000000), (Reg.MAC_ADDRESS 0, 9)]
    (s.dev.nodeOf 0 5).isSome = true ∧ (s.dev.nodeOf 0 6).isSome = false ∧ (s.dev.nodeOf 2 (beNat (slice (zeros 15) 6 6))).isSome ∧
    beNat (slice (zeros 15) 12 2) = (live fun d => d.wr Reg.ETHERTYPE 0).dev.rd Reg.ETHERTYPE := by decide

theorem wit_FramesBecomeSamples_can : let s := slotUp 5 kindCan fun d => d.wrBlob (Reg.SLOT_CAN_ID_SET 5) ([5, 0, 255, 7] ++ zeros 12)
    s.dev.ingestStopped kindCan 0 = false ∧ s.dev.boundSlot kindCan 0 (fun n => (s.dev.canPairs n).any (pairMatches 5)) = some 5 ∧
    s.dev.boundSlot kindCan 0 (fun n => (s.dev.canPairs n).any (pairMatches 6)) = none ∧ s.dev.slotState 5 = .on ∧
    stampIn (s.dev.rd (Reg.SLOT_STAMP_FIELD 5)) [7] = some 7 ∧ stampIn (s.dev.rd (Reg.SLOT_STAMP_FIELD 5)) [] = none ∧ s.dev.takesSample 5 32 {} := by
  unfold Device.takesSample Device.takesStore Device.plain; decide

theorem wit_FramesBecomeSamples_spi : let s := slotUp 5 kindSpi fun d => d.wr (Reg.SLOT_SPI_CFG 5) 262144
    s.dev.ingestStopped kindSpi 0 = false ∧ s.dev.boundSlot kindSpi 0 (fun _ => true) = some 5 ∧ s.dev.boundSlot kindSpi 1 (fun _ => true) = none ∧ (s.dev.slot 5).ending = [] ∧
    padTo [7] (spiBytes (s.dev.rd (Reg.SLOT_SPI_CFG 5))) = [7, 0, 0, 0] ∧ stampIn (s.dev.rd (Reg.SLOT_STAMP_FIELD 5)) [7, 0, 0, 0] = some 7 ∧ s.dev.takesSample 5 4 {} := by
  unfold Device.takesSample Device.takesStore Device.plain; decide

/-! SamplesCompleteOrDropOut -/

theorem wit_SamplesCompleteOrDropOut_sample : let s := slotUp 5 kindEth fun d => (d.wrBlob (Reg.CLOCK_MAP_BANK 0 0) (zeros 16 ++ leBytes 1 4 ++ zeros 12 ++ leBytes 99 8 ++ leBytes 8 1 ++ zeros 7)).onSlot 5 fun s => { s with ending := [{ seq := 0, stamp := some 7 }] }
    (s.dev.slot 5).ending = [{ seq := 0, stamp := some 7 }] ∧ s.dev.slotState 5 = .on ∧ s.dev.rd (Reg.SLOT_PATTERN_KIND 5) = 0 ∧ bitAt (s.dev.rd Reg.CAPTURE_MASK) 5 = false ∧
    s.dev.takesStore (s.dev.bufAddr 5 0 + s.dev.rd (Reg.SLOT_BUF_BYTES 5) - 64) 64 {} ∧ s.dev.takesStore (s.dev.recAddr 5 0) 64 {} ∧
    s.dev.timeSample 5 { seq := 0, stamp := some 7 } = ({ seq := 0, stamp := some 7 }, some (0, 0)) ∧ (live id).dev.slotState 5 ≠ .on ∧ (s.dev.slot 6).ending = [] := by
  unfold Device.takesStore Device.plain; decide

theorem wit_SamplesCompleteOrDropOut_dropout : let s := slotUp 5 kindEth fun d => d.wr (Reg.SLOT_DROPOUT_LIMIT 5) 1
    s.dev.takesStore (s.dev.recAddr 5 (s.dev.slot 5).seq) 64 {} ∧ (decide (s.dev.rd (Reg.SLOT_DROPOUT_LIMIT 5) ≤ (s.dev.slot 5).dropRun + 1) && !(s.dev.slot 5).lost) = true := by
  unfold Device.takesStore Device.plain; decide

theorem wit_SamplesCompleteOrDropOut_warm : let s := live fun d => ({ d with boot := { d.boot with warm := true } }).wrAll [(Reg.SLOT_ENABLE 5, 1), (Reg.SLOT_DROPOUT_LIMIT 5, 9)]
    s.dev.boot.warm = true ∧ s.dev.slotState 5 = .off ∧ s.dev.rd (Reg.SLOT_ENABLE 5) = 1 ∧ (s.dev.slot 5).dropRun + 1 < s.dev.rd (Reg.SLOT_DROPOUT_LIMIT 5) := by decide

/-! InputsReachFusion -/

/-- Fusion runs; slot 5 has `role`, and its record 0 in memory is DONE and usable with 64 bytes of data. -/
def sensing (role : Nat) (f : Device → Device) : State :=
  slotUp 5 kindEth fun d => f (((d.setFn .fusion .on).wrAll [(Reg.CAL_ROLE 5, role), (Reg.PACING_MASK, 32), (Reg.PERIOD_NS, 100), (Reg.CLOSE_LAG_NS, 50), (Reg.OUT_COUNT, 4)]).onMem
    fun m => m.store (drivePartEnd + 8192) (zeros 4 ++ [2] ++ zeros 3 ++ [7] ++ zeros 15 ++ [64] ++ zeros 5 ++ [1] ++ zeros 33))

/-- The entry of the ego history at time `t`. -/
def egoAt (t : Int) : EgoEntry := ⟨t, [], [], [], [], []⟩

theorem wit_InputsReachFusion_imu : let s := sensing roleImu id
    bitAt (s.dev.rd Reg.PACING_MASK) 5 = true ∧ s.dev.role 5 = roleImu ∧ s.dev.worldRuns = true ∧ s.dev.memSound {} ∧ s.dev.usableAt 5 0 ∧
    s.dev.rd (Reg.SLOT_BUF_BASE 5) + 0 * s.dev.rd (Reg.SLOT_BUF_BYTES 5) + (max (leAt (s.dev.intrinsics 5) 24 2) (leAt (s.dev.intrinsics 5) 26 2) + 6) ≤ dramEnd ∧
    s.dev.inputTime 5 7 = 7 ∧ leAt (s.dev.mem.bytes (s.dev.rd (Reg.SLOT_REC_BASE 5) + 64 * 0) 64) 8 8 = 7 ∧ s.dev.fn .fusion = .on ∧ s.dev.fusion.history.length < 8192 := by
  unfold Device.memSound Device.usableAt; decide

theorem wit_InputsReachFusion_history : (sensing roleImu fun d => d.onFusion fun f => { f with history := [egoAt 5] }).dev.fusion.history.getLast?.map (·.tau) = some 5 ∧
    (sensing roleImu fun d => d.onFusion fun f => { f with history := [egoAt 9] }).dev.fusion.history.getLast?.map (·.tau) = some 9 := by decide

theorem wit_InputsReachFusion_open : (sensing roleImu fun d => d.onFusion fun f => { f with open? := some 1 }).dev.staysOpen (some 7) :=
  ⟨by decide, fun k e hk he => by
    have h1 : k = 1 := by cases hk; rfl
    have h2 : e = 7 := by cases he; rfl
    subst h1; subst h2; decide⟩

theorem wit_InputsReachFusion_wheel : let s := sensing roleWheel fun d => d.onFusion fun f => { f with history := [egoAt 5] }
    s.dev.role 5 = roleWheel ∧ s.dev.worldRuns = true ∧ s.dev.memSound {} ∧ s.dev.usableAt 5 0 ∧ s.dev.fusion.history.head?.map (·.tau) = some 5 ∧ s.dev.egoHorizon = some 5 ∧
    s.dev.inputTime 5 7 = 7 ∧ (sensing roleWheel fun d => d.onFusion fun f => { f with history := [egoAt 9] }).dev.egoHorizon = some 9 := by
  unfold Device.memSound Device.usableAt; decide

theorem wit_InputsReachFusion_lidar : let s := sensing roleLidar id
    s.dev.role 5 = roleLidar ∧ s.dev.usableAt 5 0 ∧ 0 < leAt (s.dev.mem.bytes (s.dev.rd (Reg.SLOT_REC_BASE 5) + 64 * 0) 64) 24 4 ∧
    bitAt (leAt (s.dev.mem.bytes (s.dev.rd (Reg.SLOT_BUF_BASE 5) + 0) 16) 10 1) 0 = false ∧ s.dev.isLate 0 = false ∧ s.dev.egoHorizon = none ∧ s.dev.rd Reg.REQUIRED_MASK = 0 := by
  unfold Device.usableAt; decide

/-- Fusion runs with a job of a class taken, whose core can take its record. -/
def withTaken (cls arg : Nat) (f : Device → Device) : State :=
  sensing 1 fun d => f (((d.wr (Reg.EP_WORLD_WINDOW 0) 1).wr (Reg.CORE_STATE 0) 0).onWorld fun w => { w with taken := [{ cls := cls, job := 0, core := 0, sem := 0, arg := arg }] })

theorem wit_InputsReachFusion_lists : let s := withTaken 1 0 fun d => d.onMem fun m => m.store 0 ([0x4E, 0x4B, 0x44, 0x54, 5] ++ zeros 11 ++ [7] ++ zeros 47)
    s.dev.regionStopped .world = false ∧ s.dev.world.taken.find? (fun j => j.cls == 1) = some { cls := 1, job := 0, core := 0, sem := 0, arg := 0 } ∧ s.dev.memSound {} ∧
    s.dev.jobReady { cls := 1, job := 0, core := 0, sem := 0, arg := 0 } ∧ (s.dev.parseList (s.dev.mem.bytes 0 (64 + 64 * min 1024 (leAt (s.dev.mem.bytes 0 64) 6 2)))).map (·.stamp) = some 7 ∧
    s.dev.instantOf (s.dev.inputTime 5 7) = some 1 ∧ s.dev.isLate (s.dev.inputTime 5 7) = false ∧ (live id).dev.world.taken.find? (fun j => j.cls == 1) = none := by
  unfold Device.memSound Device.jobReady; decide

theorem wit_InputsReachFusion_await : let s := withTaken 2 4 fun d => d.onFusion fun f => { f with outputs := [{ instant := 3, time := 0 }] }
    s.dev.world.taken.find? (fun j => j.cls == 2) = some { cls := 2, job := 0, core := 0, sem := 0, arg := 4 } ∧ 0 < signExt 32 (ofInt 32 ((4 : Int) - 3)) ∧
    signExt 32 (ofInt 32 ((3 : Int) - 3)) ≤ 0 ∧ ((s.dev.fusion.outputs.take (s.dev.rd Reg.OUT_COUNT)).find? (fun o => o.instant % 2 ^ 32 == 3)).map (·.instant) = some 3 ∧
    signExt 32 (ofInt 32 ((2 : Int) - 3)) ≤ 0 ∧ (s.dev.fusion.outputs.take (s.dev.rd Reg.OUT_COUNT)).find? (fun o => o.instant % 2 ^ 32 == 2) = none := by decide

/-! InstantsCloseAndGoOut -/

theorem length_grid (m : SMap Nat) (k v : Nat) : ∀ n, (SMap.getList m k v n).length = n := by
  intro n
  induction n generalizing k with
  | zero => rfl
  | succ n ih => exact congrArg (· + 1) (ih (k + 1))

theorem length_gridBytes (x : ClosedInstant) : x.gridBytes.length = 1048576 := by
  have : ∀ l : List Nat, (l.flatMap (fun w => leBytes w 4)).length = 4 * l.length := by
    intro l
    induction l with
    | nil => rfl
    | cons a t ih => rw [List.flatMap_cons, List.length_append, ih, length_leBytes, List.length_cons]; omega
  unfold ClosedInstant.gridBytes
  rw [this, length_grid]

/-- Fusion runs with an open instant 1 and one entry of history, and `f` done. -/
def guarded (f : Device → Device) : State :=
  sensing roleImu fun d => f (d.onFusion fun g => { g with open? := some 1, history := [egoAt 5] })

theorem wit_InstantsCloseAndGoOut_guard : (sensing roleImu id).dev.fusion.open? = none ∧
    (let s := guarded id
     s.dev.fusion.open? = some 1 ∧ s.dev.fusionRuns = true ∧ s.dev.fusion.history.head? = some (egoAt 5) ∧ s.dev.fusion.lists = [] ∧ s.dev.fusion.packets = [] ∧
     s.dev.fusion.lateLists = [] ∧ s.dev.fusion.latePackets = [] ∧ s.dev.fusion.tracks = [] ∧ s.dev.fusion.footprints = [] ∧ s.dev.rd Reg.REQUIRED_MASK = 0 ∧
     s.dev.egoHorizon = some 5 ∧ (5 : Int) < s.dev.instantTime 2 + (s.dev.rd Reg.CLOSE_LAG_NS : Int) ∧ s.dev.memSound {} ∧ s.dev.outBuffer 1 + 256 ≤ dramEnd) ∧
    (guarded fun d => d.wr Reg.GUARD_LIMIT 1).dev.rd Reg.GUARD_LIMIT ≤ 0 + 1 ∧ ¬ (guarded fun d => d.wr Reg.GUARD_LIMIT 2).dev.rd Reg.GUARD_LIMIT ≤ 0 + 1 := by
  unfold Device.memSound; decide

/-- Instant 3, closed with nothing in it. -/
def emptyInstant : ClosedInstant := ⟨3, zeros 256, [], [], [], 0, 0, 0⟩

theorem wit_InstantsCloseAndGoOut_output : let s := sensing roleImu fun d => d.onFusion fun g => { g with closed := [emptyInstant] }
    s.dev.fusion.closed = [emptyInstant] ∧ s.dev.worldRuns = true ∧ s.dev.world.waits = [] ∧ s.dev.planning.cycle = none ∧ s.dev.fn .planning ≠ .on ∧
    s.dev.fn (.ring .fusionOut) ≠ .on ∧ s.dev.memSound {} ∧ s.dev.outBuffer 3 + 266240 + 1048576 ≤ dramEnd ∧ (headerWith emptyInstant.header 2 s.dev.strm.count).length = 256 ∧
    s.dev.fn .fusion ≠ .draining ∧ (onState s fun d => d.setFn .fusion .draining).dev.fn .fusion = .draining ∧ (live id).dev.fusion.closed = [] := by
  unfold Device.memSound; decide

theorem wit_InstantsCloseAndGoOut_frames : (onState (sensing 1 id) fun d => d.setFn .fusion .starting).dev.fn .fusion = .starting ∧ (sensing 1 id).dev.fn .fusion ≠ .starting ∧
    (let s := onState State.reset fun d => { d.onIsl .B fun x => { x with firmware := true } with boot := { d.boot with islB := true }, safety := { d.safety with b := { d.safety.b with firmware := true }, trajectory := [1] } }
     s.dev.safety.trajectory ≠ [] ∧ s.dev.firmware .B = true ∧ State.reset.dev.safety.trajectory = []) ∧
    (onState State.reset fun d => d.onPlanning fun p => { p with unsent := SMap.put [] 1 [5] [] }).dev.planning.unsent.length = 1 := by decide

/-! EpochsAreBuilt -/

/-- Planning runs with the locked window whole, a job of a class taken whose core can take its record, and `f` done. -/
def planned (cls arg : Nat) (f : Device → Device) : State :=
  withTaken cls arg fun d => f (((d.wr (Reg.PART 0) (0xC0000000 + 0xFFFF)).setFn .planning .on).onMem fun m => m.store 0 ([0x4E, 0x4B, 0x4F, 0x43, 0, 0, 0, 0, 7] ++ zeros 11 ++ [6] ++ zeros 43))

theorem locked_planned {d : Device} (h : d.unified = false ∧ ∀ w < 16, bitAt d.lockedWays w = true) (a n : Nat) (h1 : lockedBase ≤ a)
    (h2 : a + n ≤ lockedBase + lockedSize) : d.served a n := Device.served_of_locked h.1 h.2 h1 h2

theorem wit_EpochsAreBuilt_job : let s := planned 8 0 id
    let j : WorldJob := { cls := 8, job := 0, core := 0, sem := 0, arg := 0 }
    s.dev.regionStopped .world = false ∧ s.dev.fn .planning = .on ∧ s.dev.world.taken.find? (fun j => j.cls == 8) = some j ∧ s.dev.planning.builds = [] ∧ s.dev.memSound {} ∧
    s.dev.jobReady j ∧ (0 + 64 ≤ dramEnd ∧ s.dev.rd Reg.DRIVE_SEALED ≠ 1) ∧ s.dev.unified = false ∧ (∀ w < 16, bitAt s.dev.lockedWays w = true) ∧
    (live id).dev.world.taken.find? (fun j => j.cls == 8) = none := by
  unfold Device.memSound Device.jobReady; decide

theorem wit_EpochsAreBuilt_range : (planned 8 0 id).dev.served 0x400B000000 0x4800080 ∧ (planned 8 0 id).dev.served 0 64 :=
  ⟨locked_planned ⟨wit_EpochsAreBuilt_job.2.2.2.2.2.2.2.1, wit_EpochsAreBuilt_job.2.2.2.2.2.2.2.2.1⟩ _ _ (by decide) (by decide),
    Device.served_of_plain ⟨by decide, Or.inr wit_EpochsAreBuilt_job.2.2.2.2.2.2.1.2⟩⟩

theorem wit_EpochsAreBuilt_record : occupancyFault ((planned 8 0 id).dev.mem.bytes 0 64) = false ∧
    occupancyFault ((planned 8 0 fun d => d.onMem fun m => m.store 0 [0]).dev.mem.bytes 0 64) = true := by decide

theorem wit_EpochsAreBuilt_start :
    let b : Build := { job := { cls := 8, job := 0, core := 0, sem := 0, arg := 0 }, checked := true, instant := 5, far := 0x100000 }
    let out : FusionOutput := { instant := 5, time := 0 }
    let s := planned 8 0 fun d => (d.onFusion fun f => { f with outputs := [out] }).onPlanning fun p => { p with builds := [b] }
    s.dev.planning.builds = b :: [] ∧ s.dev.worldRuns = true ∧ s.dev.buildStale 5 = false ∧ s.dev.bufferHeld s.dev.nextEpoch = false ∧
    (planned 8 0 id).dev.buildStale 5 = true ∧ (∀ p ∈ s.dev.outputReads 5 ++ b.reads, p.1 + p.2 ≤ dramEnd) ∧
    (onState s fun d => d.onPlanning fun p => { p with cycle := some { instant := 4, bound := some 0 } }).dev.bufferHeld 0 = true := by decide

/-! ExpandAndSelectAct -/

/-- A survivor, the cycle of instant 5 bound to epoch 0 with it, and the score list in memory at 512. -/
def oneSurvivor : Survivor := ⟨0, 0, 0, false, 0⟩
def boundCycle : Cycle := { instant := 5, bound := some 0, survivors := [oneSurvivor] }
def cycling (cls arg : Nat) (c : Cycle) : State :=
  planned cls arg fun d => (d.onPlanning fun p => { p with newest := some (0, 5), cycle := some c }).onMem fun m =>
    m.store 512 ([0x4E, 0x4B, 0x43, 0x52, 0, 0, 0, 0, 5, 0, 0, 0, 0, 0, 0, 0, 1] ++ zeros 49 ++ [0x80, 0x3F])

theorem wit_ExpandAndSelectAct_expand : let s := planned 9 5 id
    let j : WorldJob := { cls := 9, job := 0, core := 0, sem := 0, arg := 5 }
    s.dev.expanding = false ∧ s.dev.planning.expandWait = none ∧ s.dev.regionStopped .world = false ∧ s.dev.fn .planning = .on ∧
    s.dev.world.taken.find? (fun j => j.cls == 9) = some j ∧ s.dev.planning.cycle = none ∧ s.dev.planning.begun = false ∧ s.dev.jobReady j ∧
    (live id).dev.world.taken.find? (fun j => j.cls == 9) = none := by
  unfold Device.jobReady; decide

theorem wit_ExpandAndSelectAct_cycle : let s := cycling 9 5 boundCycle
    s.dev.expanding = false ∧ s.dev.planning.cycle = some boundCycle ∧ boundCycle.instant % 2 ^ 32 = 5 ∧ s.dev.planning.newest = some (0, 5) ∧ s.dev.memSound {} ∧
    (s.dev.survBuffer 5 + 64 ≤ dramEnd ∧ s.dev.rd Reg.DRIVE_SEALED ≠ 1) ∧ boundCycle.instant % 2 ^ 32 ≠ 4 ∧ signExt 32 (ofInt 32 ((4 : Int) - s.dev.rd Reg.CYCLE_INSTANT)) = 4 ∧
    (onState s fun d => d.wr Reg.CYCLE_INSTANT 5).dev.rd Reg.CYCLE_INSTANT = 5 := by
  unfold Device.memSound; decide

theorem wit_ExpandAndSelectAct_done :
    let j : WorldJob := { cls := 9, job := 0, core := 0, sem := 0, arg := 5 }
    let c : Cycle := { boundCycle with expand := .running, expandJob := some j }
    let s := cycling 9 5 c
    s.dev.planning.cycle = some c ∧ s.dev.worldRuns = true ∧ s.dev.memSound {} ∧ s.dev.jobReady j ∧ s.dev.binCount 0 = 0 ∧
    s.dev.checkReads c (some 0) (List.range (s.dev.binCount 0)) = [(256, 8), (epochHeader 0, 64)] ∧ s.dev.unified = false ∧ (∀ w < 16, bitAt s.dev.lockedWays w = true) := by
  unfold Device.memSound Device.jobReady; decide

theorem wit_ExpandAndSelectAct_select : let s := cycling 10 0 boundCycle
    s.dev.selecting = false ∧ s.dev.regionStopped .world = false ∧ s.dev.fn .planning = .on ∧ s.dev.world.taken.find? (fun j => j.cls == 10) = some { cls := 10, job := 0, core := 0, sem := 0, arg := 0 } ∧
    s.dev.planning.cycle = some boundCycle ∧ boundCycle.expand ≠ .running ∧ s.dev.memSound {} ∧
    s.dev.checkReads boundCycle (some 0) (0 :: List.range (s.dev.binMrm 0)) = [(256, 8), (8192, 576), (epochHeader 0, 64)] ∧
    (s.dev.unified = false ∧ ∀ w < 16, bitAt s.dev.lockedWays w = true) ∧ s.dev.trajBuffer 5 + 576 ≤ dramEnd ∧ s.dev.rd Reg.DRIVE_SEALED ≠ 1 := by
  unfold Device.memSound; decide

theorem wit_ExpandAndSelectAct_served : (cycling 10 0 boundCycle).dev.choiceServed boundCycle ⟨0, some ⟨0, 0, 0, false, 0⟩, 0⟩ := by
  obtain ⟨_, _, _, _, _, _, _, h1, h2, h3, h4⟩ := wit_ExpandAndSelectAct_select
  refine ⟨?_, Device.served_of_plain ⟨h3, Or.inr h4⟩⟩
  show ∀ p ∈ (cycling 10 0 boundCycle).dev.checkReads boundCycle (some 0) (0 :: List.range ((cycling 10 0 boundCycle).dev.binMrm 0)), _
  rw [h1]
  intro p hp
  simp only [List.mem_cons, List.not_mem_nil, or_false] at hp
  rcases hp with rfl | rfl | rfl
  · exact Device.served_of_plain ⟨by decide, Or.inr h4⟩
  · exact Device.served_of_plain ⟨by decide, Or.inr h4⟩
  · exact locked_planned h2 _ _ (by decide) (by decide)

theorem wit_ExpandAndSelectAct_scores : scoreOrder ((cycling 10 2 boundCycle).dev.mem.bytes 512 68) boundCycle = some [oneSurvivor] ∧
    leAt ((cycling 10 2 boundCycle).dev.mem.bytes 512 64) 8 8 = 5 := by
  refine ⟨?_, by decide⟩
  obtain ⟨l, hl⟩ : ∃ l, l = (cycling 10 2 boundCycle).dev.mem.bytes 512 68 := ⟨_, rfl⟩
  rw [← hl]
  have h1 : leAt l 0 4 = 0x52434B4E ∧ leAt l 16 2 = 1 ∧ leAt l 64 4 = 0x3F800000 := by rw [hl]; decide
  have hf : ((boundCycle.survivors.zipIdx).map (fun p => (leAt l (64 + 4 * p.2) 4, p.1))).filter (fun p => !(f32NotFinite p.1 && p.1 % 2 ^ 23 != 0)) = [(0x3F800000, oneSurvivor)] := by
    show List.filter _ [(leAt l 64 4, oneSurvivor)] = _
    rw [h1.2.2]; decide
  unfold scoreOrder; dsimp only
  rw [if_neg (by rw [h1.1, h1.2.1]; decide), hf, if_neg (by simp), List.mergeSort_singleton]
  rfl

/-! ResetAndFloorSupply -/

theorem wit_ResetAndFloorSupply : (let s := live id; s.dev.boot.resetHigh = true ∧ s.dev.boot.floorGood = true ∧ s.dev.floorUp = true) ∧
    (let s := onState State.reset fun d => d.onBoot fun b => { b with floorGood := true, resetHigh := false }
     s.dev.boot.resetHigh = false ∧ s.dev.boot.floorGood = true ∧ s.dev.power.trip = false ∧ s.dev.rd Reg.TRAILHEAD_STEP < 5 ∧
     bitAt s.dev.boot.romFailed 2 = false ∧ (s.dev.boot.islandsDone && s.dev.boot.step3 && s.dev.boot.step4) = false) ∧
    (let s := onState State.reset fun d => d.onBoot fun b => { b with floorGood := false, resetHigh := true }
     s.dev.boot.resetHigh = true ∧ s.dev.boot.floorGood = false ∧ s.dev.floorUp = false ∧ s.dev.power.trip = false) := by decide

/-! CyclesEndWithARecord -/

theorem wit_CyclesEndWithARecord_bound : let c : Cycle := { boundCycle with expand := .done }
    let s := cycling 8 0 c
    s.dev.planning.cycle = some c ∧ c.chosen = none ∧ s.dev.worldRuns = true ∧ s.dev.memSound {} ∧ c.expand = .done ∧ c.survivors = [oneSurvivor] ∧
    s.dev.planning.newest = some (0, 5) ∧ (live id).dev.planning.cycle = none := by
  unfold Device.memSound; decide

/-- The cycle of instant 5, in which nothing has run. -/
def bareCycle : Cycle := { instant := 5 }

theorem wit_CyclesEndWithARecord_unchecked : let s := onState (cycling 8 0 bareCycle) fun d => d.onPlanning fun p => { p with newest := none }
    s.dev.planning.cycle = some bareCycle ∧ s.dev.worldRuns = true ∧ s.dev.memSound {} ∧ s.dev.planning.newest = none ∧ s.dev.trajBuffer 5 + 576 ≤ dramEnd ∧ s.dev.rd Reg.DRIVE_SEALED ≠ 1 ∧
    s.dev.checkReads bareCycle none (0 :: List.range (s.dev.binMrm 0)) = [(256, 8), (8192, 576)] := by
  unfold Device.memSound; decide

theorem wit_CyclesEndWithARecord_mrm : let s := onState (cycling 8 0 bareCycle) fun d => d.onMem fun m => m.store 258 [1]
    s.dev.binMrm 0 = 1 ∧ (s.dev.mrmClearances bareCycle 0).map (·.index) = [0] ∧ (∀ x ∈ s.dev.mrmClearances bareCycle 0, x.value = 32767) ∧
    s.dev.checkReads bareCycle (some 0) (0 :: List.range (s.dev.binMrm 0)) = [(256, 8), (8192, 576), (8192, 576), (epochHeader 0, 64)] := by decide

theorem wit_CyclesEndWithARecord_served : (cycling 8 0 { boundCycle with expand := .done }).dev.choiceServed { boundCycle with expand := .done } ⟨0, some ⟨0, 0, 0, false, 0⟩, 0⟩ := by
  have h : let s := cycling 8 0 { boundCycle with expand := .done }
      s.dev.checkReads { boundCycle with expand := .done } (some 0) (0 :: List.range (s.dev.binMrm 0)) = [(256, 8), (8192, 576), (epochHeader 0, 64)] ∧
      (s.dev.unified = false ∧ ∀ w < 16, bitAt s.dev.lockedWays w = true) ∧ s.dev.trajBuffer 5 + 576 ≤ dramEnd ∧ s.dev.rd Reg.DRIVE_SEALED ≠ 1 := by decide
  obtain ⟨h1, h2, h3, h4⟩ := h
  refine ⟨?_, Device.served_of_plain ⟨h3, Or.inr h4⟩⟩
  show ∀ p ∈ (cycling 8 0 { boundCycle with expand := .done }).dev.checkReads { boundCycle with expand := .done } (some 0)
    (0 :: List.range ((cycling 8 0 { boundCycle with expand := .done }).dev.binMrm 0)), _
  rw [h1]
  intro p hp
  simp only [List.mem_cons, List.not_mem_nil, or_false] at hp
  rcases hp with rfl | rfl | rfl
  · exact Device.served_of_plain ⟨by decide, Or.inr h4⟩
  · exact Device.served_of_plain ⟨by decide, Or.inr h4⟩
  · exact locked_planned h2 _ _ (by decide) (by decide)

theorem wit_CyclesEndWithARecord_done : let c : Cycle := { bareCycle with chosen := some ⟨zeros 576, zeros 576, some { cls := 10, job := 0, core := 0, sem := 0, arg := 0 }, none⟩ }
    let s := onState (cycling 8 0 c) fun d => { d.onIsl .B fun x => { x with firmware := true } with boot := { d.boot with islB := true } }
    s.dev.planning.cycle = some c ∧ s.dev.worldRuns = true ∧ s.dev.fn .planning = .on ∧ s.dev.fn (.ring .trajOut) ≠ .on ∧ s.dev.firmware .B = true ∧ s.dev.memSound {} ∧
    s.dev.trajBuffer 5 + 576 ≤ dramEnd ∧ s.dev.rd Reg.DRIVE_SEALED ≠ 1 ∧ s.dev.jobReady { cls := 10, job := 0, core := 0, sem := 0, arg := 0 } ∧
    s.dev.outputSet 0 = true ∧ (onState s fun d => d.wr Reg.OUT_CAN 0).dev.outputSet 0 = false := by
  unfold Device.memSound Device.jobReady; decide

/-! EachVectorAndScalarOperationCompletes -/

theorem wit_EachVectorAndScalarOperationCompletes : (running 17).dev.active 17 = true := by decide

/-! EachEnableStartsAndReplayDescriptorsAct -/

def driven (f : Device → Device) : State := live fun d => f (d.setPersonality .drive)

theorem wit_EachEnable_plain : (driven id).dev.takes .fn0 Reg.SCRUB_ENABLE 1 ∧ (driven id).dev.fn .scrub = .off ∧ (driven id).dev.fnHeld .scrub = false ∧
    (driven id).dev.takes .fn0 Reg.FN_ENABLE 1 ∧ (driven id).dev.fn .fieldNet = .off ∧ (driven id).dev.fnHeld .fieldNet = false := by decide

theorem wit_EachEnable_hamper : let s := hamperMap fun d => (({ d with boot := { d.boot with floorGood := true, resetHigh := true, step4 := true, ioUp := true } }).setPersonality .drive).wrAll [(Reg.SLOT_COUNT, 8), (Reg.MAX_PAGES, 16)]
    s.dev.takes .fn0 Reg.HAMPER_ENABLE 1 ∧ s.dev.fn .hamper = .off ∧ s.dev.fnHeld .hamper = false ∧ (s.dev.wr Reg.HAMPER_ENABLE 1).hamperConfigOk = true := by decide

theorem wit_EachEnable_slot : let s := driven fun d => d.wrAll [(Reg.SLOT_SOURCE_KIND 63, kindReplay), (Reg.SLOT_STAMP_FIELD 63, 16777216), (Reg.SLOT_BUF_BASE 63, drivePartEnd), (Reg.SLOT_BUF_BYTES 63, 4096), (Reg.SLOT_BUF_COUNT 63, 2), (Reg.SLOT_REC_BASE 63, drivePartEnd + 8192)]
    s.dev.takes .fn0 (Reg.SLOT_ENABLE 63) 1 ∧ s.dev.fn (.slot 63) = .off ∧ s.dev.fnHeld (.slot 63) = false ∧ (s.dev.wr (Reg.SLOT_ENABLE 63) 1).slotFault 63 = none := by decide

theorem wit_EachEnable_fusion : let s := driven fun d => (((d.wrAll [(Reg.CAL_ROLE 5, roleImu), (Reg.PACING_MASK, 32), (Reg.PERIOD_NS, 50000000), (Reg.OUT_BASE, drivePartEnd), (Reg.OUT_COUNT, 2)]).wrBlob
      (Reg.CAL_INTRINSICS 5) [1, 0, 0, 0]).wrBlob (Reg.CAL_EXTRINSICS 5) [1, 0, 0, 0])
    s.dev.takes .fn0 Reg.FUSION_ENABLE 1 ∧ s.dev.fn .fusion = .off ∧ s.dev.fnHeld .fusion = false ∧ (s.dev.wr Reg.FUSION_ENABLE 1).fusionFault = none := by decide

theorem wit_EachEnable_job : let s := live fun d => ((d.setPersonality .overnight).setFn .hamper .on).wrAll [(Reg.CTRL_BASE, tenantBase), (Reg.STEP_BASE, tenantBase + 1048576), (Reg.CTRL_BYTES, 4096), (Reg.STEP_ENTRIES, 1024), (Reg.CKPT_K, 1)]
    s.dev.takes .fn0 Reg.JOB_ENABLE 1 ∧ s.dev.fn .job = .off ∧ s.dev.fnHeld .job = false ∧ (s.dev.wr Reg.JOB_ENABLE 1).jobFault = none := by decide

theorem wit_EachEnable_link : let s := driven fun d => d.wrAll [(Reg.LANE_ROLE_ACTIVE 0, 1), (Reg.LANE_ROLE_ACTIVE 2, 1), (Reg.LANE_ROLE_ACTIVE 4, 1), (Reg.LANE_ROLE_ACTIVE 6, 1)]
    s.dev.takes .fn0 (Reg.LINK_ENABLE 3) 1 ∧ s.dev.fn (.link 3) = .off ∧ s.dev.fnHeld (.link 3) = false ∧ (s.dev.wr (Reg.LINK_ENABLE 3) 1).linkExists 3 = true := by decide

theorem wit_EachEnable_guest : let s := driven fun d => { d.wr Reg.GUEST_PRESENT 1 with guest := { d.guest with trained := true } }
    s.dev.takes .fn0 Reg.GUEST_ENABLE 1 ∧ s.dev.fn .guest = .off ∧ s.dev.fnHeld .guest = false ∧ s.dev.guest.trained = true ∧ (s.dev.wr Reg.GUEST_ENABLE 1).personality ≠ .overnight := by decide

theorem wit_EachEnable_ring : let s := driven fun d => d.wr (RingId.capture.reg ringEntries) 4
    s.dev.takes .fn0 (RingId.capture.reg 1) 1 ∧ s.dev.fn (.ring .capture) = .off ∧ s.dev.fnHeld (.ring .capture) = false ∧ (s.dev.wr (RingId.capture.reg 1) 1).rd (RingId.capture.reg ringEntries) ≠ 0 := by decide

def replayDesc : Descriptor := ⟨64, 8, 9, 1, [5] ++ zeros 13⟩

def replaying (kind : Nat) : State := slotUp 5 kind fun d => (d.setFn (.ring .replay) .on).wrAll [(RingId.replay.reg ringEntries, 4), (RingId.replay.reg ringTail, 1)]

theorem wit_EachEnable_replay : let s := replaying kindReplay
    s.dev.ringReady .replay ∧ replayDesc.usable true = true ∧ leAt replayDesc.owner 0 2 = 5 ∧ s.dev.rd (Reg.SLOT_SOURCE_KIND 5) = kindReplay ∧ s.dev.slotState 5 = .on ∧
    (s.dev.slot 5).sample = none ∧ (padTo [] replayDesc.len.toNat).length = 8 ∧ s.dev.takesSample 5 8 {} ∧ (replaying kindCan).dev.rd (Reg.SLOT_SOURCE_KIND 5) ≠ kindReplay := by
  unfold Device.takesSample Device.takesStore Device.plain; decide

/-- A path of the lattice whose 32 points lie at the times 0, 100 and so on to 3100. -/
def latticePath (kind : Byte) : List Byte :=
  [0, 0, kind] ++ zeros 71 ++ ((List.range 32).flatMap fun j => leBytes (100 * j) 2 ++ zeros 14)

def latticed : State := driven fun d => ((d.wrAll [(Reg.PART 0, 0xC0000000 + 0xFFFF), (Reg.PERIOD_NS, 50000000), (Reg.TRAJ_BASE, drivePartEnd), (Reg.SURV_BASE, drivePartEnd + 65536),
    (Reg.OUT_BASE, drivePartEnd + 1048576), (Reg.LATTICE_BYTES, 8192 + 2359296)]).wrBlob Reg.FOOTPRINT ([0, 0, 0, 0, 100, 0, 1, 0] ++ zeros 56)).onMem fun m =>
  (((m.store 0 [0x4E, 0x4B, 0x4C, 0x54, 1, 0, 1, 1]).store 256 [2, 0, 1]).store 8192 (latticePath 1)).store 8768 (latticePath 0)

theorem wit_EachEnable_planning : latticed.dev.takes .fn0 Reg.PLAN_ENABLE 1 ∧ latticed.dev.fn .planning = .off ∧ latticed.dev.fnHeld .planning = false ∧
    (latticed.dev.wr Reg.PLAN_ENABLE 1).planFault = none ∧ latticed.dev.mem.poison = [] := by decide

theorem wit_EachEnable_planning_lattice : (latticed.dev.wr Reg.PLAN_ENABLE 1).latticeFault = none := by decide

theorem wit_EachEnable_planning_plain : (latticed.dev.wr Reg.PLAN_ENABLE 1).plain 0 (latticed.dev.wr Reg.PLAN_ENABLE 1).latticeSize := by
  unfold Device.plain; decide

/-! TrailheadStepsComplete -/

def atTrail (n : Nat) : State := live fun d => (d.wr Reg.TRAILHEAD_STEP n).onBoot fun b => { b with islA := true, islB := true, step1B := true, step4 := false }

theorem wit_TrailheadStepsComplete_early : (let s := atTrail 1
      bitAt s.dev.boot.romFailed 2 = false ∧ (s.dev.boot.islandsDone && s.dev.boot.step3 && s.dev.boot.step4) = false ∧ s.dev.islReleased .A = true ∧ bitAt s.dev.boot.romFailed 0 = false ∧
      s.dev.boot.step1 .A = false ∧ s.dev.boot.step1B = true ∧ s.dev.boot.step2 = false ∧ s.dev.boot.step3 = false ∧ s.dev.boot.step4 = false ∧ s.dev.floorUp = true ∧
      s.dev.rd Reg.TRAILHEAD_STEP < 5 ∧ s.dev.boot.islandsDone = false) := by decide

theorem wit_TrailheadStepsComplete_window : (atTrail 5).dev.stepIs 5 = true ∧ (atTrail 5).dev.rd Reg.BOOT_SRC_SAMPLED ≠ 3 ∧
    (let s := onState (atTrail 20) fun d => d.onBoot fun b => { b with window := .startup, hostWindow := true, step4 := true }
     s.dev.stepIs 20 = true ∧ s.dev.takes .fn0 Reg.CFG_GO 1 ∧ s.dev.boot.window = .startup ∧ ∀ r ∈ RingId.all, s.dev.rd (r.reg 1) ≠ 1) ∧
    (let b : List Byte := [0x4E, 0x4B, 0x46, 0x43, 24, 0, 0, 0, 0, 0, 0, 0, 0x69, 0xDF, 0x22, 0x65, 0, 0, 0, 0, 0, 0, 0, 0]
     recordHeader b = true ∧ leAt (slice b 16 (leAt b 4 4 - 16)) 0 2 = 0 ∧ 8 ≤ (slice b 16 (leAt b 4 4 - 16)).length) := by decide

theorem wit_TrailheadStepsComplete_later : (atTrail 6).dev.stepIs 6 = true ∧ (atTrail 7).dev.stepIs 7 = true ∧ (atTrail 8).dev.stepIs 8 = true ∧ (atTrail 9).dev.stepIs 9 = true ∧
    (atTrail 9).dev.fn (.ring .programUpload) ≠ .on ∧ (atTrail 11).dev.stepIs 11 = true ∧
    (let b : List Byte := zeros 24 ++ [32, 0, 0, 0, 0, 0, 0, 0]; imgLength b = b.length ∧ 32 ≤ b.length ∧ hostRanges b = [] ∧ imgComplete b = true) ∧
    (let s := onState (atTrail 12) fun d => d.wr Reg.VARIANT_IN_USE 0xFF
     s.dev.stepIs 12 = true ∧ s.dev.islUp .A = true ∧ s.dev.islUp .B = true ∧ s.dev.rd Reg.VARIANT_IN_USE = 0xFF ∧ s.dev.rd Reg.SAFETY_FN_MASK = 0 ∧ s.dev.fn .run ≠ .fault) := by decide

/-! TrailheadStops -/

theorem wit_TrailheadStops : (∀ n : Fin 21, (atTrail n).dev.fn (.ring .programUpload) ≠ .on ∧ (atTrail n).dev.rd Reg.TRAILHEAD_STEP = n ∧ (atTrail n).dev.floorUp = true ∧
      (atTrail n).dev.boot.step3 = false ∧ (atTrail n).dev.rd Reg.BOOT_SRC_SAMPLED ≠ 2 ∧ (atTrail n).dev.boot.hostWindow = false) ∧
    (let s := onState (atTrail 1) fun d => d.onBoot fun b => { b with step3 := true }
     s.dev.boot.step3 = true ∧ s.dev.boot.step4 = false ∧ s.dev.rd Reg.TRAILHEAD_STEP < 5) ∧
    (onState (atTrail 20) fun d => d.onBoot fun b => { b with window := .startup, hostWindow := true }).dev.cfgOpen = true ∧
    (onState (atTrail 20) fun d => d.wr Reg.BOOT_SRC_SAMPLED 2).dev.rd Reg.BOOT_SRC_SAMPLED = 2 ∧
    (let s := onState (atTrail 1) fun d => d.onBoot fun b => { b with floorGood := false }
     s.dev.floorUp = false ∧ s.dev.boot.step1B = true ∧ s.dev.boot.step2 = false ∧ s.dev.islReleased .A = true ∧ s.dev.boot.step1 .A = false) := by decide

/-! PersonalityRequests -/

def inState (f : Device → Device) : State := live fun d => f ((d.wr Reg.TRAILHEAD_STEP 13).wr Reg.PERSONALITY_NOW 0)

theorem wit_PersonalityRequests_drive : let s := inState fun d => d.onPlanning fun p => { p with cycle := some { instant := 0 } }
    s.dev.takes .fn0 Reg.PERSONALITY_REQ 1 ∧ s.dev.takes .fn0 Reg.PERSONALITY_REQ 2 ∧ s.dev.transition = .none ∧ s.dev.personality = .drive ∧ s.dev.planning.cycle ≠ none := by decide

theorem wit_PersonalityRequests_back : (let s := inState fun d => d.wr Reg.PERSONALITY_NOW 1
      s.dev.takes .fn0 Reg.PERSONALITY_REQ 0 ∧ s.dev.transition = .none ∧ s.dev.personality = .overnight ∧ s.dev.fn .job ≠ .on ∧ s.dev.fn .run ≠ .on) ∧
    (let s := inState fun d => d.setTransition .enterOvernight
     s.dev.takes .fn0 Reg.PERSONALITY_REQ 0 ∧ s.dev.transition = .enterOvernight) ∧
    (let s := inState fun d => (d.wr Reg.PERSONALITY_NOW 1).setTransition .regionRestart
     s.dev.takes .fn0 Reg.PERSONALITY_REQ 0 ∧ s.dev.transition = .regionRestart) ∧
    (let s := inState fun d => d.wr Reg.PERSONALITY_NOW 2
     s.dev.takes .fn0 Reg.PERSONALITY_REQ 0 ∧ s.dev.transition = .none ∧ s.dev.personality = .service) ∧
    (inState fun d => d.setFn .run .fault).dev.takes .fn0 Reg.RUN_RETRY 1 := by decide

/-! RestartsRun -/

theorem wit_RestartsRun_chip : (inState fun d => d.demandChip 0x0203).dev.started = true ∧ (inState fun d => d.demandChip 0x0203).dev.boot.chipDemand.isSome = true ∧
    (let s := inState fun d => (d.onBoot fun b => { b with warm := true }).each (List.range 12) fun d g => d.wr (Reg.LANE_ROLE_ACTIVE g) (d.rd (Reg.LANE_ROLE g))
     s.dev.boot.warm = true ∧ s.dev.roleDiffers = none ∧ s.dev.fn .run ≠ .fault ∧ imgKind s.dev.loader.image ≠ 1) ∧
    (inState fun d => d.onBoot fun b => { b with warm := true }).dev.roleDiffers ≠ none := by decide

theorem wit_RestartsRun_noVariant : ∀ a, fittingVariant [] a = 0xFF := fun _ => rfl

theorem wit_RestartsRun_region : (let s := inState fun d => (d.wr Reg.PERSONALITY_NOW 1).onBoot fun b => { b with regionDemand := 4 }
      s.dev.started = true ∧ s.dev.boot.chipDemand = none ∧ s.dev.boot.restarting = none ∧ s.dev.demandedRegion = some .C ∧ s.dev.regionPowered .C = false ∧
        s.dev.personality ≠ .drive ∧ s.dev.transition = .none) ∧
    (inState fun d => d.onBoot fun b => { b with regionDemand := 4, cmpGood := 15 }).dev.regionPowered .C = true ∧
    (let s := inState fun d => (d.setFn .run .on).onBoot fun b => { b with restarting := some .C, reloaded := true }
     s.dev.boot.restarting = some .C ∧ s.dev.boot.reloaded = true ∧ s.dev.boot.chipDemand = none ∧ s.dev.boot.yieldWaits = false ∧ s.dev.fn .run = .on) ∧
    (let s := inState fun d => d.setTransition .enterService
     s.dev.transition = .enterService ∧ s.dev.atRest .run = true ∧ s.dev.edgeFunctions.all s.dev.atRest = true) := by decide

/-! ClocksAndManagement -/

theorem wit_ClocksAndManagement : (let s := onState (live id) fun d => d.onBoot fun b => { b with step3 := true, islA := true }
      s.dev.mainRuns = true ∧ s.dev.boot.step4 = true ∧ s.dev.fn .job ≠ .on ∧ s.dev.fn .job ≠ .draining ∧ s.dev.fn .hamper ≠ .on ∧ s.dev.boot.trained = false ∧
        s.dev.transition = .none ∧ s.dev.islUp .A = true ∧ (s.dev.isl .A).clockBad ≠ 1 ∧ SMap.find s.dev.power.pending 1 = none) ∧
    (onState (live id) fun d => d.divTake 1 4).dev.power.pending = [(1, 4)] ∧
    ((live id).dev.onIsl .A fun x => { x with clockBad := 1 }).safety.a.clockBad = 1 := by decide

/-! PowerAndTemperature -/

theorem wit_PowerAndTemperature : SMap.find (live id).dev.power.raising 0 = none ∧
    (let s := onState (live id) fun d => d.onPower fun p => { p with raising := [(1, 2)], fresh := true }
     s.dev.power.raising = [(1, 2)] ∧ (710 : BitVec 16).toNat ≤ s.dev.rd (Reg.VDD_CMP_SET_MV 1) + 15 ∧ s.dev.rd (Reg.VDD_CMP_SET_MV 1) ≤ (710 : BitVec 16).toNat + 15 ∧ s.dev.power.fresh = true ∧
        s.dev.personality ≠ .overnight) ∧
    ((live id).dev.sensorReads 30 (103 : BitVec 16).toInt).sensorAt 30 120 103 = true ∧ ((live id).dev.sensorReads 30 (110 : BitVec 16).toInt).sensorAt 30 130 110 = true ∧
    ((live id).dev.sensorReads 30 (20 : BitVec 16).toInt).sensorAt 30 120 103 = false ∧ (live id).dev.hot 0 116 99 = false ∧
    (onState (live id) fun d => d.setTemp 1 120).dev.hot 0 116 99 = true ∧ (live id).dev.floorUp = true ∧ State.reset.dev.floorUp = false ∧
    (live id).dev.takes .fn0 Reg.COOLANT_REPORT (0x80200028 : BitVec 32).toNat := by decide

/-! SelfTestsAndWatchdogs -/

theorem wit_SelfTestsAndWatchdogs_quiet : (onState (live id) fun d => (d.onTest 5 fun t => { t with running := some 1 }).wr (Reg.CORE_STATE 5) 4).dev.nothingHeld :=
  ⟨rfl, by decide, by decide⟩

theorem wit_SelfTestsAndWatchdogs_slices : ((live id).dev.test 5).granted = false ∧
    (let s := onState (live id) fun d => (d.onTest 5 fun t => { t with granted := true }).wr (Reg.CORE_STATE 5) 0
     (s.dev.test 5).granted = true ∧ s.dev.rd (Reg.CORE_STATE 5) = 0 ∧ (s.dev.test 5).next = some 0 ∧ (s.dev.core 5).teQueue = [] ∧ (s.dev.core 5).teRuns = [] ∧
       (s.dev.core 5).veQueue = [] ∧ (s.dev.core 5).veRun = none ∧ (s.dev.core 5).loads = [] ∧ (s.dev.core 5).chans = []) ∧
    (let s := onState (live id) fun d => (d.onTest 5 fun t => { t with running := some 1 }).wr (Reg.CORE_STATE 5) 4
     (s.dev.test 5).running = some (1 : Fin 2).val ∧ s.dev.rd (Reg.CORE_STATE 5) = 4 ∧ (s.dev.core 5).epWaits = [] ∧ (s.dev.test 5).mismatches = [] ∧
       (s.dev.test 5).transients = [] ∧ bitAt (s.dev.rd Reg.QUARANTINE_MASK) 5 = false) := by decide

theorem wit_SelfTestsAndWatchdogs_deadlines :
    let s := onState (live id) fun d => ((((((d.setFn .run .on).wr Reg.PERSONALITY_NOW 0).onBoot fun b => { b with islA := true }).onIsl .A fun x =>
        { x with firmware := true }).onStrm fun z => { z with coreMask := 32 }).wr (Reg.CORE_STATE 5) 0).wrBlob Reg.SHED_ORDER [4, 0xFF]
    s.dev.deadlinesBind = true ∧ s.dev.tested 5 = true ∧ (s.dev.test 5).pendingA = true ∧ s.dev.nextShed = some 4 ∧ s.dev.boot.regionDemand = 0 ∧
      s.dev.boot.restarting = none ∧ s.dev.transition = .none ∧ s.dev.firmware .A = true ∧ (s.dev.wr (Reg.WD_STATE 3) 1).rd (Reg.WD_STATE 3) = 1 ∧
      (s.dev.wr (Reg.WD_STATE 3) 1).firmware .A = true ∧ (s.dev.tellA (.alarm 0x0801 2)).safety.events = [.alarm 0x0801 2] ∧
      s.dev.rd (Reg.WD_STATE 3) ≠ 1 ∧ s.dev.safety.events = [] ∧ (live id).dev.deadlinesBind = false := by decide

/-! PeersFallbackAndDemands -/

theorem wit_PeersFallbackAndDemands : let s := onState (live id) fun d => (((d.onBoot fun b => { b with islA := true, islB := true }).onIsl .A fun x =>
        { x with firmware := true, transit := some 7 }).onIsl .B fun x => { x with firmware := true, valid := 9 })
    s.dev.islUp .B = true ∧ (s.dev.isl Island.B.peer).transit = some 7 ∧ (s.dev.isl Island.A.peer).transit = none ∧ (s.dev.isl .B).seen ≠ some 7 ∧
      s.dev.boot.floorGood = true ∧ bitAt (s.dev.rd (Reg.FAULT_CAUSE 1)) causePeer = false ∧ 9 ≤ (s.dev.isl .B).valid ∧
      bitAt ((s.dev.setCause .B causePeer true).rd (Reg.FAULT_CAUSE 1)) causePeer = true ∧ (s.dev.setCause .B causePeer true).islUp .B = true ∧
      s.dev.safety.streams = [] ∧ (s.dev.streamFor 2).safety.streams ≠ [] ∧ (s.dev.streamFor 2).islUp .B = true ∧ s.dev.firmware .A = true ∧
      State.reset.dev.firmware .A = false ∧ s.dev.boot.regionDemand = 0 ∧ s.dev.boot.restarting = none ∧ s.dev.transition = .none := by decide

/-! JobAndAttestation -/

def tenantJob (f : Device → Device) : State := ringOn .jobIn fun d => f ((d.wrAll [(Reg.SEQ_MAX, 2), (Reg.LAYERS, 1), (Reg.POLICY_MAX_SEQS, 2),
  (Reg.POLICY_MAX_PROMPT, 8), (Reg.SLOT_COUNT, 4)]).setFn .job .on)

def admitDesc : Descriptor := ⟨64, 4, 9, 1, [1, 0, 1, 0, 1, 0, 0, 0] ++ leBytes (tenantBase / 64) 6⟩

theorem wit_JobAndAttestation : (live id).dev.reached .fn0 = true ∧ (live id).dev.writeCheck .fn0 Reg.ATTEST_NONCE (.bytes (zeros 32)) = .ok ∧
    (live id).dev.windowLocked .fn0 Reg.ATTEST_NONCE = false ∧ (live id).dev.safety.report = none ∧
    ((live id).dev.attestStart []).safety.report ≠ none ∧ (tenantJob id).dev.ringReady .jobIn ∧ admitDesc.usable true = true ∧
    leAt admitDesc.owner 0 1 = 1 ∧ (tenantJob id).dev.policyRefuses ((tenantJob id).dev.admitAsked admitDesc) = false ∧ (tenantJob id).dev.mem.poison = [] ∧
    ((tenantJob id).dev.admitAsked admitDesc).addr + 4 ≤ dramEnd ∧ drivePartEnd ≤ ((tenantJob id).dev.admitAsked admitDesc).addr ∧
    (tenantJob fun d => d.onJob fun j => { j with queue := [⟨1, 0, 1, 0, 1, 0, false⟩] }).dev.job.queue.any (fun q => q.seq == 1) = true ∧
    (live id).dev.takes .fn0 Reg.CKPT_ACK 0 ∧ (live id).dev.job.phase ≠ .closing ∧
    ((live id).dev.onJob fun j => { j with phase := .final }).fn .job ≠ .draining := by decide

theorem wit_JobAndAttestation_quiet {d e : Device} (h : d.quiet e) (r : JobReq) : e.policyRefuses r = d.policyRefuses r := by
  have hj : e.job = d.job := by rw [h.frame]
  have hm : ∀ a n, e.memNat a n = d.memNat a n := by intro a n; unfold Device.memNat Memory.bytes; rw [h.frame]
  have hr := h.regs
  have hs : ∀ s, e.seqActive s = d.seqActive s := by
    intro s; unfold Device.seqActive Device.seqFlags Device.seqAddr; rw [hm, hr Reg.SEQ_TABLE_BASE (by decide) (by decide)]
  unfold Device.policyRefuses Device.engaged Device.handles Device.fn
  simp only [hs, hj, hr _ (show FnId.job.stateKey ≠ Reg.FC_HITS by decide) (by decide), hr _ (show Reg.POLICY_MAX_CLASS ≠ Reg.FC_HITS by decide) (by decide),
    hr _ (show Reg.SEQ_MAX ≠ Reg.FC_HITS by decide) (by decide), hr _ (show Reg.POLICY_MAX_PROMPT ≠ Reg.FC_HITS by decide) (by decide),
    hr _ (show Reg.POLICY_MAX_SEQS ≠ Reg.FC_HITS by decide) (by decide)]

theorem wit_JobAndAttestation_moved : ((tenantJob id).dev.promptMoved admitDesc [] {}).policyRefuses ((tenantJob id).dev.admitAsked admitDesc) = false := by
  have h := (Device.portWrite_good (tenantJob id).dev portTenant ((tenantJob id).dev.admitAsked admitDesc).addr (padTo [] 4) false {} rfl
    (show _ ∧ _ by decide) (by decide)).2
  have h0 : ((tenantJob id).dev.onMem fun m => m.store ((tenantJob id).dev.admitAsked admitDesc).addr (padTo [] 4)) = (tenantJob id).dev := by decide
  rw [h0] at h
  exact (wit_JobAndAttestation_quiet h _).trans (by decide)

end Sys2Proof.Tests
end

section
/-!
PROOFS. O49: a planning cycle's end. What the world engine's accesses leave where they meet no error, what a cycle's records
depend on, what the deadline chooses (R337 to R339), and what sending the chosen record does (R340 to R343).
-/

namespace Sys2Proof.Machine

/-! ### Registers that stand -/

theorem Device.kept_trans {d e f : Device} {ks ls : List Nat} (h : d.kept e ks) (h' : e.kept f ls) : d.kept f (ks ++ ls) :=
  fun k hk => (h' k fun hl => hk (List.mem_append_right _ hl)).trans (h k fun hl => hk (List.mem_append_left _ hl))

theorem Device.kept_of_quiet {d e : Device} (h : d.quiet e) : d.kept e [Reg.FC_HITS, Reg.FC_MISSES] := fun k hk =>
  h.regs k (fun hh => hk (hh ▸ List.mem_cons_self)) (fun hm => hk (hm ▸ List.mem_cons_of_mem _ List.mem_cons_self))

theorem Device.kept_wr (d : Device) (k v : Nat) : d.kept (d.wr k v) [k] :=
  fun _ hj => d.rd_wr_ne v fun h => hj (h ▸ List.mem_cons_self)

theorem Device.rd_planEvent (d : Device) (c : Code) (i j : Nat) :
    (d.planEvent c i).rd j = if Reg.PLAN_EVENTS i = j then satTo 32 (d.rd (Reg.PLAN_EVENTS i) + 1) else d.rd j := d.rd_bump ..

theorem Device.kept_planEvent (d : Device) (c : Code) (i : Nat) : d.kept (d.planEvent c i) [Reg.PLAN_EVENTS i] := fun k hk => by
  rw [d.rd_planEvent, if_neg fun h : Reg.PLAN_EVENTS i = k => hk (h ▸ List.mem_cons_self)]

theorem Device.wrAll_frame (d : Device) (l : List (Nat × Nat)) : d.wrAll l = { d with dict := (d.wrAll l).dict } := by
  induction l generalizing d with
  | nil => rfl
  | cons p t ih =>
    have h := ih (d.wr p.1 p.2)
    rw [Device.wrAll_cons]
    generalize (d.wr p.1 p.2).wrAll t = e at h
    rw [h]
    rfl

theorem Device.rd_of_dict {d e : Device} (h : e.dict = d.dict) (k : Nat) : e.rd k = d.rd k := by
  unfold Device.rd; rw [h]

/-! ### Accesses of the world engine that meet no error -/

/-- The address map reads only entries of index 0x4xxx (chapter 8). -/
theorem Device.mapCode_of_kept {d e : Device} {ks : List Nat} (h : d.kept e ks) (hks : ∀ k ∈ ks, k / 0x100000 ≠ 4) (a : Nat) :
    e.mapCode a = d.mapCode a := by
  have hrd : ∀ k, k / 0x100000 = 4 → e.rd k = d.rd k := fun k hk => h k fun hm => hks k hm hk
  have hpart : ∀ i < 8, e.rd (Reg.PART i) = d.rd (Reg.PART i) := fun i hi =>
    hrd _ (by simp only [Reg.PART, key]; omega)
  have hlocked : e.lockedWays = d.lockedWays :=
    foldl_congr_mem _ _ _ _ fun w i hi => by rw [hpart i (List.mem_range.mp hi)]
  have hunified : e.unified = d.unified := by unfold Device.unified; rw [hrd _ (by decide)]
  unfold Device.mapCode
  rw [hlocked, hunified, hrd Reg.DRIVE_SEALED (by decide)]

theorem Device.served_of_kept {d e : Device} {ks : List Nat} (h : d.kept e ks) (hks : ∀ k ∈ ks, k / 0x100000 ≠ 4) {a n : Nat}
    (hs : d.served a n) : e.served a n :=
  ⟨hs.1, fun b h1 h2 => (mapCode_of_kept h hks b).trans (hs.2 b h1 h2)⟩

theorem Device.memSound_of_kept {d e : Device} {ks : List Nat} {env : MemEnv} (h : d.kept e ks) (hks : ∀ k ∈ ks, k / 0x100000 ≠ 4)
    (hp : e.mem.poison = d.mem.poison) (hm : d.memSound env) : e.memSound env := by
  obtain ⟨hpoison, hfaults, hsealed⟩ := hm
  refine ⟨hp.trans hpoison, hfaults, ?_⟩
  rw [h _ fun hmem => hks _ hmem (by decide)]
  exact hsealed

theorem Device.worldRead_served (d : Device) (a n : Nat) (env : MemEnv) (he : env.faults = []) (hs : d.served a n)
    (hp : d.mem.poison = []) : (d.worldRead a n env).code = 0 ∧ d.quiet (d.worldRead a n env).dev := by
  obtain ⟨-, -, hcode, hq⟩ := d.portRead_served portWorld a n false env he hs hp
  unfold Device.worldRead
  dsimp only
  rw [if_pos hcode]
  exact ⟨hcode, hq⟩

/-- Reads over ranges that are served all answer, and change only what an access changes. -/
theorem Device.worldScan_served (d : Device) (env : MemEnv) (l : List (Nat × Nat)) (he : env.faults = [])
    (hl : ∀ p ∈ l, d.served p.1 p.2) (hp : d.mem.poison = []) : (d.worldScan env l).2 = true ∧ d.quiet (d.worldScan env l).1 := by
  induction l generalizing d env with
  | nil => exact ⟨rfl, d.quiet_refl⟩
  | cons p t ih =>
    obtain ⟨hcode, hq⟩ := d.worldRead_served p.1 p.2 env he (hl p List.mem_cons_self) hp
    obtain ⟨hall, hrest⟩ := ih (d.worldRead p.1 p.2 env).dev (env.skip (p.2 / 64 + 1)) (by unfold MemEnv.skip; rw [he]; rfl)
      (fun q hqt => served_of hq (hl q (List.mem_cons_of_mem _ hqt))) (by rw [hq.frame]; exact hp)
    unfold Device.worldScan
    dsimp only
    rw [if_pos hcode]
    exact ⟨hall, quiet_trans hq hrest⟩

/-- One write over a range that is served stores its bytes, and beside them changes only what an access changes. -/
theorem Device.worldWrites_one_served (d : Device) (env : MemEnv) (a : Nat) (l : List Byte) (he : env.faults = [])
    (hs : d.served a l.length) (hp : d.mem.poison = []) :
    (d.worldWrites env [(a, l)]).2 = true ∧ (d.onMem fun m => m.store a l).quiet (d.worldWrites env [(a, l)]).1 := by
  obtain ⟨hcode, hq⟩ := d.portWrite_served portWorld a l false env he hs hp
  unfold Device.worldWrites
  dsimp only
  rw [if_pos hcode]
  exact ⟨rfl, hq⟩

theorem Device.quiet_bytes {d e : Device} (h : d.quiet e) : e.mem.bytes = d.mem.bytes := by rw [h.frame]; rfl

/-! ### What a cycle's records depend on -/

/-- Two devices give planning the same lattice, epochs, footprint, policy and own state. -/
structure Device.plansAlike (d e : Device) : Prop where
  bytes : e.mem.bytes = d.mem.bytes
  planning : e.planning = d.planning
  blobs : e.blobs = d.blobs
  regs : ∀ k ∈ [Reg.LATTICE_BASE, Reg.OUTSIDE_POLICY, Reg.TRAJ_BASE], e.rd k = d.rd k

namespace Device.plansAlike

variable {d e : Device} (h : d.plansAlike e)
include h

theorem latticeBase : e.rd Reg.LATTICE_BASE = d.rd Reg.LATTICE_BASE := h.regs _ (by simp)
theorem outsidePolicy : e.rd Reg.OUTSIDE_POLICY = d.rd Reg.OUTSIDE_POLICY := h.regs _ (by simp)

theorem primitive (bin i : Nat) : e.primitive bin i = d.primitive bin i := by
  unfold Device.primitive; rw [h.bytes, h.latticeBase]

theorem binMrm (bin : Nat) : e.binMrm bin = d.binMrm bin := by
  unfold Device.binMrm Device.memNat; rw [h.bytes, h.latticeBase]

theorem poseQueries (c : Cycle) (ep : Nat) (prim : List Byte) : e.poseQueries c ep prim = d.poseQueries c ep prim := by
  unfold Device.poseQueries Device.discs Device.blob; rw [h.bytes, h.blobs]

theorem cellsValue (l : List (Nat × Number)) : e.cellsValue l = d.cellsValue l := by
  unfold Device.cellsValue Device.memNat; rw [h.bytes]

theorem clearance (c : Cycle) (ep i : Nat) : e.clearance c ep i = d.clearance c ep i := by
  unfold Device.clearance
  simp only [h.poseQueries, h.primitive, h.cellsValue, h.outsidePolicy, h.planning]

theorem checkReads (c : Cycle) (ep : Option Nat) (l : List Nat) : e.checkReads c ep l = d.checkReads c ep l := by
  unfold Device.checkReads
  simp only [h.poseQueries, h.primitive, h.latticeBase]

theorem mrmClearances (c : Cycle) (ep : Nat) : e.mrmClearances c ep = d.mrmClearances c ep := by
  unfold Device.mrmClearances
  simp only [h.binMrm, h.clearance]

theorem fallbackChoice (c : Cycle) (ep : Option Nat) : e.fallbackChoice c ep = d.fallbackChoice c ep := by
  unfold Device.fallbackChoice
  simp only [h.mrmClearances]

theorem recordBytes (c : Cycle) (status flags : Nat) (x : Choice) : e.recordBytes c status flags x = d.recordBytes c status flags x := by
  unfold Device.recordBytes
  simp only [h.primitive, h.planning]

theorem commonFlags (c : Cycle) (flags : Nat) : e.commonFlags c flags = d.commonFlags c flags := by
  unfold Device.commonFlags; rw [h.planning]

theorem trajBuffer (k : Nat) : e.trajBuffer k = d.trajBuffer k := by
  unfold Device.trajBuffer; rw [h.regs Reg.TRAJ_BASE (by simp)]

/-- A record that `e` chose is the record that `d` would have chosen. -/
theorem chosenAs (hmem : e.mem = d.mem) {f : Device} {c : Cycle} {job : Option WorldJob} {status flags : Nat} {x : Choice}
    (hf : e.chosenAs f c job status flags x) : d.chosenAs f c job status flags x := by
  unfold Device.chosenAs at hf ⊢
  simpa only [h.recordBytes, h.fallbackChoice, h.commonFlags, h.trajBuffer, h.planning, hmem] using hf

theorem choiceServed {ks : List Nat} (hk : d.kept e ks) (hks : ∀ k ∈ ks, k / 0x100000 ≠ 4) {c : Cycle} {x : Choice}
    (hs : d.choiceServed c x) : e.choiceServed c x := by
  unfold Device.choiceServed
  rw [h.checkReads, h.binMrm, h.trajBuffer]
  exact ⟨fun p hp => served_of_kept hk hks (hs.1 p hp), served_of_kept hk hks hs.2⟩

end Device.plansAlike

theorem Device.plansAlike_trans {d e f : Device} (h : d.plansAlike e) (h' : e.plansAlike f) : d.plansAlike f :=
  ⟨h'.bytes.trans h.bytes, h'.planning.trans h.planning, h'.blobs.trans h.blobs, fun k hk => (h'.regs k hk).trans (h.regs k hk)⟩

theorem Device.plansAlike_planEvent (d : Device) (s : Code) (i : Nat)
    (hi : ∀ k ∈ [Reg.LATTICE_BASE, Reg.OUTSIDE_POLICY, Reg.TRAJ_BASE], Reg.PLAN_EVENTS i ≠ k) : d.plansAlike (d.planEvent s i) :=
  ⟨rfl, rfl, rfl, fun k hk => by rw [Device.rd_planEvent, if_neg (hi k hk)]⟩

theorem Device.onCycle_planning (d : Device) (f : Cycle → Cycle) {c : Cycle} (hc : d.planning.cycle = some c) :
    (d.onCycle f).planning = { d.planning with cycle := some (f c) } := by
  unfold Device.onCycle
  rw [Device.onPlanning_planning, hc, Option.map_some]

/-! ### Choosing a record (R337, R338, R340) -/

theorem Memory.length_bytes (m : Memory) (a n : Nat) : (m.bytes a n).length = n := by
  unfold Memory.bytes; split <;> exact SMap.length_getList ..

/-- A trajectory record is 576 bytes long (Table 11-10). -/
theorem Device.length_recordBytes (d : Device) (c : Cycle) (status flags : Nat) (x : Choice) :
    (d.recordBytes c status flags x).length = 576 := by
  unfold Device.recordBytes Device.primitive slice zeros
  simp [Memory.length_bytes]

/-- The record with another STATE is as long. -/
theorem length_withState (l : List Byte) (b : Byte) (h : l.length = 576) : (l.take 5 ++ b :: l.drop 6).length = 576 := by
  simp [h]

/-- A choice whose reads and buffer are served is made: its record is stored with STATE FILLING, then the cycle holds it. -/
theorem Device.choose_served (d : Device) (c : Cycle) (job : Option WorldJob) (status flags : Nat) (x : Choice) (env : MemEnv)
    (hm : d.memSound env) (hs : d.choiceServed c x) :
    ∃ f, (d.onMem fun m => m.store (d.trajBuffer c.instant) ((d.recordBytes c status (d.commonFlags c flags) x).take 5 ++ 1 ::
        (d.recordBytes c status (d.commonFlags c flags) x).drop 6)).quiet f ∧
      d.choose c job status flags x env = f.onCycle fun y => { y with
        chosen := some ⟨d.recordBytes c status (d.commonFlags c flags) x,
          d.recordBytes c status flagFallback (d.fallbackChoice c (x.clearance.map (·.epoch))), job, x.clearance.map (·.epoch)⟩
        waiting := none } := by
  obtain ⟨hpoison, hfaults, -⟩ := hm
  obtain ⟨hreads, hbuffer⟩ := hs
  obtain ⟨hscan, hq⟩ := d.worldScan_served env _ hfaults hreads hpoison
  have hbuffer' := served_of hq hbuffer
  rw [← length_withState _ 1 (d.length_recordBytes c status (d.commonFlags c flags) x)] at hbuffer'
  obtain ⟨hwrite, hw⟩ := Device.worldWrites_one_served _ env _ _ hfaults hbuffer' (by rw [hq.frame]; exact hpoison)
  refine ⟨_, quiet_trans (quiet_store hq _ _) hw, ?_⟩
  unfold Device.choose
  unfold Device.commonFlags at hwrite ⊢
  simp only [hscan, hwrite, Bool.not_true, Bool.false_eq_true, if_false, if_true]

/-- Beside its record, a choice changes only what accesses count. -/
theorem Device.choose_chosenAs (d : Device) (c : Cycle) (job : Option WorldJob) (status flags : Nat) (x : Choice) (env : MemEnv)
    (hc : d.planning.cycle = some c) (hm : d.memSound env) (hs : d.choiceServed c x) :
    d.chosenAs (d.choose c job status flags x env) c job status flags x ∧
      d.kept (d.choose c job status flags x env) [Reg.FC_HITS, Reg.FC_MISSES] ∧
      (d.choose c job status flags x env).world = d.world ∧ (d.choose c job status flags x env).cores = d.cores := by
  obtain ⟨f, hq, hf⟩ := d.choose_served c job status flags x env hm hs
  have hplanning : f.planning = d.planning := by rw [hq.frame]; rfl
  rw [hf]
  refine ⟨⟨?_, quiet_bytes hq⟩, fun k hk => kept_of_quiet hq k hk, ?_, ?_⟩
  · rw [f.onCycle_planning _ (hplanning ▸ hc), hplanning]
  · show f.world = d.world
    rw [hq.frame]; rfl
  · show f.cores = d.cores
    rw [hq.frame]; rfl

/-! ### The deadline (R338, R339) -/

/-- With no EXPAND and no SELECT under way the deadline path is the no-path rule. -/
theorem Device.deadlineNoPath_idle (d : Device) (c : Cycle) (env : MemEnv) (hc : d.planning.cycle = some c) (he : c.expand = .none)
    (hj : c.expandJob = none) (hw : c.waiting = none) :
    d.deadlineNoPath c env = d.noPath c none St.PLAN_TIMEOUT flagTimeout env := by
  have hcycle : ({ c with expand := .none, expandJob := none, clearances := if c.expand = .running then [] else c.clearances
                          waiting := none } : Cycle) = c := by
    rw [if_neg (by rw [he]; decide)]
    cases c; cases he; cases hj; cases hw; rfl
  have hdev : (d.onCycle fun _ => c) = d := by
    unfold Device.onCycle Device.onPlanning
    dsimp only
    rw [hc, Option.map_some, ← hc]
  unfold Device.deadlineNoPath
  simp only [hj, hw, hcycle, hdev]

theorem Device.planDeadline_closed (d : Device) (env : MemEnv)
    (h : d.planning.cycle = none ∨ d.worldRuns = false ∨ ∃ c x, d.planning.cycle = some c ∧ c.chosen = some x) : d.planDeadline env = d := by
  unfold Device.planDeadline
  cases hc : d.planning.cycle with
  | none => rfl
  | some c =>
    rcases h with h | h | ⟨c', x, h, hx⟩
    · rw [hc] at h; cases h
    · simp [h]
    · rw [hc] at h; cases h; simp [hx]

section
variable {d : Device} {c : Cycle} {env : MemEnv} (hc : d.planning.cycle = some c) (hn : c.chosen = none) (hr : d.worldRuns = true)
include hc hn hr

/-- With an EXPAND done and survivors the deadline runs SELECT in their order (R339). -/
theorem Device.planDeadline_survivors (he : c.expand = .done) (hs : c.survivors ≠ []) :
    d.planDeadline env = d.finalCheck c c.survivors none (Nat.lor flagTimeout flagScoresIgnored) env := by
  unfold Device.planDeadline
  simp [hc, hn, hr, he, hs]

/-- With no EXPAND the deadline takes the no-path rule (R339). -/
theorem Device.planDeadline_noPath (he : c.expand = .none) (hj : c.expandJob = none) (hw : c.waiting = none) :
    d.planDeadline env = d.noPath c none St.PLAN_TIMEOUT flagTimeout env := by
  rw [← d.deadlineNoPath_idle c env hc he hj hw]
  unfold Device.planDeadline
  simp [hc, hn, hr, he]

end

/-- On the bound epoch the first survivor in the order is chosen (R337). -/
theorem Device.finalCheck_bound (d : Device) (c : Cycle) (x : Survivor) (rest : List Survivor) (job : Option WorldJob) (flags : Nat)
    (env : MemEnv) {e0 k : Nat} (hn : d.planning.newest = some (e0, k)) (hb : c.bound = some e0) :
    d.finalCheck c (x :: rest) job flags env = d.choose c job 0 flags ⟨x.index, some ⟨x.index, e0, x.clearance, x.outside, x.minT⟩, 0⟩ env := by
  unfold Device.finalCheck
  simp only [hn, hb, if_true]

theorem Device.noPath_unchecked (d : Device) (c : Cycle) (job : Option WorldJob) (status flags : Nat) (env : MemEnv)
    (hn : d.planning.newest = none) :
    d.noPath c job status flags env = ((d.planEvent status (noPathCounter status)).planEvent St.PLAN_NO_EPOCH 6).choose c job status flags
      ⟨0, none, Nat.lor flagNoClear flagUnchecked⟩ env := by
  unfold Device.noPath
  simp only [hn]

theorem Device.noPath_mrm (d : Device) (c : Cycle) (job : Option WorldJob) (status flags : Nat) (env : MemEnv) {e0 k : Nat} {x : Clearance}
    (hn : d.planning.newest = some (e0, k)) (hx : (d.mrmClearances c e0).find? (·.clear) = some x) :
    d.noPath c job status flags env =
      (d.planEvent status (noPathCounter status)).choose c job status flags ⟨x.index, some x, flagMrm⟩ env := by
  unfold Device.noPath
  simp only [hn, hx]

/-! ### Telling a job (R293, R294) -/

theorem Core.sems_foldl_mark (l : List Nat) (f : Core → Nat → Core) (hf : ∀ k g, (f k g).sems = k.sems) (k : Core) :
    (l.foldl f k).sems = k.sems := by
  induction l generalizing k with
  | nil => rfl
  | cons g t ih => exact (ih _).trans (hf k g)

/-- A write of sound bytes to local memory leaves the semaphores. -/
theorem Core.sem_writeBad_nil (k : Core) (a : Nat) (l : List Byte) (n : Nat) : (k.writeBad a l []).sem n = k.sem n := by
  have h : (k.write a l).sems = k.sems := Core.sems_foldl_mark _ _ (fun k g => by split <;> rfl) _
  show SMap.getD (k.write a l).sems n 0 = SMap.getD k.sems n 0
  rw [h]

/-- Below its end a semaphore rises by one, and nothing else of the core changes. -/
theorem Device.raiseSem_core (d : Device) (c n engine chan : Nat) (h : (d.core c).sem n < 65535) :
    (d.raiseSem c n engine chan).core c = (d.core c).setSem n ((d.core c).sem n + 1) ∧
      (∀ j, j ≠ c → (d.raiseSem c n engine chan).core j = d.core j) ∧
      d.raiseSem c n engine chan = { d with cores := (d.raiseSem c n engine chan).cores, strm := (d.raiseSem c n engine chan).strm } := by
  unfold Device.raiseSem
  dsimp only
  rw [if_neg (Nat.not_le.mpr h)]
  exact ⟨by rw [Device.recent_core, Device.core_onCore_self],
    fun j hj => by rw [Device.recent_core, Device.core_onCore_ne d _ (Ne.symm hj)], rfl⟩

/-- A job whose core takes its record is told, and only that core and the stream's recent effects change. -/
theorem Device.jobDone_told (d : Device) (j : WorldJob) (status : Code) (instant out : Nat) (h : d.jobReady j) :
    d.jobTold (d.jobDone j status instant out) j status instant out ∧
      d.jobDone j status instant out =
        { d with cores := (d.jobDone j status instant out).cores, strm := (d.jobDone j status instant out).strm } := by
  obtain ⟨-, htakes, htesting, hsem⟩ := h
  unfold Device.jobTold Device.jobDone Device.epWrite
  dsimp only
  rw [if_pos htakes, if_neg htesting]
  unfold Device.epLand
  dsimp only
  rw [if_pos rfl]
  generalize hl : leBytes status 2 ++ leBytes j.cls 1 ++ [0] ++ leBytes j.arg 4 ++ leBytes instant 8 ++ leBytes out 8 ++ zeros 40 = l
  generalize hw : (d.onCore j.core fun k => k.writeBad (windowBase (d.epWindow j.core 3) + 64 * j.job) l []) = w
  have hcore : w.core j.core = (d.core j.core).writeBad (windowBase (d.epWindow j.core 3) + 64 * j.job) l [] := by
    rw [← hw, Device.core_onCore_self]
  have hothers : ∀ c, c ≠ j.core → w.core c = d.core c := fun c hc => by rw [← hw, Device.core_onCore_ne _ _ (Ne.symm hc)]
  have hframe : w = { d with cores := w.cores } := by rw [← hw]; rfl
  obtain ⟨hself, hrest, hraised⟩ := w.raiseSem_core j.core j.sem 5 3 (by rw [hcore, Core.sem_writeBad_nil]; exact hsem)
  refine ⟨⟨?_, fun c hc => (hrest c hc).trans (hothers c hc)⟩, ?_⟩
  · rw [hself, hcore]
    unfold Core.landed
    rw [if_pos rfl, Core.sem_writeBad_nil]
  · rw [hraised, hframe]

/-- A job's readiness, and what it is told, depend on the core's registers and the cores alone. -/
theorem Device.jobReady_of_kept {d e : Device} {ks : List Nat} (h : d.kept e ks) (hks : ∀ k ∈ ks, k / 0x10000 ≠ 0x34) (hc : e.cores = d.cores)
    {j : WorldJob} (hj : d.jobReady j) : e.jobReady j ∧ e.epWindow j.core 3 = d.epWindow j.core 3 := by
  obtain ⟨hcore, htakes, htesting, hsem⟩ := hj
  have hrd : ∀ k, k / 0x10000 = 0x34 → e.rd k = d.rd k := fun k hk => h k fun hm => hks k hm hk
  have hwindow : e.epWindow j.core 3 = d.epWindow j.core 3 := hrd _ (by simp only [Reg.EP_WORLD_WINDOW, key]; omega)
  have hstate : e.rd (Reg.CORE_STATE j.core) = d.rd (Reg.CORE_STATE j.core) := hrd _ (by simp only [Reg.CORE_STATE, key]; omega)
  refine ⟨⟨hcore, ?_, by rw [hstate]; exact htesting, by unfold Device.core; rw [hc]; exact hsem⟩, hwindow⟩
  unfold Device.epTakes at htakes ⊢
  rw [hwindow]
  exact htakes

theorem Device.jobTold_of {d e f : Device} {j : WorldJob} {status : Code} {instant out : Nat} (hc : e.cores = d.cores)
    (hw : e.epWindow j.core 3 = d.epWindow j.core 3) (h : e.jobTold f j status instant out) : d.jobTold f j status instant out := by
  unfold Device.jobTold Device.core at h ⊢
  rw [hw, hc] at h
  exact h

/-! ### What Lookout B receives (R343, R377) -/

theorem Device.kept_streamEnd (d : Device) (l : List Nat) : d.kept (d.streamEnd l) [Reg.FALLBACK_STREAMING] :=
  fun k hk => Device.kept_wr _ _ _ k hk

/-- The device once Lookout B has the trajectory: its records counted, and the stream it ends ended (R378). -/
def Device.trajectoryAtB (d : Device) (traj back : List Byte) : Device :=
  let noPath := fun (b : List Byte) => bit1 (bitAt (leAt b 8 2) 1)
  let d1 := (d.addSat 32 Reg.NO_CLEAR_PATH_RECORDS (noPath traj + noPath back)).onSafety fun s => { s with trajectory := traj }
  if d.settled && d.fn .run == .on && d.personality == .drive then d1.streamEnd [reasonRegion, reasonWarm, reasonReset, reasonBivouac] else d1

theorem Device.trajectoryAtB_frame (d : Device) (traj back : List Byte) :
    d.trajectoryAtB traj back = { d with dict := (d.trajectoryAtB traj back).dict, safety := (d.trajectoryAtB traj back).safety } := by
  unfold Device.trajectoryAtB
  dsimp only
  split <;> rfl

theorem Device.kept_trajectoryAtB (d : Device) (traj back : List Byte) :
    d.kept (d.trajectoryAtB traj back) [Reg.NO_CLEAR_PATH_RECORDS, Reg.FALLBACK_STREAMING] := by
  have hcount : ∀ n s, d.kept ((d.addSat 32 Reg.NO_CLEAR_PATH_RECORDS n).onSafety s) [Reg.NO_CLEAR_PATH_RECORDS] :=
    fun n s k hk => d.kept_wr _ _ k hk
  unfold Device.trajectoryAtB
  dsimp only
  split
  · exact kept_trans (hcount _ _) (Device.kept_streamEnd _ _)
  · exact kept_trans (hcount _ _) fun k _ => rfl

theorem Device.trajectoryAtB_safety (d : Device) (traj back : List Byte) :
    (d.trajectoryAtB traj back).safety.trajectory = traj ∧ (d.trajectoryAtB traj back).safety.fallback = d.safety.fallback := by
  unfold Device.trajectoryAtB
  dsimp only
  split <;> exact ⟨rfl, rfl⟩

section
variable {d : Device} (hf : d.firmware .B = true) (traj back : List Byte) (intact : Bool)
include hf

/-- With its firmware running, Lookout B takes the trajectory, and the fallback record where it is intact (R377). -/
theorem Device.toLookoutB_running : d.toLookoutB traj back intact =
    if intact && recordValid back then
      ((d.trajectoryAtB traj back).onSafety fun s => { s with fallback := back, expired := false }).wr Reg.FALLBACK_RECORD_SEQ (leAt back 12 4)
    else (d.trajectoryAtB traj back).logEv St.FALLBACK_RECORD_INVALID 1 := by
  unfold Device.toLookoutB
  rw [if_neg (by simp [hf])]
  rfl

theorem Device.toLookoutB_frame : d.toLookoutB traj back intact = { d with
    dict := (d.toLookoutB traj back intact).dict, safety := (d.toLookoutB traj back intact).safety
    log := (d.toLookoutB traj back intact).log } := by
  rw [toLookoutB_running hf, d.trajectoryAtB_frame traj back]
  split <;> rfl

theorem Device.kept_toLookoutB :
    d.kept (d.toLookoutB traj back intact) [Reg.NO_CLEAR_PATH_RECORDS, Reg.FALLBACK_STREAMING, Reg.FALLBACK_RECORD_SEQ] := by
  rw [toLookoutB_running hf]
  have h := d.kept_trajectoryAtB traj back
  split
  · exact kept_trans h (Device.kept_wr (onSafety _ _) _ _)
  · exact kept_trans h fun k _ => rfl

theorem Device.toLookoutB_trajectory : (d.toLookoutB traj back intact).safety.trajectory = traj := by
  rw [toLookoutB_running hf]
  split <;> exact (d.trajectoryAtB_safety traj back).1

theorem Device.toLookoutB_intact (hi : intact = true) (hv : recordValid back = true) :
    (d.toLookoutB traj back intact).safety.fallback = back ∧ (d.toLookoutB traj back intact).safety.expired = false ∧
      (d.toLookoutB traj back intact).rd Reg.FALLBACK_RECORD_SEQ = leAt back 12 4 := by
  rw [toLookoutB_running hf, if_pos (by rw [hi, hv]; rfl)]
  exact ⟨rfl, rfl, Device.rd_wr_self ..⟩

theorem Device.toLookoutB_discarded (h : intact = false ∨ recordValid back = false) :
    (d.toLookoutB traj back intact).safety.fallback = d.safety.fallback ∧
      ∃ y : LogRecord, (d.toLookoutB traj back intact).log = { d.log with inbox := d.log.inbox ++ [y] } ∧ y.status = St.FALLBACK_RECORD_INVALID := by
  rw [toLookoutB_running hf, if_neg (by rcases h with h | h <;> simp [h])]
  have hlog : (d.trajectoryAtB traj back).log = d.log := by rw [d.trajectoryAtB_frame]
  refine ⟨(d.trajectoryAtB_safety traj back).2, (d.trajectoryAtB traj back).record St.FALLBACK_RECORD_INVALID 1 0 0 0, ?_, rfl⟩
  rw [Device.logEv_log, hlog]

end

/-! ### The end of a cycle (R332, R340, R341) -/

theorem Device.queueFrame_frame (d : Device) (record : List Byte) (o : Nat) :
    d.queueFrame record o = { d with planning := (d.queueFrame record o).planning } := by
  unfold Device.queueFrame
  split <;> rfl

theorem Device.queueFrame_outSeq (d : Device) (record : List Byte) (o : Nat) :
    (d.queueFrame record o).planning.outSeq = d.planning.outSeq := by
  unfold Device.queueFrame
  split <;> rfl

theorem Device.queueFrame_rd (d : Device) (record : List Byte) (o k : Nat) : (d.queueFrame record o).rd k = d.rd k := by
  rw [queueFrame_frame]; rfl

theorem Device.queueFrame_outputSet (d : Device) (record : List Byte) (o p : Nat) : (d.queueFrame record o).outputSet p = d.outputSet p := by
  unfold Device.outputSet; rw [queueFrame_rd, queueFrame_rd]

theorem Device.queueFrame_outFrame (d : Device) (record r : List Byte) (o p : Nat) : (d.queueFrame record o).outFrame p r = d.outFrame p r := by
  unfold Device.outFrame; simp only [queueFrame_rd]

/-- A configured output waits with the record's frame, and every other output as before. -/
theorem Device.queueFrame_unsent (d : Device) (record : List Byte) (o p : Nat) :
    SMap.getD (d.queueFrame record o).planning.unsent p [] =
      if o = p ∧ d.outputSet p = true then d.outFrame p record else SMap.getD d.planning.unsent p [] := by
  unfold Device.queueFrame
  by_cases hp : o = p
  · subst hp
    cases hset : d.outputSet o <;> simp
  · have hother : ¬(o = p ∧ d.outputSet p = true) := fun h => hp h.1
    rw [if_neg hother]
    split
    · rfl
    · exact SMap.getD_put_ne _ _ _ hp

/-- The cycle's record has gone to the outputs, and the cycle ends with its status and flags in the dictionary. -/
def Device.cycleEnded (d : Device) (record : List Byte) : Device :=
  (((d.queueFrame record 0).queueFrame record 1).onPlanning fun p => { p with cycle := none, outSeq := p.outSeq + 1 }).wrAll
    [(Reg.LAST_OUT_STATUS, leAt record 6 2), (Reg.LAST_OUT_FLAGS, leAt record 8 2), (Reg.OUT_SEQ, wrapTo 32 (d.planning.outSeq + 1))]

theorem Device.cycleEnded_frame (d : Device) (record : List Byte) : d.cycleEnded record =
    { d with dict := (d.cycleEnded record).dict, planning := (d.cycleEnded record).planning } := by
  have hfirst := d.queueFrame_frame record 0
  have hsecond := (d.queueFrame record 0).queueFrame_frame record 1
  have hlast := Device.wrAll_frame (((d.queueFrame record 0).queueFrame record 1).onPlanning fun p => { p with cycle := none, outSeq := p.outSeq + 1 })
    [(Reg.LAST_OUT_STATUS, leAt record 6 2), (Reg.LAST_OUT_FLAGS, leAt record 8 2), (Reg.OUT_SEQ, wrapTo 32 (d.planning.outSeq + 1))]
  change d.cycleEnded record = _ at hlast
  generalize d.cycleEnded record = e at hlast
  generalize (d.queueFrame record 0).queueFrame record 1 = q at hsecond hlast
  generalize d.queueFrame record 0 = p at hfirst hsecond
  rw [hlast, hsecond, hfirst]
  rfl

theorem Device.kept_cycleEnded (d : Device) (record : List Byte) :
    d.kept (d.cycleEnded record) [Reg.LAST_OUT_STATUS, Reg.LAST_OUT_FLAGS, Reg.OUT_SEQ] := by
  intro k hk
  simp only [List.mem_cons, List.not_mem_nil, or_false, not_or] at hk
  obtain ⟨hstatus, hflags, hseq⟩ := hk
  simp [Device.cycleEnded, Device.rd_wr, Ne.symm hstatus, Ne.symm hflags, Ne.symm hseq, queueFrame_rd]

theorem Device.cycleEnded_outs (d : Device) (record : List Byte) :
    (d.cycleEnded record).rd Reg.OUT_SEQ = wrapTo 32 (d.planning.outSeq + 1) ∧
      (d.cycleEnded record).rd Reg.LAST_OUT_STATUS = leAt record 6 2 ∧ (d.cycleEnded record).rd Reg.LAST_OUT_FLAGS = leAt record 8 2 := by
  have hkeys : Reg.OUT_SEQ ≠ Reg.LAST_OUT_STATUS ∧ Reg.OUT_SEQ ≠ Reg.LAST_OUT_FLAGS ∧ Reg.LAST_OUT_FLAGS ≠ Reg.LAST_OUT_STATUS := by decide
  simp [Device.cycleEnded, Device.rd_wr, hkeys]

theorem Device.cycleEnded_planning (d : Device) (record : List Byte) :
    (d.cycleEnded record).planning.cycle = none ∧ (d.cycleEnded record).planning.outSeq = d.planning.outSeq + 1 := by
  refine ⟨rfl, ?_⟩
  show ((d.queueFrame record 0).queueFrame record 1).planning.outSeq + 1 = _
  rw [queueFrame_outSeq, queueFrame_outSeq]

/-- Of the two outputs the configured ones wait with the record's frame. -/
theorem Device.cycleEnded_unsent (d : Device) (record : List Byte) {o : Nat} (ho : o < 2) :
    SMap.getD (d.cycleEnded record).planning.unsent o [] =
      if d.outputSet o = true then d.outFrame o record else SMap.getD d.planning.unsent o [] := by
  show SMap.getD ((d.queueFrame record 0).queueFrame record 1).planning.unsent o [] = _
  rw [queueFrame_unsent, queueFrame_unsent, queueFrame_outputSet, queueFrame_outFrame]
  have h01 : o = 0 ∨ o = 1 := by omega
  rcases h01 with rfl | rfl <;> simp

/-- The job that chose the record, where there is one, is told. -/
def Device.jobEnds (d : Device) (job : Option WorldJob) (instant out : Nat) : Device :=
  match job with
  | some j => d.jobDone j 0 instant out
  | none => d

theorem Device.jobEnds_told (d : Device) (job : Option WorldJob) (instant out : Nat) (h : ∀ j, job = some j → d.jobReady j) :
    (∀ j, job = some j → d.jobTold (d.jobEnds job instant out) j 0 instant out) ∧
      (job = none → (d.jobEnds job instant out).cores = d.cores) ∧
      d.jobEnds job instant out = { d with cores := (d.jobEnds job instant out).cores, strm := (d.jobEnds job instant out).strm } := by
  cases job with
  | none => exact ⟨fun _ h => (nomatch h), fun _ => rfl, rfl⟩
  | some j =>
    obtain ⟨htold, hframe⟩ := d.jobDone_told j 0 instant out (h j rfl)
    exact ⟨fun _ h => Option.some.inj h ▸ htold, fun h => (nomatch h), hframe⟩

theorem Device.planSettle_on (d : Device) (env : MemEnv) (h : d.fn .planning = .on) : d.planSettle env = d := by
  unfold Device.planSettle
  rw [h, if_neg fun hd => (nomatch hd.1)]

theorem Device.recordDone_idle (d : Device) (room intact : Bool) (env : MemEnv)
    (h : d.planning.cycle = none ∨ d.worldRuns = false ∨ ∃ c, d.planning.cycle = some c ∧ c.chosen = none) : d.recordDone room intact env = d := by
  unfold Device.recordDone
  cases hc : d.planning.cycle with
  | none => rfl
  | some c =>
    cases hx : c.chosen with
    | none => simp [hx]
    | some x =>
      rcases h with h | h | ⟨c', h, hn⟩
      · rw [hc] at h; cases h
      · simp [hx, h]
      · rw [hc] at h; cases h; rw [hx] at hn; cases hn

/-- An output's setting and its frames depend on the entries of index 0x6802 alone. -/
theorem Device.output_of_kept {d e : Device} {ks : List Nat} (h : d.kept e ks) (hks : ∀ k ∈ ks, k / 256 ≠ 0x6802) (o : Nat) (r : List Byte) :
    e.outputSet o = d.outputSet o ∧ e.outFrame o r = d.outFrame o r := by
  have hrd : ∀ k, k / 256 = 0x6802 → e.rd k = d.rd k := fun k hk => h k fun hm => hks k hm hk
  unfold Device.outputSet Device.outFrame
  simp only [hrd Reg.OUT_CAN (by decide), hrd Reg.OUT_T1S (by decide), hrd Reg.OUT_CAN_ID (by decide), hrd Reg.OUT_SDT (by decide),
    hrd Reg.OUT_T1S_DEST_MAC (by decide), hrd Reg.OUT_ETHERTYPE (by decide), and_self]

/-- The keys that Lookout B's receipt of a record and the record's store set or count. -/
def receiptKeys : List Nat :=
  [Reg.NO_CLEAR_PATH_RECORDS, Reg.FALLBACK_STREAMING, Reg.FALLBACK_RECORD_SEQ] ++ [Reg.FC_HITS, Reg.FC_MISSES]

/-- `e` is `d` once the record `x` of cycle `c` has been sent, whatever its job then saw: Lookout B and the record's buffer have
it, with what accesses count, and the cycle has ended. -/
def Device.sentAs (d e : Device) (c : Cycle) (x : ChosenRecord) (intact : Bool) : Prop :=
  ∃ f, ((d.toLookoutB x.trajectory x.fallback intact).onMem fun m => m.store (d.trajBuffer c.instant) x.trajectory).quiet f ∧
    e = { f.cycleEnded x.trajectory with cores := e.cores, strm := e.strm }

section
variable {d f : Device} {c : Cycle} {x : ChosenRecord} {intact : Bool} (hf : d.firmware .B = true)
  (hq : ((d.toLookoutB x.trajectory x.fallback intact).onMem fun m => m.store (d.trajBuffer c.instant) x.trajectory).quiet f)
include hf hq

theorem Device.kept_received : d.kept f receiptKeys := kept_trans (kept_toLookoutB hf _ _ _) fun k hk => kept_of_quiet hq k hk

theorem Device.received_planning : f.planning = d.planning := by
  rw [hq.frame, toLookoutB_frame hf]; rfl

theorem Device.received_cores : f.cores = d.cores := by
  rw [hq.frame, toLookoutB_frame hf]; rfl

end

section
variable {d e : Device} {c : Cycle} {x : ChosenRecord} {intact : Bool} (hf : d.firmware .B = true) (h : d.sentAs e c x intact)
include h

/-- Lookout B's state, the log and FALLBACK_RECORD_SEQ are as Lookout B's receipt of the record left them. -/
theorem Device.sentAs_received : e.safety = (d.toLookoutB x.trajectory x.fallback intact).safety ∧
    e.log = (d.toLookoutB x.trajectory x.fallback intact).log ∧
    e.rd Reg.FALLBACK_RECORD_SEQ = (d.toLookoutB x.trajectory x.fallback intact).rd Reg.FALLBACK_RECORD_SEQ := by
  obtain ⟨f, hq, he⟩ := h
  have hdict : e.dict = (f.cycleEnded x.trajectory).dict := by rw [he]
  refine ⟨?_, ?_, ?_⟩
  · rw [he, cycleEnded_frame, hq.frame]; rfl
  · rw [he, cycleEnded_frame, hq.frame]; rfl
  · rw [rd_of_dict hdict, f.kept_cycleEnded x.trajectory _ (by decide), kept_of_quiet hq _ (by decide), Device.onMem_rd]

include hf

theorem Device.sentAs_bytes : e.mem.bytes = (d.mem.store (d.trajBuffer c.instant) x.trajectory).bytes := by
  obtain ⟨f, hq, he⟩ := h
  have hmem : e.mem = f.mem := by rw [he, cycleEnded_frame]
  rw [hmem, quiet_bytes hq, toLookoutB_frame hf]
  rfl

theorem Device.sentAs_cycle : e.planning.cycle = none ∧ e.planning.outSeq = d.planning.outSeq + 1 := by
  obtain ⟨f, hq, he⟩ := h
  have hplanning : e.planning = (f.cycleEnded x.trajectory).planning := by rw [he]
  rw [hplanning, ← received_planning hf hq]
  exact f.cycleEnded_planning x.trajectory

theorem Device.sentAs_outs : e.rd Reg.OUT_SEQ = wrapTo 32 (d.planning.outSeq + 1) ∧ e.rd Reg.LAST_OUT_STATUS = leAt x.trajectory 6 2 ∧
    e.rd Reg.LAST_OUT_FLAGS = leAt x.trajectory 8 2 := by
  obtain ⟨f, hq, he⟩ := h
  have hdict : e.dict = (f.cycleEnded x.trajectory).dict := by rw [he]
  simp only [rd_of_dict hdict, ← received_planning hf hq]
  exact f.cycleEnded_outs x.trajectory

/-- A configured output waits with the record's frame, and one that is not as before (R341). -/
theorem Device.sentAs_unsent {o : Nat} (ho : o < 2) : SMap.getD e.planning.unsent o [] =
    if d.outputSet o = true then d.outFrame o x.trajectory else SMap.getD d.planning.unsent o [] := by
  obtain ⟨f, hq, he⟩ := h
  have hplanning : e.planning = (f.cycleEnded x.trajectory).planning := by rw [he]
  obtain ⟨hset, hframe⟩ := output_of_kept (kept_received hf hq) (by decide) o x.trajectory
  rw [hplanning, f.cycleEnded_unsent x.trajectory ho, hset, hframe, received_planning hf hq]

end

section
variable {d : Device} {c : Cycle} {x : ChosenRecord} {env : MemEnv} (room intact : Bool) (hc : d.planning.cycle = some c)
  (hx : c.chosen = some x) (hr : d.worldRuns = true) (hring : d.fn (.ring .trajOut) ≠ .on)
  (hf : d.firmware .B = true) (hm : d.memSound env) (hs : d.served (d.trajBuffer c.instant) x.trajectory.length)
include hc hx hr hring hf hm hs

/-- A chosen record goes to Lookout B and to its buffer; then the cycle ends, its job is told, and planning settles. -/
theorem Device.recordDone_served : ∃ f,
    ((d.toLookoutB x.trajectory x.fallback intact).onMem fun m => m.store (d.trajBuffer c.instant) x.trajectory).quiet f ∧
      d.recordDone room intact env = ((f.cycleEnded x.trajectory).jobEnds x.job c.instant (d.trajBuffer c.instant)).planSettle env := by
  obtain ⟨hpoison, hfaults, -⟩ := hm
  have hpoisonB : (d.toLookoutB x.trajectory x.fallback intact).mem.poison = [] := by rw [toLookoutB_frame hf]; exact hpoison
  obtain ⟨hwrite, hq⟩ := Device.worldWrites_one_served _ env _ _ hfaults (served_of_kept (kept_toLookoutB hf _ _ _) (by decide) hs) hpoisonB
  refine ⟨_, hq, ?_⟩
  have hkept := kept_received hf hq
  have hplanning := received_planning hf hq
  generalize hw : (d.toLookoutB x.trajectory x.fallback intact).worldWrites env [(d.trajBuffer c.instant, x.trajectory)] = w at *
  have hnoring : ((w.1.queueFrame x.trajectory 0).queueFrame x.trajectory 1).fn (.ring .trajOut) ≠ .on := by
    unfold Device.fn at hring ⊢
    rw [queueFrame_rd, queueFrame_rd, hkept _ (by decide)]
    exact hring
  unfold Device.recordDone
  simp only [hc, hx, hr, hw, hwrite, Bool.not_true, Bool.false_eq_true, if_false, if_pos hnoring]
  unfold Device.cycleEnded
  rw [hplanning]
  cases x.job with
  | none => rfl
  | some j => rfl

/-- Where planning stays ON and the job's core is ready, the record is sent and its job told as the block stood before. -/
theorem Device.recordDone_sentAs (hon : d.fn .planning = .on) (hj : ∀ j, x.job = some j → d.jobReady j) :
    d.sentAs (d.recordDone room intact env) c x intact ∧
      (∀ j, x.job = some j → d.jobTold (d.recordDone room intact env) j 0 c.instant (d.trajBuffer c.instant)) ∧
      (x.job = none → (d.recordDone room intact env).cores = d.cores) := by
  obtain ⟨f, hq, hdone⟩ := recordDone_served room intact hc hx hr hring hf hm hs
  have hended : d.kept (f.cycleEnded x.trajectory) (receiptKeys ++ [Reg.LAST_OUT_STATUS, Reg.LAST_OUT_FLAGS, Reg.OUT_SEQ]) :=
    kept_trans (kept_received hf hq) (f.kept_cycleEnded x.trajectory)
  have hcores : (f.cycleEnded x.trajectory).cores = d.cores := by
    rw [← received_cores hf hq, cycleEnded_frame]
  have hready := fun j hjob => jobReady_of_kept hended (by decide) hcores (hj j hjob)
  obtain ⟨htold, hnone, hframe⟩ := (f.cycleEnded x.trajectory).jobEnds_told x.job c.instant (d.trajBuffer c.instant) fun j hjob => (hready j hjob).1
  have hdict : ((f.cycleEnded x.trajectory).jobEnds x.job c.instant (d.trajBuffer c.instant)).dict = (f.cycleEnded x.trajectory).dict := by
    rw [hframe]
  have hsettled : ((f.cycleEnded x.trajectory).jobEnds x.job c.instant (d.trajBuffer c.instant)).fn .planning = .on := by
    unfold Device.fn at hon ⊢
    rw [rd_of_dict hdict, hended _ (by decide)]
    exact hon
  rw [hdone, planSettle_on _ env hsettled]
  exact ⟨⟨f, hq, hframe⟩, fun j hjob => jobTold_of hcores (hready j hjob).2 (htold j hjob), fun hnojob => (hnone hnojob).trans hcores⟩

end

/-! ### What the deadline chooses (R337 to R339) -/

/-- On an open cycle a deadline with an EXPAND done chooses its first survivor. -/
theorem Device.planDeadline_choosesSurvivor {d : Device} {c : Cycle} {env : MemEnv} {x : Survivor} {rest : List Survivor} {e0 k : Nat}
    (hc : d.planning.cycle = some c) (hn : c.chosen = none) (hr : d.worldRuns = true) (hm : d.memSound env) (he : c.expand = .done)
    (hs : c.survivors = x :: rest) (hnew : d.planning.newest = some (e0, k)) (hb : c.bound = some e0)
    (hserved : d.choiceServed c ⟨x.index, some ⟨x.index, e0, x.clearance, x.outside, x.minT⟩, 0⟩) :
    d.chosenAs (d.planDeadline env) c none 0 (Nat.lor flagTimeout flagScoresIgnored)
        ⟨x.index, some ⟨x.index, e0, x.clearance, x.outside, x.minT⟩, 0⟩ ∧
      d.kept (d.planDeadline env) [Reg.FC_HITS, Reg.FC_MISSES] ∧ (d.planDeadline env).world = d.world ∧ (d.planDeadline env).cores = d.cores := by
  rw [planDeadline_survivors hc hn hr he (by rw [hs]; exact List.cons_ne_nil _ _), hs, d.finalCheck_bound c x rest none _ env hnew hb]
  exact d.choose_chosenAs c none 0 _ _ env hc hm hserved

/-- A choice made after planning events were counted is the choice of the device before them. -/
theorem Device.choose_after {d e : Device} {ks : List Nat} (hp : d.plansAlike e) (hk : d.kept e ks) (hks : ∀ k ∈ ks, k / 0x100000 ≠ 4)
    (hmem : e.mem = d.mem) (hworld : e.world = d.world) (hcores : e.cores = d.cores) {c : Cycle} {env : MemEnv} (job : Option WorldJob)
    (status flags : Nat) {x : Choice} (hc : d.planning.cycle = some c) (hm : d.memSound env) (hs : d.choiceServed c x) :
    d.chosenAs (e.choose c job status flags x env) c job status flags x ∧
      e.kept (e.choose c job status flags x env) [Reg.FC_HITS, Reg.FC_MISSES] ∧
      d.kept (e.choose c job status flags x env) (ks ++ [Reg.FC_HITS, Reg.FC_MISSES]) ∧
      (e.choose c job status flags x env).world = d.world ∧ (e.choose c job status flags x env).cores = d.cores := by
  obtain ⟨hchosen, hkept, hw, hcs⟩ := e.choose_chosenAs c job status flags x env (hp.planning ▸ hc)
    (memSound_of_kept hk hks (by rw [hmem]) hm) (hp.choiceServed hk hks hs)
  exact ⟨hp.chosenAs hmem hchosen, hkept, kept_trans hk hkept, hw.trans hworld, hcs.trans hcores⟩

section
variable {d : Device} {c : Cycle} {env : MemEnv} (hc : d.planning.cycle = some c) (hn : c.chosen = none) (hr : d.worldRuns = true)
  (hm : d.memSound env) (he : c.expand = .none) (hj : c.expandJob = none) (hw : c.waiting = none)
include hc hn hr hm he hj hw

/-- With no EXPAND and no epoch, the deadline takes minimum-risk primitive 0 unchecked. -/
theorem Device.planDeadline_choosesUnchecked (hnew : d.planning.newest = none)
    (hserved : d.choiceServed c ⟨0, none, Nat.lor flagNoClear flagUnchecked⟩) :
    d.chosenAs (d.planDeadline env) c none St.PLAN_TIMEOUT flagTimeout ⟨0, none, Nat.lor flagNoClear flagUnchecked⟩ ∧
      (d.planDeadline env).rd (Reg.PLAN_EVENTS 1) = satTo 32 (d.rd (Reg.PLAN_EVENTS 1) + 1) ∧
      (d.planDeadline env).rd (Reg.PLAN_EVENTS 6) = satTo 32 (d.rd (Reg.PLAN_EVENTS 6) + 1) ∧
      d.kept (d.planDeadline env) [Reg.PLAN_EVENTS 1, Reg.PLAN_EVENTS 6, Reg.FC_HITS, Reg.FC_MISSES] ∧
      (d.planDeadline env).world = d.world ∧ (d.planDeadline env).cores = d.cores := by
  rw [planDeadline_noPath hc hn hr he hj hw, d.noPath_unchecked c none _ _ env hnew]
  obtain ⟨hchosen, hcounted, hkept, hworld, hcores⟩ := choose_after
    (plansAlike_trans (d.plansAlike_planEvent St.PLAN_TIMEOUT 1 (by decide)) (Device.plansAlike_planEvent _ St.PLAN_NO_EPOCH 6 (by decide)))
    (kept_trans (d.kept_planEvent St.PLAN_TIMEOUT 1) (Device.kept_planEvent _ St.PLAN_NO_EPOCH 6)) (by decide) rfl rfl rfl none St.PLAN_TIMEOUT
    flagTimeout hc hm hserved
  refine ⟨hchosen, (hcounted _ (by decide)).trans ?_, (hcounted _ (by decide)).trans ?_, hkept, hworld, hcores⟩
  · rw [rd_planEvent, if_neg (by decide), rd_planEvent, if_pos rfl]
  · rw [rd_planEvent, if_pos rfl, rd_planEvent, if_neg (by decide)]

/-- With no EXPAND and a clear minimum-risk primitive against the newest epoch, the deadline takes that one. -/
theorem Device.planDeadline_choosesMrm {x : Clearance} {e0 k : Nat} (hnew : d.planning.newest = some (e0, k))
    (hx : (d.mrmClearances c e0).find? (·.clear) = some x) (hserved : d.choiceServed c ⟨x.index, some x, flagMrm⟩) :
    d.chosenAs (d.planDeadline env) c none St.PLAN_TIMEOUT flagTimeout ⟨x.index, some x, flagMrm⟩ ∧
      (d.planDeadline env).rd (Reg.PLAN_EVENTS 1) = satTo 32 (d.rd (Reg.PLAN_EVENTS 1) + 1) ∧
      d.kept (d.planDeadline env) [Reg.PLAN_EVENTS 1, Reg.FC_HITS, Reg.FC_MISSES] ∧
      (d.planDeadline env).world = d.world ∧ (d.planDeadline env).cores = d.cores := by
  rw [planDeadline_noPath hc hn hr he hj hw, d.noPath_mrm c none _ _ env hnew hx]
  obtain ⟨hchosen, hcounted, hkept, hworld, hcores⟩ := choose_after (d.plansAlike_planEvent St.PLAN_TIMEOUT 1 (by decide))
    (d.kept_planEvent St.PLAN_TIMEOUT 1) (by decide) rfl rfl rfl none St.PLAN_TIMEOUT flagTimeout hc hm hserved
  refine ⟨hchosen, (hcounted _ (by decide)).trans ?_, hkept, hworld, hcores⟩
  rw [rd_planEvent, if_pos rfl]

end

/-- Settles O49: the deadline's choice by the rule that holds (R337 to R339), and the sending of the chosen record (R340 to R343). -/
theorem cyclesEndWithARecord : Obligations.CyclesEndWithARecord := by
  unfold Obligations.CyclesEndWithARecord
  refine ⟨fun s env => ⟨fun hclosed => ?_, fun c hc hn hr hm => ⟨?_, ?_, ?_⟩⟩, fun s room intact env => ⟨fun hidle => ?_, ?_⟩⟩
  · exact completes_run (fun d => d.planDeadline env) rfl (s.dev.planDeadline_closed env hclosed)
  · rintro x rest e0 k _ he hs hnew hb rfl hserved
    exact completes_run (fun d => d.planDeadline env) rfl (Device.planDeadline_choosesSurvivor hc hn hr hm he hs hnew hb hserved)
  · rintro _ he hj hw hnew rfl hserved
    exact completes_run (fun d => d.planDeadline env) rfl (Device.planDeadline_choosesUnchecked hc hn hr hm he hj hw hnew hserved)
  · rintro x e0 k _ he hj hw hnew hx rfl hserved
    exact completes_run (fun d => d.planDeadline env) rfl (Device.planDeadline_choosesMrm hc hn hr hm he hj hw hnew hx hserved)
  · exact completes_run (fun d => d.recordDone room intact env) rfl (s.dev.recordDone_idle room intact env hidle)
  · intro c x hc hx hr hon hring hf hm hs hj
    obtain ⟨hsent, htold, hnone⟩ := Device.recordDone_sentAs room intact hc hx hr hring hf hm hs hon hj
    refine completes_run (fun d => d.recordDone room intact env) rfl ?_
    obtain ⟨hcycle, hseq⟩ := Device.sentAs_cycle hf hsent
    obtain ⟨houtSeq, hstatus, hflags⟩ := Device.sentAs_outs hf hsent
    obtain ⟨hsafety, hlog, hrecord⟩ := Device.sentAs_received hsent
    dsimp only
    rw [hsafety, hlog, hrecord]
    exact ⟨Device.sentAs_bytes hf hsent, hcycle, hseq, houtSeq, hstatus, hflags,
      fun o ho hset => (Device.sentAs_unsent hf hsent ho).trans (if_pos hset),
      fun o ho hset => (Device.sentAs_unsent hf hsent ho).trans (if_neg (by simp [hset])),
      Device.toLookoutB_trajectory hf .., Device.toLookoutB_intact hf _ _ _, Device.toLookoutB_discarded hf _ _ _, htold, hnone⟩

end Sys2Proof.Machine
end

section
/-!
PROOFS. O56: the Warden's management iteration (R38), the divisor's change at a bundle boundary (R29), and the windows in
which a Lookout counts CLK_PERIPH (R34). One view of the block says what an iteration's upkeep leaves; each part of the
upkeep is shown to keep that view.
-/

namespace Sys2Proof.Machine

/-! ### One bit of a register -/

theorem bitAt_setBit_self (v i : Nat) (b : Bool) : bitAt (setBit v i b) i = b := by
  unfold setBit
  split
  case isTrue h => exact eq_of_beq h
  case isFalse h =>
    have hpow : 0 < 2 ^ i := Nat.two_pow_pos i
    cases b with
    | true =>
      have hclear : v / 2 ^ i % 2 ≠ 1 := by simpa [bitAt] using h
      rw [if_pos rfl, bitAt, Nat.add_div_right _ hpow, beq_iff_eq]
      omega
    | false =>
      have hset : v / 2 ^ i % 2 = 1 := by simpa [bitAt] using h
      have hdiv : (v - 2 ^ i) / 2 ^ i = v / 2 ^ i - 1 := by simpa using Nat.sub_mul_div v (2 ^ i) 1
      rw [if_neg Bool.false_ne_true, bitAt, hdiv, beq_eq_false_iff_ne]
      omega

/-! ### What the upkeep of a period leaves -/

/-- A loop keeps every reading of the block that each of its rounds keeps. -/
theorem Device.each_keeps {α β : Type} (g : Device → β) {l : List α} {f : Device → α → Device}
    (h : ∀ (d : Device), ∀ x ∈ l, g (f d x) = g d) (d : Device) : g (d.each l f) = g d := by
  induction l generalizing d with
  | nil => rfl
  | cons x t ih =>
    exact (ih (fun d y hy => h d y (List.mem_cons_of_mem x hy)) (f d x)).trans (h d x List.mem_cons_self)

theorem snd_lt_of_mem_zipIdx_take {α : Type} {l : List α} {n : Nat} {p : α × Nat} (h : p ∈ (l.take n).zipIdx) : p.2 < n :=
  Nat.lt_of_lt_of_le (List.snd_lt_of_mem_zipIdx h) (List.length_take_le n l)

/-- What an iteration's upkeep leaves: start-up and restarts, the cores, the stream, stored memory and its time, the
iteration's own counters, and the registers that decide what an iteration does. -/
structure PeriodView where
  boot : Boot
  cores : SMap Core
  strm : Stream
  dram : SMap Byte
  elapsed : Nat
  periods : Nat
  skipped : Nat
  hamper : Nat
  job : Nat
  transition : Nat

/-- The view of a block. -/
def Device.periodView (d : Device) : PeriodView where
  boot := d.boot
  cores := d.cores
  strm := d.strm
  dram := d.mem.dram
  elapsed := d.mem.elapsed
  periods := d.rd Reg.MGMT_PERIODS
  skipped := d.rd Reg.MGMT_SKIPPED
  hamper := d.rd Reg.HAMPER_STATE
  job := d.rd Reg.JOB_STATE
  transition := d.rd Reg.TRANSITION

/-- The dictionary index is none of those whose registers the view reads. -/
def besideView (index : Nat) : Bool := index != 0xF000 && index != 0x3900 && index != 0x8000 && index != 0x2002

@[simp] theorem Device.periodView_wr (d : Device) {k : Nat} (v : Nat) (h : besideView (k / 256) = true) :
    (d.wr k v).periodView = d.periodView := by
  have hne : ∀ j, besideView (j / 256) = false → k ≠ j := by
    rintro j hj rfl
    exact absurd (h.symm.trans hj) (by decide)
  simp only [Device.periodView, d.rd_wr_ne v (hne Reg.MGMT_PERIODS (by decide)), d.rd_wr_ne v (hne Reg.MGMT_SKIPPED (by decide)),
    d.rd_wr_ne v (hne Reg.HAMPER_STATE (by decide)), d.rd_wr_ne v (hne Reg.JOB_STATE (by decide)),
    d.rd_wr_ne v (hne Reg.TRANSITION (by decide))]
  rfl

theorem besideView_iff {i : Nat} : besideView i = true ↔ i ≠ 0xF000 ∧ i ≠ 0x3900 ∧ i ≠ 0x8000 ∧ i ≠ 0x2002 := by
  simp [besideView, and_assoc]

theorem besideView_key {i s : Nat} (hi : besideView i = true) (hs : s < 256) : besideView (key i s / 256) = true := by
  rwa [key, show (i * 256 + s) / 256 = i by omega]

theorem Device.periodView_wrAll (d : Device) (l : List (Nat × Nat)) (h : ∀ p ∈ l, besideView (p.1 / 256) = true) :
    (d.wrAll l).periodView = d.periodView := each_keeps _ (fun d p hp => d.periodView_wr p.2 (h p hp)) d

@[simp] theorem Device.periodView_bump (d : Device) {k : Nat} (h : besideView (k / 256) = true) :
    (d.bump k).periodView = d.periodView := d.periodView_wr _ h
@[simp] theorem Device.periodView_addSat (d : Device) (w : Nat) {k : Nat} (n : Nat) (h : besideView (k / 256) = true) :
    (d.addSat w k n).periodView = d.periodView := d.periodView_wr _ h
@[simp] theorem Device.periodView_onPower (d : Device) (f : Power → Power) : (d.onPower f).periodView = d.periodView := rfl
@[simp] theorem Device.periodView_onSafety (d : Device) (f : Safety → Safety) : (d.onSafety f).periodView = d.periodView := rfl
@[simp] theorem Device.periodView_logEv (d : Device) (c : Code) (i d0 d1 d2 : Nat) :
    (d.logEv c i d0 d1 d2).periodView = d.periodView := rfl
@[simp] theorem Device.periodView_wrBlob (d : Device) (k : Nat) (b : List Byte) : (d.wrBlob k b).periodView = d.periodView := rfl
@[simp] theorem Device.periodView_onPort (d : Device) (p : Nat) (f : MemPort → MemPort) : (d.onPort p f).periodView = d.periodView := rfl

@[simp] theorem Device.periodView_ptEvent (d : Device) (c : Code) (d0 : Nat) : (d.ptEvent c d0).periodView = d.periodView := by
  have hbump : (d.bump (Reg.PT_EVENTS (c % 256 - 1))).periodView = d.periodView :=
    d.periodView_bump (besideView_key (by decide) (by omega))
  unfold Device.ptEvent
  dsimp only
  split <;> simp [hbump]

/-! ### Power and temperature in an iteration -/

theorem Device.periodView_railRead (d : Device) {i : Nat} (hi : i < 11) (x : RailRead) :
    (d.railRead i x).periodView = d.periodView := by
  have hrail : besideView (Reg.RAIL_CURRENT_MA i / 256) = true := besideView_key (by decide) (by omega)
  cases x with
  | ok mA => simp [Device.railRead, hrail]
  | retried mA => simp [Device.railRead, hrail]
  | failed => simp [Device.railRead, hrail, apply_ite Device.periodView]

theorem Device.periodView_vrAlert (d : Device) (segment : Nat) (rails : List Nat) :
    (d.vrAlert segment rails).periodView = d.periodView := by
  unfold Device.vrAlert
  dsimp only
  split
  · simp
  · exact each_keeps _ (fun d i _ => d.periodView_ptEvent _ i) d

theorem Device.periodView_powerRead (d : Device) (m : MgmtInput) : (d.powerRead m).periodView = d.periodView := by
  have hrails (d : Device) : (d.each (List.zipIdx (m.currents.take 11)) fun d p => d.railRead p.2 p.1).periodView = d.periodView :=
    each_keeps _ (fun d p hp => d.periodView_railRead (snd_lt_of_mem_zipIdx_take hp) p.1) d
  have halerts (d : Device) : (d.each m.alerts fun d a => d.vrAlert a.1.val (a.2.map (·.val))).periodView = d.periodView :=
    each_keeps _ (fun d a _ => d.periodView_vrAlert _ _) d
  unfold Device.powerRead
  dsimp only
  simp only [wrAll_cons, wrAll_nil]
  rw [periodView_wr _ _ (by decide), periodView_wr _ _ (by decide), periodView_onPower, halerts, hrails]

theorem Device.periodView_capLapse (d : Device) : d.capLapse.periodView = d.periodView := by
  have hcap (v : Nat) : (d.wr Reg.CAP_GRANTED v).periodView = d.periodView := d.periodView_wr v (by decide)
  simp [Device.capLapse, hcap, apply_ite Device.periodView]

theorem Device.periodView_coolantStale (d : Device) : d.coolantStale.periodView = d.periodView := by
  have hstatus (d : Device) (v : Nat) : (d.wr Reg.COOLANT_STATUS v).periodView = d.periodView := d.periodView_wr v (by decide)
  simp [Device.coolantStale, hstatus, periodView_capLapse, apply_ite Device.periodView]

theorem Device.periodView_coolantIteration (d : Device) (ms : Nat) : (d.coolantIteration ms).periodView = d.periodView := by
  have hage (d : Device) (v : Nat) : (d.wr Reg.COOLANT_AGE_MS v).periodView = d.periodView := d.periodView_wr v (by decide)
  have hcap (d : Device) (v : Nat) : (d.wr Reg.CAP_GRANTED v).periodView = d.periodView := d.periodView_wr v (by decide)
  unfold Device.coolantIteration
  dsimp only
  simp only [wrAll_cons, wrAll_nil]
  rw [periodView_wr _ _ (by decide), periodView_wr _ _ (by decide), periodView_wr _ _ (by decide)]
  simp [hage, hcap, periodView_capLapse, periodView_coolantStale, apply_ite Device.periodView]

theorem firstLargest_mem {f : Nat → Nat} {l : List Nat} {x : Nat} (h : firstLargest f l = some x) : x ∈ l := by
  have hsome : ∀ y ∈ firstLargest f l, y ∈ l :=
    List.foldlRecOn (motive := fun b : Option Nat => ∀ y ∈ b, y ∈ l) l _ (by simp) fun b hb r hr y hy => by
      cases b with
      | none => cases hy; exact hr
      | some z =>
        dsimp only at hy
        split at hy
        · cases hy; exact hr
        · exact hb y hy
  exact hsome x h

theorem Device.periodView_wr_DIV_POWER (d : Device) {r : Nat} (v : Nat) (hr : r < 4) :
    (d.wr (Reg.DIV_POWER r) v).periodView = d.periodView := d.periodView_wr v (besideView_key (by decide) (by omega))
theorem Device.periodView_wr_DIV_THERMAL (d : Device) {r : Nat} (v : Nat) (hr : r < 4) :
    (d.wr (Reg.DIV_THERMAL r) v).periodView = d.periodView := d.periodView_wr v (besideView_key (by decide) (by omega))

/-- A region that the cap loop steps is one of the four. -/
theorem lt_of_firstLargest_regions {f : Nat → Nat} {p : Nat → Bool} {x : Nat}
    (h : firstLargest f ((List.range 4).filter p) = some x) : x < 4 :=
  List.mem_range.mp (List.mem_filter.mp (firstLargest_mem h)).1

theorem Device.periodView_capLoop (d : Device) : d.capLoop.periodView = d.periodView := by
  unfold Device.capLoop
  dsimp only
  split
  · split
    · rfl
    · split
      next x hx => simp [periodView_wr_DIV_POWER _ _ (lt_of_firstLargest_regions hx)]
      next => simp [apply_ite Device.periodView]
  · split
    · rfl
    next y hy =>
      have hdiv (d : Device) (v : Nat) : (d.wr (Reg.DIV_POWER y) v).periodView = d.periodView :=
        d.periodView_wr_DIV_POWER v (lt_of_firstLargest_regions hy)
      simp only [apply_ite Device.periodView, periodView_onPower, hdiv, ite_self]

theorem Device.periodView_setTemp (d : Device) {s : Nat} (t : Int) (hs : s < 28) : (d.setTemp s t).periodView = d.periodView :=
  d.periodView_wr _ (besideView_key (by decide) (by omega))

theorem Device.periodView_setStackTemp (d : Device) {s : Nat} (t : Int) (hs : s < 8) :
    (d.setStackTemp s t).periodView = d.periodView := by
  have hindex {c : Nat} (hc : c < 256) : besideView (key (0x4110 + s) c / 256) = true :=
    besideView_key (besideView_iff.mpr (by omega)) hc
  refine d.periodView_wrAll _ ?_
  simp only [List.forall_mem_cons]
  exact ⟨hindex (by decide), hindex (by decide), List.forall_mem_nil _⟩

theorem Device.periodView_judgeSensor (d : Device) (s : Nat) : (d.judgeSensor s).periodView = d.periodView := by
  have hmask (v : Nat) : (d.wr Reg.SENSOR_FAULT_MASK v).periodView = d.periodView := d.periodView_wr v (by decide)
  unfold Device.judgeSensor
  dsimp only
  split
  · rfl
  · rw [each_keeps Device.periodView fun d r hr => d.periodView_wr_DIV_THERMAL _ (List.mem_range.mp hr), periodView_ptEvent, hmask]

theorem Device.periodView_softThermal (d : Device) {r : Nat} (hr : r < 4) : (d.softThermal r).periodView = d.periodView := by
  simp [Device.softThermal, periodView_wr_DIV_THERMAL _ _ hr, apply_ite Device.periodView]

theorem Device.periodView_thermalIteration (d : Device) (m : MgmtInput) : (d.thermalIteration m).periodView = d.periodView := by
  have htemps (d : Device) : (d.each (List.zipIdx (m.temps.take 28)) fun d p => d.setTemp p.2 p.1).periodView = d.periodView :=
    each_keeps _ (fun d p hp => d.periodView_setTemp p.1 (snd_lt_of_mem_zipIdx_take hp)) d
  have hstacks (d : Device) : (d.each (List.zipIdx (m.stackTemps.take 8)) fun d p => d.setStackTemp p.2 p.1).periodView = d.periodView :=
    each_keeps _ (fun d p hp => d.periodView_setStackTemp p.1 (snd_lt_of_mem_zipIdx_take hp)) d
  have hjudged (d : Device) (n : Nat) :
      (d.each (List.range n) fun d s => if s < 28 then d.judgeSensor s else d).periodView = d.periodView :=
    each_keeps _ (fun d s _ => by simp [periodView_judgeSensor, apply_ite Device.periodView]) d
  unfold Device.thermalIteration
  dsimp only
  rw [each_keeps Device.periodView fun d r hr => d.periodView_softThermal (List.mem_range.mp hr)]
  split
  · rw [periodView_wr _ _ (by decide), hjudged, hstacks, htemps]
  · rw [hjudged, hstacks, htemps]

theorem Device.periodView_ocIteration (d : Device) (low : Nat) : (d.ocIteration low).periodView = d.periodView := by
  have hthrottle (d : Device) (r : Nat) (b : Bool) : (d.setThrottle r b).periodView = d.periodView := d.periodView_wr _ (by decide)
  exact each_keeps _ (fun d r _ => by simp [hthrottle, apply_ite Device.periodView]) d

theorem Device.periodView_ageMeasure (d : Device) {r : Nat} (now : Nat) (hr : r < 4) :
    (d.ageMeasure r now).periodView = d.periodView := by
  have hage (v : Nat) : (d.wr (Reg.AGE_MV r) v).periodView = d.periodView := d.periodView_wr v (besideView_key (by decide) (by omega))
  have hallowed (d : Device) (v : Nat) : (d.wr Reg.DIV2_ALLOWED v).periodView = d.periodView := d.periodView_wr v (by decide)
  simp [Device.ageMeasure, hage, hallowed, apply_ite Device.periodView]

theorem Device.periodView_ageAll (d : Device) (ro : List (BitVec 32)) : (d.ageAll ro).periodView = d.periodView :=
  each_keeps _ (fun d _ hp => d.periodView_ageMeasure _ (snd_lt_of_mem_zipIdx_take hp)) d

theorem Device.periodView_ageCount (d : Device) (off n : Nat) : (d.ageCount off n).periodView = d.periodView := rfl

theorem Device.periodView_ageIteration (d : Device) (ro : List (BitVec 32)) (ms : Nat) :
    (d.ageIteration ro ms).periodView = d.periodView := by
  simp [Device.ageIteration, periodView_ageAll, periodView_ageCount, apply_ite Device.periodView]

theorem Device.periodView_divUpdate (d : Device) {r : Nat} (hardware : Bool) (hr : r < 4) :
    (d.divUpdate r hardware).periodView = d.periodView := by
  have hvout (d : Device) (mv : Nat) : (d.setVout r mv).periodView = d.periodView :=
    d.periodView_wr mv (besideView_key (by decide) (by omega))
  simp [Device.divUpdate, Device.divTake, hvout, apply_ite Device.periodView]

theorem Device.periodView_powerIteration (d : Device) (m : MgmtInput) : (d.powerIteration m).periodView = d.periodView := by
  unfold Device.powerIteration
  dsimp only
  rw [each_keeps Device.periodView fun d r hr => d.periodView_divUpdate false (List.mem_range.mp hr), periodView_ageIteration,
    periodView_ocIteration, periodView_capLoop, periodView_coolantIteration, periodView_thermalIteration, periodView_powerRead,
    periodView_onPower]

/-! ### The other parts of an iteration -/

theorem Device.periodView_bankWaits (d : Device) (l : List BankWait) : (d.bankWaits l).periodView = d.periodView :=
  each_keeps _ (fun d w _ => by
    have hcore {c : Nat} (hc : c < 256) : besideView (key (0x3400 + w.core.val) c / 256) = true :=
      besideView_key (besideView_iff.mpr (by omega)) hc
    exact (periodView_addSat _ _ _ (hcore (by decide))).trans (periodView_addSat _ _ _ (hcore (by decide)))) d

theorem Device.periodView_portSnapshot (d : Device) (m : MgmtInput) {p : Nat} (hp : p < 79) :
    (d.portSnapshot m p).periodView = d.periodView := by
  have hport {c : Nat} (hc : c < 16) : besideView (key (0x4210 + p / 16) (16 * (p % 16) + c) / 256) = true :=
    besideView_key (besideView_iff.mpr (by omega)) (by omega)
  unfold Device.portSnapshot
  dsimp only
  rw [periodView_onPort, apply_ite Device.periodView, periodView_wrBlob, ite_self, periodView_wrAll, apply_ite Device.periodView]
  · exact ite_self _
  · simp only [List.forall_mem_cons]
    exact ⟨hport (by decide), hport (by decide), hport (by decide), hport (by decide), hport (by decide), hport (by decide),
      hport (by decide), hport (by decide), List.forall_mem_nil _⟩

theorem Device.periodView_flushTallies (d : Device) : d.flushTallies.periodView = d.periodView := by
  have hlogged : (d.each d.tallies fun d p => d.logEv (p.1 / 256) (p.1 % 256) p.2).periodView = d.periodView :=
    each_keeps _ (fun d p _ => d.periodView_logEv (p.1 / 256) (p.1 % 256) p.2 0 0) d
  exact hlogged

/-- The logging of the period's corrections keeps every reading that neither the log nor the corrections' records enter. -/
theorem Device.flushCorrections_keeps {β : Type} (g : Device → β) (hlog : ∀ (d : Device) l, g { d with log := l } = g d) (d : Device)
    (hmem : ∀ (d : Device), g (d.onMem fun m => { m with corrections := [], caFails := [], caOld := m.caFails }) = g d) :
    g d.flushCorrections = g d :=
  (hmem _).trans (each_keeps g (fun d _ _ => hlog d _) d)

theorem Device.ageTests_keeps {β : Type} (g : Device → β) (h : ∀ (d : Device) f, g (d.onSafety f) = g d) (d : Device) (ms : Nat) :
    g (d.ageTests ms) = g d := each_keeps g (fun d _ _ => h d _) d

/-! ### Skipped periods -/

theorem Device.rd_skipPeriods_skipped (d : Device) (n : Nat) :
    (d.skipPeriods n).rd Reg.MGMT_SKIPPED = if n = 0 then d.rd Reg.MGMT_SKIPPED else satTo 32 (d.rd Reg.MGMT_SKIPPED + n) := by
  unfold Device.skipPeriods
  split
  · rfl
  · rw [logEv_rd, rd_addSat, if_pos rfl]

/-- But for the count of skipped periods, skipping them changes nothing that the view shows. -/
theorem Device.periodView_skipPeriods (d : Device) (n : Nat) :
    (d.skipPeriods n).periodView = { d.periodView with skipped := (d.skipPeriods n).rd Reg.MGMT_SKIPPED } := by
  unfold Device.skipPeriods
  split
  · rfl
  · have hne (k : Nat) (h : Reg.MGMT_SKIPPED ≠ k) :
        ((d.addSat 32 Reg.MGMT_SKIPPED n).logEv St.MGMT_PERIOD_SKIPPED 0 n).rd k = d.rd k := d.rd_wr_ne _ h
    simp only [Device.periodView, hne _ (show Reg.MGMT_SKIPPED ≠ Reg.MGMT_PERIODS by decide),
      hne _ (show Reg.MGMT_SKIPPED ≠ Reg.HAMPER_STATE by decide), hne _ (show Reg.MGMT_SKIPPED ≠ Reg.JOB_STATE by decide),
      hne _ (show Reg.MGMT_SKIPPED ≠ Reg.TRANSITION by decide)]
    rfl

/-! ### An iteration with nothing under way -/

/-- No tenant job runs, the Hamper is not ON, DRAM is not trained and no transition is under way. -/
def PeriodView.idle (v : PeriodView) : Prop :=
  FnState.ofCode v.job ≠ .on ∧ FnState.ofCode v.job ≠ .draining ∧ FnState.ofCode v.hamper ≠ .on ∧ v.boot.trained = false ∧
    Transition.ofCode v.transition = .none

theorem Device.jobIteration_idle (d : Device) (outRoom ckptRoom : Bool) (env : MemEnv) (h : d.periodView.idle) :
    d.jobIteration outRoom ckptRoom env = d := by
  obtain ⟨hon, hdraining, hhamper, -⟩ : d.fn .job ≠ .on ∧ d.fn .job ≠ .draining ∧ d.fn .hamper ≠ .on ∧ _ := h
  have hidle : d.hamperIteration env = d := if_pos hhamper
  simp [Device.jobIteration, hon, hdraining, hidle]

theorem Device.retrainStep_idle (d : Device) (h : d.periodView.idle) : d.retrainStep = d := by
  obtain ⟨-, -, -, htrained, -⟩ := h
  have htrained : d.boot.trained = false := htrained
  simp [Device.retrainStep, htrained]

theorem Device.edgeStep_idle (d : Device) (h : d.periodView.idle) : d.edgeStep = d := by
  obtain ⟨-, -, -, -, hsettled⟩ := h
  have hsettled : d.transition = .none := hsettled
  simp [Device.edgeStep, hsettled]

theorem Device.idle_onMem_onGuest {d : Device} (f : Memory → Memory) (g : Guest → Guest) (h : d.periodView.idle) :
    ((d.onMem f).onGuest g).periodView.idle := h

/-- The block as the upkeep of an idle iteration leaves it, before time passes. -/
def Device.idleUpkeep (d : Device) (m : MgmtInput) : Device :=
  (((((d.skipPeriods m.skipped.toNat).powerIteration m).bankWaits m.waits).each (List.range 79) fun d p =>
    d.portSnapshot m p).flushTallies.flushCorrections).ageTests (m.skipped.toNat + 1)

theorem Device.periodView_portSnapshots (d : Device) (m : MgmtInput) :
    (d.each (List.range 79) fun d p => d.portSnapshot m p).periodView = d.periodView :=
  each_keeps _ (fun d _ hp => d.periodView_portSnapshot m (List.mem_range.mp hp)) d

theorem Device.periodView_idleUpkeep (d : Device) (m : MgmtInput) :
    (d.idleUpkeep m).periodView = (d.skipPeriods m.skipped.toNat).periodView := by
  unfold Device.idleUpkeep
  rw [ageTests_keeps Device.periodView fun _ _ => rfl, flushCorrections_keeps Device.periodView (fun _ _ => rfl) _ fun _ => rfl,
    periodView_flushTallies, periodView_portSnapshots, periodView_bankWaits, periodView_powerIteration]

theorem Device.tallies_idleUpkeep (d : Device) (m : MgmtInput) : (d.idleUpkeep m).tallies = [] := by
  unfold Device.idleUpkeep
  rw [ageTests_keeps Device.tallies fun _ _ => rfl, flushCorrections_keeps Device.tallies (fun _ _ => rfl) _ fun _ => rfl]
  rfl

theorem Device.corrections_idleUpkeep (d : Device) (m : MgmtInput) : (d.idleUpkeep m).mem.corrections = [] := by
  unfold Device.idleUpkeep
  rw [ageTests_keeps (fun d => d.mem.corrections) fun _ _ => rfl]
  rfl

theorem Device.mgmt_idle (d : Device) (m : MgmtInput) (h : d.periodView.idle) :
    d.mgmt m = (((d.idleUpkeep m).onMem fun x => { x with elapsed := x.elapsed + m.skipped.toNat + 1 }).onGuest fun g =>
      { g with malformed := 0, overruns := 0 }).bumpWrap Reg.MGMT_PERIODS := by
  have hskip : (d.skipPeriods m.skipped.toNat).periodView.idle := by rw [periodView_skipPeriods]; exact h
  have hpower : ((d.skipPeriods m.skipped.toNat).powerIteration m).periodView.idle := by rw [periodView_powerIteration]; exact hskip
  have hports : ((((d.skipPeriods m.skipped.toNat).powerIteration m).bankWaits m.waits).each (List.range 79) fun d p =>
      d.portSnapshot m p).periodView.idle := by
    rw [periodView_portSnapshots, periodView_bankWaits]; exact hpower
  have hend : (d.idleUpkeep m).periodView.idle := by rw [periodView_idleUpkeep]; exact hskip
  unfold Device.idleUpkeep at hend ⊢
  unfold Device.mgmt
  rw [jobIteration_idle _ _ _ _ hpower]
  dsimp only
  rw [retrainStep_idle _ hports, edgeStep_idle _ (idle_onMem_onGuest _ _ hend)]

theorem Device.mgmt_after (d : Device) (m : MgmtInput) (h : d.periodView.idle) :
    (d.mgmt m).rd Reg.MGMT_PERIODS = (d.rd Reg.MGMT_PERIODS + 1) % 2 ^ 32 ∧
      (d.mgmt m).rd Reg.MGMT_SKIPPED =
        (if m.skipped = 0 then d.rd Reg.MGMT_SKIPPED else satTo 32 (d.rd Reg.MGMT_SKIPPED + m.skipped.toNat)) ∧
      (d.mgmt m).tallies = [] ∧ (d.mgmt m).mem.corrections = [] ∧ (d.mgmt m).mem.elapsed = d.mem.elapsed + m.skipped.toNat + 1 ∧
      (d.mgmt m).mem.dram = d.mem.dram ∧ (d.mgmt m).cores = d.cores ∧ (d.mgmt m).strm = d.strm ∧ (d.mgmt m).boot = d.boot := by
  have hview : (d.idleUpkeep m).periodView = { d.periodView with skipped := (d.skipPeriods m.skipped.toNat).rd Reg.MGMT_SKIPPED } :=
    (d.periodView_idleUpkeep m).trans (d.periodView_skipPeriods _)
  have hperiods : (d.idleUpkeep m).rd Reg.MGMT_PERIODS = d.rd Reg.MGMT_PERIODS := congrArg PeriodView.periods hview
  have hskipped : (d.idleUpkeep m).rd Reg.MGMT_SKIPPED = (d.skipPeriods m.skipped.toNat).rd Reg.MGMT_SKIPPED :=
    congrArg PeriodView.skipped hview
  have helapsed : (d.idleUpkeep m).mem.elapsed = d.mem.elapsed := congrArg PeriodView.elapsed hview
  rw [d.mgmt_idle m h]
  refine ⟨?_, ?_, d.tallies_idleUpkeep m, d.corrections_idleUpkeep m, ?_, congrArg PeriodView.dram hview,
    congrArg PeriodView.cores hview, congrArg PeriodView.strm hview, congrArg PeriodView.boot hview⟩
  · rw [rd_bumpWrap, if_pos rfl, onGuest_rd, onMem_rd, hperiods]
    rfl
  · rw [rd_bumpWrap, if_neg (by decide), onGuest_rd, onMem_rd, hskipped, rd_skipPeriods_skipped]
    exact ite_congr (propext (BitVec.toNat_eq (y := 0#16)).symm) (fun _ => rfl) fun _ => rfl
  · rw [bumpWrap_mem, onGuest_mem, onMem_mem, helapsed]

/-! ### The divisor's change (R29) -/

theorem Device.divChange_none (d : Device) {r : Nat} (h : SMap.find d.power.pending r = none) : d.divChange r = d := by
  unfold Device.divChange
  rw [h]

theorem Device.divChange_pending (d : Device) {r v : Nat} (h : SMap.find d.power.pending r = some v) :
    d.divChange r = { d with dict := (d.wr (Reg.ARITH_DIV_NOW r) v).dict, power := { d.power with pending := SMap.erase d.power.pending r }
                             strm := { d.strm with divChange := SMap.put d.strm.divChange r 8 0 } } := by
  unfold Device.divChange
  rw [h]
  rfl

/-! ### The CLK_PERIPH windows (R34, Table 1-4) -/

theorem Device.isl_onIsl_self (d : Device) (i : Island) (f : Isl → Isl) : (d.onIsl i f).isl i = f (d.isl i) := by cases i <;> rfl

theorem Device.kept_onIsl (d : Device) (i : Island) (f : Isl → Isl) : d.kept (d.onIsl i f) [Reg.LOOKOUT_STATE i.num] :=
  Device.kept_wr _ _ _

/-- The block in which a Lookout has shown the count of a window and judged it. -/
def Device.windowShown (d : Device) (i : Island) (count : Nat) (judge : Isl → Isl) : Device :=
  (d.wr (Reg.ISL_PERIPH_COUNT i.num) count).onIsl i judge

theorem Device.isl_windowShown (d : Device) (i : Island) (n : Nat) (f : Isl → Isl) : (d.windowShown i n f).isl i = f (d.isl i) :=
  isl_onIsl_self ..

theorem Device.kept_windowShown (d : Device) (i : Island) (n : Nat) (f : Isl → Isl) :
    d.kept (d.windowShown i n f) [Reg.ISL_PERIPH_COUNT i.num, Reg.LOOKOUT_STATE i.num] :=
  kept_trans (d.kept_wr _ n) (Device.kept_onIsl _ i f)

theorem Device.rd_windowShown_count (d : Device) (i : Island) (n : Nat) (f : Isl → Isl) :
    (d.windowShown i n f).rd (Reg.ISL_PERIPH_COUNT i.num) = n :=
  (Device.kept_onIsl _ i f _ (by cases i <;> decide)).trans (d.rd_wr_self _ n)

theorem Device.rd_windowShown_cause (d : Device) (i : Island) (n : Nat) (f : Isl → Isl) :
    (d.windowShown i n f).rd (Reg.FAULT_CAUSE i.num) = d.rd (Reg.FAULT_CAUSE i.num) :=
  d.kept_windowShown i n f _ (by cases i <;> decide)

/-- A Lookout that has counted a window out of range (R34). -/
def Isl.badWindow (x : Isl) : Isl := { x with clockBad := min 2 (x.clockBad + 1), clockGood := 0 }
/-- A Lookout that has counted a window in range (R34). -/
def Isl.goodWindow (x : Isl) : Isl := { x with clockBad := 0, clockGood := min 2 (x.clockGood + 1) }

/-- A main-clock fault that Lookout `i` has declared: counted, and the cause of the Lookout set. -/
def Device.clockFault (d : Device) (i : Island) : Device := (d.bump (Reg.ISL_CLOCK_FAULTS i.num)).setCause i causeClock true

theorem Device.bitAt_setCause (d : Device) (i : Island) (bit : Nat) (b : Bool) :
    bitAt ((d.setCause i bit b).rd (Reg.FAULT_CAUSE i.num)) bit = b := by
  rw [Device.setCause, rd_wr_self, bitAt_setBit_self]

theorem Device.rd_setCause_count (d : Device) (i : Island) (bit : Nat) (b : Bool) :
    (d.setCause i bit b).rd (Reg.ISL_PERIPH_COUNT i.num) = d.rd (Reg.ISL_PERIPH_COUNT i.num) :=
  d.rd_wr_ne _ (by cases i <;> decide)

theorem Device.bitAt_clockFault (d : Device) (i : Island) : bitAt ((d.clockFault i).rd (Reg.FAULT_CAUSE i.num)) causeClock = true :=
  bitAt_setCause ..

theorem Device.rd_clockFault_count (d : Device) (i : Island) :
    (d.clockFault i).rd (Reg.ISL_PERIPH_COUNT i.num) = d.rd (Reg.ISL_PERIPH_COUNT i.num) :=
  (Device.rd_setCause_count ..).trans (d.rd_wr_ne _ (by cases i <;> decide))

theorem Device.rd_clockFault_faults (d : Device) (i : Island) :
    (d.clockFault i).rd (Reg.ISL_CLOCK_FAULTS i.num) = satTo 32 (d.rd (Reg.ISL_CLOCK_FAULTS i.num) + 1) :=
  (Device.rd_wr_ne _ _ (by cases i <;> decide)).trans (d.rd_bump_self _)

theorem Device.isSome_demandChip (d : Device) (c : Code) : (d.demandChip c).boot.chipDemand.isSome = true := by
  simp only [Device.demandChip, onBoot_boot]
  split
  · assumption
  · rfl

section
variable {d : Device} {i : Island} {n : Nat} (hup : d.islUp i = true)
include hup

theorem Device.periphWindow_bad (hout : n < 990 ∨ 1010 < n) (hfirst : (d.isl i).clockBad ≠ 1) :
    d.periphWindow i n = d.windowShown i n Isl.badWindow := by
  unfold Device.periphWindow
  dsimp only
  rw [hup, if_neg (by decide), if_pos hout, if_neg (by omega)]
  rfl

theorem Device.periphWindow_badAgain (hout : n < 990 ∨ 1010 < n) (hsecond : (d.isl i).clockBad = 1) :
    d.periphWindow i n = if d.mainRuns then ((d.windowShown i n Isl.badWindow).clockFault i).demandChip St.TH_PLL_NO_LOCK
      else (d.windowShown i n Isl.badWindow).clockFault i := by
  unfold Device.periphWindow
  dsimp only
  rw [hup, if_neg (by decide), if_pos hout, if_pos (by omega)]
  rfl

theorem Device.periphWindow_good (hlow : 990 ≤ n) (hhigh : n ≤ 1010) :
    d.periphWindow i n = if 1 ≤ (d.isl i).clockGood then (d.windowShown i n Isl.goodWindow).setCause i causeClock false
      else d.windowShown i n Isl.goodWindow := by
  unfold Device.periphWindow
  dsimp only
  rw [hup, if_neg (by decide), if_neg (by omega)]
  exact ite_congr (propext (by omega)) (fun _ => rfl) fun _ => rfl

/-- A second bad window in a row declares a main-clock fault. -/
theorem Device.periphWindow_declares (hout : n < 990 ∨ 1010 < n) (hsecond : (d.isl i).clockBad = 1) :
    let e := d.periphWindow i n
    e.isl i = { d.isl i with clockBad := 2, clockGood := 0 } ∧ e.rd (Reg.ISL_PERIPH_COUNT i.num) = n ∧
      e.rd (Reg.ISL_CLOCK_FAULTS i.num) = satTo 32 (d.rd (Reg.ISL_CLOCK_FAULTS i.num) + 1) ∧
      bitAt (e.rd (Reg.FAULT_CAUSE i.num)) causeClock = true ∧
      (d.mainRuns = true → e.boot.chipDemand.isSome = true) ∧ (d.mainRuns = false → e.boot = d.boot) := by
  have hshown : (d.windowShown i n Isl.badWindow).isl i = { d.isl i with clockBad := 2, clockGood := 0 } := by
    rw [isl_windowShown, Isl.badWindow, hsecond]
    rfl
  have hcount := (Device.rd_clockFault_count _ i).trans (d.rd_windowShown_count i n Isl.badWindow)
  have hfaults : ((d.windowShown i n Isl.badWindow).clockFault i).rd (Reg.ISL_CLOCK_FAULTS i.num) =
      satTo 32 (d.rd (Reg.ISL_CLOCK_FAULTS i.num) + 1) := by
    rw [rd_clockFault_faults, d.kept_windowShown i n _ _ (by cases i <;> decide)]
  have hcause := (d.windowShown i n Isl.badWindow).bitAt_clockFault i
  dsimp only
  rw [periphWindow_badAgain hup hout hsecond]
  split
  case isTrue hruns => exact ⟨hshown, hcount, hfaults, hcause, fun _ => isSome_demandChip _ _, by simp [hruns]⟩
  case isFalse hruns => exact ⟨hshown, hcount, hfaults, hcause, fun h => absurd h hruns, fun _ => rfl⟩

/-- A good window ends a row of bad ones; the second in a row clears the cause. -/
theorem Device.periphWindow_ends (hlow : 990 ≤ n) (hhigh : n ≤ 1010) :
    let e := d.periphWindow i n
    e.isl i = { d.isl i with clockBad := 0, clockGood := min 2 ((d.isl i).clockGood + 1) } ∧ e.rd (Reg.ISL_PERIPH_COUNT i.num) = n ∧
      (1 ≤ (d.isl i).clockGood → bitAt (e.rd (Reg.FAULT_CAUSE i.num)) causeClock = false) ∧
      ((d.isl i).clockGood = 0 → e.rd (Reg.FAULT_CAUSE i.num) = d.rd (Reg.FAULT_CAUSE i.num)) := by
  have hshown := d.isl_windowShown i n Isl.goodWindow
  have hcount := d.rd_windowShown_count i n Isl.goodWindow
  dsimp only
  rw [periphWindow_good hup hlow hhigh]
  split
  case isTrue hsecond =>
    exact ⟨hshown, (Device.rd_setCause_count ..).trans hcount, fun _ => Device.bitAt_setCause .., fun h => by omega⟩
  case isFalse hfirst =>
    exact ⟨hshown, hcount, fun h => absurd h hfirst, fun _ => d.rd_windowShown_cause i n Isl.goodWindow⟩

end

/-! ### The statement -/

/-- Settles O56: an idle iteration of the management loop (R38, R73, R240), the divisor's change (R29), and the two Lookouts'
CLK_PERIPH windows (R34). -/
theorem clocksAndManagement : Obligations.ClocksAndManagement := by
  unfold Obligations.ClocksAndManagement
  refine ⟨fun s m hruns hstep hon hdraining hhamper htrained hsettled => ?_, fun s r => ⟨fun v hv => ?_, fun hnone => ?_⟩,
    fun s i n hup => ⟨fun hout => ⟨fun hfirst => ?_, fun hsecond => ?_⟩, fun hlow hhigh => ?_⟩⟩
  · refine completes_run (fun d => if d.mainRuns && d.boot.step4 then d.mgmt m else d) rfl ?_
    rw [hruns, hstep, Bool.and_self, if_pos rfl]
    exact s.dev.mgmt_after m ⟨hon, hdraining, hhamper, htrained, hsettled⟩
  · refine completes_run (fun d => d.divChange r) rfl ?_
    dsimp only
    rw [s.dev.divChange_pending hv]
    exact ⟨rfl, s.dev.rd_wr_self _ v, s.dev.kept_wr _ v⟩
  · exact completes_run (fun d => d.divChange r) rfl (s.dev.divChange_none hnone)
  · refine completes_run (fun d => d.periphWindow i n.toNat) rfl ?_
    dsimp only
    rw [Device.periphWindow_bad hup hout hfirst]
    exact ⟨s.dev.isl_windowShown .., s.dev.rd_windowShown_count .., s.dev.kept_windowShown i _ _, rfl⟩
  · exact completes_run (fun d => d.periphWindow i n.toNat) rfl (Device.periphWindow_declares hup hout hsecond)
  · exact completes_run (fun d => d.periphWindow i n.toNat) rfl (Device.periphWindow_ends hup hlow hhigh)

end Sys2Proof.Machine
end

section
/-!
PROOFS. O23: a master port's access that is issued and meets no error, and the host's accesses through BAR4 (R50, R218, R220,
R221, R233, R249).
-/

namespace Sys2Proof.Machine

/-! ### Accesses that do not wait (R233, R249, R253) -/

theorem Device.atLevel_none (d : Device) (port : Nat) {env : MemEnv} (h : env.level = none) : d.atLevel port env = d := by
  unfold Device.atLevel
  rw [h]

section
variable {d : Device} {port a n : Nat} {env : MemEnv} (hlevel : env.level = none) (hzero : d.zeroWait a n = false)
  (hbudget : (d.mport port).exhaustedNow = false)
include hlevel hzero hbudget

theorem Device.portWaits_eq_false : d.portWaits port a n env = false := by
  rw [Device.portWaits, d.atLevel_none port hlevel, hzero, hbudget]
  rfl

theorem Device.portAccess_issued (write : Option (List Byte)) (poison alloc : Bool) :
    d.portAccess port a n write poison alloc env = d.serve port a n write poison alloc env := by
  unfold Device.portAccess
  simp only [d.atLevel_none port hlevel, hzero, hbudget, Bool.false_eq_true, if_false]

end

/-! ### Accesses that are answered without an error (R218, R221, R251) -/

/-- `e` is `d` after a request of `port` that is answered with `x`: no other port differs, and beside the ports no more than
what `quiet` allows. -/
structure Device.answered (d e : Device) (port : Nat) (x : MemAnswer) : Prop where
  answer : (e.mport port).answer = x
  others : ∀ q, q ≠ port → e.mport q = d.mport q
  quiet : d.quiet e

/-- Putting an answer on the port that an access has used keeps what the access kept. -/
theorem Device.answered_answer {d e : Device} {port : Nat} (hothers : ∀ q, q ≠ port → e.mport q = d.mport q) (hquiet : d.quiet e)
    (x : MemAnswer) : d.answered (e.answer port x) port x where
  answer := congrArg MemPort.answer (e.mport_onPort_self port _)
  others q hq := (e.mport_onPort_ne _ hq).trans (hothers q hq)
  quiet := quiet_trans hquiet (e.onPort_quiet port _)

theorem Device.mport_issued_ne (d : Device) {port q : Nat} (n : Nat) (h : q ≠ port) : (d.issued port n).mport q = d.mport q :=
  d.mport_onPort_ne _ h

theorem Device.serve_read_answered (d : Device) (port a n : Nat) (poison alloc : Bool) (env : MemEnv) (hfaults : env.faults = [])
    (hplain : d.plain a n) (hpoison : d.mem.poison = []) :
    d.answered (d.serve port a n none poison alloc env) port { data := d.mem.bytes a n, priority := d.priority port } := by
  have hissued := d.issued_quiet port n
  obtain ⟨hdata, hbad, hcode, hread⟩ :=
    (d.issued port n).memRead_good port a n alloc env none hfaults (plain_of hissued hplain) hpoison
  unfold Device.serve
  dsimp only
  rw [hdata, hbad, hcode]
  exact answered_answer (fun q hq => ((d.issued port n).memRead_mport port a n alloc env none hq).trans (d.mport_issued_ne n hq))
    (quiet_trans hissued hread) _

theorem Device.mport_onMem_store (d : Device) (a : Nat) (bytes : List Byte) (q : Nat) :
    (d.onMem fun m => m.store a bytes).mport q = d.mport q := by
  unfold Device.mport
  rw [onMem_mem, Memory.store_ports]

theorem Device.serve_write_answered (d : Device) (port a n : Nat) (bytes : List Byte) (alloc : Bool) (env : MemEnv)
    (hfaults : env.faults = []) (hplain : d.plain a bytes.length) (hpoison : d.mem.poison = []) :
    (d.onMem fun m => m.store a bytes).answered (d.serve port a n (some bytes) false alloc env) port { priority := d.priority port } := by
  have hissued := d.issued_quiet port n
  obtain ⟨hcode, hwrite⟩ :=
    (d.issued port n).memWrite_good port a bytes alloc env none hfaults (plain_of hissued hplain) hpoison
  unfold Device.serve
  simp only [Bool.false_eq_true, if_false, hcode]
  refine answered_answer (fun q hq => ?_) (quiet_trans (quiet_store hissued a bytes) hwrite) _
  rw [Device.memWrite_mport _ _ _ _ _ _ _ _ hq, d.mport_issued_ne n hq, d.mport_onMem_store]

/-- What a store leaves beside the floor cache and the ports: its bytes, every other byte as before, cores and registers. -/
theorem Device.stored_of_quiet {d e : Device} {a : Nat} {bytes : List Byte} (h : (d.onMem fun m => m.store a bytes).quiet e) :
    e.mem.bytes a bytes.length = bytes ∧
      (∀ b n, b + n ≤ a ∨ a + bytes.length ≤ b → e.mem.bytes b n = d.mem.bytes b n) ∧
      e.cores = d.cores ∧ d.kept e [Reg.FC_HITS, Reg.FC_MISSES] := by
  rw [quiet_bytes h]
  exact ⟨d.mem.bytes_store_self a bytes, fun b n hout => d.mem.bytes_store_out a b n bytes hout, (reads_quiet _ _ h).cores,
    fun k hk => kept_of_quiet h k hk⟩

/-! ### The BAR4 aperture (R50, R220) -/

/-- A command that leaves the queue and makes `d` of the block completes with what holds of `d`. -/
theorem completes_next {c : Instr} {s : State} {d : Device} {p : Device → Prop} (h : exec c s = .next { s with dev := d }) (hp : p d) :
    Completes c s p := ⟨_, h, rfl, hp⟩

section
variable {s : State} {offset : Fin 1073741824} {len : Fin 4097} {env : MemEnv}

theorem exec_bar4Access (req : Requester) (write : Option (List Byte)) :
    exec (.bar4Access req offset write len env) s = execBar4Access req offset write len env s := rfl

theorem exec_bar4Access_read_zero {req : Requester} (h : req = .fn1 ∨ req = .fn2) :
    exec (.bar4Access req offset none len env) s = .next { s with dev := s.dev.setReq req { s.dev.req req with answer := some 0 } } := by
  rw [exec_bar4Access, execBar4Access, run_next, if_pos h]

theorem exec_bar4Access_write_drop {req : Requester} (h : req = .fn1 ∨ req = .fn2) (bytes : List Byte) :
    exec (.bar4Access req offset (some bytes) len env) s =
      .next { s with dev := (s.dev.bump Reg.PRIV_DROPS).logEv St.DICT_PRIV_DROP req.num } := by
  rw [exec_bar4Access, execBar4Access, run_next, if_pos h]

theorem exec_bar4Access_other {req : Requester} (h0 : req ≠ .fn0) (h1 : req ≠ .fn1) (h2 : req ≠ .fn2) (write : Option (List Byte)) :
    exec (.bar4Access req offset write len env) s = .next s := by
  rw [exec_bar4Access, execBar4Access, run_next, if_neg (not_or.mpr ⟨h1, h2⟩), if_pos h0]

variable (hlevel : env.level = none) (hzero : s.dev.zeroWait (s.dev.rd Reg.APERTURE_BASE + offset) len = false)
  (hbudget : (s.dev.mport portHost).exhaustedNow = false)
include hlevel hzero hbudget

/-- A read of function 0 that does not wait is served on the host's port, and an answer without an error gives the host its bytes
as a number. -/
theorem exec_bar4Access_read_served {x : MemAnswer} {e : Device}
    (he : s.dev.serve portHost (s.dev.rd Reg.APERTURE_BASE + offset) len none false false env = e)
    (hx : (e.mport portHost).answer = x) (hcode : x.code = 0) :
    exec (.bar4Access .fn0 offset none len env) s =
      .next { s with dev := e.setReq .fn0 { e.req .fn0 with answer := some (leNat x.data) } } := by
  rw [exec_bar4Access, execBar4Access, run_next, if_neg (by decide), if_neg (by decide), Device.portWaits_eq_false hlevel hzero hbudget,
    if_neg (by decide)]
  dsimp only
  rw [Device.portAccess_issued hlevel hzero hbudget, he, hx, if_pos hcode]

/-- A write of function 0 that does not wait is served on the host's port. -/
theorem exec_bar4Access_write_served (bytes : List Byte) :
    exec (.bar4Access .fn0 offset (some bytes) len env) s =
      .next { s with dev := s.dev.serve portHost (s.dev.rd Reg.APERTURE_BASE + offset) len (some bytes) false false env } := by
  rw [exec_bar4Access, execBar4Access, run_next, if_neg (by decide), if_neg (by decide), Device.portWaits_eq_false hlevel hzero hbudget,
    if_neg (by decide)]
  dsimp only
  rw [Device.portAccess_issued hlevel hzero hbudget]

end

/-! ### The statement -/

/-- Settles O23: a port's read and write of backed memory (R218, R221, R233, R249, R251), and the aperture BAR4, in which
functions 1 and 2 read 0 and drop their writes (R50, R220). -/
theorem portsReadAndWriteMemory : Obligations.PortsReadAndWriteMemory := by
  unfold Obligations.PortsReadAndWriteMemory
  refine ⟨fun s port addr len poison alloc env hfaults hlevel hplain hpoison hzero hbudget => ⟨?_, fun bytes hlen => ?_⟩,
    fun s offset len env hfaults hlevel hplain hpoison hzero hbudget => ⟨?_, fun bytes hlen => ?_⟩,
    fun s req offset len env => ⟨fun hreq => ⟨?_, fun bytes => ?_⟩, fun write h0 h1 h2 => ?_⟩⟩
  · obtain ⟨hanswer, hothers, hquiet⟩ := s.dev.serve_read_answered port addr.toNat len poison alloc env hfaults hplain hpoison
    obtain ⟨hcores, hdram, hlocked, -⟩ := Device.reads_quiet _ _ hquiet
    refine completes_run (fun d => d.portAccess port addr.toNat len none poison alloc env) rfl ?_
    rw [Device.portAccess_issued hlevel hzero hbudget]
    exact ⟨hanswer, hdram, hlocked, hothers, hcores, Device.kept_of_quiet hquiet⟩
  · obtain ⟨hanswer, hothers, hstored⟩ :=
      s.dev.serve_write_answered port addr.toNat len bytes alloc env hfaults (by rwa [hlen]) hpoison
    refine completes_run (fun d => d.portAccess port addr.toNat len (some bytes) false alloc env) rfl ?_
    rw [Device.portAccess_issued hlevel hzero hbudget]
    obtain ⟨hself, hout, hcores, hkept⟩ := Device.stored_of_quiet hstored
    rw [hlen] at hself hout
    exact ⟨hanswer, hself, hout, fun q hq => (hothers q hq).trans (s.dev.mport_onMem_store _ _ q), hcores, hkept⟩
  · obtain ⟨hanswer, -, hquiet⟩ := s.dev.serve_read_answered portHost _ len false false env hfaults hplain hpoison
    obtain ⟨hcores, hdram, -, -⟩ := Device.reads_quiet _ _ hquiet
    exact completes_next (exec_bar4Access_read_served hlevel hzero hbudget rfl hanswer rfl)
      ⟨congrArg ReqState.answer (Device.req_setReq_self _ _ _), hdram, hcores, fun k hk => Device.kept_of_quiet hquiet k hk⟩
  · obtain ⟨-, -, hstored⟩ := s.dev.serve_write_answered portHost _ len bytes false env hfaults (by rwa [hlen]) hpoison
    have hleft := Device.stored_of_quiet hstored
    rw [hlen] at hleft
    exact completes_next (exec_bar4Access_write_served hlevel hzero hbudget bytes) hleft
  · exact completes_next (exec_bar4Access_read_zero hreq) rfl
  · exact completes_next (exec_bar4Access_write_drop hreq bytes) rfl
  · exact completes_next (exec_bar4Access_other h0 h1 h2 write) rfl

end Sys2Proof.Machine
end

section
/-!
PROOFS. O28: what memory's upkeep changes: refreshes and row disturbance (R235, R238, R239), retraining (R236, R237), the patrol
(R243), zeroisation (R233) and regulation windows (R249).
-/

namespace Sys2Proof.Machine

/-! ### Registers and ports that stand -/

theorem Device.kept_mono {d e : Device} {ks ls : List Nat} (hsub : ks ⊆ ls) (h : d.kept e ks) : d.kept e ls :=
  fun k hk => h k fun hmem => hk (hsub hmem)

theorem Device.portOnly_onPort (d : Device) (p : Nat) (f : MemPort → MemPort) : d.portOnly (d.onPort p f) p :=
  ⟨rfl, fun _ hq => d.mport_onPort_ne f hq⟩

theorem Device.portOnly_newWindow (d : Device) (p : Nat) : d.portOnly (d.newWindow p) p := by
  unfold Device.newWindow
  exact d.portOnly_onPort p _

/-! ### Rows at their threshold (R238, R239) -/

/-- The port's regulation once the row that it disturbed in `stack` throttles it there. -/
def MemPort.rowThrottled (m : MemPort) (stack : Nat) : MemPort :=
  { m with throttled := stack :: m.throttled.filter (· != stack), throttles := satTo 32 (m.throttles + 1) }.note flagRow

/-- The block once a row's disturbance by `port` at `a` is taken, counted and logged; `rest` waits. -/
def Device.disturbLogged (d : Device) (port a n : Nat) (rest : List (Nat × Nat × Nat × Nat)) : Device :=
  ((d.onMem fun m => { m with disturbed := rest }).bump (Reg.STACK_ROW_DISTURB_EVENTS (d.locate a).stack)).logMem
    St.DRAM_ROW_DISTURB port a (n / 16)

section
variable {d : Device} {x port a n : Nat} {rest : List (Nat × Nat × Nat × Nat)} (h : d.mem.disturbed = (x, port, a, n) :: rest)
include h

/-- Ports of class RT and MG, and requests that no port of Table 8-4 made, are not throttled. -/
theorem Device.rowDisturb_cons :
    d.rowDisturb = if d.rd (Reg.PORT_CLASS port) = 0 ∨ d.rd (Reg.PORT_CLASS port) = 3 ∨ 78 < port then d.disturbLogged port a n rest
      else (d.disturbLogged port a n rest).onPort port fun m => m.rowThrottled (d.locate a).stack := by
  unfold Device.rowDisturb
  rw [h]
  rfl

theorem Device.portOnly_rowDisturb : (d.disturbLogged port a n rest).portOnly d.rowDisturb port := by
  rw [rowDisturb_cons h]
  split
  · exact ⟨rfl, fun _ _ => rfl⟩
  · exact Device.portOnly_onPort _ port _

end

/-- What the disturbance leaves, whichever of the port's regulation it changes. -/
theorem Device.disturbLogged_leaves {d e : Device} {port a n : Nat} {rest : List (Nat × Nat × Nat × Nat)}
    (h : (d.disturbLogged port a n rest).portOnly e port) :
    let k := Reg.STACK_ROW_DISTURB_EVENTS (d.locate a).stack
    e = { d with dict := e.dict, log := e.log, mem := { d.mem with disturbed := rest, ports := e.mem.ports } } ∧
      e.rd k = satTo 32 (d.rd k + 1) ∧ d.kept e [k] ∧ (∀ q, q ≠ port → e.mport q = d.mport q) ∧
      ∃ y : LogRecord, e.log = { d.log with inbox := d.log.inbox ++ [y] } ∧ y.status = St.DRAM_ROW_DISTURB ∧ y.inst = port % 256 ∧
        y.d0 = wrapTo 32 (a / 64) := by
  obtain ⟨hframe, hports⟩ := h
  have hdict : e.dict = (d.disturbLogged port a n rest).dict := (congrArg Device.dict hframe :)
  have hlog : e.log = (d.disturbLogged port a n rest).log := (congrArg Device.log hframe :)
  refine ⟨?_, (rd_of_dict hdict _).trans (Device.rd_bump_self ..), fun k hk => ?_, hports, _, hlog, rfl, rfl, rfl⟩
  · rw [hframe]
    rfl
  · exact (rd_of_dict hdict k).trans (Device.kept_wr _ _ _ k hk)

/-! ### The patrol (R243) -/

/-- The patrol of a line that holds no poison and meets no fault only moves on. -/
theorem Device.patrol_clean (d : Device) (hon : d.fn .scrub = .on) (hclean : d.mem.poisoned d.mem.scrubLine = false) :
    d.patrol none = if 64 * (d.mem.scrubLine + 1) = dramEnd then (d.onMem fun m => { m with scrubLine := 0 }).bumpWrap Reg.SCRUB_PASSES
      else d.onMem fun m => { m with scrubLine := d.mem.scrubLine + 1 } := by
  have hread : d.dramRead 0xFF (64 * d.mem.scrubLine) none = (d, 0) :=
    d.dramRead_good _ _ (by rwa [Nat.mul_div_cancel_left _ (by decide)])
  unfold Device.patrol
  rw [hread, if_neg fun hoff => hoff hon]

/-! ### Retraining (R236, R237) -/

/-- `e` is `d` after the stack `st` has begun to retrain the channel in `next`, one of its own, or none: its state then shows that
it retrains. -/
structure Device.retrainBegun (d e : Device) (st : Nat) (next : List Nat) : Prop where
  own : next = [] ∨ ∃ c < 24, next = [c + 24 * st]
  frame : e = { d with dict := e.dict, mem := { d.mem with retraining := d.mem.retraining ++ next } }
  state : e.rd (Reg.STACK_TRAIN_STATE st) = if next = [] then d.rd (Reg.STACK_TRAIN_STATE st) else trainRetraining
  kept : d.kept e [Reg.STACK_TRAIN_STATE st]

theorem Device.retrainBegun_none (d : Device) (st : Nat) : d.retrainBegun d st [] where
  own := .inl rfl
  frame := by rw [List.append_nil]
  state := rfl
  kept _ _ := rfl

theorem Device.retrainBegun_retrainNext (d : Device) (st : Nat) : ∃ next, d.retrainBegun (d.retrainNext st) st next := by
  unfold Device.retrainNext
  dsimp only
  split
  · exact ⟨[], d.retrainBegun_none st⟩
  · split
    next k hk =>
      have hmem : k ∈ (List.range 24).map (· + 24 * st) := by
        rcases Option.or_eq_some_iff.mp hk with hretry | ⟨-, hdue⟩
        · exact List.mem_of_find?_eq_some hretry
        · exact List.mem_of_find?_eq_some hdue
      obtain ⟨c, hc, rfl⟩ := List.mem_map.mp hmem
      exact ⟨[c + 24 * st], .inr ⟨c, List.mem_range.mp hc, rfl⟩, rfl, Device.rd_wr_self .., fun j hj => Device.kept_wr _ _ _ j hj⟩
    next => exact ⟨[], d.retrainBegun_none st⟩

/-- The block once channel `ch` of the stack has been retrained well, before the stack's next retraining begins. -/
def Device.channelRetrained (d : Device) (st ch : Nat) : Device :=
  let k := st * 24 + ch
  ((d.onMem fun m =>
    { m with retraining := m.retraining.filter (· != k), retrainFails := SMap.put m.retrainFails k 0 0
             retryFrom := SMap.put m.retryFrom k 0 0, trainedAt := SMap.put m.trainedAt k m.elapsed 0
             trainedTemp := SMap.put m.trainedTemp k (d.stackTemp st) 0 }).wr (Reg.STACK_TRAIN_STATE st) trainTrained).bumpWrap
    (Reg.STACK_RETRAINS st)

theorem Device.retrained_good (d : Device) {st ch : Nat} (h : d.mem.retraining.contains (st * 24 + ch) = true) :
    d.retrained st ch true = (d.channelRetrained st ch).retrainNext st := by
  unfold Device.retrained
  dsimp only
  rw [h]
  rfl

theorem stackTrainState_ne_stackRetrains (st : Nat) : Reg.STACK_TRAIN_STATE st ≠ Reg.STACK_RETRAINS st := by
  simp only [Reg.STACK_TRAIN_STATE, Reg.STACK_RETRAINS, key]
  omega

theorem Device.rd_channelRetrained_state (d : Device) (st ch : Nat) :
    (d.channelRetrained st ch).rd (Reg.STACK_TRAIN_STATE st) = trainTrained :=
  (Device.rd_wr_ne _ _ (stackTrainState_ne_stackRetrains st).symm).trans (Device.rd_wr_self ..)

theorem Device.rd_channelRetrained_count (d : Device) (st ch : Nat) :
    (d.channelRetrained st ch).rd (Reg.STACK_RETRAINS st) = wrapTo 32 (d.rd (Reg.STACK_RETRAINS st) + 1) := by
  unfold Device.channelRetrained
  dsimp only
  rw [Device.rd_bumpWrap, if_pos rfl, Device.rd_wr_ne _ _ (stackTrainState_ne_stackRetrains st), onMem_rd]

theorem Device.kept_channelRetrained (d : Device) (st ch : Nat) :
    d.kept (d.channelRetrained st ch) [Reg.STACK_TRAIN_STATE st, Reg.STACK_RETRAINS st] :=
  kept_trans (e := d.wr (Reg.STACK_TRAIN_STATE st) trainTrained) (d.kept_wr _ _) (Device.kept_wr _ (Reg.STACK_RETRAINS st) _)

/-- A retraining that ends well. -/
theorem Device.retrained_leaves (d : Device) {st ch : Nat} (h : d.mem.retraining.contains (st * 24 + ch) = true) :
    let e := d.retrained st ch true
    e = { d with dict := e.dict, mem := { d.mem with retraining := e.mem.retraining, retrainFails := e.mem.retrainFails, retryFrom := e.mem.retryFrom,
                                                     trainedAt := e.mem.trainedAt, trainedTemp := e.mem.trainedTemp } } ∧
      (∃ next : List Nat, (next = [] ∨ ∃ c < 24, next = [c + 24 * st]) ∧
        e.mem.retraining = d.mem.retraining.filter (· != st * 24 + ch) ++ next ∧
        e.rd (Reg.STACK_TRAIN_STATE st) = if next = [] then trainTrained else trainRetraining) ∧
      SMap.getD e.mem.retrainFails (st * 24 + ch) 0 = 0 ∧ SMap.getD e.mem.retryFrom (st * 24 + ch) 0 = 0 ∧
      e.rd (Reg.STACK_RETRAINS st) = wrapTo 32 (d.rd (Reg.STACK_RETRAINS st) + 1) ∧
      d.kept e [Reg.STACK_TRAIN_STATE st, Reg.STACK_RETRAINS st] := by
  obtain ⟨next, hown, hframe, hstate, hkept⟩ := (d.channelRetrained st ch).retrainBegun_retrainNext st
  have hmem : ((d.channelRetrained st ch).retrainNext st).mem =
      { (d.channelRetrained st ch).mem with retraining := (d.channelRetrained st ch).mem.retraining ++ next } :=
    (congrArg Device.mem hframe :)
  rw [rd_channelRetrained_state] at hstate
  rw [d.retrained_good h]
  dsimp only
  refine ⟨?_, ⟨next, hown, congrArg Memory.retraining hmem, hstate⟩, ?_, ?_, ?_, ?_⟩
  · rw [hframe]
    rfl
  · rw [hmem]
    exact SMap.getD_put_self d.mem.retrainFails _ 0 0
  · rw [hmem]
    exact SMap.getD_put_self d.mem.retryFrom _ 0 0
  · rw [hkept _ fun hmem => stackTrainState_ne_stackRetrains st (List.mem_singleton.mp hmem).symm, rd_channelRetrained_count]
  · exact kept_mono (List.append_subset.mpr ⟨List.Subset.refl _, List.cons_subset_cons _ (List.nil_subset _)⟩) (kept_trans (d.kept_channelRetrained st ch) hkept)

/-! ### Where no packet waits in a receive buffer -/

theorem Device.retryPort_empty (d : Device) {p : Nat} (h : (d.linkPort p).held = []) : d.retryPort p = d := by
  unfold Device.retryPort
  rw [h]
  rfl

theorem Device.linkSettle_of_not_draining (d : Device) {p : Fin 4} (h : d.fn (.link p) ≠ .draining) : d.linkSettle p = d :=
  if_neg fun hand => h hand.1

theorem Device.guestSettle_of_not_draining (d : Device) (h : d.fn .guest ≠ .draining) : d.guestSettle = d :=
  if_neg fun hand => h hand.1

theorem Device.retryHeld_of_nothingHeld (d : Device) (h : d.nothingHeld) : d.retryHeld = d := by
  obtain ⟨hguest, hsettled, hports⟩ := h
  have hlinks : (d.each (List.finRange 4) fun d p => (d.retryPort p.val).linkSettle p) = d :=
    foldl_keeps (· = d) _ _ d rfl fun e p he => by
      rw [he, d.retryPort_empty (hports p).1, d.linkSettle_of_not_draining (hports p).2]
  unfold Device.retryHeld Device.retryGuest
  rw [hlinks, hguest]
  exact d.guestSettle_of_not_draining hsettled

/-- Whether a packet waits depends on the guest, the links and their function states alone. -/
theorem Device.nothingHeld_of_eq {d e : Device} (hguest : e.guest = d.guest) (hlinks : e.links = d.links)
    (hguestFn : e.fn .guest = d.fn .guest) (hlinkFn : ∀ p, e.fn (.link p) = d.fn (.link p)) (h : d.nothingHeld) : e.nothingHeld := by
  obtain ⟨hheld, hsettled, hports⟩ := h
  unfold Device.nothingHeld Device.linkPort at *
  rw [hguest, hlinks, hguestFn]
  exact ⟨hheld, hsettled, fun p => by rw [hlinkFn]; exact hports p⟩

/-! ### Zeroisation (R233) -/

theorem Device.zeroiseDone_leaves (d : Device) {z : Nat × Nat} {rest : List (Nat × Nat)} (h : d.mem.zeroing = z :: rest) :
    let e := d.zeroiseDone
    e = { d with dict := e.dict, mem := { d.mem with zeroing := rest } } ∧ d.kept e [Reg.ZEROISE_BUSY] ∧
      e.rd Reg.ZEROISE_BUSY = if rest = [] then 0 else d.rd Reg.ZEROISE_BUSY := by
  unfold Device.zeroiseDone
  rw [h]
  dsimp only
  split
  · exact ⟨rfl, fun k hk => Device.kept_wr _ _ _ k hk, Device.rd_wr_self ..⟩
  · exact ⟨rfl, fun _ _ => rfl, rfl⟩

theorem Device.nothingHeld_zeroiseDone (d : Device) {z : Nat × Nat} {rest : List (Nat × Nat)} (h : d.mem.zeroing = z :: rest)
    (hheld : d.nothingHeld) : d.zeroiseDone.nothingHeld := by
  obtain ⟨hframe, hkept, -⟩ := d.zeroiseDone_leaves h
  have hfn (f : FnId) (hf : f.stateKey ∉ [Reg.ZEROISE_BUSY]) : d.zeroiseDone.fn f = d.fn f := congrArg FnState.ofCode (hkept _ hf)
  exact nothingHeld_of_eq (d := d) (congrArg Device.guest hframe :) (congrArg Device.links hframe :) (hfn .guest (by decide))
    (fun p => hfn (.link p) (by decide +revert)) hheld

/-! ### The statement -/

/-- Settles O28: refresh and row disturbance (R235, R238, R239), the patrol (R243), a good retraining (R236, R237), and the ends of a
zeroisation (R233) and of a regulation window (R249, R255). -/
theorem memoryUpkeepEffects : Obligations.MemoryUpkeepEffects := by
  unfold Obligations.MemoryUpkeepEffects
  refine ⟨fun s st ch b r => ?refresh, fun s x q a n rest h => ?disturb, fun s port st => ?throttleEnd, fun s hon hclean => ?patrol, fun s st ch h => ?retraining,
    fun s z rest h hheld => ?zeroiseEnd, fun s port hheld => ?windowEnd⟩
  case refresh =>
    refine completes_run (fun d => d.onMem fun m =>
      { m with activations := SMap.put m.activations (Location.rowKey ⟨st, ch, b, r, 0⟩) 0 0 }) rfl ⟨fun x => ?_, rfl⟩
    simp only [eq_comm (a := x)]
    exact SMap.getD_put s.dev.mem.activations _ x 0 0
  case disturb =>
    obtain ⟨hframe, hcount, hkept, hothers, hlog⟩ := Device.disturbLogged_leaves (Device.portOnly_rowDisturb h)
    refine completes_run Device.rowDisturb rfl ⟨hframe, hcount, hkept, hothers, hlog, fun hport hclass => ?_, fun hfree => ?_⟩
    · rw [Device.rowDisturb_cons h, if_neg (by omega), Device.mport_onPort_self]
      exact ⟨List.mem_cons_self, rfl⟩
    · rw [Device.rowDisturb_cons h, if_pos (by omega)]
      rfl
  case throttleEnd =>
    refine completes_run (fun d => d.onPort port fun m => { m with throttled := m.throttled.filter (· != st.val) }) rfl
      ⟨s.dev.portOnly_onPort port _, ?_, fun x => ?_⟩
    · rw [Device.mport_onPort_self]
    · rw [Device.mport_onPort_self]
      simp only [List.mem_filter, bne_iff_ne]
  case patrol =>
    refine completes_run (fun d => d.patrol none) rfl ?_
    rw [s.dev.patrol_clean hon hclean]
    split
    case isTrue hlast =>
      exact ⟨fun hnext => absurd hlast hnext, fun _ => ⟨rfl, Device.rd_wr_self .., fun k hk => Device.kept_wr _ _ _ k hk⟩⟩
    case isFalse hnext => exact ⟨fun _ => rfl, fun hlast => absurd hlast hnext⟩
  case retraining => exact completes_run (fun d => d.retrained st ch true) rfl (s.dev.retrained_leaves h)
  case zeroiseEnd =>
    refine completes_run (fun d => d.zeroiseDone.retryHeld) rfl ?_
    rw [Device.retryHeld_of_nothingHeld _ (s.dev.nothingHeld_zeroiseDone h hheld)]
    exact s.dev.zeroiseDone_leaves h
  case windowEnd =>
    refine completes_run (fun d => (d.newWindow port).retryHeld) rfl ?_
    rw [Device.retryHeld_of_nothingHeld (s.dev.newWindow port) hheld]
    exact ⟨s.dev.portOnly_newWindow port, s.dev.mport_onPort_self port _⟩

end Sys2Proof.Machine
end
